-- ==== Sys2Proof/Word.lean ====
section
/-! DEFINITION. The word types and the sparse tables that the state is written in.

A register word is 32 bits, a byte is 8. A sparse table is a list of keys and values with the keys strictly rising;
a key that is not listed has the default that the reader names, and writing that default removes the entry, so that
equal contents are equal lists. -/

namespace Sys2Proof

/-- A register word as it crosses a fabric port (R87 names 32 bits as the access size of a register). -/
abbrev Word := BitVec 32

/-- One byte. -/
abbrev Byte := BitVec 8

/-- A sparse table from natural numbers: keys strictly rising, one entry a key. -/
abbrev Tab (α : Type) := List (Nat × α)

/-- The entry of a key, if it is listed. -/
def tabFind {α : Type} : Tab α → Nat → Option α
  | [], _ => none
  | (a, x) :: rest, k => if a = k then some x else tabFind rest k

/-- The value of a key: the listed one, else the default `d`. -/
def tabGet {α : Type} (t : Tab α) (d : α) (k : Nat) : α := (tabFind t k).getD d

/-- The table without any entry of a key. -/
def tabDel {α : Type} : Tab α → Nat → Tab α
  | [], _ => []
  | (a, x) :: rest, k => if a = k then tabDel rest k else (a, x) :: tabDel rest k

/-- The table with the entry of a key set, in its place in the rising order. -/
def tabIns {α : Type} : Tab α → Nat → α → Tab α
  | [], k, v => [(k, v)]
  | (a, x) :: rest, k, v =>
    if k < a then (k, v) :: (a, x) :: rest
    else if a = k then (k, v) :: rest
    else (a, x) :: tabIns rest k v

/-- Write a key. The default is not listed, so the entry of a key that returns to it is removed. -/
def tabPut {α : Type} [DecidableEq α] (t : Tab α) (d : α) (k : Nat) (v : α) : Tab α :=
  if v = d then tabDel t k else tabIns t k v

/-- The keys rise strictly, and every key is above `b` (`none`: any key). -/
def tabSorted {α : Type} : Option Nat → Tab α → Bool
  | _, [] => true
  | b, (a, _) :: rest => (match b with | none => true | some n => decide (n < a)) && tabSorted (some a) rest

/-- The canonical form of a table with one default: keys strictly rising, the default never listed. -/
def tabOk {α : Type} [DecidableEq α] (t : Tab α) (d : α) : Bool :=
  tabSorted none t && t.all (fun e => decide (e.2 ≠ d))

end Sys2Proof
end

