-- ==== Sys2Proof/Syntax.lean ====
section
/-! DEFINITION. The commands: what the outside, the device's own engines and its timers do to it, one constructor for
every row of the spec's table of operations and events, with the operands that the row's rules give it. -/

namespace Sys2Proof

/-- Who writes or reads a register (R42): the ward world, an open pilot, the PF of a port, or a VI. -/
inductive Agent where
  | ward
  | openWorld (pilot : Fin 3)
  | pf (port : Fin 4)
  | vi (v : Fin 64)
  deriving DecidableEq, Repr

/-- A register page: one of the 16 MiB space by its page index (R37), or window page `w` of VI `v` (R43). -/
inductive PageRef where
  | dev (index : BitVec 12)
  | win (v : Fin 64) (w : Fin 16)
  deriving DecidableEq, Repr

/-- The three service classes (R10). -/
inductive ServiceClass where
  | bolt | latch | bulk
  deriving DecidableEq, Repr

/-- The path that a request travels as (R11), which fixes its service class, with what fixes its world tag (R144): a DRAM
read of 64 B of the ward pair; any other memory access of it; a register access, of a function where it comes from a host
port; a memory access of an open pilot; DMA for a PF or a VI; a render or compute access for a VI; a layer pipe's fetch; an
input stream's fetch; loads of a Tumbler program, of a Bolt tone, and of effects, for a channel's owner or, 8, the ward
world; a report record of a touch port and a raw-frame dump; an emergency frame, time synchronisation and service messages
of the ring; boot flash; the ledger drain; table walks and dirty-log records of a VI; a run of a check-value engine. -/
inductive Traffic where
  | wardRead
  | wardOther
  | register (vf : Option (Fin 64))
  | openAccess
  | hostDma (vf : Option (Fin 64))
  | render (v : Fin 64)
  | layer (pipe : Fin 48)
  | stream (s : Fin 96)
  | programLoad
  | toneLoad
  | effectLoad (who : Fin 9)
  | report (touch : Fin 8)
  | dump
  | emergency
  | timeSync
  | service
  | flash
  | drain
  | walk (v : Fin 64)
  | dirtyLog (v : Fin 64)
  | check (engine : Fin 8)
  deriving DecidableEq, Repr

/-- A boundary of a part of a page's set (R57): the part, and whether the checks of the set had ended before the cut-off. -/
structure PartBoundary where
  part : Fin 48
  checkedInTime : Bool
  deriving DecidableEq, Repr

/-- What a droop does (R78): the number of cycles that are lengthened, and by how much each, in ps. -/
structure Droop where
  cycles : Nat
  lengthPs : Nat
  deriving DecidableEq, Repr

/-- What a fabric request asks for (R89, R90): its target, the page that a register access names, the address, the beats of
64 bytes, and the bytes of a write to strike SRAM. -/
structure FabricAccess where
  target : Fin 5
  page : PageRef
  addr : BitVec 64
  beats : Nat
  data : Option (List Nat)
  deriving DecidableEq, Repr

/-- A flit on a Pintle link (R113): the link and the flit's sequence number. -/
structure LinkFlit where
  link : Fin 4
  seq : BitVec 12
  deriving DecidableEq, Repr

/-- For what a VI's access is (R186): the context, and the CMD_ID of its command where a command makes the access. -/
structure CtxWork where
  ctx : Fin 64
  cmd : Option Word
  deriving DecidableEq, Repr

/-- What a shader does at a resource (R251 to R255), which the entry of its container's binding table names: a read or a
write of a buffer's bytes; the read of a vertex input; of a texel of a level of a texture or an image; a sampled access,
through the sampler of another binding, at a place in units of 2^-24 of the level's extent, with a level of detail in
1/256; a write of a texel of an image. -/
inductive ShOp where
  | load (offset : Word) (len : Fin 17)
  | store (offset : Word) (data : List Nat)
  | vertexInput
  | texel (level : Fin 16) (x y : Int)
  | sample (sampler : Fin 64) (u v lod : Int)
  | image (level : Fin 16) (x y : Int) (data : List Nat)
  deriving DecidableEq, Repr

/-- An access of a shader: the binding entry, and what it does. -/
structure ShAccess where
  bind : Fin 64
  op : ShOp
  deriving DecidableEq, Repr

/-- What a vertex shader leaves of a vertex (R248): its position and its point size, in binary32. -/
structure VertOut where
  x : Word := 0
  y : Word := 0
  z : Word := 0
  w : Word := 0
  size : Word := 0
  acc : List ShAccess := []
  deriving DecidableEq, Repr

/-- What a fragment shader leaves of a fragment (R248, R250): its colours by target and component, in binary32, its depth
where it writes one, and whether it discards the fragment. -/
structure FragOut where
  colours : List Word := []
  depth : Word := 0
  discard : Bool := false
  acc : List ShAccess := []
  deriving DecidableEq, Repr

/-- What a work item leaves (R257 to R260, R267). The native code of a shader is not documented (R250), so what it asks of
memory and what it computes come with the event: for a binning batch, of each of the next vertices or indices of the draws
in order; for a tile, of each of the fragments that its primitives cover, in order, row by row; for a slice, what its
workgroups do at their resources. -/
inductive ItemResult where
  | bin (verts : List VertOut)
  | tile (frags : List FragOut)
  | slice (acc : List ShAccess)
  deriving DecidableEq, Repr

/-- A part of a function's configuration space (R162 to R164): its IDs and class, its subsystem IDs, its BARs, its
capabilities, the Device Serial Number, the SR-IOV capability, the controls that a host sets, and the capabilities of its
link. -/
inductive CfgItem where
  | identity | subsystem | bars | capabilities | serialNumber | sriov | controls | link
  deriving DecidableEq, Repr

/-- What a host's configuration request does that the device's rules speak of (R124, R162 to R164, R168, R423): a read; or a
write of MSI-X Enable, Function Mask, the power state, the reporting of uncorrectable errors in the AER capability, its
status of an internal error, GO of the DOE mailbox, Max Payload Size and Max Read Request Size (128 B times a power of
two), ASPM L1, ECRC generation and checking, the Completion Timeout Value, or the System Page Size (4 KiB times a power of
two). -/
inductive CfgOp where
  | read (item : CfgItem)
  | msixEnable (on : Bool)
  | functionMask (on : Bool)
  | powerState (d3hot : Bool)
  | errorReporting (on : Bool)
  | clearError
  | doeGo
  | maxPayload (size : Fin 3)
  | maxReadRequest (size : Fin 6)
  | aspmL1 (on : Bool)
  | ecrc (generate check : Bool)
  | completionTimeout (value : Fin 16)
  | systemPageSize (size : Fin 5)
  deriving DecidableEq, Repr

/-- What training leaves in the PHY of a channel (R237). -/
structure PhyResult where
  wck : BitVec 10
  rd : BitVec 7
  wr : BitVec 7
  eye : BitVec 8
  deriving DecidableEq, Repr

/-- How training of the channels ends (R206): the step that failed (0 none, 1 command, 2 WCK, 3 read, 4 write), the time
it took, the density each channel reports, tRFCpb, the refresh-management threshold of devices that need one (R215), and
the PHY results of each channel. -/
structure TrainResult where
  failed : Fin 5
  ms : Nat
  dens : List (Fin 4)
  trfcNs : Nat
  raaMax : Option Nat
  phy : List PhyResult
  deriving DecidableEq, Repr

/-- What the sink of a head's link reports in its receiver capabilities (R331): its highest rate code and lane count, the
eDP rate codes it lists, and MAX_DOWNSPREAD. -/
structure SinkCaps where
  maxRate : Fin 8
  maxLanes : Fin 5
  listed : List (Fin 8)
  downspread : Bool
  deriving DecidableEq, Repr

/-- How a training attempt ends (R331). -/
inductive TrainOutcome where
  | success | crFail | eqFail | noAux
  deriving DecidableEq, Repr

/-- How an AUX transaction ends (R334): acknowledged, with the bytes read and the count acknowledged; or not. -/
inductive AuxOutcome where
  | ack (bytes : List Nat) (acked : Fin 17)
  | nack | defer | timeout
  deriving DecidableEq, Repr

/-- How a service of the ward world is asked for (R138, R148, R150): by request `number` of a mailbox channel, or in a
session of a port by a request record with its TAG, DEADLINE and LEN. -/
inductive Via where
  | mailbox (channel : Fin 5) (number : Nat)
  | session (port : Fin 4) (id : BitVec 32) (tag : BitVec 16) (deadline : Word) (len : BitVec 16)
  deriving DecidableEq, Repr

/-- The payload of a SHOW_PROMPT request (R306). -/
structure ShowReq where
  head : BitVec 8
  window : BitVec 8
  template : BitVec 16
  x : BitVec 16
  y : BitVec 16
  scale : BitVec 8
  flags : BitVec 8
  timeout : BitVec 32
  deriving DecidableEq, Repr

/-- Where a Latch trigger or a STOP of a haptic channel comes from (R364, R381): the doorbell of a VI, the trigger
register of a channel block on a page, the ward world's trigger register, or a click of a touch port. -/
inductive TrigSrc where
  | doorbell (v : Fin 64) (word : Word)
  | register (ag : Agent) (page : BitVec 12) (word : Word)
  | ward (word : Word)
  | click (touch : Fin 8)
  deriving DecidableEq, Repr

/-- Where a Bolt trigger or a Bolt tone comes from (R365, R381, R408): the direct path of a touch port, or the ward world's
trigger register. -/
inductive BoltSrc where
  | touch (port : Fin 8)
  | ward (word : Word)
  deriving DecidableEq, Repr

/-- Where a pointer word comes from (R395): the doorbell of a VI, or a stream page. -/
inductive PtrSrc where
  | doorbell (v : Fin 64)
  | register (ag : Agent) (page : BitVec 12)
  deriving DecidableEq, Repr

/-- What a PMBus transaction ended with (R447): its data, or a NAK, a PEC failure or lost arbitration. -/
inductive BusOutcome where
  | ok (data : BitVec 16)
  | nak
  deriving DecidableEq, Repr
/-- The commands the block takes: one constructor for each operation or event of the spec's table, in the table's
order. Every docstring names the rule the table gives the row. -/
inductive Instr where
  /-- `REGISTER_WRITE` (R44): A write to a register that has no row of its own is dropped, refused, held for a ledger
  entry or accepted, in the order of R44's steps. -/
  | registerWrite (ag : Agent) (addr : BitVec 24) (v : Word)
  /-- `LEDGER_ENTRY_FREED` (R69): An on-chip ledger entry becomes free; a LOST record is written first if records were
  lost, and a write waiting for an entry is accepted. -/
  | ledgerEntryFreed
  /-- `LEDGER_WAIT_TIMEOUT` (R69): A write that waited 10 µs for a ledger entry is refused with TIMEOUT and counted in
  LED_LOST; a waiting commit request is rejected with LEDGER. -/
  | ledgerWaitTimeout
  /-- `LEDGER_DRAIN_ENABLE` (R71): The first setting of DRAIN_EN after reset fixes the time T that starts the
  checkpoint chain, and draining to the ring begins. -/
  | ledgerDrainEnable (v : Word)
  /-- `LEDGER_DRAIN_ENTRY` (R70): The drain writes the oldest complete on-chip entry to the ward ring once free space
  allows, and advances LED_RING_HEAD. -/
  | ledgerDrainEntry
  /-- `LEDGER_CKPT_SIGNED` (R73): Ward firmware writes SIGNED to mark the signature of the oldest waiting checkpoint
  as complete. -/
  | ledgerCkptSigned (v : Word)
  /-- `LEDGER_DRAIN_CHECKPOINT` (R73): A signed checkpoint block is written to the ring ahead of every entry whose
  write has not begun. -/
  | ledgerDrainCheckpoint
  /-- `COMMIT_NOW` (R56): A NOW commit request snapshots the shadow set and starts the block's consistency and
  admission checks. -/
  | commitNow (ag : Agent) (page : BitVec 12) (key : BitVec 16)
  /-- `COMMIT_AT_BOUNDARY` (R56): An AT_BOUNDARY commit request snapshots the shadow set and checks it, to be applied
  at the page's next commit boundary. -/
  | commitAtBoundary (ag : Agent) (page : BitVec 12) (key : BitVec 16)
  /-- `COMMIT_REVERT` (R56): A REVERT request copies the active set into the shadow and supersedes any pending set. -/
  | commitRevert (ag : Agent) (page : BitVec 12) (key : BitVec 16)
  /-- `COMMIT_REQUEST_DEFERRED_ACCEPT` (R53): A commit request that reached a page while BUSY was 1 is accepted once
  BUSY clears, with its snapshot taken at that moment. -/
  | commitRequestDeferredAccept (page : PageRef)
  /-- `COMMIT_CHECK_END` (R53): The commit check ends within 4 µs: the set is applied, made pending or rejected, BUSY
  clears and PAGE_CSTAT becomes final. -/
  | commitCheckEnd (page : PageRef)
  /-- `COMMIT_BOUNDARY` (R57): At a page's commit boundary a pending set whose checks ended before the cut-off is
  applied. -/
  | commitBoundary (page : PageRef) (part : PartBoundary)
  /-- `PAGE_LOCK` (R59): The owner writes 1 to PAGE_LOCK.LOCK, after which writes that change RWK fields are refused. -/
  | pageLock (ag : Agent) (page : BitVec 12)
  /-- `PERIOD_ARM` (R28): A write that sets PE_CTRL.ARMED is checked and either moves the entry from IDLE to WAIT or
  is refused with ARM_REFUSED. -/
  | periodArm (ag : Agent) (slot : Fin 64) (v : Word)
  /-- `PERIOD_DISARM` (R30): A write that clears ARMED lets the open period run to its end, and the entry goes IDLE at
  the next period boundary. -/
  | periodDisarm (ag : Agent) (slot : Fin 64) (v : Word)
  /-- `PERIOD_BOUNDARY` (R29): At a period boundary an armed entry opens a new period and releases its work from its
  start state, or goes IDLE if disarmed. -/
  | periodBoundary (entry : Fin 256)
  /-- `PERIOD_WORK_COMPLETE` (R29): The work of an open period completes by its deadline; the fence is signalled with
  the block's status and DONE is counted. -/
  | periodWorkComplete (entry : Fin 256)
  /-- `PERIOD_DEADLINE` (R31): At the deadline, unfinished work is discarded by kind, the fence is signalled DROPPED
  and the drop is counted and flagged. -/
  | periodDeadline (entry : Fin 256)
  /-- `BMON_CLEAR` (R15): A write of CLS_BMON_CLR clears the breach counter and worst latency of each monitor whose
  bit is set. -/
  | bmonClear (v : Word)
  /-- `CLOCK_DROOP` (R78): A cluster's delay monitor senses a supply droop and its generator lengthens single cycles
  by at most 12.5 % until the droop passes. -/
  | clockDroop (cluster : BitVec 8) (droop : Droop)
  /-- `CLOCK_SETTLED` (R78): After a performance-level change the cluster's clock generator settles on its new target
  frequency. -/
  | clockSettled (cluster : BitVec 8)
  /-- `CROSSING_ACK_TIMEOUT` (R83): A word offered to a powered, unisolated cluster is not acknowledged within 10 µs;
  the sender gets an error response and a cluster fault opens. -/
  | crossingAckTimeout (page : PageRef) (sender : BitVec 8)
  /-- `FABRIC_REQUEST` (R89): An initiator port issues a fabric request, which is refused with an error response if
  its class is not allowed at the port. -/
  | fabricRequest (port : Fin 25) (path : Traffic) (access : FabricAccess)
  /-- `RESPONSE_TIMEOUT` (R95): A fabric request has no response within its timeout; the crossbar returns an error
  response and the target opens a unit-level fault. -/
  | responseTimeout (port : Fin 25) (target : Fin 5) (page : PageRef)
  /-- `LATE_RESPONSE` (R95): A response that arrives after its request's timeout is discarded and counted in
  XB_LATE_CNT. -/
  | lateResponse (port : Fin 25) (target : Fin 5)
  /-- `ARBITRATION_DECISION` (R98): In each fabric cycle an arbiter decides the next cycle's grant from the requests,
  credits and priorities present. -/
  | arbitrationDecision (target : Fin 5) (answered : List (Fin 25))
  /-- `BULK_AGING` (R101): A Bulk request that has waited longer than its port's aging limit is raised to priority 15
  until granted. -/
  | bulkAging (port : Fin 25)
  /-- `CROSSBAR_TEST_ENTER` (R102): Writing TEST_REQ to 1 before the lock drains outstanding requests and applies the
  test grant order. -/
  | crossbarTestEnter (v : Word)
  /-- `CROSSBAR_TEST_LEAVE` (R102): Writing TEST_REQ to 0 drains outstanding requests and returns the crossbar to
  START. -/
  | crossbarTestLeave (v : Word)
  /-- `CROSSBAR_DRAIN_DONE` (R102): The drain of outstanding requests completes and the crossbar takes its new mode. -/
  | crossbarDrainDone
  /-- `SLOT_WHEEL_WRAP` (R110): The slot wheel reaches slot 0, which is the slot wheel page's commit boundary at which
  a pending layout takes effect. -/
  | slotWheelWrap (checkedInTime : Bool)
  /-- `DRAM_COMMAND_OPPORTUNITY` (R107): At a command opportunity in a slot the memory controller picks a pending
  request in the owner order of R107. -/
  | dramCommandOpportunity (channel : Fin 8)
  /-- `REFERENCE_TICK` (R84): At each 38.4 MHz reference tick the time master adds the trimmed increment to device
  time and drives it on the time bus. -/
  | referenceTick
  /-- `DEVICE_TIME_STEP` (R86): A write of DT_STEP before the hinge-table lock steps device time forward at the next
  reference tick. -/
  | deviceTimeStep (v : Word)
  /-- `PINTLE_RESET_RELEASE` (R114): Reset release of both dies' link clusters starts training of a Pintle link. -/
  | pintleResetRelease (link : Fin 4)
  /-- `PINTLE_TRAINING_COMPLETE` (R114): Pintle link training succeeds; the link goes UP and measures its latency. -/
  | pintleTrainingComplete (link : Fin 4) (latencyNs : Nat)
  /-- `PINTLE_TRAINING_FAIL` (R114): A Pintle training attempt fails; spare lanes are substituted and training
  retried, or the link goes DOWN with a die-level fault. -/
  | pintleTrainingFail (link : Fin 4) (lanes : List (Fin 128))
  /-- `PINTLE_CRC_ERROR` (R113): A received flit fails its CRC and is replayed from the replay buffer. -/
  | pintleCrcError (flit : LinkFlit)
  /-- `PINTLE_REPLAY_END` (R114): A replayed flit arrives good and the link returns to UP, or its third replay fails
  and the link retrains with a unit fault. -/
  | pintleReplayEnd (link : Fin 4) (good : Bool)
  /-- `PINTLE_RETRAIN` (R114): A write of PL_CTRL.RETRAIN holds traffic after the current flit and retrains the link. -/
  | pintleRetrain (link : Fin 4) (v : Word)
  /-- `POWER_GOOD_RISE` (R123): Power-good rises and the device boots from its ROM through image check, safe screens,
  DRAM training and the loading of sections. -/
  | powerGoodRise (selfTest quad : Bool)
  /-- `HINGE_TABLE_LOCK` (R143): A correctly keyed HT_CTRL lock makes owners final, locks pages, moves the crossbar to
  SERVICE, builds the wheel and ends CRS. -/
  | hingeTableLock (ag : Agent) (key : BitVec 16)
  /-- `WATCHDOG_KICK` (R152): Ward firmware restarts the watchdog countdown through the ward pair's private watchdog
  port. -/
  | watchdogKick
  /-- `WARD_WATCHDOG_EXPIRY` (R152): The ward watchdog expires and starts a ward restart, or fails the boot before the
  lock. -/
  | wardWatchdogExpiry
  /-- `LOCKSTEP_COMPARE_FAIL` (R152): The ward pair's lock-step compare fails and starts a ward restart. -/
  | lockstepCompareFail
  /-- `WARD_RESTART_REQUEST` (R152): Ward firmware writes WDG_REQ with the key and starts a ward restart. -/
  | wardRestartRequest (ag : Agent) (key : BitVec 16)
  /-- `MAILBOX_GO` (R151): A write of MB_CTRL.GO sends the request record to the ward world, or answers it at once
  with BAD_REQUEST or WARD_RESTARTING. -/
  | mailboxGo (ag : Agent) (channel : Fin 5)
  /-- `MAILBOX_REQUEST_READ` (R151): Ward firmware first reads a mailbox request through the ward-private interface,
  which clears the channel's MAILBOX_REQ source. -/
  | mailboxRequestRead (channel : Fin 5)
  /-- `MAILBOX_RESPONSE` (R151): Ward firmware writes a response; it completes the request in WAIT if it names that
  request, and is otherwise discarded into MB_LATE. -/
  | mailboxResponse (channel : Fin 5) (number : Nat) (status : BitVec 16) (payload : List Nat)
  /-- `MAILBOX_DEADLINE` (R151): A mailbox request's deadline passes with no response, and it ends with STATUS
  DEADLINE. -/
  | mailboxDeadline (channel : Fin 5)
  /-- `DOE_DISCOVERY` (R136): A PF's DOE mailbox answers a DOE discovery object. -/
  | doeDiscovery (port : Fin 4) (index : BitVec 8)
  /-- `GET_VERSION` (R136): The ward world answers an SPDM GET_VERSION request. -/
  | getVersion (port : Fin 4)
  /-- `GET_CAPABILITIES` (R136): The ward world answers an SPDM GET_CAPABILITIES request. -/
  | getCapabilities (port : Fin 4)
  /-- `NEGOTIATE_ALGORITHMS` (R136): The ward world negotiates ECDSA P-384, SHA-384, ECDHE secp384r1 and AES-256-GCM. -/
  | negotiateAlgorithms (port : Fin 4) (asym hash dhe aead : Bool)
  /-- `GET_DIGESTS` (R136): The ward world returns the digest of the certificate chain in slot 0. -/
  | getDigests (port : Fin 4)
  /-- `GET_CERTIFICATE` (R134): The ward world returns the four-certificate chain of slot 0. -/
  | getCertificate (port : Fin 4) (slot : Fin 8) (offset length : BitVec 16)
  /-- `CHALLENGE` (R136): The ward world answers an SPDM CHALLENGE, signed with the alias key. -/
  | challenge (port : Fin 4) (slot : Fin 8) (summary : Bool)
  /-- `GET_MEASUREMENTS` (R137): The ward world returns measurement blocks 1 to 7. -/
  | getMeasurements (port : Fin 4) (operation : BitVec 8) (sign : Bool)
  /-- `KEY_EXCHANGE` (R136): The ward world opens a secure session, with mutual authentication when the port's
  ROOTHASH is set, or refuses when two sessions are open. -/
  | keyExchange (port : Fin 4) (slot : Fin 8)
  /-- `FINISH` (R136): The ward world completes a secure session handshake. -/
  | finish (port : Fin 4) (session : BitVec 32) (root : Option (BitVec 384)) (good : Bool)
  /-- `HEARTBEAT` (R136): The ward world answers a session heartbeat. -/
  | heartbeat (port : Fin 4) (session : BitVec 32)
  /-- `KEY_UPDATE` (R136): The ward world updates the keys of a secure session. -/
  | keyUpdate (port : Fin 4) (session : BitVec 32) (operation : BitVec 8)
  /-- `END_SESSION` (R307): A secure session ends, and ward firmware removes its prompts and Bolt regions by a
  recorded strike commit. -/
  | endSession (port : Fin 4) (session : BitVec 32)
  /-- `GET_STATE` (R150): A group 0 service returns boot stage, restart count, lock time or LED_SEQ. -/
  | getState (via : Via) (item : Fin 4)
  /-- `LEDGER_EXPORT` (R150): A group 1 service exports the ledger by checkpoint number, or gives only the position
  through a mailbox. -/
  | ledgerExport (via : Via) (checkpoint : BitVec 32)
  /-- `SHOW_PROMPT` (R306): Ward firmware draws a template into a strike window, optionally arming Bolt regions, CRC
  rectangles and entry collection. -/
  | showPrompt (via : Via) (request : ShowReq)
  /-- `CLEAR_PROMPT` (R306): Ward firmware removes a prompt from the strike plane. -/
  | clearPrompt (via : Via) (prompt : BitVec 32)
  /-- `PROMPT_STATE` (R306): Ward firmware returns a prompt's state, keys entered and CRC mismatch count. -/
  | promptState (via : Via) (prompt : BitVec 32)
  /-- `PROMPT_TIMEOUT` (R306): A prompt's TIMEOUT expires and its entry ends timed out. -/
  | promptTimeout (prompt : BitVec 32)
  /-- `GET_ENTRY` (R306): Ward firmware returns the collected key codes inside the secured session and then erases the
  entry. -/
  | getEntry (via : Via) (prompt : BitVec 32)
  /-- `SET_SAFE` (R306): Ward firmware sets or clears a head's safe screen for the session. -/
  | setSafe (via : Via) (head safe : BitVec 8)
  /-- `TEST_EMERGENCY` (R306): Ward firmware shows an emergency message set locally for a given duration as a test. -/
  | testEmergency (via : Via) (msg : BitVec 8) (seconds : BitVec 16)
  /-- `OPEN_STAGE2_FAULT` (R146): A second-stage translation fault stops the faulting open pilot's firmware, counts
  S2F and opens a unit fault. -/
  | openStage2Fault (pilot : Fin 3)
  /-- `HOST_MEMORY_READ` (R166): A host Memory Read to a BAR is served as one or two register reads, or answered with
  Completer Abort for an illegal length. -/
  | hostMemoryRead (port : Fin 4) (vf : Option (Fin 64)) (addr : BitVec 24) (dws : Nat)
  /-- `HOST_MEMORY_WRITE` (R166): A host Memory Write is split into register writes, or dropped for partial byte
  enables or excess length. -/
  | hostMemoryWrite (port : Fin 4) (vf : Option (Fin 64)) (addr : BitVec 24) (data : List Word) (allBytes : Bool)
  /-- `DMA_COMPLETION_ERROR` (R168): A device read to host memory completes with UR, CA or poison and ends with an
  error response to its initiator. -/
  | dmaCompletionError (port : Fin 4) (kind : Fin 3) (cmd : Option (Fin 64 × Fin 64 × Word))
  /-- `DMA_COMPLETION_TIMEOUT` (R168): A device read to host memory reaches the port's Completion Timeout and ends
  with an error response. -/
  | dmaCompletionTimeout (port : Fin 4) (cmd : Option (Fin 64 × Fin 64 × Word))
  /-- `VF_ENABLE` (R169): VF Enable or a raised NumVFs makes a VF present and moves its VI from OFF to STOPPED. -/
  | vfEnable (port : Fin 4) (numVfs : Fin 33)
  /-- `VF_DISABLE` (R169): VF Enable cleared or NumVFs lowered takes the VI to OFF with the actions of R171. -/
  | vfDisable (port : Fin 4) (numVfs : Fin 33)
  /-- `VF_FLR` (R169): An FLR of a VF resets its VI, advancing the generation, or resets the window pages of a STOPPED
  or CREATING VI. -/
  | vfFlr (v : Fin 64)
  /-- `PF_FLR` (R169): An FLR of a PF takes every VI of its port to OFF and returns the SR-IOV capability to reset. -/
  | pfFlr (port : Fin 4)
  /-- `PORT_DL_DOWN` (R169): The port's data link goes down, with the effects of PF FLR on every VI of the port. -/
  | portDlDown (port : Fin 4)
  /-- `PERST_ASSERT` (R504): PERST_N asserted while the device runs resets that port's link and functions with the
  effects of DL_Down. -/
  | perstAssert (port : Fin 4)
  /-- `CREATE` (R173): A CREATE request on VIH_CTRL is checked and queued for open-world mediation, or refused with a
  REFUSE code. -/
  | create (ag : Agent) (v : Fin 64) (key : BitVec 16)
  /-- `RESET` (R171): A RESET request moves the VI to RESETTING with outcome RESTART and advances its generation. -/
  | reset (ag : Agent) (v : Fin 64) (key : BitVec 16)
  /-- `REMOVE` (R171): A REMOVE request moves the VI to RESETTING with outcome STOP and advances its generation. -/
  | remove (ag : Agent) (v : Fin 64) (key : BitVec 16)
  /-- `QUIESCE` (R169): A QUIESCE request stops fetching new submission entries of the VI. -/
  | quiesce (ag : Agent) (v : Fin 64) (key : BitVec 16)
  /-- `RESUME` (R169): A RESUME request returns a quiescing or quiesced VI to ACTIVE. -/
  | resume (ag : Agent) (v : Fin 64) (key : BitVec 16)
  /-- `CREATE_ACCEPT` (R174): Open-world firmware accepts the oldest waiting CREATE and the VI becomes ACTIVE. -/
  | createAccept (ag : Agent) (key : BitVec 16)
  /-- `CREATE_REFUSE` (R174): Open-world firmware refuses the oldest waiting CREATE and the VI returns to STOPPED with
  REFUSE 3. -/
  | createRefuse (ag : Agent) (key : BitVec 16)
  /-- `CREATE_TIMEOUT` (R169): The open world gives no decision within 100 ms and the VI returns to STOPPED with
  REFUSE 4. -/
  | createTimeout
  /-- `VI_RESET_COMPLETE` (R169): The actions of RESETTING complete with no current-generation work in flight, and the
  VI becomes ACTIVE or STOPPED. -/
  | viResetComplete (v : Fin 64)
  /-- `SQ_DOORBELL` (R179): A write of DB_SQc sets the context's SQ tail, or puts the context in ERROR or is dropped
  as a doorbell error. -/
  | sqDoorbell (v : Fin 64) (ctx : Fin 64) (tail : Word)
  /-- `CQ_DOORBELL` (R179): A write of DB_CQc sets the CQ head and frees the entries before it. -/
  | cqDoorbell (v : Fin 64) (ctx : Fin 64) (head : Word)
  /-- `SQ_ENTRY_FETCH` (R180): The device fetches an SQ entry once the CQ has room for every command in flight plus
  this one. -/
  | sqEntryFetch (v : Fin 64) (ctx : Fin 64)
  /-- `COMMAND_COMPLETE` (R180): A command completes: writes become visible, its CQ entry is written, its fence
  signalled and its interrupt raised, or a stale completion is discarded. -/
  | commandComplete (v : Fin 64) (ctx : Fin 64) (gen : BitVec 8)
  /-- `CONTEXT_ENABLE` (R181): Setting CTX_CTRL.ENABLE starts a context, or is refused with ENABLE_REFUSED for bad
  LOG2 or ENGINE. -/
  | contextEnable (v : Fin 64) (ctx : Fin 64) (value : Word)
  /-- `CONTEXT_DISABLE` (R181): Clearing ENABLE stops fetch and the context drains to DISABLED. -/
  | contextDisable (v : Fin 64) (ctx : Fin 64) (value : Word)
  /-- `CONTEXT_SWAP_IN` (R182): A context that needs residency takes a slot by free slot or eviction and is swapped in
  from the save store. -/
  | contextSwapIn
  /-- `SHARE_PERIOD_START` (R266): A 1 ms share period starts and each VI's render budget is set from the available
  clusters. -/
  | sharePeriodStart
  /-- `TRANSLATION_ACCESS` (R186): A VI access is translated through the TLB or a walk, refused if stale, faulted or
  logged as dirty. -/
  | translationAccess (v : Fin 64) (gen : BitVec 8) (work : CtxWork) (asp : Fin 16) (addr : BitVec 64) (write : Bool) (data : List Nat)
  /-- `TABLE_WALK_COMPLETE` (R187): A two-stage table walk ends, filling a TLB entry or raising a translation fault. -/
  | tableWalkComplete (readError : Option (Fin 24))
  /-- `S2_INVALIDATE` (R192): A GO on VIH_INV_CTRL starts invalidation of a GPA range or the whole VI. -/
  | s2Invalidate (ag : Agent) (v : Fin 64) (value : Word)
  /-- `S1_INVALIDATE` (R192): A GO on S1_INV_CTRL starts invalidation of a range, an address space or all of stage 1. -/
  | s1Invalidate (v : Fin 64) (value : Word)
  /-- `INVALIDATION_COMPLETE` (R192): Every entry, walk, access and pipe translation of the range is gone, and BUSY
  clears. -/
  | invalidationComplete (v : Fin 64) (which : Fin 3)
  /-- `DIRTY_LOG_ENABLE` (R194): Setting EN applies BASE and LOG2 and invalidates the VI's TLB entries; ACTIVE follows
  when that completes. -/
  | dirtyLogEnable (ag : Agent) (v : Fin 64) (value : Word)
  /-- `DIRTY_LOG_DISABLE` (R194): Clearing EN stops dirty-log recording at the next write. -/
  | dirtyLogDisable (ag : Agent) (v : Fin 64) (value : Word)
  /-- `DIRTY_LOG_CLEAR` (R194): CLEAR clears every logged flag of the VI and re-arms recording after an overflow. -/
  | dirtyLogClear (ag : Agent) (v : Fin 64) (value : Word)
  /-- `DRAM_TRAINING_START` (R206): A write of MC_TRAIN.START starts LPDDR 5X training on all channels, or is refused
  in SERVICE. -/
  | dramTrainingStart (ag : Agent)
  /-- `DRAM_TRAINING_END` (R206): Training ends in SERVICE, starting refresh, or in FAILED with a cause. -/
  | dramTrainingEnd (result : TrainResult)
  /-- `WCK_OSCILLATOR_READ` (R207): Every MC_RETRAIN.PERIOD ms the controller reads each WCK2DQ oscillator and
  corrects the WCK delay on excess drift. -/
  | wckOscillatorRead (channel : Fin 8) (drift : Bool) (delay : BitVec 10)
  /-- `DRAM_REQUEST` (R208): A DRAM request is decoded to channel, bank and row, checked against capacity, zones and
  check regions, and queued. -/
  | dramRequest (port : Fin 25) (path : Traffic) (addr : BitVec 64) (len : Fin 65) (write : Bool) (data : List Nat)
  /-- `ECC_WRITE_BACK` (R223): A corrected word is written back unless a write to the line was accepted in between. -/
  | eccWriteBack
  /-- `PAGE_HOLD_EXPIRY` (R211): A bank's row-hold time expires with no pending request and the row is closed. -/
  | pageHoldExpiry (channel : Fin 8) (bank : Fin 16)
  /-- `REFRESH_DUE` (R214): A per-bank refresh falls due and is placed clear of the Bolt slots. -/
  | refreshDue (channel : Fin 8) (pair : Fin 8)
  /-- `MR4_POLL` (R214): Every POLL ms the controller reads MR4 of each channel, applies the refresh rate and raises
  TEMP_HIGH if over limit. -/
  | mr4Poll (rate : Fin 32) (overLimit : Bool)
  /-- `ZONE_INIT_COMPLETE` (R219): The zero fill of a newly enabled ECC zone completes and the zone goes ON. -/
  | zoneInitComplete (zone : Fin 16)
  /-- `SCRUB_STEP` (R226): The scrubber reads the next line of an ON zone, writing back CEs and logging UEs. -/
  | scrubStep
  /-- `REMAP_COPY_COMPLETE` (R228): The last burst of a row remap copy completes and the entry moves to ACTIVE or
  IDLE. -/
  | remapCopyComplete (entry : Fin 32)
  /-- `SRAM_SPARE_COPY_COMPLETE` (R229): A new SRAM repair entry finishes copying its row to the spare, and waiting
  accesses proceed. -/
  | sramSpareCopyComplete (sram : Fin 6) (entry : Fin 8)
  /-- `READ_RAW` (R230): The diagnostic reads the stored word, check byte and syndrome without correction or logging. -/
  | readRaw (ag : Agent) (key : BitVec 16)
  /-- `WRITE_DATA_ONLY` (R230): The diagnostic writes DG_DATA and leaves the check byte unchanged. -/
  | writeDataOnly (ag : Agent) (key : BitVec 16)
  /-- `WRITE_CHECK_ONLY` (R230): The diagnostic writes DG_CHECK as the check byte and leaves the word unchanged. -/
  | writeCheckOnly (ag : Agent) (key : BitVec 16)
  /-- `WRITE_BOTH` (R230): The diagnostic writes DG_DATA and DG_CHECK as given. -/
  | writeBoth (ag : Agent) (key : BitVec 16)
  /-- `NOP` (R240): A NOP command completes OK. -/
  | nop (v : Fin 64) (ctx : Fin 64)
  /-- `RENDER` (R244): A RENDER command reads its job descriptor, checks it and bins and renders the job's tiles. -/
  | render (v : Fin 64) (ctx : Fin 64)
  /-- `COMPUTE` (R267): A COMPUTE command checks its container and splits the job into slices for the render clusters. -/
  | compute (v : Fin 64) (ctx : Fin 64)
  /-- `WAIT` (R265): A WAIT command registers a waiter on a fence and completes when the fence reaches TARGET. -/
  | wait (v : Fin 64) (ctx : Fin 64)
  /-- `SIGNAL` (R263): A SIGNAL command signals its fence OK after every earlier command of its context has completed. -/
  | signal (v : Fin 64) (ctx : Fin 64)
  /-- `RESIDENCY_SYNC` (R256): A RESIDENCY_SYNC makes changes to a residency map visible to later commands of the VI. -/
  | residencySync (v : Fin 64) (ctx : Fin 64)
  /-- `PERIODIC_JOB_INSERT` (R243): A released periodic job record is inserted as the context's next command once the
  context can take it. -/
  | periodicJobInsert (entry : Fin 256)
  /-- `WORK_ITEM_DISPATCH` (R266): A free render cluster takes the next ready work item by budget, round robin and
  context priority. -/
  | workItemDispatch (cluster : Fin 16)
  /-- `WORK_ITEM_END` (R239): A binning batch, tile or compute slice ends on its render cluster. -/
  | workItemEnd (cluster : Fin 16) (result : ItemResult)
  /-- `ITEM_ABORT` (R239): A work item exceeds its time limit; the cluster is stopped and reset and the command
  completes ITEM_ABORT. -/
  | itemAbort (cluster : Fin 16)
  /-- `JOB_DEADLINE` (R242): A render or compute job reaches its own deadline and is discarded, completing with
  DEADLINE. -/
  | jobDeadline (v : Fin 64) (ctx : Fin 64)
  /-- `FNC_SIGNAL_WRITE` (R263): A write of FNC_CTRLi.SIGNAL signals the fence with OK. -/
  | fncSignalWrite (ag : Agent) (page : BitVec 12) (index : Fin 192) (v : Word)
  /-- `FENCE_TIMEOUT` (R264): The oldest owed signal reaches TMO and is paid as BROKEN. -/
  | fenceTimeout (page : PageRef) (index : Fin 192)
  /-- `WAIT_TIMEOUT` (R265): A WAIT reaches TIMEOUT_US and completes WAIT_TIMEOUT. -/
  | waitTimeout (v : Fin 64) (ctx : Fin 64)
  /-- `RENDER_QUAD_DRAINED` (R268): All four clusters of a draining render quad are idle and the quad powers down. -/
  | renderQuadDrained (quad : Fin 4)
  /-- `COEF_WRITE` (R280): A write of LP_COEF_DATA stores two scaler coefficients and advances INDEX, or is refused
  for a bank in use. -/
  | coefWrite (ag : Agent) (page : BitVec 12) (pipe : Fin 48) (v : Word)
  /-- `LAYER_HOLD_SET` (R291): Setting HC_GROUP.HOLD makes later layer sets of the head held instead of applied. -/
  | layerHoldSet (ag : Agent) (head : Fin 8) (v : Word)
  /-- `LAYER_HOLD_CLEAR` (R291): Clearing HOLD makes the held layer sets ordinary pending sets. -/
  | layerHoldClear (ag : Agent) (head : Fin 8) (v : Word)
  /-- `FLIP_GO` (R292): A write of FL_GO queues a flip, registering its fence waiter and starting its walk, replacing
  a queued flip. -/
  | flipGo (ag : Agent) (page : BitVec 12) (pipe : Fin 48) (v : Word)
  /-- `FLIP_WALK_END` (R286): A flip's pipe-map walk completes, or ends the flip with MAP_FULL, FAULT or HOST_MEMORY. -/
  | flipWalkEnd (pipe : Fin 48)
  /-- `LAYER_BOUNDARY` (R287): At F − 22L layer sets apply, READY flips are taken, held sets are applied and band 0's
  fetch begins. -/
  | layerBoundary (head : Fin 8) (lateSets : List PageRef) (lateFlips : List (Fin 48))
  /-- `STRIKE_BOUNDARY` (R287): At F − 4L pending strike and CRC sets apply and the emergency window is shown or
  removed. -/
  | strikeBoundary (head : Fin 8) (strikeInTime crcInTime : Bool)
  /-- `BAND_FETCH_START` (R283): A pipe starts fetching band k once band k − 1 is fetched and band k − 2 composed,
  taking the warp offset. -/
  | bandFetchStart (pipe : Fin 48) (band : Nat)
  /-- `BAND_FETCH_DEADLINE` (R285): At S_k − 4L incomplete bands are shown in fill colour and counted, and composition
  of band k starts. -/
  | bandFetchDeadline (head : Fin 8) (band : Nat) (incomplete : List (Fin 48))
  /-- `BAND_COMPOSE_END` (R300): Composition of a band ends and the two strike results are compared, sending the band
  in the alarm colour on mismatch. -/
  | bandComposeEnd (head : Fin 8) (band : Nat) (mismatch : Bool)
  /-- `WARP_TOUCH_DELTA` (R296): A drag delta from a touch port reaches a warpable pipe and is added to its warp
  target. -/
  | warpTouchDelta (touch : Fin 8) (pipe : Fin 48)
  /-- `EMERGENCY_SHOW` (R301): A write of SC_EMG with ON = 1 shows a message set as the emergency window on every
  enabled head. -/
  | emergencyShow (ag : Agent) (msg : Fin 16)
  /-- `EMERGENCY_REMOVE` (R301): A write of SC_EMG with ON = 0 removes the emergency window at each head's next strike
  boundary. -/
  | emergencyRemove (ag : Agent) (msg : Fin 16)
  /-- `SC_INJECT` (R300): A GO on SC_INJECT forces one strike mismatch in the named head's next band. -/
  | scInject (ag : Agent) (head : Fin 8)
  /-- `HEAD_ENABLE` (R322): Setting HD_CTRL.EN starts the head's PLL, or is refused for a disabled HEAD entry. -/
  | headEnable (ag : Agent) (head : Fin 8) (v : Word)
  /-- `HEAD_DISABLE` (R322): Clearing HD_CTRL.EN stops the timing generator at the next E or at once, or is refused
  while guarded. -/
  | headDisable (ag : Agent) (head : Fin 8) (v : Word)
  /-- `HEAD_PLL_LOCK` (R322): The head's PLL locks and timing starts at line v_active. -/
  | headPllLock (head : Fin 8)
  /-- `HEAD_END_OF_ACTIVE` (R322): At E a pending head control set applies, starting a retiming if timing changes, and
  a requested stop takes effect. -/
  | headEndOfActive (head : Fin 8) (checkedInTime : Bool)
  /-- `RETIMING_COMPLETE` (R325): The retiming sequence completes and timing starts in the new mode. -/
  | retimingComplete (head : Fin 8)
  /-- `FRAME_START` (R326): At F the head's frame counter increments and its frame strobe is sent. -/
  | frameStart (head : Fin 8)
  /-- `STOPPED_FRAME_STROBE` (R329): While a head is stopped or locking, a frame strobe is sent every 16,666,667 ns of
  device time. -/
  | stoppedFrameStrobe (head : Fin 8)
  /-- `HD_FRAME_READ` (R326): A read of HD_FRAME loads the time latch with the device time of the matching F. -/
  | hdFrameRead (ag : Agent) (head : Fin 8)
  /-- `HD_FLIPT_READ` (R327): A read of HD_FLIPT_LO latches HD_FLIPT_HI, HD_FLIPF and HD_FLIPP together. -/
  | hdFliptRead (ag : Agent) (head : Fin 8)
  /-- `CRC_RECTANGLE_FINAL` (R338): A rectangle's CRC becomes final and is compared with its expected value, counting
  runs and firing its ACTION. -/
  | crcRectangleFinal (head : Fin 8) (rect : Fin 16) (observed : Option Word)
  /-- `CRC_RELEASE` (R340): A write of CR_CTRL.RELEASE ends forced safe at the next strike boundary. -/
  | crcRelease (ag : Agent) (head : Fin 8) (v : Word)
  /-- `PLUG` (R333): HPD high for 2 ms is decoded as a plug and starts link training when AUTO = 1. -/
  | plug (head : Fin 8) (sink : SinkCaps)
  /-- `UNPLUG` (R333): HPD low for 2 ms is decoded as an unplug and takes the link DOWN. -/
  | unplug (head : Fin 8)
  /-- `IRQ_HPD` (R331): A short HPD pulse is decoded; lane status is read and the link retrains or the event is passed
  to the owner. -/
  | irqHpd (head : Fin 8) (statusGood : Bool)
  /-- `DP_RETRAIN` (R331): A write of DP_CTRL.RETRAIN starts DisplayPort link training. -/
  | dpRetrain (ag : Agent) (head : Fin 8) (v : Word)
  /-- `DP_TRAINING_ATTEMPT_END` (R331): A training attempt ends in UP, a fallback attempt, or FAILED with a cause. -/
  | dpTrainingAttemptEnd (head : Fin 8) (outcome : TrainOutcome) (ms : Nat)
  /-- `AUX_GO` (R334): A GO on DP_AUX_CMD queues an AUX transaction behind the device's own, or refuses a write to
  reserved DPCD. -/
  | auxGo (ag : Agent) (head : Fin 8) (v : Word)
  /-- `AUX_TRANSACTION_END` (R334): An AUX transaction ends with ACK, NACK, DEFER or TIMEOUT after up to 7 retries. -/
  | auxTransactionEnd (head : Fin 8) (outcome : AuxOutcome)
  /-- `BACKLIGHT_DELAY_EXPIRY` (R336): BLDELAY ms after the first frame on an UP link, BLEN rises when BL = 1. -/
  | backlightDelayExpiry (head : Fin 8)
  /-- `SCAN_FRAME_START` (R350): A touch scan frame starts at its strobe, QH interval or free-running time. -/
  | scanFrameStart (port : Fin 8)
  /-- `SCAN_FRAME_END` (R352): A scan frame ends and is processed into baselines, contacts, records, deltas and
  direct-path triggers. -/
  | scanFrameEnd (port : Fin 8) (raw : List Nat) (wardNs : Nat)
  /-- `SCAN_FRAME_OVERRUN` (R350): A scan frame cannot complete in time and is discarded and counted as an overrun. -/
  | scanFrameOverrun (port : Fin 8)
  /-- `STROBE_LOSS_TIMEOUT` (R351): No frame strobe arrives for 50 ms and the port scans FREE. -/
  | strobeLossTimeout (port : Fin 8)
  /-- `TOUCH_PORT_ENABLE` (R353): Setting TS_CTRL.EN starts baseline capture, or is refused with START_REFUSED. -/
  | touchPortEnable (ag : Agent) (port : Fin 8) (v : Word)
  /-- `TOUCH_PORT_DISABLE` (R353): Clearing TS_CTRL.EN ends every reported track with STOPPED and takes the port OFF. -/
  | touchPortDisable (ag : Agent) (port : Fin 8) (v : Word)
  /-- `RECAL` (R353): A write of TS_CTRL.RECAL ends every reported track and re-captures all baselines. -/
  | recal (ag : Agent) (port : Fin 8) (v : Word)
  /-- `DUMP` (R371): A write of TS_CTRL.DUMP writes the next scan frame's raw values and baselines to the ward carve-
  out. -/
  | dump (ag : Agent) (port : Fin 8) (v : Word)
  /-- `FORCED_RECALIBRATION` (R356): A contact present for HOLD_S seconds is re-baselined, ended RECALIBRATED and
  turned into a ghost. -/
  | forcedRecalibration (port : Fin 8) (id : BitVec 8)
  /-- `HAPTIC_TRIGGER` (R385): A Latch trigger reaches a channel and starts, queues or is dropped by the channel's
  state. -/
  | hapticTrigger (channel : Fin 8) (src : TrigSrc)
  /-- `HAPTIC_BOLT_TRIGGER` (R385): A Bolt trigger reaches a channel and cuts any running effect or brake to start the
  Bolt effect. -/
  | hapticBoltTrigger (src : BoltSrc)
  /-- `HAPTIC_STOP` (R381): A STOP trigger ends the current Latch effect, or any effect when from the ward world, and
  brakes. -/
  | hapticStop (channel : Fin 8) (src : TrigSrc)
  /-- `HAPTIC_SAMPLE_TICK` (R382): At each 8 kHz sample the channel drives the next sample, measures back-EMF and
  advances overdrive and braking. -/
  | hapticSampleTick (channel : Fin 8) (emf : Int) (vhapMv : Nat)
  /-- `BRAKE_END` (R384): The brake ends by low back-EMF or BRK_MS, and the channel starts a pending trigger or goes
  IDLE. -/
  | brakeEnd (channel : Fin 8)
  /-- `COIL_CHECK_REQUEST` (R385): A write of HA_CTRL.CHECK starts a coil check from IDLE. -/
  | coilCheckRequest (ag : Agent) (page : BitVec 12) (channel : Fin 8) (v : Word)
  /-- `COIL_CHECK_END` (R388): The coil check computes R and moves the channel to IDLE, a pending start or FAULT. -/
  | coilCheckEnd (channel : Fin 8) (mohm : Nat)
  /-- `ACTUATOR_FAULT_CLEAR` (R385): A write of HA_CTRL.CLEAR moves a latched SHORT or MISSING channel to CHECK. -/
  | actuatorFaultClear (ag : Agent) (page : BitVec 12) (channel : Fin 8) (v : Word)
  /-- `ACTUATOR_OVERCURRENT` (R388): Bridge current above 2.6 A for 1 µs turns the bridge off with a SHORT fault. -/
  | actuatorOvercurrent (channel : Fin 8)
  /-- `ACTUATOR_MISSING` (R388): 250 µs into a start the current stays below 20 mA and a MISSING fault opens. -/
  | actuatorMissing (channel : Fin 8)
  /-- `STALL_RECOVERY_TIMEOUT` (R388): 100 ms after a STALL the channel runs a coil check. -/
  | stallRecoveryTimeout (channel : Fin 8)
  /-- `BRIDGE_OVERTEMP` (R388): A haptic or speaker bridge junction exceeds 150 °C and the bridge turns off. -/
  | bridgeOvertemp (unit : Fin 16)
  /-- `BRIDGE_TEMP_RECOVERED` (R388): A bridge junction falls below 130 °C and the channel or stage recovers. -/
  | bridgeTempRecovered (unit : Fin 16)
  /-- `VHAP_OUT_OF_RANGE` (R388): VHAP leaves 9.5 to 14.5 V and every haptic and speaker bridge turns off with a
  SUPPLY fault. -/
  | vhapOutOfRange (mv : Nat)
  /-- `VHAP_RECOVERED` (R388): VHAP has been back in range for 10 ms and the channels and stages recover. -/
  | vhapRecovered (mv : Nat)
  /-- `EFFECT_LOAD_GO` (R378): A GO on a channel block or the ward haptic page starts loading an effect into the
  store. -/
  | effectLoadGo (ag : Agent) (page : BitVec 12) (channel : Fin 8) (v : Word)
  /-- `EFFECT_LOAD_END` (R378): An effect load ends with OK, RANGE, OVERLAP or FAULT and writes the directory entry. -/
  | effectLoadEnd (who : Fin 9) (readError : Bool)
  /-- `AUDIO_SAMPLE_TICK` (R392): At each 48 kHz tick the engine runs the program, multiplexers, tone sum and limiters
  and sends the outputs. -/
  | audioSampleTick (delayNs : Nat)
  /-- `AUDIO_BLOCK_BOUNDARY` (R396): At every 16th tick streams change state, swaps start and source changes take
  effect. -/
  | audioBlockBoundary
  /-- `GAIN_STEP_TIMEOUT` (R398): A waiting gain that found no zero crossing steps at the 480th tick. -/
  | gainStepTimeout (gain : Fin 224)
  /-- `STREAM_POINTER_WRITE` (R395): A pointer word on DB_AUDs or ST_WPTRs advances the stream's write index, or is
  dropped with STREAM_ERR. -/
  | streamPointerWrite (src : PtrSrc) (stream : Fin 96) (word : Word)
  /-- `STREAM_ENABLE` (R396): Setting ST_CTRL.EN moves a stream to WAIT, or is refused with ENABLE_REFUSED. -/
  | streamEnable (ag : Agent) (page : BitVec 12) (stream : Fin 96) (v : Word)
  /-- `STREAM_DISABLE` (R396): Clearing ST_CTRL.EN ramps the stream out and stops it. -/
  | streamDisable (ag : Agent) (page : BitVec 12) (stream : Fin 96) (v : Word)
  /-- `TUMBLER_LOAD_GO` (R402): A GO on TP_LD_CTRL starts loading a Tumbler program into the idle bank. -/
  | tumblerLoadGo (ag : Agent) (v : Word)
  /-- `TUMBLER_LOAD_END` (R402): A program load ends with OK, FORMAT, OPERAND, DELAY or FAULT. -/
  | tumblerLoadEnd (readError : Bool)
  /-- `SWAP` (R403): A write of TP_BANK.SWAP starts a crossfade to the idle bank at the next block boundary, or is
  refused. -/
  | swap (ag : Agent) (v : Word)
  /-- `CROSSFADE_END` (R403): 128 ticks after its start the crossfade ends and the incoming bank becomes active. -/
  | crossfadeEnd
  /-- `SINK_SOURCE_WRITE` (R404): A write of SK_SRC.SRC starts a ramped source change at the next block boundary, or
  is refused. -/
  | sinkSourceWrite (ag : Agent) (sink : Fin 12) (channel : Fin 8) (v : Word)
  /-- `ROUTE_RAMP_SWITCH` (R404): After 64 ticks of ramp-out the channel switches to its new source and ramps back in. -/
  | routeRampSwitch (sink : Fin 12) (channel : Fin 8)
  /-- `ROUTE_RAMP_END` (R404): The ramp-in ends and any held source write starts a new ramp. -/
  | routeRampEnd (sink : Fin 12) (channel : Fin 8)
  /-- `TONE_TRIGGER` (R408): A Bolt tone trigger from touch or TN_TRIG starts, replaces, refuses or drops a tone on a
  speaker. -/
  | toneTrigger (src : BoltSrc)
  /-- `TONE_LOAD_GO` (R407): A GO on TN_LD_CTRL starts loading a Bolt tone from the ward carve-out. -/
  | toneLoadGo (ag : Agent) (v : Word)
  /-- `TONE_LOAD_END` (R407): A Bolt tone load ends with its RESULT. -/
  | toneLoadEnd (readError : Bool)
  /-- `SPEAKER_ENABLE` (R410): Setting SP_CTRL.EN ramps a speaker stage up over 10 ms. -/
  | speakerEnable (ag : Agent) (speaker : Fin 8) (v : Word)
  /-- `SPEAKER_DISABLE` (R410): Clearing SP_CTRL.EN ramps the stage down over 1 ms and turns the bridge off. -/
  | speakerDisable (ag : Agent) (speaker : Fin 8) (v : Word)
  /-- `SPEAKER_RAMP_END` (R410): The 10 ms ramp ends and the speaker stage enters RUN. -/
  | speakerRampEnd (speaker : Fin 8)
  /-- `SPEAKER_OVERCURRENT` (R411): Output current above 3.0 A for 1 µs turns the stage off with a SHORT fault. -/
  | speakerOvercurrent (speaker : Fin 8)
  /-- `SPEAKER_DC_FAULT` (R411): Mean output above 1.0 V for 100 ms turns the stage off with a DC fault. -/
  | speakerDcFault (speaker : Fin 8)
  /-- `SPEAKER_FAULT_CLEAR` (R411): A write of SP_CTRL.CLEAR clears a latched speaker fault. -/
  | speakerFaultClear (ag : Agent) (speaker : Fin 8) (v : Word)
  /-- `INTERRUPT_LEVEL_CHANGE` (R419): A source's level reaches the interrupt controller. -/
  | interruptLevelChange (source : Fin 512)
  /-- `INTERRUPT_DECISION` (R426): Each fabric cycle the controller assigns pending sources to enabled targets and
  signals targets. -/
  | interruptDecision
  /-- `INTERRUPT_CLAIM` (R427): A read of IR_CLAIM atomically returns and puts in service the highest pending source
  above the running priority. -/
  | interruptClaim (ag : Agent) (page : BitVec 12)
  /-- `INTERRUPT_COMPLETE` (R428): Writing 1 to bit k of IR_INSVC ends service of that source and samples its level. -/
  | interruptComplete (ag : Agent) (page : BitVec 12) (bits : BitVec 16)
  /-- `MSIX_UNMASK` (R426): Clearing a vector's mask sends a pending MSI-X message if its condition still holds. -/
  | msixUnmask (ag : Agent) (addr : BitVec 24) (v : Word)
  /-- `ORPHAN` (R430): A pending source with no enabled target for 1 ms is reported once as an orphan. -/
  | orphan (source : Fin 512)
  /-- `CHECK_VALUE_STREAM` (R434): A GO in STREAM mode computes one CRC over LEN bytes. -/
  | checkValueStream (ag : Agent) (engine : Fin 8)
  /-- `CHECK_VALUE_MESSAGES` (R436): A GO in MESSAGES mode checks each message's CRC and classifies its alive counter. -/
  | checkValueMessages (ag : Agent) (engine : Fin 8)
  /-- `CHECK_VALUE_RUN_END` (R434): A check-value run ends with OK, RANGE or read error and sets DONE. -/
  | checkValueRunEnd (engine : Fin 8) (readErrorAt : Option Nat)
  /-- `POWER_CHANGE_START` (R446): A power set starts as a change: rails rise, quads drain, clocks move, rails fall
  and the sleep part runs. -/
  | powerChangeStart
  /-- `PMBUS_TRANSACTION_END` (R447): A PMBus transaction completes or is retried after NAK, PEC failure or lost
  arbitration. -/
  | pmbusTransactionEnd (outcome : BusOutcome)
  /-- `PMBUS_TIMEOUT` (R447): A PMBus transaction does not complete within RG_TMO.BUS and fails. -/
  | pmbusTimeout
  /-- `REGULATOR_ACK` (R448): A regulator's acknowledge input reaches the commanded level and the change proceeds. -/
  | regulatorAck (rail : Fin 3)
  /-- `REGULATOR_ACK_TIMEOUT` (R448): The acknowledgement wait expires; the change ends TIMEOUT and the rail is marked
  UNSURE. -/
  | regulatorAckTimeout
  /-- `PM_WARD_REQ` (R453): The ward world requests a power set with its TARGET through PM_WARD_REQ. -/
  | pmWardReq (ag : Agent) (target : Fin 8)
  /-- `REGION_POWER_OFF` (R450): Setting PM_GATE.OFF isolates a region and removes its power, or is refused for a
  claimed region. -/
  | regionPowerOff (ag : Agent) (region : Fin 16) (v : Word)
  /-- `REGION_CLOCK_STOP` (R450): Setting PM_GATE.CLKSTOP stops a region's clocks. -/
  | regionClockStop (ag : Agent) (region : Fin 16) (v : Word)
  /-- `CLUSTER_RESET_HOLD` (R450): RSTHOLD bits hold clusters of a region in reset. -/
  | clusterResetHold (ag : Agent) (region : Fin 16) (v : Word)
  /-- `THERMAL_LIMIT` (R451): The highest Core-die sensor reaches LIMIT; THERM sets and a capped change is queued. -/
  | thermalLimit (celsius : Int)
  /-- `THERMAL_CLEAR` (R451): The sensor falls 5 °C below LIMIT and THERM clears. -/
  | thermalClear (celsius : Int)
  /-- `SLEEP_LEDGER_TIMEOUT` (R454): A sleep entry waiting for the ledger to empty for 100 ms ends LEDGER_BUSY and is
  undone. -/
  | sleepLedgerTimeout
  /-- `WAKE_EVENT` (R455): An enabled wake source fires; it wins a race before the point of no return or starts exit
  from sleep. -/
  | wakeEvent (source : Fin 5)
  /-- `I2C_WAKE_MATCH` (R457): The I2C wake target matches its address, ACKs it and raises a wake event. -/
  | i2cWakeMatch (addr : BitVec 7)
  /-- `RTC_ALARM` (R458): The RTC counter equals RTC_ALM and raises a wake event. -/
  | rtcAlarm
  /-- `HINGE_POWER_UP` (R504): VDD_HINGE reaches 1.71 V; the hinge domain starts device time and raises MAIN_EN. -/
  | hingePowerUp
  /-- `HINGE_POWER_LOSS` (R459): Loss of VDD_HINGE resets the hinge domain, releases the by-pass hold and restarts
  device time from 0. -/
  | hingePowerLoss
  /-- `RING_PORT_SEEK` (R460): 3 ms after the by-pass hold is asserted a ring port starts transmitting idle and seeks. -/
  | ringPortSeek (port : Fin 2)
  /-- `RING_PORT_UP` (R460): A ring port sees 64 aligned valid symbols and goes UP. -/
  | ringPortUp (port : Fin 2)
  /-- `RING_PORT_DOWN` (R460): Code errors or 10 µs without valid symbols return a ring port to SEEK. -/
  | ringPortDown (port : Fin 2) (codeErrors : Nat)
  /-- `RING_FRAME_FORWARD` (R463): A received ring frame is checked, forwarded by cut-through and tested for
  acceptance. -/
  | ringFrameForward (port : Fin 2) (bytes : List Nat) (sinceNs residNs : Nat)
  /-- `BEACON` (R462): A BEACON frame is accepted. -/
  | beacon
  /-- `TIME` (R465): An accepted TIME frame updates the offset, the trim and SYNC. -/
  | time
  /-- `LINK_DELAY` (R465): A LINK_DELAY request is answered with TURN, or a response updates the link delay. -/
  | linkDelay
  /-- `EMERGENCY` (R464): An authenticated EMERGENCY frame is held, stamped and raised to the ward world. -/
  | emergency
  /-- `EMERGENCY_CLEAR` (R464): An authenticated EMERGENCY_CLEAR frame is held and raised to the ward world. -/
  | emergencyClear
  /-- `ALERT` (R467): An accepted ALERT frame enters the receive queue or is dropped when full. -/
  | alert
  /-- `SERVICE` (R467): An accepted SERVICE frame enters the receive queue or is dropped when full. -/
  | service
  /-- `BEACON_SEND` (R462): Every 100 ms the node sends a BEACON frame. -/
  | beaconSend
  /-- `TIME_SEND` (R465): Every 1 ms the time master sends a TIME frame. -/
  | timeSend
  /-- `LINK_DELAY_SEND` (R465): Every 100 ms each UP port sends a LINK_DELAY request. -/
  | linkDelaySend (port : Fin 2)
  /-- `TIME_SYNC_TIMEOUT` (R465): 64 ms without an accepted TIME frame clears SYNC. -/
  | timeSyncTimeout
  /-- `BYPASS_HOLD_SET` (R466): Writing RB_CTRL.HOLD to 1 with NODE set raises the by-pass hold. -/
  | bypassHoldSet (ag : Agent) (v : Word)
  /-- `BYPASS_HOLD_RELEASE` (R466): Writing HOLD to 0 sends ALERT CODE 3 and lowers the hold output. -/
  | bypassHoldRelease (ag : Agent) (v : Word)
  /-- `RING_TX_GO` (R467): A GO on RB_TX sends the frame in RB_TXk with SRC, HOPS, ALIVE, MAC and CRC filled in, or is
  refused. -/
  | ringTxGo (ag : Agent) (v : Word)
  /-- `RING_RX_POP` (R467): A write of RB_RX.POP removes the head frame of the receive queue. -/
  | ringRxPop (ag : Agent) (v : Word)
  /-- `FAULT_RECOVERY_END` (R476): A fault's recovery ends and a CLOSED record is written. -/
  | faultRecoveryEnd (seq : BitVec 32)
  /-- `RECOVERY_TIMEOUT` (R475): A recovery overruns its bound and a CAUSE 17 fault opens one level higher. -/
  | recoveryTimeout (seq : BitVec 32)
  /-- `JUNCTION_OVERTEMP` (R474): A die's junction sensor reaches 125 °C and a THERMAL die-level fault opens. -/
  | junctionOvertemp (die : Fin 3) (celsius : Int)
  /-- `THERMAL_RESET_RELEASE` (R478): After a THERMAL hold the sensors fall below their release temperature and reset
  is released. -/
  | thermalResetRelease (core port drive : Int)
  /-- `FAULT_LOG_POP` (R493): A write of FT_POP removes the oldest unread fault record. -/
  | faultLogPop (ag : Agent)
  /-- `FAULT_INJECT` (R493): A keyed GO on FT_INJECT opens a CAUSE 18 fault on the named page's unit. -/
  | faultInject (ag : Agent) (page : BitVec 12) (key : BitVec 16)
  /-- `LOOPBACK_GO` (R489): A keyed GO on LB_GO starts a loop-back test on an instance, or is refused outside its
  condition. -/
  | loopbackGo (ag : Agent) (key : BitVec 16)
  /-- `LOOPBACK_ABORT` (R490): A write of LB_GO.ABORT ends the running test ABORTED. -/
  | loopbackAbort (ag : Agent)
  /-- `LOOPBACK_END` (R488): A loop-back test ends with PASS, ERRORS, NO_LOCK, OUT_OF_RANGE or SENT. -/
  | loopbackEnd (locked : Bool) (errors : Nat) (lane : Fin 128) (done : Nat) (value index : BitVec 16)
  /-- `POWER_GOOD_FALL` (R505): PWR_GOOD falls; in S0 to S2 the dies are isolated and reset and the by-pass hold is
  released. -/
  | powerGoodFall
  /-- `CONFIGURATION_REQUEST` (R124): A host configuration request to a PF or VF is answered with CRS before the lock,
  or reads or writes configuration space such as MSI-X Enable, Function Mask or the power state. -/
  | configurationRequest (port : Fin 4) (vf : Option (Fin 64)) (op : CfgOp)
  /-- `PORT_DL_UP` (R423): A port's PCIe data link comes up, HP_LINK shows the speed and width, and the PF target may
  become enabled. -/
  | portDlUp (port : Fin 4) (speed : Fin 8) (width : Fin 16)
  /-- `WARD_TOUCH_MAILBOX_READ` (R362): Ward firmware reads records from a port's ward touch mailbox through the ward-
  private interface, freeing them and lowering the WARD_TOUCH source when it is empty. -/
  | wardTouchMailboxRead (port : Fin 8) (n : Nat)
  /-- `RING_FRAME_SENT` (R467): A frame the node sends finishes leaving on the ring line; RB_TX.BUSY clears, and after
  a release ALERT the by-pass hold output falls. -/
  | ringFrameSent (port : Fin 2)
  /-- `FAULT_WINDOW_END` (R481): A fault's escalation window runs out, and FT_STAT.WINDOW and FT_WEND are updated. -/
  | faultWindowEnd
  /-- `RTC_CRYSTAL_STOP` (R458): The RTC crystal gives no edge for 1 ms and RTC_CTRL.OSC_OK falls to 0. -/
  | rtcCrystalStop
  /-- `RTC_CRYSTAL_START` (R509): The RTC crystal starts or resumes giving edges and OSC_OK returns to 1. -/
  | rtcCrystalStart
  /-- `UNSUPPORTED_SPDM_REQUEST` (R136): A DOE SPDM object carrying a request the device does not support, such as
  PSK_EXCHANGE, SET_CERTIFICATE, GET_CSR or a chunked message, is answered with an error. -/
  | unsupportedSpdmRequest (port : Fin 4) (code : BitVec 8)
  deriving DecidableEq, Repr

end Sys2Proof
end

