-- ==== Sys2Proof/Config.lean ====
section
/-! DEFINITION. What the spec leaves open, as constants without a body: nothing in Lean can evaluate one, and a claim
that names one holds whatever its value. The `Nat` called `n` is the state's counter `fresh`, so that two takings need
not agree. Each is named in a row of the assumption log. -/

namespace Sys2Proof.Config

/-- How far behind the time master a stamp of cluster `c` lies, in ns; the reader holds it to 0 to 64 (R88). -/
opaque stampLag (c n : Nat) : Nat

/-- Beats of response buffer that an initiator port holds, and requests that a channel of a class at a target has credits
for (R91, R92). Every port holds one burst of R100 and every channel one credit at least. -/
opaque responseBeats (port : Nat) : Nat
opaque channelCredits (target cls : Nat) : Nat

/-- The row that the fuses put on spare `k` of SRAM `s` at manufacturing test; entry 8 × s + k (R229). -/
opaque fusedRow (entry : Nat) : Option (BitVec 16)

/-- A byte of DRAM that nothing has written since the `e`-th loss of its contents (R478). -/
opaque lostByte (e a : Nat) : BitVec 8

/-- The draw of a channel's 31-bit neighbour-refresh generator at an activate (R216). -/
opaque nrDraw (channel n : Nat) : BitVec 31

/-- The colour of an index of a strike window that runs beyond palette entry 255 (R297). -/
opaque paletteBeyond (h i : Nat) : BitVec 32

/-- Byte `i` of the 48 bytes of the unique device secret in the fuses (R131). -/
opaque uds (i : Nat) : BitVec 8

/-- The P-384 public key of a private key: X and Y, most significant byte first (R132). -/
opaque publicKey (d : Nat) : BitVec 768

/-- The lock-step self-test of the ward pair passes, in a boot that follows no power-good event (R123, R130). -/
opaque selfTest (n : Nat) : Bool

/-- The part's ordering code is IBX8640-B0-E, which accepts evaluation keys ("Ordering code"). -/
opaque evaluationPart : Bool

/-- The certificates of the Horhaja root and of the device CA, and the device certificate that one-time storage holds, for
the identity public key and whether the part accepts evaluation firmware keys (R134). -/
opaque rootCert : List Nat
opaque caCert : List Nat
opaque deviceCert (identityKey : List Nat) (evaluation : Bool) : List Nat

/-- The X.509 v3 form of the alias certificate without its signature: the alias public key; the TcbInfo extension with M,
SVN, vendor, model and layer; and the private extension with KEYID (R133). -/
opaque aliasBody (aliasKey m : List Nat) (svn : Nat) (vendor model : String) (layer keyId : Nat) : List Nat

/-- The SHA-384 measurement of the boot ROM (R137). -/
opaque romMeasure : List Nat

/-- The code in measurement block 7 of the part's ordering code (R137). -/
opaque orderingCode (evaluation : Bool) : BitVec 32

/-- What the responder draws or computes and the spec gives no value of: its nonces, its key exchange data and its
signatures by a private key over some bytes (R136). -/
opaque drawn (what n : Nat) : List Nat
opaque signed (key : Nat) (bytes : List Nat) (n : Nat) : List Nat

/-- The number that stands where a computation of the renderer meets an infinity or a NaN, from its binary32 pattern (R248,
R249). -/
opaque oddFloat (v : Nat) : Int

/-- The primitives that a 1 KiB block of a tile list holds; every block holds one at least (R257). -/
opaque listEntries : Nat

/-- A byte that binning leaves in the pool (R257), and one of a tile whose LOAD leaves it undefined. -/
opaque poolByte (n i : Nat) : BitVec 8
opaque tileByte (n i : Nat) : BitVec 64

/-- A byte of a residency map that has changed since it was cached is taken as it is now, not as it was (R256). -/
opaque mapNew (n : Nat) : Bool

/-- A byte that a shader reads outside the extent of a level of a texture or an image. -/
opaque beyondTexel (n i : Nat) : BitVec 8

/-- The ECDSA P-384 signature over header bytes 0 to 127 verifies with the key of a KEYID (R126, R129). -/
opaque sigOk (keyId : Nat) (header : List Nat) : Bool

end Sys2Proof.Config
end

