-- ==== Sys2Proof/Machine/Bits.lean ====
section
/-! DEFINITION. Bit fields, two's complement, byte order and the check values that several chapters use. -/

namespace Sys2Proof.Machine

/-- Bits `[lo + w - 1 : lo]` of a number. -/
def bits (v lo w : Nat) : Nat := v / 2 ^ lo % 2 ^ w

/-- Bit `i` of a number. -/
def bit (v i : Nat) : Bool := v.testBit i

/-- A number with bits `[lo + w - 1 : lo]` replaced by the low `w` bits of `x`. -/
def setBits (v lo w x : Nat) : Nat := v - bits v lo w * 2 ^ lo + x % 2 ^ w * 2 ^ lo

/-- One or zero. -/
def b2n (b : Bool) : Nat := if b then 1 else 0

/-- The signed value of a `w`-bit two's complement number. -/
def sx (w v : Nat) : Int := if v % 2 ^ w < 2 ^ (w - 1) then (v % 2 ^ w : Nat) else ((v % 2 ^ w : Nat) : Int) - 2 ^ w

/-- The `w`-bit two's complement pattern of an integer. -/
def ux (w : Nat) (i : Int) : Nat := (i % (2 ^ w : Int)).toNat

/-- An integer held to a closed range. -/
def clampI (lo hi i : Int) : Int := if i < lo then lo else if hi < i then hi else i

/-- A natural number held below a ceiling. -/
def sat (m n : Nat) : Nat := if m < n then m else n

/-- Rounded up division; 0 by 0 is 0. -/
def ceilDiv (a b : Nat) : Nat := (a + (b - 1)) / b

/-- The `n` low bytes of a number, least significant first. -/
def bytesLE : Nat → Nat → List Nat
  | 0, _ => []
  | n + 1, v => v % 256 :: bytesLE n (v / 256)

/-- The number that bytes spell, least significant first. -/
def ofBytesLE : List Nat → Nat
  | [] => 0
  | b :: r => b % 256 + 256 * ofBytesLE r

/-- The number that bytes spell, most significant first. -/
def ofBytesBE (l : List Nat) : Nat := l.foldl (fun a b => 256 * a + b % 256) 0

/-- The first `n` elements, padded with a default. -/
def takePad {α : Type} (d : α) : Nat → List α → List α
  | 0, _ => []
  | n + 1, [] => d :: takePad d n []
  | n + 1, a :: r => a :: takePad d n r

/-- A list with element `i` replaced; unchanged when `i` is beyond its end. -/
def setAt {α : Type} : List α → Nat → α → List α
  | [], _, _ => []
  | _ :: r, 0, x => x :: r
  | a :: r, i + 1, x => a :: setAt r i x

/-- Numbers `a`, `a+1`, … , `n` of them. -/
def upFrom (a : Nat) : Nat → List Nat
  | 0 => []
  | n + 1 => a :: upFrom (a + 1) n

/-- Apply a function for every number of a list, left to right. -/
def forAll {α σ : Type} (l : List α) (f : α → σ → σ) (s : σ) : σ := l.foldl (fun t a => f a t) s

/-- Apply `f` `n` times. -/
def iterate {σ : Type} : Nat → (σ → σ) → σ → σ
  | 0, _, s => s
  | n + 1, f, s => iterate n f (f s)

/-- One shift of a most-significant-first CRC register of `w` bits. -/
def crcShift (w poly : Nat) (c : Nat) : Nat :=
  let s := c * 2 % 2 ^ w
  if c.testBit (w - 1) then s ^^^ poly else s

/-- A most-significant-first CRC over bytes. -/
def crcMsb (w poly init : Nat) (bs : List Nat) : Nat :=
  bs.foldl (fun c b => iterate 8 (crcShift w poly) (c ^^^ (b % 256) * 2 ^ (w - 8))) init

/-- The CRC-16 of R65: polynomial 0x1021, initial value 0xFFFF, no reflection, no final XOR. -/
def crc16 (bs : List Nat) : Nat := crcMsb 16 0x1021 0xFFFF bs

/-- One shift of a least-significant-first (reflected) CRC register; `rpoly` is the reflected polynomial. -/
def crcShiftR (rpoly c : Nat) : Nat := if c % 2 = 1 then c / 2 ^^^ rpoly else c / 2

/-- A reflected CRC over bytes, before any final XOR. -/
def crcLsb (rpoly init : Nat) (bs : List Nat) : Nat :=
  bs.foldl (fun c b => iterate 8 (crcShiftR rpoly) (c ^^^ (b % 256))) init

end Sys2Proof.Machine
end

