-- ==== Sys2Proof/Machine/Regs.lean ====
section
/-! DEFINITION. What a register table of the spec says of one field (R39 and the register tables of every chapter):
its offset, its bits, who may write it and how, its reset value, when a write takes effect, and how often it repeats. -/

namespace Sys2Proof.Machine

/-- The access codes of the register tables. `rwk`: a read-write field that `PAGE_LOCK` protects (R59). -/
inductive Acc where
  | ro | rw | w1c | w1s | wo | rwk
  deriving DecidableEq, Repr

/-- The effect classes of R48 to R50; `none` where the table gives a dash. -/
inductive Cls where
  | none | l | s | x
  deriving DecidableEq, Repr

/-- How the reset value of a repeated register depends on its index: not at all, by adding the index (`RG_CFGr`), or 1
at every fourth index and 0 elsewhere (the slot wheel, R119). -/
inductive RstRule where
  | const | plusIndex | everyFourth
  deriving DecidableEq, Repr

/-- One field of a register table. Index `i` of a repeated register lies `i * stride` above `off`. -/
structure FD where
  off : Nat
  lo : Nat
  w : Nat
  acc : Acc
  rst : Nat
  cls : Cls
  n : Nat
  stride : Nat
  rule : RstRule
  deriving DecidableEq, Repr

/-- The reset value of index `i` of a field. -/
def FD.rstAt (f : FD) (i : Nat) : Nat :=
  match f.rule with
  | .const => f.rst
  | .plusIndex => f.rst + i
  | .everyFourth => if i % 4 = 0 then 1 else 0

/-- The byte offset of index `i` of a field's register. -/
def FD.at (f : FD) (i : Nat) : Nat := f.off + f.stride * i

/-- The key of a field of a page in the register store: the bit address of its lowest bit. -/
def fieldKey (pid : Nat) (f : FD) (i : Nat) : Nat := (4096 * pid + f.at i) * 8 + f.lo

/-- The page of a key. -/
def keyPage (k : Nat) : Nat := k / 32768

/-- The index of a field's register at a byte offset, when the offset is one of its registers'. -/
def FD.index? (f : FD) (off : Nat) : Option Nat :=
  if off = f.off then some 0
  else if f.stride = 0 ∨ off < f.off then none
  else if (off - f.off) % f.stride = 0 ∧ (off - f.off) / f.stride < f.n then some ((off - f.off) / f.stride)
  else none

end Sys2Proof.Machine
end

