-- ==== Sys2Proof/Machine/Fields.lean ====
section
/-! DEFINITION. The register map of the IBX8640: one descriptor for every field of every register table of the
spec, in the tables' own order, and one list per table. Offsets, bit ranges, access codes, reset values and effect
classes are the tables'. A register with an index is one descriptor with a count and a stride; a block table's
base is added in. Where the reset column says the value is the page's, block's or VI's own, the read computes it. -/

namespace Sys2Proof.Machine

namespace F

/-! Rule R33 (01_bolt_class_and_periods.md). -/

def CLS_RESV_BOLT : FD := ⟨0x040, 0, 6, .ro, 4, .none, 1, 0, .const⟩
def CLS_RESV_LATCH : FD := ⟨0x040, 8, 6, .ro, 0, .none, 1, 0, .const⟩
def CLS_RESV_BULK : FD := ⟨0x040, 16, 6, .ro, 0x3c, .none, 1, 0, .const⟩
def CLS_ADM_RESULT : FD := ⟨0x044, 0, 2, .ro, 0, .none, 1, 0, .const⟩
def CLS_ADM_HEAD : FD := ⟨0x044, 4, 3, .ro, 0, .none, 1, 0, .const⟩
def CLS_ADM_DEFICIT : FD := ⟨0x044, 16, 16, .ro, 0, .none, 1, 0, .const⟩
def CLS_ADM_CNT_ADMITTED : FD := ⟨0x048, 0, 16, .ro, 0, .none, 1, 0, .const⟩
def CLS_ADM_CNT_REFUSED : FD := ⟨0x048, 16, 16, .ro, 0, .none, 1, 0, .const⟩
def CLS_BMON_CLR_CLR : FD := ⟨0x04C, 0, 8, .wo, 0, .l, 1, 0, .const⟩
def CLS_BMON_CNT_COUNT : FD := ⟨0x060, 0, 16, .ro, 0, .none, 8, 4, .const⟩
def CLS_BMON_WORST_WORST : FD := ⟨0x080, 0, 32, .ro, 0, .none, 8, 4, .const⟩
def CLS_HEADRES_SLOTS : FD := ⟨0x0C0, 0, 4, .ro, 0, .none, 8, 4, .const⟩
def CLS_HEADRES_USED : FD := ⟨0x0C0, 16, 16, .ro, 0, .none, 8, 4, .const⟩

/-! Rule R34 (01_bolt_class_and_periods.md). -/

def PS_STAT_ARMED : FD := ⟨0x040, 0, 9, .ro, 0, .none, 1, 0, .const⟩
def PS_STAT_OPEN : FD := ⟨0x040, 16, 9, .ro, 0, .none, 1, 0, .const⟩
def PS_DROPS_TOTAL : FD := ⟨0x044, 0, 32, .ro, 0, .none, 1, 0, .const⟩
def PS_LASTDROP_ENTRY : FD := ⟨0x048, 0, 8, .ro, 0, .none, 1, 0, .const⟩
def PS_LASTDROP_KIND : FD := ⟨0x048, 8, 3, .ro, 0, .none, 1, 0, .const⟩
def PS_SHARE_VI_ENTRIES : FD := ⟨0x04C, 0, 8, .ro, 0, .none, 1, 0, .const⟩
def PS_SHARE_DEV_ENTRIES : FD := ⟨0x04C, 8, 8, .ro, 0x40, .none, 1, 0, .const⟩

/-! Rule R35 (01_bolt_class_and_periods.md). -/

def PE_CTRL_ARMED : FD := ⟨0x800, 0, 1, .rw, 0, .l, 64, 32, .const⟩
def PE_CTRL_KIND : FD := ⟨0x800, 1, 3, .rw, 0, .x, 64, 32, .const⟩
def PE_CTRL_OWNER : FD := ⟨0x800, 4, 6, .ro, 0, .none, 64, 32, .const⟩
def PE_CTRL_DEV : FD := ⟨0x800, 10, 1, .ro, 0, .none, 64, 32, .const⟩
def PE_CTRL_GEN : FD := ⟨0x800, 16, 8, .ro, 0, .none, 64, 32, .const⟩
def PE_CTRL_STATE : FD := ⟨0x800, 24, 3, .ro, 0, .none, 64, 32, .const⟩
def PE_PERIOD_PERIOD : FD := ⟨0x804, 0, 24, .rw, 0, .x, 64, 32, .const⟩
def PE_DEADLINE_DEADLINE : FD := ⟨0x808, 0, 24, .rw, 0, .x, 64, 32, .const⟩
def PE_TARGET_HANDLE : FD := ⟨0x80C, 0, 32, .rw, 0, .x, 64, 32, .const⟩
def PE_START_LO_START : FD := ⟨0x810, 0, 32, .rw, 0, .x, 64, 32, .const⟩
def PE_START_HI_START : FD := ⟨0x814, 0, 32, .rw, 0, .x, 64, 32, .const⟩
def PE_FENCE_FENCE : FD := ⟨0x818, 0, 32, .rw, 0xffffffff, .x, 64, 32, .const⟩
def PE_COUNT_DONE : FD := ⟨0x81C, 0, 16, .ro, 0, .none, 64, 32, .const⟩
def PE_COUNT_DROPPED : FD := ⟨0x81C, 16, 16, .ro, 0, .none, 64, 32, .const⟩

/-! Rule R36 (01_bolt_class_and_periods.md). -/

def PV_BANK_BANK : FD := ⟨0x040, 0, 2, .rw, 0, .l, 1, 0, .const⟩
def PV_BANK_COUNT : FD := ⟨0x040, 8, 8, .ro, 0, .none, 1, 0, .const⟩
def PV_BANK_FIRST : FD := ⟨0x040, 16, 8, .ro, 0, .none, 1, 0, .const⟩

/-! Rule R39 (02_register_pages_and_ledger.md). -/

def PAGE_ID_INSTANCE : FD := ⟨0x000, 0, 8, .ro, 0, .none, 1, 0, .const⟩
def PAGE_ID_TYPE : FD := ⟨0x000, 8, 12, .ro, 0, .none, 1, 0, .const⟩
def PAGE_ID_INDEX : FD := ⟨0x000, 20, 12, .ro, 0, .none, 1, 0, .const⟩
def PAGE_VER_MINOR : FD := ⟨0x004, 0, 8, .ro, 0, .none, 1, 0, .const⟩
def PAGE_VER_MAJOR : FD := ⟨0x004, 8, 8, .ro, 1, .none, 1, 0, .const⟩
def PAGE_CAP_SHADOW : FD := ⟨0x008, 0, 1, .ro, 0, .none, 1, 0, .const⟩
def PAGE_CAP_BOUNDARY : FD := ⟨0x008, 1, 1, .ro, 0, .none, 1, 0, .const⟩
def PAGE_CAP_NOWRUN : FD := ⟨0x008, 2, 1, .ro, 0, .none, 1, 0, .const⟩
def PAGE_CAP_RUNSTATE : FD := ⟨0x008, 3, 1, .ro, 0, .none, 1, 0, .const⟩
def PAGE_CAP_BLOCK : FD := ⟨0x008, 8, 8, .ro, 0, .none, 1, 0, .const⟩
def PAGE_STAT_RUN : FD := ⟨0x00C, 0, 1, .ro, 0, .none, 1, 0, .const⟩
def PAGE_STAT_BUSY : FD := ⟨0x00C, 1, 1, .ro, 0, .none, 1, 0, .const⟩
def PAGE_STAT_COMMIT_PENDING : FD := ⟨0x00C, 2, 1, .ro, 0, .none, 1, 0, .const⟩
def PAGE_STAT_LOCKED : FD := ⟨0x00C, 3, 1, .ro, 0, .none, 1, 0, .const⟩
def PAGE_STAT_FAULT : FD := ⟨0x00C, 4, 3, .ro, 0, .none, 1, 0, .const⟩
def PAGE_ERR_COMMON : FD := ⟨0x010, 0, 10, .w1c, 0, .l, 1, 0, .const⟩
def PAGE_ERR_BLOCK : FD := ⟨0x010, 10, 6, .w1c, 0, .l, 1, 0, .const⟩
def PAGE_ERREN_COMMON : FD := ⟨0x014, 0, 10, .rw, 0x3ff, .l, 1, 0, .const⟩
def PAGE_ERREN_BLOCK : FD := ⟨0x014, 10, 6, .rw, 0, .l, 1, 0, .const⟩
def PAGE_OWNER_WORLD : FD := ⟨0x018, 0, 2, .ro, 0, .none, 1, 0, .const⟩
def PAGE_OWNER_PORT : FD := ⟨0x018, 2, 2, .ro, 0, .none, 1, 0, .const⟩
def PAGE_OWNER_VI : FD := ⟨0x018, 4, 6, .ro, 0, .none, 1, 0, .const⟩
def PAGE_OWNER_ALLPF : FD := ⟨0x018, 11, 1, .ro, 0, .none, 1, 0, .const⟩
def PAGE_LOCK_LOCK : FD := ⟨0x01C, 0, 1, .w1s, 0, .l, 1, 0, .const⟩
def PAGE_LOCK_LEDGER : FD := ⟨0x01C, 1, 1, .ro, 0, .none, 1, 0, .const⟩
def PAGE_LOCK_HINGE : FD := ⟨0x01C, 2, 1, .ro, 0, .none, 1, 0, .const⟩
def PAGE_COMMIT_NOW : FD := ⟨0x020, 0, 1, .wo, 0, .l, 1, 0, .const⟩
def PAGE_COMMIT_AT_BOUNDARY : FD := ⟨0x020, 1, 1, .wo, 0, .l, 1, 0, .const⟩
def PAGE_COMMIT_REVERT : FD := ⟨0x020, 2, 1, .wo, 0, .l, 1, 0, .const⟩
def PAGE_COMMIT_KEY : FD := ⟨0x020, 16, 16, .wo, 0, .l, 1, 0, .const⟩
def PAGE_CSTAT_DONE : FD := ⟨0x024, 0, 1, .ro, 0, .none, 1, 0, .const⟩
def PAGE_CSTAT_REJECT : FD := ⟨0x024, 1, 1, .ro, 0, .none, 1, 0, .const⟩
def PAGE_CSTAT_REASON : FD := ⟨0x024, 4, 4, .ro, 0, .none, 1, 0, .const⟩
def PAGE_CSTAT_COUNT : FD := ⟨0x024, 16, 16, .ro, 0, .none, 1, 0, .const⟩
def PAGE_CHG_COUNT : FD := ⟨0x028, 0, 32, .ro, 0, .none, 1, 0, .const⟩
def PAGE_LASTW_ORIGIN : FD := ⟨0x02C, 0, 24, .ro, 0, .none, 1, 0, .const⟩

/-! Rule R75 (02_register_pages_and_ledger.md). -/

def LED_CTRL_DRAIN_EN : FD := ⟨0x040, 0, 1, .rw, 0, .l, 1, 0, .const⟩
def LED_CTRL_WM : FD := ⟨0x040, 4, 8, .rw, 0xc0, .l, 1, 0, .const⟩
def LED_STAT_FILL : FD := ⟨0x044, 0, 12, .ro, 0, .none, 1, 0, .const⟩
def LED_STAT_CKQ : FD := ⟨0x044, 12, 4, .ro, 0, .none, 1, 0, .const⟩
def LED_STAT_STALL : FD := ⟨0x044, 16, 1, .ro, 0, .none, 1, 0, .const⟩
def LED_STAT_DRAINING : FD := ⟨0x044, 17, 1, .ro, 0, .none, 1, 0, .const⟩
def LED_SEQ_NEXT : FD := ⟨0x048, 0, 32, .ro, 0, .none, 1, 0, .const⟩
def LED_RING_LO_BASE : FD := ⟨0x050, 12, 20, .rw, 0, .x, 1, 0, .const⟩
def LED_RING_HI_BASE : FD := ⟨0x054, 0, 8, .rw, 0, .x, 1, 0, .const⟩
def LED_RING_SIZE_LOG2 : FD := ⟨0x058, 0, 5, .rw, 0x11, .x, 1, 0, .const⟩
def LED_RING_HEAD_OFFSET : FD := ⟨0x05C, 5, 25, .ro, 0, .none, 1, 0, .const⟩
def LED_RING_TAIL_OFFSET : FD := ⟨0x060, 5, 25, .rw, 0, .l, 1, 0, .const⟩
def LED_LOST_COUNT : FD := ⟨0x064, 0, 32, .ro, 0, .none, 1, 0, .const⟩
def LED_STALLS_COUNT : FD := ⟨0x068, 0, 32, .ro, 0, .none, 1, 0, .const⟩
def LED_CKPT_CTRL_SIGNED : FD := ⟨0x06C, 0, 1, .wo, 0, .l, 1, 0, .const⟩
def LED_CKPT_SEQ_FIRST : FD := ⟨0x070, 0, 32, .ro, 0, .none, 1, 0, .const⟩
def LED_NONCE_NONCE : FD := ⟨0x080, 0, 32, .rw, 0, .x, 8, 4, .const⟩
def LED_CKPT_HDR_HDR : FD := ⟨0x0A0, 0, 32, .ro, 0, .none, 8, 4, .const⟩
def LED_CKPT_HASH_HASH : FD := ⟨0x0C0, 0, 32, .ro, 0, .none, 12, 4, .const⟩
def LED_CKPT_SIG_SIG : FD := ⟨0x100, 0, 32, .rw, 0, .l, 24, 4, .const⟩

/-! Rule R117 (03_islands_fabric_and_arbiters.md). -/

def XB_MODE_MODE : FD := ⟨0x040, 0, 2, .ro, 0, .none, 1, 0, .const⟩
def XB_MODE_TEST_REQ : FD := ⟨0x040, 4, 1, .rw, 0, .l, 1, 0, .const⟩
def XB_TMO_MEM : FD := ⟨0x044, 0, 8, .rw, 0x40, .l, 1, 0, .const⟩
def XB_TMO_REG : FD := ⟨0x044, 8, 8, .rw, 0xc8, .l, 1, 0, .const⟩
def XB_ISO_ISO : FD := ⟨0x048, 0, 25, .ro, 0, .none, 1, 0, .const⟩
def XB_TMO_CNT_COUNT : FD := ⟨0x04C, 0, 32, .ro, 0, .none, 1, 0, .const⟩
def XB_LASTTMO_PORT : FD := ⟨0x050, 0, 5, .ro, 0, .none, 1, 0, .const⟩
def XB_LASTTMO_TARGET : FD := ⟨0x050, 8, 3, .ro, 0, .none, 1, 0, .const⟩
def XB_HS_CNT_COUNT : FD := ⟨0x054, 0, 16, .ro, 0, .none, 1, 0, .const⟩
def XB_LATE_CNT_COUNT : FD := ⟨0x058, 0, 16, .ro, 0, .none, 1, 0, .const⟩

/-! Rule R118 (03_islands_fabric_and_arbiters.md). -/

def ARB_PRIO_PRIO : FD := ⟨0x040, 0, 4, .rw, 8, .l, 25, 4, .const⟩
def ARB_PRIO_AGE : FD := ⟨0x040, 8, 8, .rw, 0x40, .l, 25, 4, .const⟩
def ARB_PRIO_WAITMAX : FD := ⟨0x040, 16, 16, .ro, 0, .none, 25, 4, .const⟩
def ARB_BURST_MAX : FD := ⟨0x0C0, 0, 4, .ro, 8, .none, 1, 0, .const⟩

/-! Rule R119 (03_islands_fabric_and_arbiters.md). -/

def SW_SLOT_OWNER0 : FD := ⟨0x040, 0, 5, .rw, 0, .s, 16, 4, .everyFourth⟩
def SW_SLOT_OWNER1 : FD := ⟨0x040, 8, 5, .rw, 0, .s, 16, 4, .const⟩
def SW_SLOT_OWNER2 : FD := ⟨0x040, 16, 5, .rw, 0, .s, 16, 4, .const⟩
def SW_SLOT_OWNER3 : FD := ⟨0x040, 24, 5, .rw, 0, .s, 16, 4, .const⟩
def SW_ACT_OWNER0 : FD := ⟨0x080, 0, 5, .ro, 0, .none, 16, 4, .everyFourth⟩
def SW_ACT_OWNER1 : FD := ⟨0x080, 8, 5, .ro, 0, .none, 16, 4, .const⟩
def SW_ACT_OWNER2 : FD := ⟨0x080, 16, 5, .ro, 0, .none, 16, 4, .const⟩
def SW_ACT_OWNER3 : FD := ⟨0x080, 24, 5, .ro, 0, .none, 16, 4, .const⟩
def SW_STAT_SLOT : FD := ⟨0x0C0, 0, 6, .ro, 0, .none, 1, 0, .const⟩
def SW_STAT_TURN : FD := ⟨0x0C0, 8, 24, .ro, 0, .none, 1, 0, .const⟩
def SW_RECLAIM_BOLT : FD := ⟨0x0C4, 0, 16, .ro, 0, .none, 1, 0, .const⟩
def SW_RECLAIM_LATCH : FD := ⟨0x0C4, 16, 16, .ro, 0, .none, 1, 0, .const⟩
def SW_WRAP_LO_TIME : FD := ⟨0x0C8, 0, 32, .ro, 0, .none, 1, 0, .const⟩
def SW_WRAP_HI_TIME : FD := ⟨0x0CC, 0, 32, .ro, 0, .none, 1, 0, .const⟩

/-! Rule R120 (03_islands_fabric_and_arbiters.md). -/

def ISL_SEL_CLUSTER : FD := ⟨0x040, 0, 8, .rw, 0, .l, 1, 0, .const⟩
def ISL_FREQ_MEAS : FD := ⟨0x044, 0, 12, .ro, 0, .none, 1, 0, .const⟩
def ISL_FREQ_TARGET : FD := ⟨0x044, 16, 12, .ro, 0, .none, 1, 0, .const⟩
def ISL_STRETCH_COUNT : FD := ⟨0x048, 0, 32, .ro, 0, .none, 1, 0, .const⟩

/-! Rule R121 (03_islands_fabric_and_arbiters.md). -/

def DT_NOW_LO_TIME : FD := ⟨0x040, 0, 32, .ro, 0, .none, 1, 0, .const⟩
def DT_NOW_HI_TIME : FD := ⟨0x044, 0, 32, .ro, 0, .none, 1, 0, .const⟩
def DT_CTRL_AUTO : FD := ⟨0x048, 0, 1, .rw, 0, .l, 1, 0, .const⟩
def DT_TRIM_PPB : FD := ⟨0x04C, 0, 19, .rw, 0, .l, 1, 0, .const⟩
def DT_SYNCTRIM_PPB : FD := ⟨0x050, 0, 19, .ro, 0, .none, 1, 0, .const⟩
def DT_STEP_NS : FD := ⟨0x054, 0, 32, .wo, 0, .x, 1, 0, .const⟩
def DT_STAT_SYNC : FD := ⟨0x058, 0, 1, .ro, 0, .none, 1, 0, .const⟩
def DT_STAT_CLAMP : FD := ⟨0x058, 1, 1, .ro, 0, .none, 1, 0, .const⟩
def DT_LINKOFS_NS : FD := ⟨0x05C, 0, 10, .ro, 0, .none, 1, 0, .const⟩

/-! Rule R122 (03_islands_fabric_and_arbiters.md). -/

def PL_CTRL_RETRAIN : FD := ⟨0x040, 0, 1, .wo, 0, .l, 1, 0, .const⟩
def PL_CTRL_SPARE_AUTO : FD := ⟨0x040, 1, 1, .rw, 1, .x, 1, 0, .const⟩
def PL_STAT_STATE : FD := ⟨0x044, 0, 3, .ro, 0, .none, 1, 0, .const⟩
def PL_STAT_LANES : FD := ⟨0x044, 8, 7, .ro, 0, .none, 1, 0, .const⟩
def PL_STAT_SPARES : FD := ⟨0x044, 16, 3, .ro, 0, .none, 1, 0, .const⟩
def PL_CRC_COUNT : FD := ⟨0x048, 0, 32, .ro, 0, .none, 1, 0, .const⟩
def PL_REPLAY_COUNT : FD := ⟨0x04C, 0, 32, .ro, 0, .none, 1, 0, .const⟩
def PL_LAT_NS : FD := ⟨0x050, 0, 10, .ro, 0, .none, 1, 0, .const⟩
def PL_SPARE_LANE : FD := ⟨0x060, 0, 7, .ro, 0, .none, 4, 4, .const⟩
def PL_SPARE_VALID : FD := ⟨0x060, 7, 1, .ro, 0, .none, 4, 4, .const⟩

/-! Rule R157 (04_boot_identity_and_worlds.md). -/

def HT_CTRL_LOCK : FD := ⟨0x040, 0, 1, .w1s, 0, .l, 1, 0, .const⟩
def HT_CTRL_KEY : FD := ⟨0x040, 16, 16, .wo, 0, .l, 1, 0, .const⟩
def HT_STAT_LOADED : FD := ⟨0x044, 0, 1, .ro, 0, .none, 1, 0, .const⟩
def HT_STAT_LOCKED : FD := ⟨0x044, 1, 1, .ro, 0, .none, 1, 0, .const⟩
def HT_STAT_NLOG2 : FD := ⟨0x044, 4, 3, .ro, 0, .none, 1, 0, .const⟩
def HT_STAT_SLOT : FD := ⟨0x044, 8, 1, .ro, 0, .none, 1, 0, .const⟩
def HT_LOCKT_LO_TIME : FD := ⟨0x048, 0, 32, .ro, 0, .none, 1, 0, .const⟩
def HT_LOCKT_HI_TIME : FD := ⟨0x04C, 0, 32, .ro, 0, .none, 1, 0, .const⟩
def HT_HASH_HASH : FD := ⟨0x050, 0, 32, .ro, 0, .none, 12, 4, .const⟩
def HT_CLAIM_MASK : FD := ⟨0x080, 0, 24, .ro, 0, .none, 1, 0, .const⟩
def HT_WARD_BASE : FD := ⟨0x084, 0, 16, .ro, 0, .none, 1, 0, .const⟩
def HT_WARD_SIZE : FD := ⟨0x084, 16, 16, .ro, 0, .none, 1, 0, .const⟩
def HT_OPEN_BASE : FD := ⟨0x088, 0, 16, .ro, 0, .none, 1, 0, .const⟩
def HT_OPEN_SIZE : FD := ⟨0x088, 16, 16, .ro, 0, .none, 1, 0, .const⟩

/-! Rule R158 (04_boot_identity_and_worlds.md). -/

def BOOT_STAT_STAGE : FD := ⟨0x040, 0, 4, .ro, 0, .none, 1, 0, .const⟩
def BOOT_STAT_SLOT : FD := ⟨0x040, 4, 1, .ro, 0, .none, 1, 0, .const⟩
def BOOT_STAT_FALLBACK : FD := ⟨0x040, 5, 1, .ro, 0, .none, 1, 0, .const⟩
def BOOT_STAT_FAILCODE : FD := ⟨0x040, 8, 8, .ro, 0, .none, 1, 0, .const⟩
def BOOT_STAT_KEYID : FD := ⟨0x040, 16, 2, .ro, 0, .none, 1, 0, .const⟩
def BOOT_SVN_SVN : FD := ⟨0x044, 0, 32, .ro, 0, .none, 1, 0, .const⟩
def BOOT_SAFE_US : FD := ⟨0x048, 0, 20, .ro, 0, .none, 1, 0, .const⟩
def WR_STAT_STATE : FD := ⟨0x050, 0, 3, .ro, 0, .none, 1, 0, .const⟩
def WR_STAT_CAUSE : FD := ⟨0x050, 4, 3, .ro, 0, .none, 1, 0, .const⟩
def WR_STAT_COUNT : FD := ⟨0x050, 16, 16, .ro, 0, .none, 1, 0, .const⟩
def WR_LAST_LO_TIME : FD := ⟨0x054, 0, 32, .ro, 0, .none, 1, 0, .const⟩
def WR_LAST_HI_TIME : FD := ⟨0x058, 0, 32, .ro, 0, .none, 1, 0, .const⟩
def WR_DUR_US : FD := ⟨0x05C, 0, 18, .ro, 0, .none, 1, 0, .const⟩
def BOOT_MEAS_HASH : FD := ⟨0x060, 0, 32, .ro, 0, .none, 12, 4, .const⟩

/-! Rule R159 (04_boot_identity_and_worlds.md). -/

def WDG_CTRL_EN : FD := ⟨0x040, 0, 1, .w1s, 0, .l, 1, 0, .const⟩
def WDG_CTRL_TIMEOUT : FD := ⟨0x040, 8, 8, .rw, 0x32, .l, 1, 0, .const⟩
def WDG_STAT_REMAIN : FD := ⟨0x044, 0, 8, .ro, 0, .none, 1, 0, .const⟩
def WDG_REQ_RESTART : FD := ⟨0x048, 0, 1, .wo, 0, .l, 1, 0, .const⟩
def WDG_REQ_KEY : FD := ⟨0x048, 16, 16, .wo, 0, .l, 1, 0, .const⟩

/-! Rule R160 (04_boot_identity_and_worlds.md). -/

def MB_REQ_WORD : FD := ⟨0x040, 0, 32, .rw, 0, .x, 16, 4, .const⟩
def MB_RSP_WORD : FD := ⟨0x080, 0, 32, .ro, 0, .none, 16, 4, .const⟩
def MB_CTRL_GO : FD := ⟨0x0C0, 0, 1, .wo, 0, .l, 1, 0, .const⟩
def MB_STAT_STATE : FD := ⟨0x0C4, 0, 2, .ro, 0, .none, 1, 0, .const⟩
def MB_STAT_TAG : FD := ⟨0x0C4, 16, 16, .ro, 0, .none, 1, 0, .const⟩
def MB_LATE_COUNT : FD := ⟨0x0C8, 0, 16, .ro, 0, .none, 1, 0, .const⟩

/-! Rule R161 (04_boot_identity_and_worlds.md). -/

def OP_STAT_RUN : FD := ⟨0x040, 0, 3, .ro, 0, .none, 1, 0, .const⟩
def OP_STAT_HYP : FD := ⟨0x040, 4, 1, .ro, 0, .none, 1, 0, .const⟩
def OP_STAT_FW : FD := ⟨0x040, 5, 1, .ro, 0, .none, 1, 0, .const⟩
def OP_STAT_S2F : FD := ⟨0x040, 16, 16, .ro, 0, .none, 1, 0, .const⟩

/-! Rule R196 (05_host_ports_and_instances.md). -/

def HP_LINK_SPEED : FD := ⟨0x040, 0, 3, .ro, 0, .none, 1, 0, .const⟩
def HP_LINK_WIDTH : FD := ⟨0x040, 4, 4, .ro, 0, .none, 1, 0, .const⟩
def HP_LINK_DLUP : FD := ⟨0x040, 8, 1, .ro, 0, .none, 1, 0, .const⟩
def HP_VIMAP_LO_MAP : FD := ⟨0x044, 0, 32, .ro, 0, .none, 1, 0, .const⟩
def HP_VIMAP_HI_MAP : FD := ⟨0x048, 0, 32, .ro, 0, .none, 1, 0, .const⟩
def HP_VFS_TOTAL : FD := ⟨0x04C, 0, 6, .ro, 0, .none, 1, 0, .const⟩
def HP_VFS_NUM : FD := ⟨0x04C, 8, 6, .ro, 0, .none, 1, 0, .const⟩
def HP_RDERR_COUNT : FD := ⟨0x050, 0, 32, .ro, 0, .none, 1, 0, .const⟩
def HP_DMAERR_UR : FD := ⟨0x054, 0, 8, .ro, 0, .none, 1, 0, .const⟩
def HP_DMAERR_CA : FD := ⟨0x054, 8, 8, .ro, 0, .none, 1, 0, .const⟩
def HP_DMAERR_CTO : FD := ⟨0x054, 16, 8, .ro, 0, .none, 1, 0, .const⟩
def HP_DMAERR_POISON : FD := ⟨0x054, 24, 8, .ro, 0, .none, 1, 0, .const⟩
def HP_STALE_COUNT : FD := ⟨0x058, 0, 32, .ro, 0, .none, 1, 0, .const⟩
def HP_DRAM_BASE : FD := ⟨0x05C, 0, 16, .ro, 0, .none, 1, 0, .const⟩
def HP_DRAM_SIZE : FD := ⟨0x05C, 16, 16, .ro, 0, .none, 1, 0, .const⟩

/-! Rule R197 (05_host_ports_and_instances.md). -/

def PP_WIN_BASE : FD := ⟨0x040, 0, 16, .rwk, 0, .s, 4, 4, .const⟩
def PP_WIN_SIZE : FD := ⟨0x040, 16, 16, .rwk, 0, .s, 4, 4, .const⟩
def PP_REQ_VI : FD := ⟨0x050, 0, 6, .ro, 0, .none, 1, 0, .const⟩
def PP_REQ_PORT : FD := ⟨0x050, 8, 2, .ro, 0, .none, 1, 0, .const⟩
def PP_REQ_PENDING : FD := ⟨0x050, 15, 1, .ro, 0, .none, 1, 0, .const⟩
def PP_REQ_COUNT : FD := ⟨0x050, 16, 7, .ro, 0, .none, 1, 0, .const⟩
def PP_DECIDE_ACCEPT : FD := ⟨0x054, 0, 1, .wo, 0, .l, 1, 0, .const⟩
def PP_DECIDE_REFUSE : FD := ⟨0x054, 1, 1, .wo, 0, .l, 1, 0, .const⟩
def PP_DECIDE_KEY : FD := ⟨0x054, 16, 16, .wo, 0, .l, 1, 0, .const⟩
def PP_CREATED_COUNT : FD := ⟨0x058, 0, 32, .ro, 0, .none, 1, 0, .const⟩

/-! Rule R198 (05_host_ports_and_instances.md). -/

def VIH_CTRL_REQ : FD := ⟨0x040, 0, 3, .wo, 0, .l, 1, 0, .const⟩
def VIH_CTRL_KEY : FD := ⟨0x040, 16, 16, .wo, 0, .l, 1, 0, .const⟩
def VIH_STAT_STATE : FD := ⟨0x044, 0, 3, .ro, 0, .none, 1, 0, .const⟩
def VIH_STAT_GEN : FD := ⟨0x044, 8, 8, .ro, 1, .none, 1, 0, .const⟩
def VIH_STAT_REFUSE : FD := ⟨0x044, 16, 4, .ro, 0, .none, 1, 0, .const⟩
def VIH_STAT_OLDWORK : FD := ⟨0x044, 24, 1, .ro, 0, .none, 1, 0, .const⟩
def VIH_S2_LO_TARGET : FD := ⟨0x048, 0, 1, .rw, 0, .x, 1, 0, .const⟩
def VIH_S2_LO_BASE : FD := ⟨0x048, 12, 20, .rw, 0, .x, 1, 0, .const⟩
def VIH_S2_HI_BASE : FD := ⟨0x04C, 0, 20, .rw, 0, .x, 1, 0, .const⟩
def VIH_INV_LO_ADDR : FD := ⟨0x050, 12, 20, .rw, 0, .l, 1, 0, .const⟩
def VIH_INV_HI_ADDR : FD := ⟨0x054, 0, 16, .rw, 0, .l, 1, 0, .const⟩
def VIH_INV_CTRL_GO : FD := ⟨0x058, 0, 1, .wo, 0, .l, 1, 0, .const⟩
def VIH_INV_CTRL_SCOPE : FD := ⟨0x058, 1, 1, .wo, 0, .l, 1, 0, .const⟩
def VIH_INV_CTRL_PAGES : FD := ⟨0x058, 16, 16, .wo, 0, .l, 1, 0, .const⟩
def VIH_INV_STAT_BUSY : FD := ⟨0x05C, 0, 1, .ro, 0, .none, 1, 0, .const⟩
def VIH_INV_STAT_COUNT : FD := ⟨0x05C, 16, 16, .ro, 0, .none, 1, 0, .const⟩
def VIH_DL_LO_BASE : FD := ⟨0x060, 12, 20, .rw, 0, .l, 1, 0, .const⟩
def VIH_DL_HI_BASE : FD := ⟨0x064, 0, 20, .rw, 0, .l, 1, 0, .const⟩
def VIH_DL_CTRL_EN : FD := ⟨0x068, 0, 1, .rw, 0, .l, 1, 0, .const⟩
def VIH_DL_CTRL_LOG2 : FD := ⟨0x068, 8, 5, .rw, 0xc, .l, 1, 0, .const⟩
def VIH_DL_CTRL_CLEAR : FD := ⟨0x068, 16, 1, .wo, 0, .l, 1, 0, .const⟩
def VIH_DL_HEAD_INDEX : FD := ⟨0x06C, 0, 20, .ro, 0, .none, 1, 0, .const⟩
def VIH_DL_STAT_ACTIVE : FD := ⟨0x070, 0, 1, .ro, 0, .none, 1, 0, .const⟩
def VIH_DL_STAT_OVERFLOW : FD := ⟨0x070, 1, 1, .w1c, 0, .l, 1, 0, .const⟩
def VIH_DL_STAT_RECORDS : FD := ⟨0x070, 16, 16, .ro, 0, .none, 1, 0, .const⟩
def VIH_FAULT_KIND : FD := ⟨0x074, 0, 4, .ro, 0, .none, 1, 0, .const⟩
def VIH_FAULT_CTX : FD := ⟨0x074, 8, 6, .ro, 0, .none, 1, 0, .const⟩
def VIH_FAULT_WRITE : FD := ⟨0x074, 15, 1, .ro, 0, .none, 1, 0, .const⟩
def VIH_FAULT_COUNT : FD := ⟨0x074, 16, 16, .ro, 0, .none, 1, 0, .const⟩
def VIH_FGPA_LO_ADDR : FD := ⟨0x078, 12, 20, .ro, 0, .none, 1, 0, .const⟩
def VIH_FGPA_HI_ADDR : FD := ⟨0x07C, 0, 16, .ro, 0, .none, 1, 0, .const⟩
def VIH_STALE_COUNT : FD := ⟨0x080, 0, 32, .ro, 0, .none, 1, 0, .const⟩

/-! Rule R199 (05_host_ports_and_instances.md). -/

def PDB_DLTAIL_INDEX : FD := ⟨0x040, 0, 20, .rw, 0, .l, 64, 4, .const⟩

/-! Rule R200 (05_host_ports_and_instances.md). -/

def VIC_STAT_STATE : FD := ⟨0x040, 0, 3, .ro, 0, .none, 1, 0, .const⟩
def VIC_STAT_GEN : FD := ⟨0x040, 8, 8, .ro, 1, .none, 1, 0, .const⟩
def VIC_STAT_PORT : FD := ⟨0x040, 16, 2, .ro, 0, .none, 1, 0, .const⟩
def VIC_STAT_SELF : FD := ⟨0x040, 24, 6, .ro, 0, .none, 1, 0, .const⟩
def VIC_SHARE_NLOG2 : FD := ⟨0x044, 0, 3, .ro, 0, .none, 1, 0, .const⟩
def VIC_SHARE_RES : FD := ⟨0x044, 8, 9, .ro, 0, .none, 1, 0, .const⟩
def VIC_SHARE_TLB : FD := ⟨0x044, 17, 15, .ro, 0, .none, 1, 0, .const⟩
def VIC_FAULT_STAGE : FD := ⟨0x048, 0, 2, .ro, 0, .none, 1, 0, .const⟩
def VIC_FAULT_KIND : FD := ⟨0x048, 4, 4, .ro, 0, .none, 1, 0, .const⟩
def VIC_FAULT_CTX : FD := ⟨0x048, 8, 6, .ro, 0, .none, 1, 0, .const⟩
def VIC_FAULT_WRITE : FD := ⟨0x048, 15, 1, .ro, 0, .none, 1, 0, .const⟩
def VIC_FAULT_ASPACE : FD := ⟨0x048, 16, 4, .ro, 0, .none, 1, 0, .const⟩
def VIC_FAULT_COUNT : FD := ⟨0x048, 24, 8, .ro, 0, .none, 1, 0, .const⟩
def VIC_FADDR_LO_ADDR : FD := ⟨0x04C, 12, 20, .ro, 0, .none, 1, 0, .const⟩
def VIC_FADDR_HI_ADDR : FD := ⟨0x050, 0, 16, .ro, 0, .none, 1, 0, .const⟩
def VIC_DMAERR_COUNT : FD := ⟨0x054, 0, 16, .ro, 0, .none, 1, 0, .const⟩

/-! Rule R201 (05_host_ports_and_instances.md). -/

def CTX_RES_RESIDENT : FD := ⟨0x040, 0, 9, .ro, 0, .none, 1, 0, .const⟩
def CTX_RES_SWAPINS : FD := ⟨0x040, 16, 16, .ro, 0, .none, 1, 0, .const⟩
def CTX_EN_LO_EN : FD := ⟨0x044, 0, 32, .ro, 0, .none, 1, 0, .const⟩
def CTX_EN_HI_EN : FD := ⟨0x048, 0, 32, .ro, 0, .none, 1, 0, .const⟩

/-! Rule R201 (05_host_ports_and_instances.md). -/

def CTX_CTRL_ENABLE : FD := ⟨0x800, 0, 1, .rw, 0, .l, 64, 32, .const⟩
def CTX_CTRL_ENGINE : FD := ⟨0x800, 1, 2, .rw, 0, .x, 64, 32, .const⟩
def CTX_CTRL_ASPACE : FD := ⟨0x800, 4, 4, .rw, 0, .x, 64, 32, .const⟩
def CTX_CTRL_PRIO : FD := ⟨0x800, 8, 4, .rw, 0, .x, 64, 32, .const⟩
def CTX_CTRL_CQ_IRQ : FD := ⟨0x800, 12, 1, .rw, 0, .l, 64, 32, .const⟩
def CTX_CTRL_STATE : FD := ⟨0x800, 16, 3, .ro, 0, .none, 64, 32, .const⟩
def CTX_CTRL_RESIDENT : FD := ⟨0x800, 19, 1, .ro, 0, .none, 64, 32, .const⟩
def CTX_CTRL_ERR : FD := ⟨0x800, 24, 4, .ro, 0, .none, 64, 32, .const⟩
def CTX_SQ_LO_BASE : FD := ⟨0x804, 6, 26, .rw, 0, .x, 64, 32, .const⟩
def CTX_SQ_HI_BASE : FD := ⟨0x808, 0, 16, .rw, 0, .x, 64, 32, .const⟩
def CTX_SQ_HI_LOG2 : FD := ⟨0x808, 16, 5, .rw, 4, .x, 64, 32, .const⟩
def CTX_CQ_LO_BASE : FD := ⟨0x80C, 6, 26, .rw, 0, .x, 64, 32, .const⟩
def CTX_CQ_HI_BASE : FD := ⟨0x810, 0, 16, .rw, 0, .x, 64, 32, .const⟩
def CTX_CQ_HI_LOG2 : FD := ⟨0x810, 16, 5, .rw, 4, .x, 64, 32, .const⟩
def CTX_SQ_HEAD_INDEX : FD := ⟨0x814, 0, 12, .rw, 0, .x, 64, 32, .const⟩
def CTX_CQ_TAIL_INDEX : FD := ⟨0x818, 0, 14, .rw, 0, .x, 64, 32, .const⟩
def CTX_CQ_TAIL_PHASE : FD := ⟨0x818, 16, 1, .rw, 1, .x, 64, 32, .const⟩
def CTX_DONE_COUNT : FD := ⟨0x81C, 0, 32, .ro, 0, .none, 64, 32, .const⟩

/-! Rule R202 (05_host_ports_and_instances.md). -/

def DB_SQ_TAIL : FD := ⟨0x040, 0, 12, .wo, 0, .l, 64, 4, .const⟩
def DB_CQ_HEAD : FD := ⟨0x140, 0, 14, .wo, 0, .l, 64, 4, .const⟩
def DB_HAP_TRIGGER : FD := ⟨0x400, 0, 32, .wo, 0, .l, 8, 4, .const⟩
def DB_AUD_POINTER : FD := ⟨0x800, 0, 32, .wo, 0, .l, 96, 4, .const⟩

/-! Rule R203 (05_host_ports_and_instances.md). -/

def S1_ROOT_LO_MODE : FD := ⟨0x040, 0, 2, .rw, 0, .s, 16, 8, .const⟩
def S1_ROOT_LO_BASE : FD := ⟨0x040, 12, 20, .rw, 0, .s, 16, 8, .const⟩
def S1_ROOT_HI_BASE : FD := ⟨0x044, 0, 16, .rw, 0, .s, 16, 8, .const⟩
def S1_INV_LO_ADDR : FD := ⟨0x0C0, 12, 20, .rw, 0, .l, 1, 0, .const⟩
def S1_INV_HI_ADDR : FD := ⟨0x0C4, 0, 16, .rw, 0, .l, 1, 0, .const⟩
def S1_INV_CTRL_GO : FD := ⟨0x0C8, 0, 1, .wo, 0, .l, 1, 0, .const⟩
def S1_INV_CTRL_SCOPE : FD := ⟨0x0C8, 1, 2, .wo, 0, .l, 1, 0, .const⟩
def S1_INV_CTRL_ASPACE : FD := ⟨0x0C8, 4, 4, .wo, 0, .l, 1, 0, .const⟩
def S1_INV_CTRL_PAGES : FD := ⟨0x0C8, 16, 16, .wo, 0, .l, 1, 0, .const⟩
def S1_INV_STAT_BUSY : FD := ⟨0x0CC, 0, 1, .ro, 0, .none, 1, 0, .const⟩
def S1_INV_STAT_COUNT : FD := ⟨0x0CC, 16, 16, .ro, 0, .none, 1, 0, .const⟩

/-! Rule R232 (06_memory_and_stored_data.md). -/

def MC_CFG_DENS : FD := ⟨0x040, 0, 2, .rw, 1, .x, 1, 0, .const⟩
def MC_CFG_GRAIN : FD := ⟨0x040, 8, 4, .rw, 0xc, .x, 1, 0, .const⟩
def MC_CFG_HASH : FD := ⟨0x040, 16, 1, .rw, 1, .x, 1, 0, .const⟩
def MC_TRAIN_START : FD := ⟨0x044, 0, 1, .wo, 0, .l, 1, 0, .const⟩
def MC_TRAIN_STATE : FD := ⟨0x044, 8, 3, .ro, 0, .none, 1, 0, .const⟩
def MC_TRAIN_FAIL : FD := ⟨0x044, 16, 4, .ro, 0, .none, 1, 0, .const⟩
def MC_PAGE_MODE : FD := ⟨0x048, 0, 2, .rw, 2, .l, 1, 0, .const⟩
def MC_PAGE_HOLD : FD := ⟨0x048, 8, 8, .rw, 0x19, .l, 1, 0, .const⟩
def MC_REF_POLL : FD := ⟨0x04C, 0, 8, .rw, 0x10, .l, 1, 0, .const⟩
def MC_REF_RFM : FD := ⟨0x04C, 8, 1, .ro, 0, .none, 1, 0, .const⟩
def MC_REF_RATE : FD := ⟨0x04C, 16, 5, .ro, 0, .none, 1, 0, .const⟩
def MC_NR_K : FD := ⟨0x050, 0, 4, .rw, 8, .l, 1, 0, .const⟩
def MC_NR_RADIUS : FD := ⟨0x050, 4, 1, .rw, 0, .l, 1, 0, .const⟩
def MC_RETRAIN_PERIOD : FD := ⟨0x054, 0, 8, .rw, 0x64, .l, 1, 0, .const⟩
def MC_STAT_CAP : FD := ⟨0x058, 0, 6, .ro, 0, .none, 1, 0, .const⟩
def MC_ADDRERR_COUNT : FD := ⟨0x05C, 0, 32, .ro, 0, .none, 1, 0, .const⟩
def MC_NRCNT_COUNT : FD := ⟨0x060, 0, 32, .ro, 0, .none, 1, 0, .const⟩
def MC_NRDROP_COUNT : FD := ⟨0x064, 0, 32, .ro, 0, .none, 1, 0, .const⟩

/-! Rule R233 (06_memory_and_stored_data.md). -/

def EZ_CTRL_WBACK : FD := ⟨0x040, 0, 1, .rw, 1, .l, 1, 0, .const⟩
def EZ_SCRUB_EN : FD := ⟨0x044, 0, 1, .rw, 1, .l, 1, 0, .const⟩
def EZ_SCRUB_PERIOD : FD := ⟨0x044, 8, 8, .rw, 0x18, .l, 1, 0, .const⟩
def EZ_SCRPOS_LO_ADDR : FD := ⟨0x048, 6, 26, .ro, 0, .none, 1, 0, .const⟩
def EZ_SCRPOS_HI_ADDR : FD := ⟨0x04C, 0, 3, .ro, 0, .none, 1, 0, .const⟩
def EZ_SCRPASS_COUNT : FD := ⟨0x050, 0, 32, .ro, 0, .none, 1, 0, .const⟩
def EZ_LASTCE_LO_ADDR : FD := ⟨0x054, 3, 29, .ro, 0, .none, 1, 0, .const⟩
def EZ_LASTCE_HI_ADDR : FD := ⟨0x058, 0, 3, .ro, 0, .none, 1, 0, .const⟩
def EZ_LASTCE_HI_ZONE : FD := ⟨0x058, 8, 4, .ro, 0, .none, 1, 0, .const⟩
def EZ_UEIDX_NEXT : FD := ⟨0x05C, 0, 4, .ro, 0, .none, 1, 0, .const⟩
def EZ_UEIDX_TOTAL : FD := ⟨0x05C, 16, 16, .ro, 0, .none, 1, 0, .const⟩
def EZ_RANGE_BASE : FD := ⟨0x100, 0, 12, .rw, 0, .s, 16, 16, .const⟩
def EZ_RANGE_SIZE : FD := ⟨0x100, 16, 12, .rw, 0, .s, 16, 16, .const⟩
def EZ_CHK_CBASE : FD := ⟨0x104, 0, 14, .rw, 0, .s, 16, 16, .const⟩
def EZ_CHK_ENABLE : FD := ⟨0x104, 16, 1, .rw, 0, .s, 16, 16, .const⟩
def EZ_STAT_STATE : FD := ⟨0x108, 0, 2, .ro, 0, .none, 16, 16, .const⟩
def EZ_STAT_CE : FD := ⟨0x108, 16, 16, .ro, 0, .none, 16, 16, .const⟩
def EZ_UE_COUNT : FD := ⟨0x10C, 0, 16, .ro, 0, .none, 16, 16, .const⟩
def EZ_UELOG_LO_ADDR : FD := ⟨0x200, 3, 29, .ro, 0, .none, 16, 8, .const⟩
def EZ_UELOG_HI_ADDR : FD := ⟨0x204, 0, 3, .ro, 0, .none, 16, 8, .const⟩
def EZ_UELOG_HI_ZONE : FD := ⟨0x204, 8, 4, .ro, 0, .none, 16, 8, .const⟩
def EZ_UELOG_HI_SOURCE : FD := ⟨0x204, 12, 2, .ro, 0, .none, 16, 8, .const⟩
def EZ_UELOG_HI_VALID : FD := ⟨0x204, 15, 1, .ro, 0, .none, 16, 8, .const⟩

/-! Rule R234 (06_memory_and_stored_data.md). -/

def RMP_SRC_VALID : FD := ⟨0x100, 0, 1, .rw, 0, .s, 32, 8, .const⟩
def RMP_SRC_BANK : FD := ⟨0x100, 4, 4, .rw, 0, .s, 32, 8, .const⟩
def RMP_SRC_ROW : FD := ⟨0x100, 12, 17, .rw, 0, .s, 32, 8, .const⟩
def RMP_DST_ROW : FD := ⟨0x104, 0, 17, .rw, 0, .s, 32, 8, .const⟩
def RMP_DST_STATE : FD := ⟨0x104, 24, 2, .ro, 0, .none, 32, 8, .const⟩

/-! Rule R235 (06_memory_and_stored_data.md). -/

def SR_ENT_ROW : FD := ⟨0x100, 0, 16, .rw, 0, .s, 48, 4, .const⟩
def SR_ENT_VALID : FD := ⟨0x100, 16, 1, .rw, 0, .s, 48, 4, .const⟩
def SR_ENT_FUSE : FD := ⟨0x100, 17, 1, .ro, 0, .none, 48, 4, .const⟩
def SR_ERR_CE : FD := ⟨0x300, 0, 16, .ro, 0, .none, 6, 4, .const⟩
def SR_ERR_UE : FD := ⟨0x300, 16, 16, .ro, 0, .none, 6, 4, .const⟩

/-! Rule R236 (06_memory_and_stored_data.md). -/

def DG_ADDR_LO_ADDR : FD := ⟨0x040, 3, 29, .rw, 0, .l, 1, 0, .const⟩
def DG_ADDR_HI_ADDR : FD := ⟨0x044, 0, 3, .rw, 0, .l, 1, 0, .const⟩
def DG_DATA_LO_DATA : FD := ⟨0x048, 0, 32, .rw, 0, .l, 1, 0, .const⟩
def DG_DATA_HI_DATA : FD := ⟨0x04C, 0, 32, .rw, 0, .l, 1, 0, .const⟩
def DG_CHECK_CHECK : FD := ⟨0x050, 0, 8, .rw, 0, .l, 1, 0, .const⟩
def DG_CTRL_OP : FD := ⟨0x054, 0, 3, .wo, 0, .l, 1, 0, .const⟩
def DG_CTRL_KEY : FD := ⟨0x054, 16, 16, .wo, 0, .l, 1, 0, .const⟩
def DG_STAT_DONE : FD := ⟨0x058, 0, 1, .ro, 0, .none, 1, 0, .const⟩
def DG_STAT_RESULT : FD := ⟨0x058, 1, 3, .ro, 0, .none, 1, 0, .const⟩
def DG_STAT_SYNDROME : FD := ⟨0x058, 8, 8, .ro, 0, .none, 1, 0, .const⟩
def DG_STAT_RAWCHECK : FD := ⟨0x058, 16, 8, .ro, 0, .none, 1, 0, .const⟩
def DG_RDATA_LO_DATA : FD := ⟨0x05C, 0, 32, .ro, 0, .none, 1, 0, .const⟩
def DG_RDATA_HI_DATA : FD := ⟨0x060, 0, 32, .ro, 0, .none, 1, 0, .const⟩

/-! Rule R237 (06_memory_and_stored_data.md). -/

def PHY_WCK_DELAY : FD := ⟨0x100, 0, 10, .ro, 0, .none, 8, 16, .const⟩
def PHY_VREF_RD : FD := ⟨0x104, 0, 7, .ro, 0, .none, 8, 16, .const⟩
def PHY_VREF_WR : FD := ⟨0x104, 8, 7, .ro, 0, .none, 8, 16, .const⟩
def PHY_MARG_EYE : FD := ⟨0x108, 0, 8, .ro, 0, .none, 8, 16, .const⟩
def PHY_CORR_COUNT : FD := ⟨0x10C, 0, 16, .ro, 0, .none, 8, 16, .const⟩

/-! Rule R270 (07_renderer.md). -/

def RND_CTRL_RESERVE : FD := ⟨0x040, 0, 5, .rw, 4, .l, 1, 0, .const⟩
def RND_CTRL_ITEM_MS : FD := ⟨0x040, 8, 5, .rw, 0x10, .l, 1, 0, .const⟩
def RND_STAT_AVAIL : FD := ⟨0x044, 0, 5, .ro, 0, .none, 1, 0, .const⟩
def RND_STAT_PERIOD_C : FD := ⟨0x044, 8, 5, .ro, 0, .none, 1, 0, .const⟩
def RND_STAT_DRAINING : FD := ⟨0x044, 16, 4, .ro, 0, .none, 1, 0, .const⟩
def RND_STAT_POWERED : FD := ⟨0x044, 20, 4, .ro, 0, .none, 1, 0, .const⟩
def RND_STAT_SLICES : FD := ⟨0x044, 24, 5, .ro, 0, .none, 1, 0, .const⟩
def RND_ABORTS_COUNT : FD := ⟨0x048, 0, 32, .ro, 0, .none, 1, 0, .const⟩

/-! Rule R271 (07_renderer.md). -/

def RND_USE_LAST : FD := ⟨0x100, 0, 24, .ro, 0, .none, 64, 4, .const⟩
def RND_USE_OVER : FD := ⟨0x100, 31, 1, .ro, 0, .none, 64, 4, .const⟩

/-! Rule R272 (07_renderer.md). -/

def RC_STAT_STATE : FD := ⟨0x040, 0, 2, .ro, 0, .none, 1, 0, .const⟩
def RC_STAT_KIND : FD := ⟨0x040, 2, 2, .ro, 0, .none, 1, 0, .const⟩
def RC_STAT_VI : FD := ⟨0x040, 8, 6, .ro, 0, .none, 1, 0, .const⟩
def RC_STAT_CTX : FD := ⟨0x040, 16, 6, .ro, 0, .none, 1, 0, .const⟩
def RC_BUSY_US : FD := ⟨0x044, 0, 32, .ro, 0, .none, 1, 0, .const⟩
def RC_ABORT_COUNT : FD := ⟨0x048, 0, 16, .ro, 0, .none, 1, 0, .const⟩

/-! Rule R273 (07_renderer.md). -/

def RQ_BUDGET_US : FD := ⟨0x040, 0, 24, .ro, 0, .none, 1, 0, .const⟩
def RQ_USED_US : FD := ⟨0x044, 0, 24, .ro, 0, .none, 1, 0, .const⟩
def RQ_DROPS_COUNT : FD := ⟨0x048, 0, 32, .ro, 0, .none, 1, 0, .const⟩
def RQ_OVF_COUNT : FD := ⟨0x04C, 0, 32, .ro, 0, .none, 1, 0, .const⟩
def RQ_SKIP_COUNT : FD := ⟨0x050, 0, 32, .ro, 0, .none, 1, 0, .const⟩
def RQ_MISS_COUNT : FD := ⟨0x054, 0, 32, .ro, 0, .none, 1, 0, .const⟩
def RQ_SKIPREC_COUNT : FD := ⟨0x058, 0, 32, .ro, 0, .none, 1, 0, .const⟩
def RQ_JOB_LO_ADDR : FD := ⟨0x100, 6, 26, .rw, 0, .s, 16, 16, .const⟩
def RQ_JOB_HI_ADDR : FD := ⟨0x104, 0, 16, .rw, 0, .s, 16, 16, .const⟩
def RQ_JOB_CFG_CTX : FD := ⟨0x108, 0, 6, .rw, 0, .s, 16, 16, .const⟩
def RQ_JOB_CFG_SLICE_MS : FD := ⟨0x108, 8, 5, .rw, 0, .s, 16, 16, .const⟩
def RQ_JOB_CFG_VALID : FD := ⟨0x108, 15, 1, .rw, 0, .s, 16, 16, .const⟩
def RQ_JOB_ID_CMD_ID : FD := ⟨0x10C, 0, 32, .rw, 0, .s, 16, 16, .const⟩

/-! Rule R274 (07_renderer.md). -/

def FNC_SUM_BROKEN : FD := ⟨0x040, 0, 16, .ro, 0, .none, 1, 0, .const⟩
def FNC_SUM_LATE : FD := ⟨0x040, 16, 16, .ro, 0, .none, 1, 0, .const⟩
def FNC_VAL_VALUE : FD := ⟨0x400, 0, 32, .ro, 0, .none, 192, 16, .const⟩
def FNC_STAT_STATUS : FD := ⟨0x404, 0, 2, .ro, 0, .none, 192, 16, .const⟩
def FNC_STAT_OWED : FD := ⟨0x404, 8, 8, .ro, 0, .none, 192, 16, .const⟩
def FNC_STAT_REMAIN : FD := ⟨0x404, 16, 16, .ro, 0, .none, 192, 16, .const⟩
def FNC_CTRL_SIGNAL : FD := ⟨0x408, 0, 1, .wo, 0, .l, 192, 16, .const⟩
def FNC_CTRL_TMO : FD := ⟨0x408, 8, 16, .rw, 0x7d0, .l, 192, 16, .const⟩

/-! Rule R309 (08_composition_and_strike_plane.md). -/

def HC_BG_B : FD := ⟨0x040, 0, 10, .rw, 0, .s, 1, 0, .const⟩
def HC_BG_G : FD := ⟨0x040, 10, 10, .rw, 0, .s, 1, 0, .const⟩
def HC_BG_R : FD := ⟨0x040, 20, 10, .rw, 0, .s, 1, 0, .const⟩
def HC_GROUP_HOLD : FD := ⟨0x044, 0, 1, .rw, 0, .l, 1, 0, .const⟩
def HC_STAT_BAND : FD := ⟨0x048, 0, 8, .ro, 0, .none, 1, 0, .const⟩
def HC_STAT_SAFE : FD := ⟨0x048, 8, 1, .ro, 1, .none, 1, 0, .const⟩
def HC_STAT_HELD : FD := ⟨0x048, 9, 1, .ro, 0, .none, 1, 0, .const⟩
def HC_POOL_USED : FD := ⟨0x04C, 0, 22, .ro, 0, .none, 1, 0, .const⟩
def HC_BANDS_DROPS : FD := ⟨0x050, 0, 16, .ro, 0, .none, 1, 0, .const⟩
def HC_BANDS_LATE : FD := ⟨0x050, 16, 16, .ro, 0, .none, 1, 0, .const⟩

/-! Rule R310 (08_composition_and_strike_plane.md). -/

def LC_OWN_LO_PIPES : FD := ⟨0x040, 0, 32, .ro, 0, .none, 1, 0, .const⟩
def LC_OWN_HI_PIPES : FD := ⟨0x044, 0, 16, .ro, 0, .none, 1, 0, .const⟩
def LC_PEND_HEADS : FD := ⟨0x048, 0, 8, .ro, 0, .none, 1, 0, .const⟩

/-! Rule R310 (08_composition_and_strike_plane.md). -/

def LP_CTRL_ENABLE : FD := ⟨0x100, 0, 1, .rw, 0, .s, 48, 64, .const⟩
def LP_CTRL_MODE : FD := ⟨0x100, 1, 1, .rw, 1, .s, 48, 64, .const⟩
def LP_CTRL_ALPHA : FD := ⟨0x100, 2, 2, .rw, 0, .s, 48, 64, .const⟩
def LP_CTRL_WARP : FD := ⟨0x100, 4, 1, .rw, 0, .s, 48, 64, .const⟩
def LP_CTRL_WMAX : FD := ⟨0x100, 5, 5, .rw, 0, .s, 48, 64, .const⟩
def LP_CTRL_ZPOS : FD := ⟨0x100, 12, 4, .rw, 0, .s, 48, 64, .const⟩
def LP_CTRL_ASPACE : FD := ⟨0x100, 16, 4, .rw, 0, .s, 48, 64, .const⟩
def LP_CTRL_CSC : FD := ⟨0x100, 20, 3, .rw, 0, .s, 48, 64, .const⟩
def LP_CTRL_LALPHA : FD := ⟨0x100, 24, 8, .rw, 0xff, .s, 48, 64, .const⟩
def LP_FMT_FORMAT : FD := ⟨0x104, 0, 8, .rw, 0, .s, 48, 64, .const⟩
def LP_FMT_BANK : FD := ⟨0x104, 8, 1, .rw, 0, .s, 48, 64, .const⟩
def LP_BUF_WIDTH : FD := ⟨0x108, 0, 14, .rw, 0, .s, 48, 64, .const⟩
def LP_BUF_HEIGHT : FD := ⟨0x108, 16, 14, .rw, 0, .s, 48, 64, .const⟩
def LP_PITCH_PITCH : FD := ⟨0x10C, 0, 20, .rw, 0, .s, 48, 64, .const⟩
def LP_CROP_XY_CX : FD := ⟨0x110, 0, 14, .rw, 0, .s, 48, 64, .const⟩
def LP_CROP_XY_CY : FD := ⟨0x110, 16, 14, .rw, 0, .s, 48, 64, .const⟩
def LP_CROP_WH_CW : FD := ⟨0x114, 0, 13, .rw, 0, .s, 48, 64, .const⟩
def LP_CROP_WH_CH : FD := ⟨0x114, 16, 14, .rw, 0, .s, 48, 64, .const⟩
def LP_DST_XY_DX : FD := ⟨0x118, 0, 13, .rw, 0, .s, 48, 64, .const⟩
def LP_DST_XY_DY : FD := ⟨0x118, 16, 13, .rw, 0, .s, 48, 64, .const⟩
def LP_DST_WH_DW : FD := ⟨0x11C, 0, 13, .rw, 0, .s, 48, 64, .const⟩
def LP_DST_WH_DH : FD := ⟨0x11C, 16, 13, .rw, 0, .s, 48, 64, .const⟩
def LP_FILL_ARGB : FD := ⟨0x120, 0, 32, .rw, 0xff000000, .s, 48, 64, .const⟩
def LP_WARP_DX : FD := ⟨0x124, 0, 16, .rw, 0, .l, 48, 64, .const⟩
def LP_WARP_DY : FD := ⟨0x124, 16, 16, .rw, 0, .l, 48, 64, .const⟩
def LP_WSRC_TEN : FD := ⟨0x128, 0, 1, .rw, 0, .s, 48, 64, .const⟩
def LP_WSRC_TOUCH : FD := ⟨0x128, 4, 3, .rw, 0, .s, 48, 64, .const⟩
def LP_COEF_ADDR_INDEX : FD := ⟨0x12C, 0, 10, .rw, 0, .l, 48, 64, .const⟩
def LP_COEF_ADDR_CBANK : FD := ⟨0x12C, 12, 1, .rw, 0, .l, 48, 64, .const⟩
def LP_COEF_DATA_C0 : FD := ⟨0x130, 0, 10, .wo, 0, .l, 48, 64, .const⟩
def LP_COEF_DATA_C1 : FD := ⟨0x130, 16, 10, .wo, 0, .l, 48, 64, .const⟩
def LP_STAT_DROPS : FD := ⟨0x134, 0, 16, .ro, 0, .none, 48, 64, .const⟩
def LP_STAT_LATE : FD := ⟨0x134, 16, 16, .ro, 0, .none, 48, 64, .const⟩
def LP_APPLIED_DX : FD := ⟨0x138, 0, 16, .ro, 0, .none, 48, 64, .const⟩
def LP_APPLIED_DY : FD := ⟨0x138, 16, 16, .ro, 0, .none, 48, 64, .const⟩

/-! Rule R311 (08_composition_and_strike_plane.md). -/

def FL_ADDR_LO_ADDR : FD := ⟨0x100, 8, 24, .rw, 0, .l, 48, 32, .const⟩
def FL_ADDR_HI_ADDR : FD := ⟨0x104, 0, 16, .rw, 0, .l, 48, 32, .const⟩
def FL_CHROMA_OFFSET : FD := ⟨0x108, 8, 24, .rw, 0, .l, 48, 32, .const⟩
def FL_FENCE_HANDLE : FD := ⟨0x10C, 0, 32, .rw, 0xffffffff, .l, 48, 32, .const⟩
def FL_TARGET_VALUE : FD := ⟨0x110, 0, 32, .rw, 0, .l, 48, 32, .const⟩
def FL_ADJ_DX : FD := ⟨0x114, 0, 16, .rw, 0, .l, 48, 32, .const⟩
def FL_ADJ_DY : FD := ⟨0x114, 16, 16, .rw, 0, .l, 48, 32, .const⟩
def FL_GO_GO : FD := ⟨0x118, 0, 1, .wo, 0, .l, 48, 32, .const⟩
def FL_STAT_STATE : FD := ⟨0x11C, 0, 2, .ro, 0, .none, 48, 32, .const⟩
def FL_STAT_RESULT : FD := ⟨0x11C, 4, 3, .ro, 0, .none, 48, 32, .const⟩
def FL_STAT_FSTATUS : FD := ⟨0x11C, 8, 2, .ro, 0, .none, 48, 32, .const⟩
def FL_STAT_COUNT : FD := ⟨0x11C, 16, 16, .ro, 0, .none, 48, 32, .const⟩

/-! Rule R312 (08_composition_and_strike_plane.md). -/

def STK_CTRL_SAFE : FD := ⟨0x040, 0, 1, .rw, 1, .s, 1, 0, .const⟩
def STK_ALARM_RGB : FD := ⟨0x044, 0, 30, .rw, 0x3ff00000, .s, 1, 0, .const⟩
def STK_SAFEBASE_OFFSET : FD := ⟨0x048, 6, 17, .ro, 0, .none, 1, 0, .const⟩
def STK_STAT_MISMATCH : FD := ⟨0x04C, 0, 16, .ro, 0, .none, 1, 0, .const⟩
def STK_STAT_EMG : FD := ⟨0x04C, 16, 1, .ro, 0, .none, 1, 0, .const⟩
def STK_POS_X : FD := ⟨0x100, 0, 13, .rw, 0, .s, 8, 16, .const⟩
def STK_POS_Y : FD := ⟨0x100, 16, 13, .rw, 0, .s, 8, 16, .const⟩
def STK_SIZE_W : FD := ⟨0x104, 0, 13, .rw, 0, .s, 8, 16, .const⟩
def STK_SIZE_H : FD := ⟨0x104, 16, 13, .rw, 0, .s, 8, 16, .const⟩
def STK_SRC_OFFSET : FD := ⟨0x108, 6, 17, .rw, 0, .s, 8, 16, .const⟩
def STK_CFG_EN : FD := ⟨0x10C, 0, 1, .rw, 0, .s, 8, 16, .const⟩
def STK_CFG_BPP8 : FD := ⟨0x10C, 1, 1, .rw, 0, .s, 8, 16, .const⟩
def STK_CFG_SCALE : FD := ⟨0x10C, 2, 2, .rw, 0, .s, 8, 16, .const⟩
def STK_CFG_PALBASE : FD := ⟨0x10C, 4, 8, .rw, 0, .s, 8, 16, .const⟩
def STK_CFG_PITCH : FD := ⟨0x10C, 16, 11, .rw, 0, .s, 8, 16, .const⟩
def STK_PAL_ARGB : FD := ⟨0x400, 0, 32, .rw, 0, .s, 256, 4, .const⟩

/-! Rule R313 (08_composition_and_strike_plane.md). -/

def SC_EMG_ON : FD := ⟨0x040, 0, 1, .rw, 0, .l, 1, 0, .const⟩
def SC_EMG_MSG : FD := ⟨0x040, 4, 4, .rw, 0, .l, 1, 0, .const⟩
def SC_EMGBASE_OFFSET : FD := ⟨0x044, 6, 17, .ro, 0, .none, 1, 0, .const⟩
def SC_TPLBASE_OFFSET : FD := ⟨0x048, 6, 17, .ro, 0, .none, 1, 0, .const⟩
def SC_MISM_COUNT : FD := ⟨0x04C, 0, 16, .ro, 0, .none, 1, 0, .const⟩
def SC_MISM_HEAD : FD := ⟨0x04C, 16, 3, .ro, 0, .none, 1, 0, .const⟩
def SC_INJECT_HEAD : FD := ⟨0x050, 0, 3, .wo, 0, .l, 1, 0, .const⟩
def SC_INJECT_GO : FD := ⟨0x050, 8, 1, .wo, 0, .l, 1, 0, .const⟩

/-! Rule R314 (08_composition_and_strike_plane.md). -/

def PS_CFG_HEAD : FD := ⟨0x040, 0, 3, .ro, 0, .none, 1, 0, .const⟩
def PS_CFG_ASSIGNED : FD := ⟨0x040, 3, 1, .ro, 0, .none, 1, 0, .const⟩
def PS_CFG_LATCH_OK : FD := ⟨0x040, 4, 1, .ro, 0, .none, 1, 0, .const⟩
def PS_CFG_WARP_OK : FD := ⟨0x040, 5, 1, .ro, 0, .none, 1, 0, .const⟩
def PS_CFG_OWNER : FD := ⟨0x040, 16, 16, .ro, 0, .none, 1, 0, .const⟩
def PS_MAP_CUR : FD := ⟨0x044, 0, 10, .ro, 0, .none, 1, 0, .const⟩
def PS_MAP_NEXT : FD := ⟨0x044, 16, 10, .ro, 0, .none, 1, 0, .const⟩
def PS_FETCH_BANDS : FD := ⟨0x048, 0, 32, .ro, 0, .none, 1, 0, .const⟩
def PS_ERR_COUNT : FD := ⟨0x04C, 0, 16, .ro, 0, .none, 1, 0, .const⟩

/-! Rule R344 (09_heads_and_scan_out.md). -/

def HD_CTRL_EN : FD := ⟨0x040, 0, 1, .rw, 0, .l, 1, 0, .const⟩
def HD_HACT_ACTIVE : FD := ⟨0x044, 0, 13, .rw, 0x780, .s, 1, 0, .const⟩
def HD_HBLANK_FRONT : FD := ⟨0x048, 0, 10, .rw, 0x58, .s, 1, 0, .const⟩
def HD_HBLANK_SYNC : FD := ⟨0x048, 10, 10, .rw, 0x2c, .s, 1, 0, .const⟩
def HD_HBLANK_BACK : FD := ⟨0x048, 20, 10, .rw, 0x94, .s, 1, 0, .const⟩
def HD_HBLANK_SPOL : FD := ⟨0x048, 31, 1, .rw, 1, .s, 1, 0, .const⟩
def HD_VACT_ACTIVE : FD := ⟨0x04C, 0, 12, .rw, 0x438, .s, 1, 0, .const⟩
def HD_VBLANK_FRONT : FD := ⟨0x050, 0, 8, .rw, 4, .s, 1, 0, .const⟩
def HD_VBLANK_SYNC : FD := ⟨0x050, 8, 8, .rw, 5, .s, 1, 0, .const⟩
def HD_VBLANK_BACK : FD := ⟨0x050, 16, 8, .rw, 0x24, .s, 1, 0, .const⟩
def HD_VBLANK_SPOL : FD := ⟨0x050, 31, 1, .rw, 1, .s, 1, 0, .const⟩
def HD_PCLK_KHZ : FD := ⟨0x054, 0, 20, .rw, 0x24414, .s, 1, 0, .const⟩
def HD_FMT_BPC : FD := ⟨0x058, 0, 2, .rw, 1, .s, 1, 0, .const⟩
def HD_QUIET_VQ_START : FD := ⟨0x05C, 0, 8, .rw, 0, .s, 1, 0, .const⟩
def HD_QUIET_VQ_LEN : FD := ⟨0x05C, 8, 8, .rw, 0, .s, 1, 0, .const⟩
def HD_QUIET_HQ_EN : FD := ⟨0x05C, 16, 1, .rw, 0, .s, 1, 0, .const⟩
def HD_QUIET_HQ_GUARD : FD := ⟨0x05C, 24, 8, .rw, 0, .s, 1, 0, .const⟩
def HD_STAT_STATE : FD := ⟨0x060, 0, 3, .ro, 0, .none, 1, 0, .const⟩
def HD_STAT_LINE : FD := ⟨0x060, 16, 12, .ro, 0, .none, 1, 0, .const⟩
def HD_STAT_GUARDED : FD := ⟨0x060, 31, 1, .ro, 0, .none, 1, 0, .const⟩
def HD_FRAME_COUNT : FD := ⟨0x064, 0, 32, .ro, 0, .none, 1, 0, .const⟩
def HD_FTIME_LO_TIME : FD := ⟨0x068, 0, 32, .ro, 0, .none, 1, 0, .const⟩
def HD_FTIME_HI_TIME : FD := ⟨0x06C, 0, 32, .ro, 0, .none, 1, 0, .const⟩
def HD_FLIPT_LO_TIME : FD := ⟨0x070, 0, 32, .ro, 0, .none, 1, 0, .const⟩
def HD_FLIPT_HI_TIME : FD := ⟨0x074, 0, 32, .ro, 0, .none, 1, 0, .const⟩
def HD_FLIPF_FRAME : FD := ⟨0x078, 0, 32, .ro, 0, .none, 1, 0, .const⟩
def HD_FLIPP_LO_PIPES : FD := ⟨0x07C, 0, 32, .ro, 0, .none, 1, 0, .const⟩
def HD_FLIPP_HI_PIPES : FD := ⟨0x080, 0, 16, .ro, 0, .none, 1, 0, .const⟩
def HD_RATE_HEAD : FD := ⟨0x084, 0, 10, .ro, 0, .none, 1, 0, .const⟩
def HD_RATE_AGG : FD := ⟨0x084, 16, 13, .ro, 0, .none, 1, 0, .const⟩
def HD_RETIME_COUNT : FD := ⟨0x088, 0, 16, .ro, 0, .none, 1, 0, .const⟩

/-! Rule R345 (09_heads_and_scan_out.md). -/

def CR_CTRL_GUARD : FD := ⟨0x040, 0, 1, .rw, 0, .l, 1, 0, .const⟩
def CR_CTRL_LINK : FD := ⟨0x040, 1, 1, .rw, 0, .l, 1, 0, .const⟩
def CR_CTRL_RELEASE : FD := ⟨0x040, 2, 1, .wo, 0, .l, 1, 0, .const⟩
def CR_STAT_FORCED : FD := ⟨0x044, 0, 1, .ro, 0, .none, 1, 0, .const⟩
def CR_STAT_FAILMASK : FD := ⟨0x044, 16, 16, .ro, 0, .none, 1, 0, .const⟩
def CR_COUNT_COMPARED : FD := ⟨0x048, 0, 16, .ro, 0, .none, 1, 0, .const⟩
def CR_COUNT_SKIPPED : FD := ⟨0x048, 16, 16, .ro, 0, .none, 1, 0, .const⟩
def CR_FFRAME_FRAME : FD := ⟨0x04C, 0, 32, .ro, 0, .none, 1, 0, .const⟩

/-! Rule R345 (09_heads_and_scan_out.md). -/

def CR_POS_X : FD := ⟨0x100, 0, 13, .rw, 0, .s, 16, 32, .const⟩
def CR_POS_Y : FD := ⟨0x100, 16, 13, .rw, 0, .s, 16, 32, .const⟩
def CR_SIZE_W : FD := ⟨0x104, 0, 13, .rw, 0, .s, 16, 32, .const⟩
def CR_SIZE_H : FD := ⟨0x104, 16, 13, .rw, 0, .s, 16, 32, .const⟩
def CR_CFG_EN : FD := ⟨0x108, 0, 1, .rw, 0, .s, 16, 32, .const⟩
def CR_CFG_POINT : FD := ⟨0x108, 1, 1, .rw, 0, .s, 16, 32, .const⟩
def CR_CFG_ACTION : FD := ⟨0x108, 2, 2, .rw, 0, .s, 16, 32, .const⟩
def CR_CFG_THRESH : FD := ⟨0x108, 4, 4, .rw, 1, .s, 16, 32, .const⟩
def CR_EXP_CRC : FD := ⟨0x10C, 0, 32, .rw, 0, .s, 16, 32, .const⟩
def CR_LAST_CRC : FD := ⟨0x110, 0, 32, .ro, 0, .none, 16, 32, .const⟩
def CR_RSTAT_MATCH : FD := ⟨0x114, 0, 1, .ro, 0, .none, 16, 32, .const⟩
def CR_RSTAT_RUN : FD := ⟨0x114, 4, 4, .ro, 0, .none, 16, 32, .const⟩
def CR_RSTAT_MISM : FD := ⟨0x114, 16, 16, .ro, 0, .none, 16, 32, .const⟩

/-! Rule R346 (09_heads_and_scan_out.md). -/

def DP_CTRL_AUTO : FD := ⟨0x040, 0, 1, .rw, 1, .l, 1, 0, .const⟩
def DP_CTRL_RETRAIN : FD := ⟨0x040, 1, 1, .wo, 0, .l, 1, 0, .const⟩
def DP_CTRL_MAXRATE : FD := ⟨0x040, 4, 3, .rw, 7, .l, 1, 0, .const⟩
def DP_CTRL_MAXLANES : FD := ⟨0x040, 8, 3, .rw, 4, .l, 1, 0, .const⟩
def DP_CTRL_SSC : FD := ⟨0x040, 12, 1, .rw, 1, .l, 1, 0, .const⟩
def DP_STAT_STATE : FD := ⟨0x044, 0, 2, .ro, 0, .none, 1, 0, .const⟩
def DP_STAT_RATE : FD := ⟨0x044, 4, 3, .ro, 0, .none, 1, 0, .const⟩
def DP_STAT_LANES : FD := ⟨0x044, 8, 3, .ro, 0, .none, 1, 0, .const⟩
def DP_STAT_HPD : FD := ⟨0x044, 12, 1, .ro, 0, .none, 1, 0, .const⟩
def DP_STAT_CAUSE : FD := ⟨0x044, 16, 3, .ro, 0, .none, 1, 0, .const⟩
def DP_STAT_SSC : FD := ⟨0x044, 20, 1, .ro, 0, .none, 1, 0, .const⟩
def DP_EVENTS_PLUG : FD := ⟨0x048, 0, 8, .ro, 0, .none, 1, 0, .const⟩
def DP_EVENTS_UNPLUG : FD := ⟨0x048, 8, 8, .ro, 0, .none, 1, 0, .const⟩
def DP_EVENTS_IRQ : FD := ⟨0x048, 16, 8, .ro, 0, .none, 1, 0, .const⟩
def DP_EVENTS_LOST : FD := ⟨0x048, 24, 8, .ro, 0, .none, 1, 0, .const⟩
def DP_TRAIN_MS : FD := ⟨0x04C, 0, 16, .ro, 0, .none, 1, 0, .const⟩
def DP_TRAIN_COUNT : FD := ⟨0x04C, 16, 16, .ro, 0, .none, 1, 0, .const⟩
def DP_AUX_CMD_GO : FD := ⟨0x050, 0, 1, .wo, 0, .l, 1, 0, .const⟩
def DP_AUX_CMD_TYPE : FD := ⟨0x050, 1, 2, .rw, 0, .l, 1, 0, .const⟩
def DP_AUX_CMD_MOT : FD := ⟨0x050, 3, 1, .rw, 0, .l, 1, 0, .const⟩
def DP_AUX_CMD_LEN : FD := ⟨0x050, 4, 4, .rw, 0, .l, 1, 0, .const⟩
def DP_AUX_CMD_ADDR : FD := ⟨0x050, 12, 20, .rw, 0, .l, 1, 0, .const⟩
def DP_AUX_STAT_BUSY : FD := ⟨0x054, 0, 1, .ro, 0, .none, 1, 0, .const⟩
def DP_AUX_STAT_RESULT : FD := ⟨0x054, 1, 3, .ro, 0, .none, 1, 0, .const⟩
def DP_AUX_STAT_ACKED : FD := ⟨0x054, 4, 5, .ro, 0, .none, 1, 0, .const⟩
def DP_AUX_DATA_DATA : FD := ⟨0x060, 0, 32, .rw, 0, .l, 4, 4, .const⟩
def DP_PANEL_VDD : FD := ⟨0x070, 0, 1, .rw, 0, .l, 1, 0, .const⟩
def DP_PANEL_BL : FD := ⟨0x070, 1, 1, .rw, 0, .l, 1, 0, .const⟩
def DP_PANEL_BLDELAY : FD := ⟨0x070, 8, 8, .rw, 0x32, .l, 1, 0, .const⟩
def DP_PWM_FREQ : FD := ⟨0x074, 0, 16, .rw, 0x3e8, .l, 1, 0, .const⟩
def DP_PWM_DUTY : FD := ⟨0x074, 16, 10, .rw, 0x3ff, .l, 1, 0, .const⟩

/-! Rule R373 (10_touch.md). -/

def TS_CTRL_EN : FD := ⟨0x040, 0, 1, .rw, 0, .l, 1, 0, .const⟩
def TS_CTRL_RECAL : FD := ⟨0x040, 1, 1, .wo, 0, .l, 1, 0, .const⟩
def TS_CTRL_DUMP : FD := ⟨0x040, 2, 1, .wo, 0, .l, 1, 0, .const⟩
def TS_GEOM_DRIVE : FD := ⟨0x044, 0, 6, .rw, 0x20, .x, 1, 0, .const⟩
def TS_GEOM_SENSE : FD := ⟨0x044, 8, 6, .rw, 0x38, .x, 1, 0, .const⟩
def TS_GEOM_SWAP : FD := ⟨0x044, 16, 1, .rw, 0, .x, 1, 0, .const⟩
def TS_GEOM_FLIPX : FD := ⟨0x044, 17, 1, .rw, 0, .x, 1, 0, .const⟩
def TS_GEOM_FLIPY : FD := ⟨0x044, 18, 1, .rw, 0, .x, 1, 0, .const⟩
def TS_SCAN_SYNC : FD := ⟨0x048, 0, 2, .rw, 1, .x, 1, 0, .const⟩
def TS_SCAN_SCANS : FD := ⟨0x048, 2, 2, .rw, 0, .x, 1, 0, .const⟩
def TS_SCAN_PULSES : FD := ⟨0x048, 4, 6, .rw, 0x10, .x, 1, 0, .const⟩
def TS_SCAN_TX_KHZ : FD := ⟨0x048, 16, 10, .rw, 0xfa, .x, 1, 0, .const⟩
def TS_SCAN_FREE_HZ : FD := ⟨0x048, 26, 6, .rw, 0xf, .x, 1, 0, .const⟩
def TS_MAPX_OFFSET : FD := ⟨0x04C, 0, 16, .rw, 0, .x, 1, 0, .const⟩
def TS_MAPX_GAIN : FD := ⟨0x04C, 16, 16, .rw, 0x100, .x, 1, 0, .const⟩
def TS_MAPY_OFFSET : FD := ⟨0x050, 0, 16, .rw, 0, .x, 1, 0, .const⟩
def TS_MAPY_GAIN : FD := ⟨0x050, 16, 16, .rw, 0x100, .x, 1, 0, .const⟩
def TS_THRESH_TOUCH : FD := ⟨0x054, 0, 12, .rw, 0xc8, .l, 1, 0, .const⟩
def TS_THRESH_ANTI : FD := ⟨0x054, 16, 12, .rw, 0x64, .l, 1, 0, .const⟩
def TS_TRACK_TRACK : FD := ⟨0x058, 0, 4, .rw, 6, .l, 1, 0, .const⟩
def TS_TRACK_DOWN_FR : FD := ⟨0x058, 4, 2, .rw, 1, .l, 1, 0, .const⟩
def TS_TRACK_UP_FR : FD := ⟨0x058, 6, 2, .rw, 1, .l, 1, 0, .const⟩
def TS_TRACK_MAXMOVE : FD := ⟨0x058, 8, 8, .rw, 0x40, .l, 1, 0, .const⟩
def TS_TRACK_HOLD_S : FD := ⟨0x058, 16, 8, .rw, 0x1e, .l, 1, 0, .const⟩
def TS_TRACK_BASE_FR : FD := ⟨0x058, 24, 4, .rw, 4, .l, 1, 0, .const⟩
def TS_PALM_PALM : FD := ⟨0x05C, 0, 8, .rw, 0x18, .l, 1, 0, .const⟩
def TS_PALM_COVER : FD := ⟨0x05C, 16, 11, .rw, 0x1c0, .l, 1, 0, .const⟩
def TS_WAKE_CFG_GESTURE : FD := ⟨0x060, 0, 2, .rw, 0, .l, 1, 0, .const⟩
def TS_WAKE_CFG_HZ : FD := ⟨0x060, 8, 6, .rw, 0x14, .l, 1, 0, .const⟩
def TS_WAKE_CFG_TAP : FD := ⟨0x060, 16, 8, .rw, 0x19, .l, 1, 0, .const⟩
def TS_WAKE_CFG_GAP : FD := ⟨0x060, 24, 8, .rw, 0x32, .l, 1, 0, .const⟩
def TS_STAT_STATE : FD := ⟨0x064, 0, 3, .ro, 0, .none, 1, 0, .const⟩
def TS_STAT_SYNCED : FD := ⟨0x064, 3, 1, .ro, 0, .none, 1, 0, .const⟩
def TS_STAT_TRACKS : FD := ⟨0x064, 4, 4, .ro, 0, .none, 1, 0, .const⟩
def TS_STAT_LARGE : FD := ⟨0x064, 8, 1, .ro, 0, .none, 1, 0, .const⟩
def TS_STAT_COVERED : FD := ⟨0x064, 9, 1, .ro, 0, .none, 1, 0, .const⟩
def TS_SCANCNT_COUNT : FD := ⟨0x068, 0, 32, .ro, 0, .none, 1, 0, .const⟩
def TS_SCANT_LO_TIME : FD := ⟨0x06C, 0, 32, .ro, 0, .none, 1, 0, .const⟩
def TS_SCANT_HI_TIME : FD := ⟨0x070, 0, 32, .ro, 0, .none, 1, 0, .const⟩
def TS_EVENTS_ANTI : FD := ⟨0x074, 0, 8, .ro, 0, .none, 1, 0, .const⟩
def TS_EVENTS_RECAL : FD := ⟨0x074, 8, 8, .ro, 0, .none, 1, 0, .const⟩
def TS_EVENTS_OVERRUN : FD := ⟨0x074, 16, 8, .ro, 0, .none, 1, 0, .const⟩
def TS_EVENTS_FULL : FD := ⟨0x074, 24, 8, .ro, 0, .none, 1, 0, .const⟩
def TS_WAKE_COUNT : FD := ⟨0x078, 0, 16, .ro, 0, .none, 1, 0, .const⟩
def TS_WAKE_GESTURE : FD := ⟨0x078, 16, 2, .ro, 0, .none, 1, 0, .const⟩
def TS_WAKEPOS_X : FD := ⟨0x07C, 0, 16, .ro, 0, .none, 1, 0, .const⟩
def TS_WAKEPOS_Y : FD := ⟨0x07C, 16, 16, .ro, 0, .none, 1, 0, .const⟩
def TS_DUMP_LO_ADDR : FD := ⟨0x080, 6, 26, .rw, 0, .l, 1, 0, .const⟩
def TS_DUMP_HI_ADDR : FD := ⟨0x084, 0, 8, .rw, 0, .l, 1, 0, .const⟩

/-! Rule R374 (10_touch.md). -/

def TB_CTRL_SPEAKER : FD := ⟨0x040, 0, 3, .rw, 0, .s, 1, 0, .const⟩
def TB_STAT_ARMED : FD := ⟨0x044, 0, 7, .ro, 0, .none, 1, 0, .const⟩
def TB_STAT_BOLT : FD := ⟨0x044, 8, 4, .ro, 0, .none, 1, 0, .const⟩
def TB_STAT_FILL : FD := ⟨0x044, 16, 6, .ro, 0, .none, 1, 0, .const⟩
def TB_COUNT_RECORDS : FD := ⟨0x048, 0, 32, .ro, 0, .none, 1, 0, .const⟩
def TB_LOST_FULL : FD := ⟨0x04C, 0, 16, .ro, 0, .none, 1, 0, .const⟩
def TB_LOST_RESTART : FD := ⟨0x04C, 16, 16, .ro, 0, .none, 1, 0, .const⟩
def TB_MASKED_COUNT : FD := ⟨0x050, 0, 16, .ro, 0, .none, 1, 0, .const⟩
def TB_POS_X : FD := ⟨0x100, 0, 13, .rw, 0, .s, 64, 16, .const⟩
def TB_POS_Y : FD := ⟨0x100, 16, 13, .rw, 0, .s, 64, 16, .const⟩
def TB_SIZE_W : FD := ⟨0x104, 0, 13, .rw, 0, .s, 64, 16, .const⟩
def TB_SIZE_H : FD := ⟨0x104, 16, 13, .rw, 0, .s, 64, 16, .const⟩
def TB_CFG_EN : FD := ⟨0x108, 0, 1, .rw, 0, .s, 64, 16, .const⟩
def TB_CFG_MASK : FD := ⟨0x108, 1, 1, .rw, 0, .s, 64, 16, .const⟩
def TB_CFG_HAP : FD := ⟨0x108, 2, 1, .rw, 0, .s, 64, 16, .const⟩
def TB_CFG_TONE_EN : FD := ⟨0x108, 3, 1, .rw, 0, .s, 64, 16, .const⟩
def TB_CFG_CODE : FD := ⟨0x108, 8, 8, .rw, 0, .s, 64, 16, .const⟩
def TB_CFG_EFFECT : FD := ⟨0x108, 16, 8, .rw, 0, .s, 64, 16, .const⟩
def TB_CFG_TONE : FD := ⟨0x108, 24, 6, .rw, 0, .s, 64, 16, .const⟩

/-! Rule R375 (10_touch.md). -/

def TR_OWN_PORTS : FD := ⟨0x040, 0, 8, .ro, 0, .none, 1, 0, .const⟩

/-! Rule R375 (10_touch.md). -/

def TR_CTRL_EN : FD := ⟨0x100, 0, 1, .rw, 0, .l, 8, 64, .const⟩
def TR_CTRL_IRQ : FD := ⟨0x100, 1, 1, .rw, 0, .l, 8, 64, .const⟩
def TR_CTRL_FRAME : FD := ⟨0x100, 2, 1, .rw, 0, .l, 8, 64, .const⟩
def TR_CTRL_ASPACE : FD := ⟨0x100, 4, 4, .rw, 0, .x, 8, 64, .const⟩
def TR_CTRL_MOVE_Q : FD := ⟨0x100, 8, 4, .rw, 4, .l, 8, 64, .const⟩
def TR_RING_LO_BASE : FD := ⟨0x104, 6, 26, .rw, 0, .x, 8, 64, .const⟩
def TR_RING_HI_BASE : FD := ⟨0x108, 0, 16, .rw, 0, .x, 8, 64, .const⟩
def TR_RING_HI_LOG2 : FD := ⟨0x108, 16, 5, .rw, 6, .x, 8, 64, .const⟩
def TR_HEAD_INDEX : FD := ⟨0x10C, 0, 12, .ro, 0, .none, 8, 64, .const⟩
def TR_TAIL_INDEX : FD := ⟨0x110, 0, 12, .rw, 0, .l, 8, 64, .const⟩
def TR_STAT_ERR : FD := ⟨0x114, 0, 2, .ro, 0, .none, 8, 64, .const⟩
def TR_STAT_OVERFLOW : FD := ⟨0x114, 4, 1, .w1c, 0, .l, 8, 64, .const⟩
def TR_STAT_TRACKS : FD := ⟨0x114, 8, 4, .ro, 0, .none, 8, 64, .const⟩
def TR_COUNT_RECORDS : FD := ⟨0x118, 0, 32, .ro, 0, .none, 8, 64, .const⟩
def TR_LOST_COUNT : FD := ⟨0x11C, 0, 32, .ro, 0, .none, 8, 64, .const⟩
def TR_CLK0_A_X : FD := ⟨0x120, 0, 12, .rw, 0, .s, 8, 64, .const⟩
def TR_CLK1_A_X : FD := ⟨0x128, 0, 12, .rw, 0, .s, 8, 64, .const⟩
def TR_CLK2_A_X : FD := ⟨0x130, 0, 12, .rw, 0, .s, 8, 64, .const⟩
def TR_CLK3_A_X : FD := ⟨0x138, 0, 12, .rw, 0, .s, 8, 64, .const⟩
def TR_CLK0_A_Y : FD := ⟨0x120, 12, 12, .rw, 0, .s, 8, 64, .const⟩
def TR_CLK1_A_Y : FD := ⟨0x128, 12, 12, .rw, 0, .s, 8, 64, .const⟩
def TR_CLK2_A_Y : FD := ⟨0x130, 12, 12, .rw, 0, .s, 8, 64, .const⟩
def TR_CLK3_A_Y : FD := ⟨0x138, 12, 12, .rw, 0, .s, 8, 64, .const⟩
def TR_CLK0_A_EFFECT : FD := ⟨0x120, 24, 8, .rw, 0, .s, 8, 64, .const⟩
def TR_CLK1_A_EFFECT : FD := ⟨0x128, 24, 8, .rw, 0, .s, 8, 64, .const⟩
def TR_CLK2_A_EFFECT : FD := ⟨0x130, 24, 8, .rw, 0, .s, 8, 64, .const⟩
def TR_CLK3_A_EFFECT : FD := ⟨0x138, 24, 8, .rw, 0, .s, 8, 64, .const⟩
def TR_CLK0_B_W : FD := ⟨0x124, 0, 12, .rw, 0, .s, 8, 64, .const⟩
def TR_CLK1_B_W : FD := ⟨0x12C, 0, 12, .rw, 0, .s, 8, 64, .const⟩
def TR_CLK2_B_W : FD := ⟨0x134, 0, 12, .rw, 0, .s, 8, 64, .const⟩
def TR_CLK3_B_W : FD := ⟨0x13C, 0, 12, .rw, 0, .s, 8, 64, .const⟩
def TR_CLK0_B_H : FD := ⟨0x124, 12, 12, .rw, 0, .s, 8, 64, .const⟩
def TR_CLK1_B_H : FD := ⟨0x12C, 12, 12, .rw, 0, .s, 8, 64, .const⟩
def TR_CLK2_B_H : FD := ⟨0x134, 12, 12, .rw, 0, .s, 8, 64, .const⟩
def TR_CLK3_B_H : FD := ⟨0x13C, 12, 12, .rw, 0, .s, 8, 64, .const⟩
def TR_CLK0_B_EN : FD := ⟨0x124, 24, 1, .rw, 0, .s, 8, 64, .const⟩
def TR_CLK1_B_EN : FD := ⟨0x12C, 24, 1, .rw, 0, .s, 8, 64, .const⟩
def TR_CLK2_B_EN : FD := ⟨0x134, 24, 1, .rw, 0, .s, 8, 64, .const⟩
def TR_CLK3_B_EN : FD := ⟨0x13C, 24, 1, .rw, 0, .s, 8, 64, .const⟩

/-! Rule R390 (11_haptics.md). -/

def HA_CTRL_EN : FD := ⟨0x100, 0, 1, .rw, 0, .l, 8, 64, .const⟩
def HA_CTRL_CLEAR : FD := ⟨0x100, 1, 1, .wo, 0, .l, 8, 64, .const⟩
def HA_CTRL_CHECK : FD := ⟨0x100, 2, 1, .wo, 0, .l, 8, 64, .const⟩
def HA_CTRL_ASPACE : FD := ⟨0x100, 4, 4, .rw, 0, .l, 8, 64, .const⟩
def HA_CFG_VFS : FD := ⟨0x104, 0, 7, .rw, 0x3c, .s, 8, 64, .const⟩
def HA_CFG_ILIM : FD := ⟨0x104, 8, 3, .rw, 7, .s, 8, 64, .const⟩
def HA_CFG_OD_MS : FD := ⟨0x104, 12, 4, .rw, 4, .s, 8, 64, .const⟩
def HA_CFG_OD_X : FD := ⟨0x104, 16, 6, .rw, 0x20, .s, 8, 64, .const⟩
def HA_BRK_BRK : FD := ⟨0x108, 0, 4, .rw, 8, .s, 8, 64, .const⟩
def HA_BRK_BRK_MS : FD := ⟨0x108, 4, 3, .rw, 5, .s, 8, 64, .const⟩
def HA_BRK_THR : FD := ⟨0x108, 8, 8, .rw, 0x14, .s, 8, 64, .const⟩
def HA_BRK_REF : FD := ⟨0x108, 16, 8, .rw, 0xc8, .s, 8, 64, .const⟩
def HA_BRK_STALL : FD := ⟨0x108, 24, 8, .rw, 0xa, .s, 8, 64, .const⟩
def HA_TRIG_WORD : FD := ⟨0x10C, 0, 32, .wo, 0, .l, 8, 64, .const⟩
def HA_STAT_STATE : FD := ⟨0x110, 0, 3, .ro, 0, .none, 8, 64, .const⟩
def HA_STAT_PENDING : FD := ⟨0x110, 3, 1, .ro, 0, .none, 8, 64, .const⟩
def HA_STAT_EFFECT : FD := ⟨0x110, 8, 8, .ro, 0, .none, 8, 64, .const⟩
def HA_STAT_FAULT : FD := ⟨0x110, 16, 3, .ro, 0, .none, 8, 64, .const⟩
def HA_STAT_RES : FD := ⟨0x110, 24, 8, .ro, 0, .none, 8, 64, .const⟩
def HA_COUNT_STARTED : FD := ⟨0x114, 0, 16, .ro, 0, .none, 8, 64, .const⟩
def HA_COUNT_DROPPED : FD := ⟨0x114, 16, 16, .ro, 0, .none, 8, 64, .const⟩
def HA_FAULTS_SHORT : FD := ⟨0x118, 0, 8, .ro, 0, .none, 8, 64, .const⟩
def HA_FAULTS_MISSING : FD := ⟨0x118, 8, 8, .ro, 0, .none, 8, 64, .const⟩
def HA_FAULTS_STALL : FD := ⟨0x118, 16, 8, .ro, 0, .none, 8, 64, .const⟩
def HA_FAULTS_OTHER : FD := ⟨0x118, 24, 8, .ro, 0, .none, 8, 64, .const⟩
def HA_LD_LO_ADDR : FD := ⟨0x11C, 6, 26, .rw, 0, .l, 8, 64, .const⟩
def HA_LD_HI_ADDR : FD := ⟨0x120, 0, 16, .rw, 0, .l, 8, 64, .const⟩
def HA_LD_GEOM_OFFSET : FD := ⟨0x124, 0, 15, .rw, 0, .l, 8, 64, .const⟩
def HA_LD_GEOM_LENGTH : FD := ⟨0x124, 16, 15, .rw, 0, .l, 8, 64, .const⟩
def HA_LD_CTRL_GO : FD := ⟨0x128, 0, 1, .wo, 0, .l, 8, 64, .const⟩
def HA_LD_CTRL_SLOT : FD := ⟨0x128, 8, 5, .wo, 0, .l, 8, 64, .const⟩
def HA_LD_CTRL_NOBRAKE : FD := ⟨0x128, 16, 1, .wo, 0, .l, 8, 64, .const⟩
def HA_LD_CTRL_NOOD : FD := ⟨0x128, 17, 1, .wo, 0, .l, 8, 64, .const⟩
def HA_LD_STAT_BUSY : FD := ⟨0x12C, 0, 1, .ro, 0, .none, 8, 64, .const⟩
def HA_LD_STAT_RESULT : FD := ⟨0x12C, 1, 3, .ro, 0, .none, 8, 64, .const⟩
def HA_LD_STAT_VALID : FD := ⟨0x12C, 8, 24, .ro, 0, .none, 8, 64, .const⟩

/-! Rule R391 (11_haptics.md). -/

def HB_TRIG_CHAN : FD := ⟨0x040, 0, 3, .wo, 0, .l, 1, 0, .const⟩
def HB_TRIG_EFFECT : FD := ⟨0x040, 8, 8, .wo, 0, .l, 1, 0, .const⟩
def HB_TRIG_GAIN : FD := ⟨0x040, 16, 8, .wo, 0, .l, 1, 0, .const⟩
def HB_TRIG_STOP : FD := ⟨0x040, 24, 1, .wo, 0, .l, 1, 0, .const⟩
def HB_VHAP_MV : FD := ⟨0x044, 0, 16, .ro, 0, .none, 1, 0, .const⟩
def HB_VHAP_OK : FD := ⟨0x044, 16, 1, .ro, 0, .none, 1, 0, .const⟩
def HB_VHAP_DRIVE : FD := ⟨0x044, 17, 1, .ro, 0, .none, 1, 0, .const⟩
def HB_LOST_FAULTED : FD := ⟨0x048, 0, 16, .ro, 0, .none, 1, 0, .const⟩
def HB_LOST_REFUSED : FD := ⟨0x048, 16, 16, .ro, 0, .none, 1, 0, .const⟩
def HB_COUNT_STARTS : FD := ⟨0x04C, 0, 32, .ro, 0, .none, 1, 0, .const⟩
def HB_LD_LO_ADDR : FD := ⟨0x050, 6, 26, .rw, 0, .l, 1, 0, .const⟩
def HB_LD_HI_ADDR : FD := ⟨0x054, 0, 8, .rw, 0, .l, 1, 0, .const⟩
def HB_LD_GEOM_OFFSET : FD := ⟨0x058, 0, 16, .rw, 0, .l, 1, 0, .const⟩
def HB_LD_GEOM_LENGTH : FD := ⟨0x058, 16, 15, .rw, 0, .l, 1, 0, .const⟩
def HB_LD_CTRL_GO : FD := ⟨0x05C, 0, 1, .wo, 0, .l, 1, 0, .const⟩
def HB_LD_CTRL_EFFECT : FD := ⟨0x05C, 8, 6, .wo, 0, .l, 1, 0, .const⟩
def HB_LD_CTRL_BOLT : FD := ⟨0x05C, 16, 1, .wo, 0, .l, 1, 0, .const⟩
def HB_LD_CTRL_NOBRAKE : FD := ⟨0x05C, 17, 1, .wo, 0, .l, 1, 0, .const⟩
def HB_LD_CTRL_NOOD : FD := ⟨0x05C, 18, 1, .wo, 0, .l, 1, 0, .const⟩
def HB_LD_STAT_BUSY : FD := ⟨0x060, 0, 1, .ro, 0, .none, 1, 0, .const⟩
def HB_LD_STAT_RESULT : FD := ⟨0x060, 1, 3, .ro, 0, .none, 1, 0, .const⟩
def HB_VALID_LO_MASK : FD := ⟨0x064, 0, 32, .ro, 0, .none, 1, 0, .const⟩
def HB_VALID_HI_MASK : FD := ⟨0x068, 0, 32, .ro, 0, .none, 1, 0, .const⟩
def HB_BOLT_LO_MASK : FD := ⟨0x06C, 0, 32, .ro, 0, .none, 1, 0, .const⟩
def HB_BOLT_HI_MASK : FD := ⟨0x070, 0, 32, .ro, 0, .none, 1, 0, .const⟩

/-! Rule R414 (12_audio.md). -/

def TP_BANK_SWAP : FD := ⟨0x040, 0, 1, .wo, 0, .l, 1, 0, .const⟩
def TP_BANK_ACTIVE : FD := ⟨0x040, 4, 1, .ro, 0, .none, 1, 0, .const⟩
def TP_BANK_XFADE : FD := ⟨0x040, 5, 1, .ro, 0, .none, 1, 0, .const⟩
def TP_BANK_VALID : FD := ⟨0x040, 8, 2, .ro, 0, .none, 1, 0, .const⟩
def TP_LD_LO_ADDR : FD := ⟨0x044, 6, 26, .rw, 0, .l, 1, 0, .const⟩
def TP_LD_HI_ADDR : FD := ⟨0x048, 0, 8, .rw, 0, .l, 1, 0, .const⟩
def TP_LD_CTRL_GO : FD := ⟨0x04C, 0, 1, .wo, 0, .l, 1, 0, .const⟩
def TP_LD_CTRL_BYTES : FD := ⟨0x04C, 16, 15, .wo, 0, .l, 1, 0, .const⟩
def TP_LD_STAT_BUSY : FD := ⟨0x050, 0, 1, .ro, 0, .none, 1, 0, .const⟩
def TP_LD_STAT_RESULT : FD := ⟨0x050, 1, 3, .ro, 0, .none, 1, 0, .const⟩
def AE_STAT_OPS : FD := ⟨0x054, 0, 13, .ro, 0, .none, 1, 0, .const⟩
def AE_STAT_PLAYING : FD := ⟨0x054, 16, 7, .ro, 0, .none, 1, 0, .const⟩
def AE_LG_GAIN : FD := ⟨0x080, 0, 16, .rw, 0x8000, .l, 32, 4, .const⟩
def AE_SOWN_OWNER : FD := ⟨0x200, 0, 16, .rw, 0x8000, .s, 96, 4, .const⟩

/-! Rule R415 (12_audio.md). -/

def ST_CTRL_EN : FD := ⟨0x800, 0, 1, .rw, 0, .l, 96, 16, .const⟩
def ST_CTRL_FMT : FD := ⟨0x800, 1, 1, .rw, 0, .x, 96, 16, .const⟩
def ST_CTRL_ASPACE : FD := ⟨0x800, 4, 4, .rw, 0, .x, 96, 16, .const⟩
def ST_CTRL_SIZE : FD := ⟨0x800, 16, 12, .rw, 0, .x, 96, 16, .const⟩
def ST_RING_LO_BASE : FD := ⟨0x804, 6, 26, .rw, 0, .x, 96, 16, .const⟩
def ST_RING_HI_BASE : FD := ⟨0x808, 0, 16, .rw, 0, .x, 96, 16, .const⟩
def ST_RING_HI_RBLK : FD := ⟨0x808, 16, 8, .rw, 1, .x, 96, 16, .const⟩
def ST_GAIN_GAIN : FD := ⟨0x80C, 0, 16, .rw, 0x8000, .l, 96, 16, .const⟩

/-! Rule R415 (12_audio.md). -/

def ST_WPTR_WORD : FD := ⟨0x200, 0, 32, .wo, 0, .l, 96, 4, .const⟩
def ST_STAT_RIDX : FD := ⟨0xE00, 0, 16, .ro, 0, .none, 96, 4, .const⟩
def ST_STAT_STATE : FD := ⟨0xE00, 16, 3, .ro, 0, .none, 96, 4, .const⟩
def ST_STAT_ERR : FD := ⟨0xE00, 20, 2, .ro, 0, .none, 96, 4, .const⟩
def ST_STAT_UNDER : FD := ⟨0xE00, 24, 8, .ro, 0, .none, 96, 4, .const⟩

/-! Rule R416 (12_audio.md). -/

def TDM_CFG_EN : FD := ⟨0x040, 0, 1, .rw, 0, .l, 1, 0, .const⟩
def TDM_CFG_DELAY : FD := ⟨0x040, 1, 1, .rw, 1, .x, 1, 0, .const⟩
def TDM_CFG_HIZ : FD := ⟨0x040, 2, 1, .rw, 0, .x, 1, 0, .const⟩
def TDM_CFG_SLOTS : FD := ⟨0x040, 8, 8, .rw, 0xff, .x, 1, 0, .const⟩
def SK_SRC_SRC : FD := ⟨0x100, 0, 8, .rw, 0, .l, 8, 16, .const⟩
def SK_SRC_GAIN : FD := ⟨0x100, 16, 16, .rw, 0x8000, .l, 8, 16, .const⟩
def SK_LIM_LIM_EN : FD := ⟨0x104, 0, 1, .rw, 1, .l, 8, 16, .const⟩
def SK_LIM_TH : FD := ⟨0x104, 8, 6, .rw, 2, .l, 8, 16, .const⟩
def SK_LIM_REL : FD := ⟨0x104, 16, 6, .rw, 0x14, .l, 8, 16, .const⟩
def SK_STAT_LIMITED : FD := ⟨0x108, 0, 16, .ro, 0, .none, 8, 16, .const⟩
def SK_STAT_CLIPS : FD := ⟨0x108, 16, 16, .ro, 0, .none, 8, 16, .const⟩

/-! Rule R417 (12_audio.md). -/

def TN_TRIG_SPK : FD := ⟨0x040, 0, 3, .wo, 0, .l, 1, 0, .const⟩
def TN_TRIG_TONE : FD := ⟨0x040, 8, 6, .wo, 0, .l, 1, 0, .const⟩
def TN_DUCK_DUCK0 : FD := ⟨0x044, 0, 4, .rw, 2, .l, 1, 0, .const⟩
def TN_DUCK_DUCK1 : FD := ⟨0x044, 4, 4, .rw, 2, .l, 1, 0, .const⟩
def TN_DUCK_DUCK2 : FD := ⟨0x044, 8, 4, .rw, 2, .l, 1, 0, .const⟩
def TN_DUCK_DUCK3 : FD := ⟨0x044, 12, 4, .rw, 2, .l, 1, 0, .const⟩
def TN_DUCK_DUCK4 : FD := ⟨0x044, 16, 4, .rw, 2, .l, 1, 0, .const⟩
def TN_DUCK_DUCK5 : FD := ⟨0x044, 20, 4, .rw, 2, .l, 1, 0, .const⟩
def TN_DUCK_DUCK6 : FD := ⟨0x044, 24, 4, .rw, 2, .l, 1, 0, .const⟩
def TN_DUCK_DUCK7 : FD := ⟨0x044, 28, 4, .rw, 2, .l, 1, 0, .const⟩
def TN_LOST_FAULTED : FD := ⟨0x048, 0, 16, .ro, 0, .none, 1, 0, .const⟩
def TN_LOST_REFUSED : FD := ⟨0x048, 16, 16, .ro, 0, .none, 1, 0, .const⟩
def TN_COUNT_STARTS : FD := ⟨0x04C, 0, 32, .ro, 0, .none, 1, 0, .const⟩
def TN_LD_LO_ADDR : FD := ⟨0x050, 6, 26, .rw, 0, .l, 1, 0, .const⟩
def TN_LD_HI_ADDR : FD := ⟨0x054, 0, 8, .rw, 0, .l, 1, 0, .const⟩
def TN_LD_GEOM_OFFSET : FD := ⟨0x058, 0, 18, .rw, 0, .l, 1, 0, .const⟩
def TN_LD_CTRL_GO : FD := ⟨0x05C, 0, 1, .wo, 0, .l, 1, 0, .const⟩
def TN_LD_CTRL_TONE : FD := ⟨0x05C, 8, 6, .wo, 0, .l, 1, 0, .const⟩
def TN_LD_CTRL_LEVEL : FD := ⟨0x05C, 16, 8, .wo, 0, .l, 1, 0, .const⟩
def TN_LD_CTRL_LENGTH : FD := ⟨0x05C, 24, 8, .wo, 0, .l, 1, 0, .const⟩
def TN_LD_STAT_BUSY : FD := ⟨0x060, 0, 1, .ro, 0, .none, 1, 0, .const⟩
def TN_LD_STAT_RESULT : FD := ⟨0x060, 1, 3, .ro, 0, .none, 1, 0, .const⟩
def TN_VALID_LO_MASK : FD := ⟨0x064, 0, 32, .ro, 0, .none, 1, 0, .const⟩
def TN_VALID_HI_MASK : FD := ⟨0x068, 0, 32, .ro, 0, .none, 1, 0, .const⟩

/-! Rule R418 (12_audio.md). -/

def SP_CTRL_EN : FD := ⟨0x040, 0, 1, .rw, 0, .l, 1, 0, .const⟩
def SP_CTRL_CLEAR : FD := ⟨0x040, 1, 1, .wo, 0, .l, 1, 0, .const⟩
def SP_CFG_VFS : FD := ⟨0x044, 0, 7, .rw, 0x3c, .x, 1, 0, .const⟩
def SP_STAT_STATE : FD := ⟨0x048, 0, 2, .ro, 0, .none, 1, 0, .const⟩
def SP_STAT_FAULT : FD := ⟨0x048, 4, 3, .ro, 0, .none, 1, 0, .const⟩
def SP_STAT_TONE : FD := ⟨0x048, 8, 1, .ro, 0, .none, 1, 0, .const⟩
def SP_FAULTS_SHORT : FD := ⟨0x04C, 0, 8, .ro, 0, .none, 1, 0, .const⟩
def SP_FAULTS_DC : FD := ⟨0x04C, 8, 8, .ro, 0, .none, 1, 0, .const⟩
def SP_FAULTS_OVERTEMP : FD := ⟨0x04C, 16, 8, .ro, 0, .none, 1, 0, .const⟩
def SP_FAULTS_SUPPLY : FD := ⟨0x04C, 24, 8, .ro, 0, .none, 1, 0, .const⟩

/-! Rule R438 (13_interrupts_and_check_units.md). -/

def IR_EVT_TOUCH : FD := ⟨0x040, 0, 8, .w1c, 0, .l, 1, 0, .const⟩
def IR_EVT_FLIP : FD := ⟨0x040, 8, 1, .w1c, 0, .l, 1, 0, .const⟩
def IR_EVT_MAILBOX : FD := ⟨0x040, 9, 1, .w1c, 0, .l, 1, 0, .const⟩
def IR_CQPEND_LO_CTX : FD := ⟨0x044, 0, 32, .w1c, 0, .l, 1, 0, .const⟩
def IR_CQPEND_HI_CTX : FD := ⟨0x048, 0, 32, .w1c, 0, .l, 1, 0, .const⟩
def IR_ORPHAN_PENDING : FD := ⟨0x04C, 0, 1, .w1c, 0, .l, 1, 0, .const⟩
def IR_ORPHAN_SOURCE : FD := ⟨0x04C, 4, 9, .ro, 0, .none, 1, 0, .const⟩
def IR_ORPHAN_COUNT : FD := ⟨0x04C, 16, 16, .ro, 0, .none, 1, 0, .const⟩
def IR_SRC_PRIO : FD := ⟨0x800, 0, 4, .rw, 0, .l, 512, 4, .const⟩
def IR_SRC_TARGETS : FD := ⟨0x800, 4, 3, .rw, 7, .l, 512, 4, .const⟩
def IR_SRC_LEVEL : FD := ⟨0x800, 8, 1, .ro, 0, .none, 512, 4, .const⟩
def IR_SRC_PEND : FD := ⟨0x800, 9, 1, .ro, 0, .none, 512, 4, .const⟩
def IR_SRC_INSVC : FD := ⟨0x800, 10, 1, .ro, 0, .none, 512, 4, .const⟩
def IR_SRC_ORPHAN : FD := ⟨0x800, 11, 1, .ro, 0, .none, 512, 4, .const⟩
def IR_SRC_TARGET : FD := ⟨0x800, 16, 7, .ro, 0, .none, 512, 4, .const⟩

/-! Rule R439 (13_interrupts_and_check_units.md). -/

def IR_CLAIM_SOURCE : FD := ⟨0x060, 0, 9, .ro, 0, .none, 1, 0, .const⟩
def IR_CLAIM_PRIO : FD := ⟨0x060, 12, 4, .ro, 0, .none, 1, 0, .const⟩
def IR_CLAIM_VALID : FD := ⟨0x060, 31, 1, .ro, 0, .none, 1, 0, .const⟩
def IR_INSVC_PRIO : FD := ⟨0x064, 0, 16, .w1c, 0, .l, 1, 0, .const⟩
def IR_TGT_THRESH : FD := ⟨0x068, 0, 4, .rw, 0, .l, 1, 0, .const⟩
def IR_TGT_RUNPRIO : FD := ⟨0x068, 8, 4, .ro, 0, .none, 1, 0, .const⟩
def IR_TGT_TEN : FD := ⟨0x068, 16, 1, .rw, 1, .l, 1, 0, .const⟩
def IR_TSTAT_PENDING : FD := ⟨0x06C, 0, 10, .ro, 0, .none, 1, 0, .const⟩
def IR_TSTAT_ENABLED : FD := ⟨0x06C, 12, 1, .ro, 0, .none, 1, 0, .const⟩
def IR_TSTAT_SIGNALS : FD := ⟨0x06C, 16, 16, .ro, 0, .none, 1, 0, .const⟩
def MX_ADDR_LO_ADDR : FD := ⟨0x800, 2, 30, .rw, 0, .l, 1, 0, .const⟩
def MX_ADDR_HI_ADDR : FD := ⟨0x804, 0, 32, .rw, 0, .l, 1, 0, .const⟩
def MX_DATA_DATA : FD := ⟨0x808, 0, 32, .rw, 0, .l, 1, 0, .const⟩
def MX_CTRL_MASK : FD := ⟨0x80C, 0, 1, .rw, 1, .l, 1, 0, .const⟩
def MX_PBA_PEND : FD := ⟨0xC00, 0, 1, .ro, 0, .none, 1, 0, .const⟩

/-! Rule R440 (13_interrupts_and_check_units.md). -/

def IM_ADDR_LO_ADDR : FD := ⟨0x100, 2, 30, .rw, 0, .l, 64, 16, .const⟩
def IM_ADDR_HI_ADDR : FD := ⟨0x104, 0, 32, .rw, 0, .l, 64, 16, .const⟩
def IM_DATA_DATA : FD := ⟨0x108, 0, 32, .rw, 0, .l, 64, 16, .const⟩

/-! Rule R441 (13_interrupts_and_check_units.md). -/

def CV_CFG_POLY : FD := ⟨0x040, 0, 2, .rw, 1, .x, 1, 0, .const⟩
def CV_CFG_MODE : FD := ⟨0x040, 4, 1, .rw, 0, .x, 1, 0, .const⟩
def CV_CFG_CONT : FD := ⟨0x040, 5, 1, .rw, 0, .x, 1, 0, .const⟩
def CV_CFG_SPACE : FD := ⟨0x040, 8, 2, .rw, 0, .x, 1, 0, .const⟩
def CV_CFG_AWIDTH : FD := ⟨0x040, 12, 2, .rw, 0, .x, 1, 0, .const⟩
def CV_CFG_AVALID : FD := ⟨0x040, 16, 1, .rw, 0, .x, 1, 0, .const⟩
def CV_INIT_VALUE : FD := ⟨0x044, 0, 32, .rw, 0xffffffff, .x, 1, 0, .const⟩
def CV_SRC_LO_ADDR : FD := ⟨0x048, 0, 32, .rw, 0, .x, 1, 0, .const⟩
def CV_SRC_HI_ADDR : FD := ⟨0x04C, 0, 8, .rw, 0, .x, 1, 0, .const⟩
def CV_LEN_BYTES : FD := ⟨0x050, 0, 25, .rw, 0, .x, 1, 0, .const⟩
def CV_MSG_COUNT : FD := ⟨0x054, 0, 9, .rw, 1, .x, 1, 0, .const⟩
def CV_MSG_CRCOFF : FD := ⟨0x054, 16, 12, .rw, 0, .x, 1, 0, .const⟩
def CV_AOFF_AOFF : FD := ⟨0x058, 0, 12, .rw, 0, .x, 1, 0, .const⟩
def CV_CTRL_GO : FD := ⟨0x05C, 0, 1, .wo, 0, .l, 1, 0, .const⟩
def CV_STAT_BUSY : FD := ⟨0x060, 0, 1, .ro, 0, .none, 1, 0, .const⟩
def CV_STAT_RESULT : FD := ⟨0x060, 1, 3, .ro, 0, .none, 1, 0, .const⟩
def CV_STAT_DONEMSG : FD := ⟨0x060, 16, 9, .ro, 0, .none, 1, 0, .const⟩
def CV_RUN_VALUE : FD := ⟨0x064, 0, 32, .rw, 0, .x, 1, 0, .const⟩
def CV_RESULT_VALUE : FD := ⟨0x068, 0, 32, .ro, 0, .none, 1, 0, .const⟩
def CV_ALAST_LAST : FD := ⟨0x06C, 0, 32, .rw, 0, .x, 1, 0, .const⟩
def CV_COUNT_OK : FD := ⟨0x070, 0, 16, .ro, 0, .none, 1, 0, .const⟩
def CV_COUNT_CRCERR : FD := ⟨0x070, 16, 16, .ro, 0, .none, 1, 0, .const⟩
def CV_ALCNT_REPEAT : FD := ⟨0x074, 0, 16, .ro, 0, .none, 1, 0, .const⟩
def CV_ALCNT_JUMP : FD := ⟨0x074, 16, 16, .ro, 0, .none, 1, 0, .const⟩

/-! Rule R469 (14_power_wake_and_ring.md). -/

def PM_LVL0_LVL0 : FD := ⟨0x040, 0, 3, .rw, 2, .s, 1, 0, .const⟩
def PM_LVL0_LVL1 : FD := ⟨0x040, 4, 3, .rw, 2, .s, 1, 0, .const⟩
def PM_LVL0_LVL2 : FD := ⟨0x040, 8, 3, .rw, 2, .s, 1, 0, .const⟩
def PM_LVL0_LVL3 : FD := ⟨0x040, 12, 3, .rw, 2, .s, 1, 0, .const⟩
def PM_LVL0_LVL4 : FD := ⟨0x040, 16, 3, .rw, 2, .s, 1, 0, .const⟩
def PM_LVL0_LVL5 : FD := ⟨0x040, 20, 3, .rw, 2, .s, 1, 0, .const⟩
def PM_LVL0_LVL6 : FD := ⟨0x040, 24, 3, .rw, 2, .s, 1, 0, .const⟩
def PM_LVL0_LVL7 : FD := ⟨0x040, 28, 3, .rw, 2, .s, 1, 0, .const⟩
def PM_LVL1_LVL1 : FD := ⟨0x044, 4, 3, .rw, 2, .s, 1, 0, .const⟩
def PM_LVL1_LVL2 : FD := ⟨0x044, 8, 3, .rw, 2, .s, 1, 0, .const⟩
def PM_LVL1_LVL3 : FD := ⟨0x044, 12, 3, .rw, 2, .s, 1, 0, .const⟩
def PM_LVL1_LVL4 : FD := ⟨0x044, 16, 3, .rw, 2, .s, 1, 0, .const⟩
def PM_LVL1_LVL5 : FD := ⟨0x044, 20, 3, .rw, 2, .s, 1, 0, .const⟩
def PM_LVL1_LVL6 : FD := ⟨0x044, 24, 3, .rw, 2, .s, 1, 0, .const⟩
def PM_SLEEP_TARGET : FD := ⟨0x048, 0, 3, .rw, 0, .s, 1, 0, .const⟩
def PM_WARD_REQ_TARGET : FD := ⟨0x04C, 0, 3, .wo, 0, .l, 1, 0, .const⟩
def PM_WARD_REQ_KEY : FD := ⟨0x04C, 16, 16, .wo, 0, .l, 1, 0, .const⟩
def PM_STAT_STATE : FD := ⟨0x050, 0, 3, .ro, 0, .none, 1, 0, .const⟩
def PM_STAT_PHASE : FD := ⟨0x050, 4, 3, .ro, 0, .none, 1, 0, .const⟩
def PM_STAT_RESULT : FD := ⟨0x050, 8, 4, .ro, 0, .none, 1, 0, .const⟩
def PM_STAT_WAKESRC : FD := ⟨0x050, 12, 3, .ro, 0, .none, 1, 0, .const⟩
def PM_ACT0_LVL0 : FD := ⟨0x054, 0, 3, .ro, 2, .none, 1, 0, .const⟩
def PM_ACT0_LVL1 : FD := ⟨0x054, 4, 3, .ro, 2, .none, 1, 0, .const⟩
def PM_ACT0_LVL2 : FD := ⟨0x054, 8, 3, .ro, 2, .none, 1, 0, .const⟩
def PM_ACT0_LVL3 : FD := ⟨0x054, 12, 3, .ro, 2, .none, 1, 0, .const⟩
def PM_ACT0_LVL4 : FD := ⟨0x054, 16, 3, .ro, 2, .none, 1, 0, .const⟩
def PM_ACT0_LVL5 : FD := ⟨0x054, 20, 3, .ro, 2, .none, 1, 0, .const⟩
def PM_ACT0_LVL6 : FD := ⟨0x054, 24, 3, .ro, 2, .none, 1, 0, .const⟩
def PM_ACT0_LVL7 : FD := ⟨0x054, 28, 3, .ro, 2, .none, 1, 0, .const⟩
def PM_ACT1_LVL1 : FD := ⟨0x058, 4, 3, .ro, 2, .none, 1, 0, .const⟩
def PM_ACT1_LVL2 : FD := ⟨0x058, 8, 3, .ro, 2, .none, 1, 0, .const⟩
def PM_ACT1_LVL3 : FD := ⟨0x058, 12, 3, .ro, 2, .none, 1, 0, .const⟩
def PM_ACT1_LVL4 : FD := ⟨0x058, 16, 3, .ro, 2, .none, 1, 0, .const⟩
def PM_ACT1_LVL5 : FD := ⟨0x058, 20, 3, .ro, 2, .none, 1, 0, .const⟩
def PM_ACT1_LVL6 : FD := ⟨0x058, 24, 3, .ro, 2, .none, 1, 0, .const⟩
def PM_RAIL_CORE : FD := ⟨0x05C, 0, 3, .ro, 2, .none, 1, 0, .const⟩
def PM_RAIL_GFX : FD := ⟨0x05C, 4, 3, .ro, 2, .none, 1, 0, .const⟩
def PM_RAIL_PORT : FD := ⟨0x05C, 8, 3, .ro, 2, .none, 1, 0, .const⟩
def PM_WAKE_EN_I2C : FD := ⟨0x060, 0, 1, .rw, 1, .l, 1, 0, .const⟩
def PM_WAKE_EN_RTC : FD := ⟨0x060, 1, 1, .rw, 1, .l, 1, 0, .const⟩
def PM_WAKE_EN_GESTURE : FD := ⟨0x060, 2, 1, .rw, 0, .l, 1, 0, .const⟩
def PM_WAKE_EN_RING : FD := ⟨0x060, 3, 1, .rw, 0, .l, 1, 0, .const⟩
def PM_EVT_DONE : FD := ⟨0x064, 0, 1, .w1c, 0, .l, 1, 0, .const⟩
def PM_EVT_WAKE : FD := ⟨0x064, 1, 1, .w1c, 0, .l, 1, 0, .const⟩
def PM_EVT_THERM : FD := ⟨0x064, 2, 1, .w1c, 0, .l, 1, 0, .const⟩
def PM_THERM_LIMIT : FD := ⟨0x068, 0, 8, .rw, 0x64, .l, 1, 0, .const⟩
def PM_THERM_CAP : FD := ⟨0x068, 8, 3, .rw, 3, .l, 1, 0, .const⟩
def PM_THERM_ACTIVE : FD := ⟨0x068, 16, 1, .ro, 0, .none, 1, 0, .const⟩
def PM_THERM_TEMP : FD := ⟨0x068, 24, 8, .ro, 0, .none, 1, 0, .const⟩
def PM_COUNT_CHANGES : FD := ⟨0x06C, 0, 16, .ro, 0, .none, 1, 0, .const⟩
def PM_COUNT_RACES : FD := ⟨0x06C, 16, 16, .ro, 0, .none, 1, 0, .const⟩
def PM_LOG_LO_TIME : FD := ⟨0x070, 0, 32, .ro, 0, .none, 1, 0, .const⟩
def PM_LOG_HI_TIME : FD := ⟨0x074, 0, 32, .ro, 0, .none, 1, 0, .const⟩
def PM_LOG_KIND : FD := ⟨0x078, 0, 4, .ro, 0, .none, 1, 0, .const⟩
def PM_LOG_DETAIL : FD := ⟨0x078, 8, 8, .ro, 0, .none, 1, 0, .const⟩
def PM_GATE_OFF : FD := ⟨0x100, 0, 1, .rw, 0, .l, 24, 4, .const⟩
def PM_GATE_CLKSTOP : FD := ⟨0x100, 1, 1, .rw, 0, .l, 24, 4, .const⟩
def PM_GATE_RSTHOLD : FD := ⟨0x100, 8, 8, .rw, 0, .l, 24, 4, .const⟩

/-! Rule R470 (14_power_wake_and_ring.md). -/

def RG_TMO_BUS : FD := ⟨0x040, 0, 8, .rw, 0xa, .l, 1, 0, .const⟩
def RG_TMO_ACK : FD := ⟨0x040, 8, 8, .rw, 0x14, .l, 1, 0, .const⟩
def RG_CFG_ADDR : FD := ⟨0x100, 0, 7, .rw, 0x40, .x, 3, 16, .plusIndex⟩
def RG_CFG_PAGE : FD := ⟨0x100, 8, 8, .rw, 0xff, .x, 3, 16, .const⟩
def RG_STAT_ACK : FD := ⟨0x104, 0, 1, .ro, 0, .none, 3, 16, .const⟩
def RG_STAT_UNSURE : FD := ⟨0x104, 1, 1, .ro, 0, .none, 3, 16, .const⟩
def RG_STAT_FAILS : FD := ⟨0x104, 4, 4, .ro, 0, .none, 3, 16, .const⟩
def RG_STAT_MV : FD := ⟨0x104, 16, 12, .ro, 0, .none, 3, 16, .const⟩
def RG_ERR_BUS : FD := ⟨0x108, 0, 16, .ro, 0, .none, 3, 16, .const⟩
def RG_ERR_ACK : FD := ⟨0x108, 16, 16, .ro, 0, .none, 3, 16, .const⟩
def RG_SW_STATUS : FD := ⟨0x10C, 0, 16, .ro, 0, .none, 3, 16, .const⟩

/-! Rule R471 (14_power_wake_and_ring.md). -/

def WK_I2C_ADDR : FD := ⟨0x040, 0, 7, .rw, 0x48, .l, 1, 0, .const⟩
def WK_I2C_EN : FD := ⟨0x040, 8, 1, .rw, 0, .l, 1, 0, .const⟩
def WK_STAT_MATCHES : FD := ⟨0x044, 0, 16, .ro, 0, .none, 1, 0, .const⟩
def RTC_CNT_LO_COUNT : FD := ⟨0x048, 0, 32, .ro, 0, .none, 1, 0, .const⟩
def RTC_CNT_HI_COUNT : FD := ⟨0x04C, 0, 16, .ro, 0, .none, 1, 0, .const⟩
def RTC_ALM_LO_COUNT : FD := ⟨0x050, 0, 32, .rw, 0, .l, 1, 0, .const⟩
def RTC_ALM_HI_COUNT : FD := ⟨0x054, 0, 16, .rw, 0, .l, 1, 0, .const⟩
def RTC_CTRL_ALM_EN : FD := ⟨0x058, 0, 1, .rw, 0, .l, 1, 0, .const⟩
def RTC_CTRL_ALM_FIRED : FD := ⟨0x058, 1, 1, .w1c, 0, .l, 1, 0, .const⟩
def RTC_CTRL_OSC_OK : FD := ⟨0x058, 8, 1, .ro, 0, .none, 1, 0, .const⟩

/-! Rule R472 (14_power_wake_and_ring.md). -/

def RB_CTRL_HOLD : FD := ⟨0x040, 0, 1, .rw, 0, .l, 1, 0, .const⟩
def RB_CTRL_TMASTER : FD := ⟨0x040, 1, 1, .rw, 0, .x, 1, 0, .const⟩
def RB_CTRL_KEYEN : FD := ⟨0x040, 2, 2, .rw, 0, .l, 1, 0, .const⟩
def RB_CTRL_NODE : FD := ⟨0x040, 8, 5, .rw, 0x1f, .x, 1, 0, .const⟩
def RB_CTRL_TNODE : FD := ⟨0x040, 16, 5, .rw, 0, .x, 1, 0, .const⟩
def RB_EMGSRC_MASK : FD := ⟨0x044, 0, 32, .rw, 0, .x, 1, 0, .const⟩
def RB_STAT_HOLD : FD := ⟨0x048, 0, 1, .ro, 0, .none, 1, 0, .const⟩
def RB_EMGSTAT_HELD : FD := ⟨0x04C, 0, 1, .w1c, 0, .l, 1, 0, .const⟩
def RB_EMGSTAT_SRC : FD := ⟨0x04C, 8, 5, .ro, 0, .none, 1, 0, .const⟩
def RB_EMGSTAT_COUNT : FD := ⟨0x04C, 16, 16, .ro, 0, .none, 1, 0, .const⟩
def RB_EMGT_LO_TIME : FD := ⟨0x050, 0, 32, .ro, 0, .none, 1, 0, .const⟩
def RB_EMGT_HI_TIME : FD := ⟨0x054, 0, 32, .ro, 0, .none, 1, 0, .const⟩
def RB_AUTH_FAIL : FD := ⟨0x058, 0, 16, .ro, 0, .none, 1, 0, .const⟩
def RB_AUTH_STALE : FD := ⟨0x058, 16, 16, .ro, 0, .none, 1, 0, .const⟩
def RB_TOFS_NS : FD := ⟨0x05C, 0, 32, .ro, 0, .none, 1, 0, .const⟩
def RB_TX_GO : FD := ⟨0x060, 0, 1, .wo, 0, .l, 1, 0, .const⟩
def RB_TX_BUSY : FD := ⟨0x060, 1, 1, .ro, 0, .none, 1, 0, .const⟩
def RB_RX_COUNT : FD := ⟨0x064, 0, 5, .ro, 0, .none, 1, 0, .const⟩
def RB_RX_POP : FD := ⟨0x064, 8, 1, .wo, 0, .l, 1, 0, .const⟩
def RB_RX_LOST : FD := ⟨0x064, 16, 16, .ro, 0, .none, 1, 0, .const⟩
def RB_KEY_KEY : FD := ⟨0x100, 0, 32, .wo, 0, .l, 16, 4, .const⟩
def RB_EMG_WORD : FD := ⟨0x200, 0, 32, .ro, 0, .none, 8, 4, .const⟩
def RB_TX_WORD : FD := ⟨0x240, 0, 32, .rw, 0, .l, 8, 4, .const⟩
def RB_RX_WORD : FD := ⟨0x280, 0, 32, .ro, 0, .none, 8, 4, .const⟩
def RP_STAT_STATE : FD := ⟨0x300, 0, 2, .ro, 0, .none, 2, 16, .const⟩
def RP_ERR_CODE : FD := ⟨0x304, 0, 16, .ro, 0, .none, 2, 16, .const⟩
def RP_ERR_CRC : FD := ⟨0x304, 16, 16, .ro, 0, .none, 2, 16, .const⟩
def RP_DLY_NS : FD := ⟨0x308, 0, 16, .ro, 0, .none, 2, 16, .const⟩
def RP_FWD_COUNT : FD := ⟨0x30C, 0, 32, .ro, 0, .none, 2, 16, .const⟩

/-! Rule R493 (15_faults_and_loop_backs.md). -/

def FT_STAT_HIGHEST : FD := ⟨0x040, 0, 3, .ro, 0, .none, 1, 0, .const⟩
def FT_STAT_WINDOW : FD := ⟨0x040, 4, 3, .ro, 0, .none, 1, 0, .const⟩
def FT_STAT_UNREAD : FD := ⟨0x040, 8, 6, .ro, 0, .none, 1, 0, .const⟩
def FT_STAT_LOST : FD := ⟨0x040, 16, 16, .ro, 0, .none, 1, 0, .const⟩
def FT_SEQ_NEXT : FD := ⟨0x044, 0, 32, .ro, 0, .none, 1, 0, .const⟩
def FT_WEND_LO_TIME : FD := ⟨0x048, 0, 32, .ro, 0, .none, 1, 0, .const⟩
def FT_WEND_HI_TIME : FD := ⟨0x04C, 0, 32, .ro, 0, .none, 1, 0, .const⟩
def FT_POP_POP : FD := ⟨0x050, 0, 1, .wo, 0, .l, 1, 0, .const⟩
def FT_CNT1_UNIT : FD := ⟨0x054, 0, 8, .ro, 0, .none, 1, 0, .const⟩
def FT_CNT1_CLUSTER : FD := ⟨0x054, 8, 8, .ro, 0, .none, 1, 0, .const⟩
def FT_CNT1_REGION : FD := ⟨0x054, 16, 8, .ro, 0, .none, 1, 0, .const⟩
def FT_CNT1_DIE : FD := ⟨0x054, 24, 8, .ro, 0, .none, 1, 0, .const⟩
def FT_CNT2_PACKAGE : FD := ⟨0x058, 0, 8, .ro, 0, .none, 1, 0, .const⟩
def FT_CNT2_ESCALATED : FD := ⟨0x058, 8, 8, .ro, 0, .none, 1, 0, .const⟩
def FT_CNT2_CONSEQUENT : FD := ⟨0x058, 16, 16, .ro, 0, .none, 1, 0, .const⟩
def FT_INJECT_PAGE : FD := ⟨0x05C, 0, 12, .wo, 0, .l, 1, 0, .const⟩
def FT_INJECT_GO : FD := ⟨0x05C, 12, 1, .wo, 0, .l, 1, 0, .const⟩
def FT_INJECT_KEY : FD := ⟨0x05C, 16, 16, .wo, 0, .l, 1, 0, .const⟩
def FT_REC_WORD : FD := ⟨0x080, 0, 32, .ro, 0, .none, 8, 4, .const⟩
def FT_PKG_WORD : FD := ⟨0x0A0, 0, 32, .ro, 0, .none, 8, 4, .const⟩

/-! Rule R494 (15_faults_and_loop_backs.md). -/

def LB_CTRL_IFACE : FD := ⟨0x040, 0, 4, .rw, 0, .x, 1, 0, .const⟩
def LB_CTRL_INST : FD := ⟨0x040, 4, 4, .rw, 0, .x, 1, 0, .const⟩
def LB_CTRL_DEPTH : FD := ⟨0x040, 8, 2, .rw, 0, .x, 1, 0, .const⟩
def LB_CTRL_PATTERN : FD := ⟨0x040, 12, 2, .rw, 3, .x, 1, 0, .const⟩
def LB_GO_GO : FD := ⟨0x044, 0, 1, .wo, 0, .l, 1, 0, .const⟩
def LB_GO_ABORT : FD := ⟨0x044, 1, 1, .wo, 0, .l, 1, 0, .const⟩
def LB_GO_KEY : FD := ⟨0x044, 16, 16, .wo, 0, .l, 1, 0, .const⟩
def LB_RATE_RATE : FD := ⟨0x048, 0, 4, .rw, 0, .x, 1, 0, .const⟩
def LB_RATE_LANES : FD := ⟨0x048, 8, 8, .rw, 0xff, .x, 1, 0, .const⟩
def LB_LEN_MBIT : FD := ⟨0x04C, 0, 32, .rw, 0x40, .x, 1, 0, .const⟩
def LB_ADDR_LO_ADDR : FD := ⟨0x050, 6, 26, .rw, 0, .x, 1, 0, .const⟩
def LB_ADDR_HI_ADDR : FD := ⟨0x054, 0, 8, .rw, 0, .x, 1, 0, .const⟩
def LB_SIZE_MIB : FD := ⟨0x058, 0, 16, .rw, 0, .x, 1, 0, .const⟩
def LB_LIMIT_LO : FD := ⟨0x05C, 0, 16, .rw, 0, .x, 1, 0, .const⟩
def LB_LIMIT_HI : FD := ⟨0x05C, 16, 16, .rw, 0, .x, 1, 0, .const⟩
def LB_STAT_BUSY : FD := ⟨0x060, 0, 1, .ro, 0, .none, 1, 0, .const⟩
def LB_STAT_RESULT : FD := ⟨0x060, 1, 3, .ro, 0, .none, 1, 0, .const⟩
def LB_STAT_LANE : FD := ⟨0x060, 8, 7, .ro, 0, .none, 1, 0, .const⟩
def LB_ERR_COUNT : FD := ⟨0x064, 0, 32, .ro, 0, .none, 1, 0, .const⟩
def LB_DONE_MBIT : FD := ⟨0x068, 0, 32, .ro, 0, .none, 1, 0, .const⟩
def LB_MEAS_VALUE : FD := ⟨0x06C, 0, 16, .ro, 0, .none, 1, 0, .const⟩
def LB_MEAS_INDEX : FD := ⟨0x06C, 16, 16, .ro, 0, .none, 1, 0, .const⟩

end F

namespace Map

/-- The fields of the table of R33. -/
def cls : List FD :=
  [F.CLS_RESV_BOLT, F.CLS_RESV_LATCH, F.CLS_RESV_BULK, F.CLS_ADM_RESULT, F.CLS_ADM_HEAD, F.CLS_ADM_DEFICIT] ++
  [F.CLS_ADM_CNT_ADMITTED, F.CLS_ADM_CNT_REFUSED, F.CLS_BMON_CLR_CLR, F.CLS_BMON_CNT_COUNT, F.CLS_BMON_WORST_WORST, F.CLS_HEADRES_SLOTS] ++
  [F.CLS_HEADRES_USED]

/-- The fields of the table of R34. -/
def ps : List FD :=
  [F.PS_STAT_ARMED, F.PS_STAT_OPEN, F.PS_DROPS_TOTAL, F.PS_LASTDROP_ENTRY, F.PS_LASTDROP_KIND, F.PS_SHARE_VI_ENTRIES] ++
  [F.PS_SHARE_DEV_ENTRIES]

/-- The fields of the table of R35. -/
def pe : List FD :=
  [F.PE_CTRL_ARMED, F.PE_CTRL_KIND, F.PE_CTRL_OWNER, F.PE_CTRL_DEV, F.PE_CTRL_GEN, F.PE_CTRL_STATE] ++
  [F.PE_PERIOD_PERIOD, F.PE_DEADLINE_DEADLINE, F.PE_TARGET_HANDLE, F.PE_START_LO_START, F.PE_START_HI_START, F.PE_FENCE_FENCE] ++
  [F.PE_COUNT_DONE, F.PE_COUNT_DROPPED]

/-- The fields of the table of R36. -/
def pv : List FD :=
  [F.PV_BANK_BANK, F.PV_BANK_COUNT, F.PV_BANK_FIRST]

/-- The fields of the table of R39. -/
def hdr : List FD :=
  [F.PAGE_ID_INSTANCE, F.PAGE_ID_TYPE, F.PAGE_ID_INDEX, F.PAGE_VER_MINOR, F.PAGE_VER_MAJOR, F.PAGE_CAP_SHADOW] ++
  [F.PAGE_CAP_BOUNDARY, F.PAGE_CAP_NOWRUN, F.PAGE_CAP_RUNSTATE, F.PAGE_CAP_BLOCK, F.PAGE_STAT_RUN, F.PAGE_STAT_BUSY] ++
  [F.PAGE_STAT_COMMIT_PENDING, F.PAGE_STAT_LOCKED, F.PAGE_STAT_FAULT, F.PAGE_ERR_COMMON, F.PAGE_ERR_BLOCK, F.PAGE_ERREN_COMMON] ++
  [F.PAGE_ERREN_BLOCK, F.PAGE_OWNER_WORLD, F.PAGE_OWNER_PORT, F.PAGE_OWNER_VI, F.PAGE_OWNER_ALLPF, F.PAGE_LOCK_LOCK] ++
  [F.PAGE_LOCK_LEDGER, F.PAGE_LOCK_HINGE, F.PAGE_COMMIT_NOW, F.PAGE_COMMIT_AT_BOUNDARY, F.PAGE_COMMIT_REVERT, F.PAGE_COMMIT_KEY] ++
  [F.PAGE_CSTAT_DONE, F.PAGE_CSTAT_REJECT, F.PAGE_CSTAT_REASON, F.PAGE_CSTAT_COUNT, F.PAGE_CHG_COUNT, F.PAGE_LASTW_ORIGIN]

/-- The fields of the table of R75. -/
def led : List FD :=
  [F.LED_CTRL_DRAIN_EN, F.LED_CTRL_WM, F.LED_STAT_FILL, F.LED_STAT_CKQ, F.LED_STAT_STALL, F.LED_STAT_DRAINING] ++
  [F.LED_SEQ_NEXT, F.LED_RING_LO_BASE, F.LED_RING_HI_BASE, F.LED_RING_SIZE_LOG2, F.LED_RING_HEAD_OFFSET, F.LED_RING_TAIL_OFFSET] ++
  [F.LED_LOST_COUNT, F.LED_STALLS_COUNT, F.LED_CKPT_CTRL_SIGNED, F.LED_CKPT_SEQ_FIRST, F.LED_NONCE_NONCE, F.LED_CKPT_HDR_HDR] ++
  [F.LED_CKPT_HASH_HASH, F.LED_CKPT_SIG_SIG]

/-- The fields of the table of R117. -/
def xb : List FD :=
  [F.XB_MODE_MODE, F.XB_MODE_TEST_REQ, F.XB_TMO_MEM, F.XB_TMO_REG, F.XB_ISO_ISO, F.XB_TMO_CNT_COUNT] ++
  [F.XB_LASTTMO_PORT, F.XB_LASTTMO_TARGET, F.XB_HS_CNT_COUNT, F.XB_LATE_CNT_COUNT]

/-- The fields of the table of R118. -/
def arb : List FD :=
  [F.ARB_PRIO_PRIO, F.ARB_PRIO_AGE, F.ARB_PRIO_WAITMAX, F.ARB_BURST_MAX]

/-- The fields of the table of R119. -/
def sw : List FD :=
  [F.SW_SLOT_OWNER0, F.SW_SLOT_OWNER1, F.SW_SLOT_OWNER2, F.SW_SLOT_OWNER3, F.SW_ACT_OWNER0, F.SW_ACT_OWNER1] ++
  [F.SW_ACT_OWNER2, F.SW_ACT_OWNER3, F.SW_STAT_SLOT, F.SW_STAT_TURN, F.SW_RECLAIM_BOLT, F.SW_RECLAIM_LATCH] ++
  [F.SW_WRAP_LO_TIME, F.SW_WRAP_HI_TIME]

/-- The fields of the table of R120. -/
def isl : List FD :=
  [F.ISL_SEL_CLUSTER, F.ISL_FREQ_MEAS, F.ISL_FREQ_TARGET, F.ISL_STRETCH_COUNT]

/-- The fields of the table of R121. -/
def dt : List FD :=
  [F.DT_NOW_LO_TIME, F.DT_NOW_HI_TIME, F.DT_CTRL_AUTO, F.DT_TRIM_PPB, F.DT_SYNCTRIM_PPB, F.DT_STEP_NS] ++
  [F.DT_STAT_SYNC, F.DT_STAT_CLAMP, F.DT_LINKOFS_NS]

/-- The fields of the table of R122. -/
def pl : List FD :=
  [F.PL_CTRL_RETRAIN, F.PL_CTRL_SPARE_AUTO, F.PL_STAT_STATE, F.PL_STAT_LANES, F.PL_STAT_SPARES, F.PL_CRC_COUNT] ++
  [F.PL_REPLAY_COUNT, F.PL_LAT_NS, F.PL_SPARE_LANE, F.PL_SPARE_VALID]

/-- The fields of the table of R157. -/
def ht : List FD :=
  [F.HT_CTRL_LOCK, F.HT_CTRL_KEY, F.HT_STAT_LOADED, F.HT_STAT_LOCKED, F.HT_STAT_NLOG2, F.HT_STAT_SLOT] ++
  [F.HT_LOCKT_LO_TIME, F.HT_LOCKT_HI_TIME, F.HT_HASH_HASH, F.HT_CLAIM_MASK, F.HT_WARD_BASE, F.HT_WARD_SIZE] ++
  [F.HT_OPEN_BASE, F.HT_OPEN_SIZE]

/-- The fields of the table of R158. -/
def boot : List FD :=
  [F.BOOT_STAT_STAGE, F.BOOT_STAT_SLOT, F.BOOT_STAT_FALLBACK, F.BOOT_STAT_FAILCODE, F.BOOT_STAT_KEYID, F.BOOT_SVN_SVN] ++
  [F.BOOT_SAFE_US, F.WR_STAT_STATE, F.WR_STAT_CAUSE, F.WR_STAT_COUNT, F.WR_LAST_LO_TIME, F.WR_LAST_HI_TIME] ++
  [F.WR_DUR_US, F.BOOT_MEAS_HASH]

/-- The fields of the table of R159. -/
def wdg : List FD :=
  [F.WDG_CTRL_EN, F.WDG_CTRL_TIMEOUT, F.WDG_STAT_REMAIN, F.WDG_REQ_RESTART, F.WDG_REQ_KEY]

/-- The fields of the table of R160. -/
def mb : List FD :=
  [F.MB_REQ_WORD, F.MB_RSP_WORD, F.MB_CTRL_GO, F.MB_STAT_STATE, F.MB_STAT_TAG, F.MB_LATE_COUNT]

/-- The fields of the table of R161. -/
def op : List FD :=
  [F.OP_STAT_RUN, F.OP_STAT_HYP, F.OP_STAT_FW, F.OP_STAT_S2F]

/-- The fields of the table of R196. -/
def hp : List FD :=
  [F.HP_LINK_SPEED, F.HP_LINK_WIDTH, F.HP_LINK_DLUP, F.HP_VIMAP_LO_MAP, F.HP_VIMAP_HI_MAP, F.HP_VFS_TOTAL] ++
  [F.HP_VFS_NUM, F.HP_RDERR_COUNT, F.HP_DMAERR_UR, F.HP_DMAERR_CA, F.HP_DMAERR_CTO, F.HP_DMAERR_POISON] ++
  [F.HP_STALE_COUNT, F.HP_DRAM_BASE, F.HP_DRAM_SIZE]

/-- The fields of the table of R197. -/
def pp : List FD :=
  [F.PP_WIN_BASE, F.PP_WIN_SIZE, F.PP_REQ_VI, F.PP_REQ_PORT, F.PP_REQ_PENDING, F.PP_REQ_COUNT] ++
  [F.PP_DECIDE_ACCEPT, F.PP_DECIDE_REFUSE, F.PP_DECIDE_KEY, F.PP_CREATED_COUNT]

/-- The fields of the table of R198. -/
def vih : List FD :=
  [F.VIH_CTRL_REQ, F.VIH_CTRL_KEY, F.VIH_STAT_STATE, F.VIH_STAT_GEN, F.VIH_STAT_REFUSE, F.VIH_STAT_OLDWORK] ++
  [F.VIH_S2_LO_TARGET, F.VIH_S2_LO_BASE, F.VIH_S2_HI_BASE, F.VIH_INV_LO_ADDR, F.VIH_INV_HI_ADDR, F.VIH_INV_CTRL_GO] ++
  [F.VIH_INV_CTRL_SCOPE, F.VIH_INV_CTRL_PAGES, F.VIH_INV_STAT_BUSY, F.VIH_INV_STAT_COUNT, F.VIH_DL_LO_BASE, F.VIH_DL_HI_BASE] ++
  [F.VIH_DL_CTRL_EN, F.VIH_DL_CTRL_LOG2, F.VIH_DL_CTRL_CLEAR, F.VIH_DL_HEAD_INDEX, F.VIH_DL_STAT_ACTIVE, F.VIH_DL_STAT_OVERFLOW] ++
  [F.VIH_DL_STAT_RECORDS, F.VIH_FAULT_KIND, F.VIH_FAULT_CTX, F.VIH_FAULT_WRITE, F.VIH_FAULT_COUNT, F.VIH_FGPA_LO_ADDR] ++
  [F.VIH_FGPA_HI_ADDR, F.VIH_STALE_COUNT]

/-- The fields of the table of R199. -/
def pdb : List FD :=
  [F.PDB_DLTAIL_INDEX]

/-- The fields of the table of R200. -/
def vic : List FD :=
  [F.VIC_STAT_STATE, F.VIC_STAT_GEN, F.VIC_STAT_PORT, F.VIC_STAT_SELF, F.VIC_SHARE_NLOG2, F.VIC_SHARE_RES] ++
  [F.VIC_SHARE_TLB, F.VIC_FAULT_STAGE, F.VIC_FAULT_KIND, F.VIC_FAULT_CTX, F.VIC_FAULT_WRITE, F.VIC_FAULT_ASPACE] ++
  [F.VIC_FAULT_COUNT, F.VIC_FADDR_LO_ADDR, F.VIC_FADDR_HI_ADDR, F.VIC_DMAERR_COUNT]

/-- The fields of the table of R201. -/
def ctxHead : List FD :=
  [F.CTX_RES_RESIDENT, F.CTX_RES_SWAPINS, F.CTX_EN_LO_EN, F.CTX_EN_HI_EN]

/-- The fields of the table of R201. -/
def ctxBlk : List FD :=
  [F.CTX_CTRL_ENABLE, F.CTX_CTRL_ENGINE, F.CTX_CTRL_ASPACE, F.CTX_CTRL_PRIO, F.CTX_CTRL_CQ_IRQ, F.CTX_CTRL_STATE] ++
  [F.CTX_CTRL_RESIDENT, F.CTX_CTRL_ERR, F.CTX_SQ_LO_BASE, F.CTX_SQ_HI_BASE, F.CTX_SQ_HI_LOG2, F.CTX_CQ_LO_BASE] ++
  [F.CTX_CQ_HI_BASE, F.CTX_CQ_HI_LOG2, F.CTX_SQ_HEAD_INDEX, F.CTX_CQ_TAIL_INDEX, F.CTX_CQ_TAIL_PHASE, F.CTX_DONE_COUNT]

/-- The fields of the table of R202. -/
def db : List FD :=
  [F.DB_SQ_TAIL, F.DB_CQ_HEAD, F.DB_HAP_TRIGGER, F.DB_AUD_POINTER]

/-- The fields of the table of R203. -/
def s1 : List FD :=
  [F.S1_ROOT_LO_MODE, F.S1_ROOT_LO_BASE, F.S1_ROOT_HI_BASE, F.S1_INV_LO_ADDR, F.S1_INV_HI_ADDR, F.S1_INV_CTRL_GO] ++
  [F.S1_INV_CTRL_SCOPE, F.S1_INV_CTRL_ASPACE, F.S1_INV_CTRL_PAGES, F.S1_INV_STAT_BUSY, F.S1_INV_STAT_COUNT]

/-- The fields of the table of R232. -/
def mc : List FD :=
  [F.MC_CFG_DENS, F.MC_CFG_GRAIN, F.MC_CFG_HASH, F.MC_TRAIN_START, F.MC_TRAIN_STATE, F.MC_TRAIN_FAIL] ++
  [F.MC_PAGE_MODE, F.MC_PAGE_HOLD, F.MC_REF_POLL, F.MC_REF_RFM, F.MC_REF_RATE, F.MC_NR_K] ++
  [F.MC_NR_RADIUS, F.MC_RETRAIN_PERIOD, F.MC_STAT_CAP, F.MC_ADDRERR_COUNT, F.MC_NRCNT_COUNT, F.MC_NRDROP_COUNT]

/-- The fields of the table of R233. -/
def ez : List FD :=
  [F.EZ_CTRL_WBACK, F.EZ_SCRUB_EN, F.EZ_SCRUB_PERIOD, F.EZ_SCRPOS_LO_ADDR, F.EZ_SCRPOS_HI_ADDR, F.EZ_SCRPASS_COUNT] ++
  [F.EZ_LASTCE_LO_ADDR, F.EZ_LASTCE_HI_ADDR, F.EZ_LASTCE_HI_ZONE, F.EZ_UEIDX_NEXT, F.EZ_UEIDX_TOTAL, F.EZ_RANGE_BASE] ++
  [F.EZ_RANGE_SIZE, F.EZ_CHK_CBASE, F.EZ_CHK_ENABLE, F.EZ_STAT_STATE, F.EZ_STAT_CE, F.EZ_UE_COUNT] ++
  [F.EZ_UELOG_LO_ADDR, F.EZ_UELOG_HI_ADDR, F.EZ_UELOG_HI_ZONE, F.EZ_UELOG_HI_SOURCE, F.EZ_UELOG_HI_VALID]

/-- The fields of the table of R234. -/
def rmp : List FD :=
  [F.RMP_SRC_VALID, F.RMP_SRC_BANK, F.RMP_SRC_ROW, F.RMP_DST_ROW, F.RMP_DST_STATE]

/-- The fields of the table of R235. -/
def sr : List FD :=
  [F.SR_ENT_ROW, F.SR_ENT_VALID, F.SR_ENT_FUSE, F.SR_ERR_CE, F.SR_ERR_UE]

/-- The fields of the table of R236. -/
def dg : List FD :=
  [F.DG_ADDR_LO_ADDR, F.DG_ADDR_HI_ADDR, F.DG_DATA_LO_DATA, F.DG_DATA_HI_DATA, F.DG_CHECK_CHECK, F.DG_CTRL_OP] ++
  [F.DG_CTRL_KEY, F.DG_STAT_DONE, F.DG_STAT_RESULT, F.DG_STAT_SYNDROME, F.DG_STAT_RAWCHECK, F.DG_RDATA_LO_DATA] ++
  [F.DG_RDATA_HI_DATA]

/-- The fields of the table of R237. -/
def phy : List FD :=
  [F.PHY_WCK_DELAY, F.PHY_VREF_RD, F.PHY_VREF_WR, F.PHY_MARG_EYE, F.PHY_CORR_COUNT]

/-- The fields of the table of R270. -/
def rnd : List FD :=
  [F.RND_CTRL_RESERVE, F.RND_CTRL_ITEM_MS, F.RND_STAT_AVAIL, F.RND_STAT_PERIOD_C, F.RND_STAT_DRAINING, F.RND_STAT_POWERED] ++
  [F.RND_STAT_SLICES, F.RND_ABORTS_COUNT]

/-- The fields of the table of R271. -/
def rndUse : List FD :=
  [F.RND_USE_LAST, F.RND_USE_OVER]

/-- The fields of the table of R272. -/
def rc : List FD :=
  [F.RC_STAT_STATE, F.RC_STAT_KIND, F.RC_STAT_VI, F.RC_STAT_CTX, F.RC_BUSY_US, F.RC_ABORT_COUNT]

/-- The fields of the table of R273. -/
def rq : List FD :=
  [F.RQ_BUDGET_US, F.RQ_USED_US, F.RQ_DROPS_COUNT, F.RQ_OVF_COUNT, F.RQ_SKIP_COUNT, F.RQ_MISS_COUNT] ++
  [F.RQ_SKIPREC_COUNT, F.RQ_JOB_LO_ADDR, F.RQ_JOB_HI_ADDR, F.RQ_JOB_CFG_CTX, F.RQ_JOB_CFG_SLICE_MS, F.RQ_JOB_CFG_VALID] ++
  [F.RQ_JOB_ID_CMD_ID]

/-- The fields of the table of R274. -/
def fnc : List FD :=
  [F.FNC_SUM_BROKEN, F.FNC_SUM_LATE, F.FNC_VAL_VALUE, F.FNC_STAT_STATUS, F.FNC_STAT_OWED, F.FNC_STAT_REMAIN] ++
  [F.FNC_CTRL_SIGNAL, F.FNC_CTRL_TMO]

/-- The fields of the table of R309. -/
def hc : List FD :=
  [F.HC_BG_B, F.HC_BG_G, F.HC_BG_R, F.HC_GROUP_HOLD, F.HC_STAT_BAND, F.HC_STAT_SAFE] ++
  [F.HC_STAT_HELD, F.HC_POOL_USED, F.HC_BANDS_DROPS, F.HC_BANDS_LATE]

/-- The fields of the table of R310. -/
def lcHead : List FD :=
  [F.LC_OWN_LO_PIPES, F.LC_OWN_HI_PIPES, F.LC_PEND_HEADS]

/-- The fields of the table of R310. -/
def lp : List FD :=
  [F.LP_CTRL_ENABLE, F.LP_CTRL_MODE, F.LP_CTRL_ALPHA, F.LP_CTRL_WARP, F.LP_CTRL_WMAX, F.LP_CTRL_ZPOS] ++
  [F.LP_CTRL_ASPACE, F.LP_CTRL_CSC, F.LP_CTRL_LALPHA, F.LP_FMT_FORMAT, F.LP_FMT_BANK, F.LP_BUF_WIDTH] ++
  [F.LP_BUF_HEIGHT, F.LP_PITCH_PITCH, F.LP_CROP_XY_CX, F.LP_CROP_XY_CY, F.LP_CROP_WH_CW, F.LP_CROP_WH_CH] ++
  [F.LP_DST_XY_DX, F.LP_DST_XY_DY, F.LP_DST_WH_DW, F.LP_DST_WH_DH, F.LP_FILL_ARGB, F.LP_WARP_DX] ++
  [F.LP_WARP_DY, F.LP_WSRC_TEN, F.LP_WSRC_TOUCH, F.LP_COEF_ADDR_INDEX, F.LP_COEF_ADDR_CBANK, F.LP_COEF_DATA_C0] ++
  [F.LP_COEF_DATA_C1, F.LP_STAT_DROPS, F.LP_STAT_LATE, F.LP_APPLIED_DX, F.LP_APPLIED_DY]

/-- The fields of the table of R311. -/
def fl : List FD :=
  [F.FL_ADDR_LO_ADDR, F.FL_ADDR_HI_ADDR, F.FL_CHROMA_OFFSET, F.FL_FENCE_HANDLE, F.FL_TARGET_VALUE, F.FL_ADJ_DX] ++
  [F.FL_ADJ_DY, F.FL_GO_GO, F.FL_STAT_STATE, F.FL_STAT_RESULT, F.FL_STAT_FSTATUS, F.FL_STAT_COUNT]

/-- The fields of the table of R312. -/
def stk : List FD :=
  [F.STK_CTRL_SAFE, F.STK_ALARM_RGB, F.STK_SAFEBASE_OFFSET, F.STK_STAT_MISMATCH, F.STK_STAT_EMG, F.STK_POS_X] ++
  [F.STK_POS_Y, F.STK_SIZE_W, F.STK_SIZE_H, F.STK_SRC_OFFSET, F.STK_CFG_EN, F.STK_CFG_BPP8] ++
  [F.STK_CFG_SCALE, F.STK_CFG_PALBASE, F.STK_CFG_PITCH, F.STK_PAL_ARGB]

/-- The fields of the table of R313. -/
def sc : List FD :=
  [F.SC_EMG_ON, F.SC_EMG_MSG, F.SC_EMGBASE_OFFSET, F.SC_TPLBASE_OFFSET, F.SC_MISM_COUNT, F.SC_MISM_HEAD] ++
  [F.SC_INJECT_HEAD, F.SC_INJECT_GO]

/-- The fields of the table of R314. -/
def pst : List FD :=
  [F.PS_CFG_HEAD, F.PS_CFG_ASSIGNED, F.PS_CFG_LATCH_OK, F.PS_CFG_WARP_OK, F.PS_CFG_OWNER, F.PS_MAP_CUR] ++
  [F.PS_MAP_NEXT, F.PS_FETCH_BANDS, F.PS_ERR_COUNT]

/-- The fields of the table of R344. -/
def hd : List FD :=
  [F.HD_CTRL_EN, F.HD_HACT_ACTIVE, F.HD_HBLANK_FRONT, F.HD_HBLANK_SYNC, F.HD_HBLANK_BACK, F.HD_HBLANK_SPOL] ++
  [F.HD_VACT_ACTIVE, F.HD_VBLANK_FRONT, F.HD_VBLANK_SYNC, F.HD_VBLANK_BACK, F.HD_VBLANK_SPOL, F.HD_PCLK_KHZ] ++
  [F.HD_FMT_BPC, F.HD_QUIET_VQ_START, F.HD_QUIET_VQ_LEN, F.HD_QUIET_HQ_EN, F.HD_QUIET_HQ_GUARD, F.HD_STAT_STATE] ++
  [F.HD_STAT_LINE, F.HD_STAT_GUARDED, F.HD_FRAME_COUNT, F.HD_FTIME_LO_TIME, F.HD_FTIME_HI_TIME, F.HD_FLIPT_LO_TIME] ++
  [F.HD_FLIPT_HI_TIME, F.HD_FLIPF_FRAME, F.HD_FLIPP_LO_PIPES, F.HD_FLIPP_HI_PIPES, F.HD_RATE_HEAD, F.HD_RATE_AGG] ++
  [F.HD_RETIME_COUNT]

/-- The fields of the table of R345. -/
def crHead : List FD :=
  [F.CR_CTRL_GUARD, F.CR_CTRL_LINK, F.CR_CTRL_RELEASE, F.CR_STAT_FORCED, F.CR_STAT_FAILMASK, F.CR_COUNT_COMPARED] ++
  [F.CR_COUNT_SKIPPED, F.CR_FFRAME_FRAME]

/-- The fields of the table of R345. -/
def crBlk : List FD :=
  [F.CR_POS_X, F.CR_POS_Y, F.CR_SIZE_W, F.CR_SIZE_H, F.CR_CFG_EN, F.CR_CFG_POINT] ++
  [F.CR_CFG_ACTION, F.CR_CFG_THRESH, F.CR_EXP_CRC, F.CR_LAST_CRC, F.CR_RSTAT_MATCH, F.CR_RSTAT_RUN] ++
  [F.CR_RSTAT_MISM]

/-- The fields of the table of R346. -/
def dp : List FD :=
  [F.DP_CTRL_AUTO, F.DP_CTRL_RETRAIN, F.DP_CTRL_MAXRATE, F.DP_CTRL_MAXLANES, F.DP_CTRL_SSC, F.DP_STAT_STATE] ++
  [F.DP_STAT_RATE, F.DP_STAT_LANES, F.DP_STAT_HPD, F.DP_STAT_CAUSE, F.DP_STAT_SSC, F.DP_EVENTS_PLUG] ++
  [F.DP_EVENTS_UNPLUG, F.DP_EVENTS_IRQ, F.DP_EVENTS_LOST, F.DP_TRAIN_MS, F.DP_TRAIN_COUNT, F.DP_AUX_CMD_GO] ++
  [F.DP_AUX_CMD_TYPE, F.DP_AUX_CMD_MOT, F.DP_AUX_CMD_LEN, F.DP_AUX_CMD_ADDR, F.DP_AUX_STAT_BUSY, F.DP_AUX_STAT_RESULT] ++
  [F.DP_AUX_STAT_ACKED, F.DP_AUX_DATA_DATA, F.DP_PANEL_VDD, F.DP_PANEL_BL, F.DP_PANEL_BLDELAY, F.DP_PWM_FREQ] ++
  [F.DP_PWM_DUTY]

/-- The fields of the table of R373. -/
def ts : List FD :=
  [F.TS_CTRL_EN, F.TS_CTRL_RECAL, F.TS_CTRL_DUMP, F.TS_GEOM_DRIVE, F.TS_GEOM_SENSE, F.TS_GEOM_SWAP] ++
  [F.TS_GEOM_FLIPX, F.TS_GEOM_FLIPY, F.TS_SCAN_SYNC, F.TS_SCAN_SCANS, F.TS_SCAN_PULSES, F.TS_SCAN_TX_KHZ] ++
  [F.TS_SCAN_FREE_HZ, F.TS_MAPX_OFFSET, F.TS_MAPX_GAIN, F.TS_MAPY_OFFSET, F.TS_MAPY_GAIN, F.TS_THRESH_TOUCH] ++
  [F.TS_THRESH_ANTI, F.TS_TRACK_TRACK, F.TS_TRACK_DOWN_FR, F.TS_TRACK_UP_FR, F.TS_TRACK_MAXMOVE, F.TS_TRACK_HOLD_S] ++
  [F.TS_TRACK_BASE_FR, F.TS_PALM_PALM, F.TS_PALM_COVER, F.TS_WAKE_CFG_GESTURE, F.TS_WAKE_CFG_HZ, F.TS_WAKE_CFG_TAP] ++
  [F.TS_WAKE_CFG_GAP, F.TS_STAT_STATE, F.TS_STAT_SYNCED, F.TS_STAT_TRACKS, F.TS_STAT_LARGE, F.TS_STAT_COVERED] ++
  [F.TS_SCANCNT_COUNT, F.TS_SCANT_LO_TIME, F.TS_SCANT_HI_TIME, F.TS_EVENTS_ANTI, F.TS_EVENTS_RECAL, F.TS_EVENTS_OVERRUN] ++
  [F.TS_EVENTS_FULL, F.TS_WAKE_COUNT, F.TS_WAKE_GESTURE, F.TS_WAKEPOS_X, F.TS_WAKEPOS_Y, F.TS_DUMP_LO_ADDR] ++
  [F.TS_DUMP_HI_ADDR]

/-- The fields of the table of R374. -/
def tb : List FD :=
  [F.TB_CTRL_SPEAKER, F.TB_STAT_ARMED, F.TB_STAT_BOLT, F.TB_STAT_FILL, F.TB_COUNT_RECORDS, F.TB_LOST_FULL] ++
  [F.TB_LOST_RESTART, F.TB_MASKED_COUNT, F.TB_POS_X, F.TB_POS_Y, F.TB_SIZE_W, F.TB_SIZE_H] ++
  [F.TB_CFG_EN, F.TB_CFG_MASK, F.TB_CFG_HAP, F.TB_CFG_TONE_EN, F.TB_CFG_CODE, F.TB_CFG_EFFECT] ++
  [F.TB_CFG_TONE]

/-- The fields of the table of R375. -/
def trHead : List FD :=
  [F.TR_OWN_PORTS]

/-- The fields of the table of R375. -/
def trBlk : List FD :=
  [F.TR_CTRL_EN, F.TR_CTRL_IRQ, F.TR_CTRL_FRAME, F.TR_CTRL_ASPACE, F.TR_CTRL_MOVE_Q, F.TR_RING_LO_BASE] ++
  [F.TR_RING_HI_BASE, F.TR_RING_HI_LOG2, F.TR_HEAD_INDEX, F.TR_TAIL_INDEX, F.TR_STAT_ERR, F.TR_STAT_OVERFLOW] ++
  [F.TR_STAT_TRACKS, F.TR_COUNT_RECORDS, F.TR_LOST_COUNT, F.TR_CLK0_A_X, F.TR_CLK1_A_X, F.TR_CLK2_A_X] ++
  [F.TR_CLK3_A_X, F.TR_CLK0_A_Y, F.TR_CLK1_A_Y, F.TR_CLK2_A_Y, F.TR_CLK3_A_Y, F.TR_CLK0_A_EFFECT] ++
  [F.TR_CLK1_A_EFFECT, F.TR_CLK2_A_EFFECT, F.TR_CLK3_A_EFFECT, F.TR_CLK0_B_W, F.TR_CLK1_B_W, F.TR_CLK2_B_W] ++
  [F.TR_CLK3_B_W, F.TR_CLK0_B_H, F.TR_CLK1_B_H, F.TR_CLK2_B_H, F.TR_CLK3_B_H, F.TR_CLK0_B_EN] ++
  [F.TR_CLK1_B_EN, F.TR_CLK2_B_EN, F.TR_CLK3_B_EN]

/-- The fields of the table of R390. -/
def ha : List FD :=
  [F.HA_CTRL_EN, F.HA_CTRL_CLEAR, F.HA_CTRL_CHECK, F.HA_CTRL_ASPACE, F.HA_CFG_VFS, F.HA_CFG_ILIM] ++
  [F.HA_CFG_OD_MS, F.HA_CFG_OD_X, F.HA_BRK_BRK, F.HA_BRK_BRK_MS, F.HA_BRK_THR, F.HA_BRK_REF] ++
  [F.HA_BRK_STALL, F.HA_TRIG_WORD, F.HA_STAT_STATE, F.HA_STAT_PENDING, F.HA_STAT_EFFECT, F.HA_STAT_FAULT] ++
  [F.HA_STAT_RES, F.HA_COUNT_STARTED, F.HA_COUNT_DROPPED, F.HA_FAULTS_SHORT, F.HA_FAULTS_MISSING, F.HA_FAULTS_STALL] ++
  [F.HA_FAULTS_OTHER, F.HA_LD_LO_ADDR, F.HA_LD_HI_ADDR, F.HA_LD_GEOM_OFFSET, F.HA_LD_GEOM_LENGTH, F.HA_LD_CTRL_GO] ++
  [F.HA_LD_CTRL_SLOT, F.HA_LD_CTRL_NOBRAKE, F.HA_LD_CTRL_NOOD, F.HA_LD_STAT_BUSY, F.HA_LD_STAT_RESULT, F.HA_LD_STAT_VALID]

/-- The fields of the table of R391. -/
def hb : List FD :=
  [F.HB_TRIG_CHAN, F.HB_TRIG_EFFECT, F.HB_TRIG_GAIN, F.HB_TRIG_STOP, F.HB_VHAP_MV, F.HB_VHAP_OK] ++
  [F.HB_VHAP_DRIVE, F.HB_LOST_FAULTED, F.HB_LOST_REFUSED, F.HB_COUNT_STARTS, F.HB_LD_LO_ADDR, F.HB_LD_HI_ADDR] ++
  [F.HB_LD_GEOM_OFFSET, F.HB_LD_GEOM_LENGTH, F.HB_LD_CTRL_GO, F.HB_LD_CTRL_EFFECT, F.HB_LD_CTRL_BOLT, F.HB_LD_CTRL_NOBRAKE] ++
  [F.HB_LD_CTRL_NOOD, F.HB_LD_STAT_BUSY, F.HB_LD_STAT_RESULT, F.HB_VALID_LO_MASK, F.HB_VALID_HI_MASK, F.HB_BOLT_LO_MASK] ++
  [F.HB_BOLT_HI_MASK]

/-- The fields of the table of R414. -/
def ae : List FD :=
  [F.TP_BANK_SWAP, F.TP_BANK_ACTIVE, F.TP_BANK_XFADE, F.TP_BANK_VALID, F.TP_LD_LO_ADDR, F.TP_LD_HI_ADDR] ++
  [F.TP_LD_CTRL_GO, F.TP_LD_CTRL_BYTES, F.TP_LD_STAT_BUSY, F.TP_LD_STAT_RESULT, F.AE_STAT_OPS, F.AE_STAT_PLAYING] ++
  [F.AE_LG_GAIN, F.AE_SOWN_OWNER]

/-- The fields of the table of R415. -/
def stBlk : List FD :=
  [F.ST_CTRL_EN, F.ST_CTRL_FMT, F.ST_CTRL_ASPACE, F.ST_CTRL_SIZE, F.ST_RING_LO_BASE, F.ST_RING_HI_BASE] ++
  [F.ST_RING_HI_RBLK, F.ST_GAIN_GAIN]

/-- The fields of the table of R415. -/
def stTail : List FD :=
  [F.ST_WPTR_WORD, F.ST_STAT_RIDX, F.ST_STAT_STATE, F.ST_STAT_ERR, F.ST_STAT_UNDER]

/-- The fields of the table of R416. -/
def sk : List FD :=
  [F.TDM_CFG_EN, F.TDM_CFG_DELAY, F.TDM_CFG_HIZ, F.TDM_CFG_SLOTS, F.SK_SRC_SRC, F.SK_SRC_GAIN] ++
  [F.SK_LIM_LIM_EN, F.SK_LIM_TH, F.SK_LIM_REL, F.SK_STAT_LIMITED, F.SK_STAT_CLIPS]

/-- The fields of the table of R417. -/
def tn : List FD :=
  [F.TN_TRIG_SPK, F.TN_TRIG_TONE, F.TN_DUCK_DUCK0, F.TN_DUCK_DUCK1, F.TN_DUCK_DUCK2, F.TN_DUCK_DUCK3] ++
  [F.TN_DUCK_DUCK4, F.TN_DUCK_DUCK5, F.TN_DUCK_DUCK6, F.TN_DUCK_DUCK7, F.TN_LOST_FAULTED, F.TN_LOST_REFUSED] ++
  [F.TN_COUNT_STARTS, F.TN_LD_LO_ADDR, F.TN_LD_HI_ADDR, F.TN_LD_GEOM_OFFSET, F.TN_LD_CTRL_GO, F.TN_LD_CTRL_TONE] ++
  [F.TN_LD_CTRL_LEVEL, F.TN_LD_CTRL_LENGTH, F.TN_LD_STAT_BUSY, F.TN_LD_STAT_RESULT, F.TN_VALID_LO_MASK, F.TN_VALID_HI_MASK]

/-- The fields of the table of R418. -/
def sp : List FD :=
  [F.SP_CTRL_EN, F.SP_CTRL_CLEAR, F.SP_CFG_VFS, F.SP_STAT_STATE, F.SP_STAT_FAULT, F.SP_STAT_TONE] ++
  [F.SP_FAULTS_SHORT, F.SP_FAULTS_DC, F.SP_FAULTS_OVERTEMP, F.SP_FAULTS_SUPPLY]

/-- The fields of the table of R438. -/
def irOwn : List FD :=
  [F.IR_EVT_TOUCH, F.IR_EVT_FLIP, F.IR_EVT_MAILBOX, F.IR_CQPEND_LO_CTX, F.IR_CQPEND_HI_CTX, F.IR_ORPHAN_PENDING] ++
  [F.IR_ORPHAN_SOURCE, F.IR_ORPHAN_COUNT, F.IR_SRC_PRIO, F.IR_SRC_TARGETS, F.IR_SRC_LEVEL, F.IR_SRC_PEND] ++
  [F.IR_SRC_INSVC, F.IR_SRC_ORPHAN, F.IR_SRC_TARGET]

/-- The fields of the table of R439. -/
def irTgt : List FD :=
  [F.IR_CLAIM_SOURCE, F.IR_CLAIM_PRIO, F.IR_CLAIM_VALID, F.IR_INSVC_PRIO, F.IR_TGT_THRESH, F.IR_TGT_RUNPRIO] ++
  [F.IR_TGT_TEN, F.IR_TSTAT_PENDING, F.IR_TSTAT_ENABLED, F.IR_TSTAT_SIGNALS, F.MX_ADDR_LO_ADDR, F.MX_ADDR_HI_ADDR] ++
  [F.MX_DATA_DATA, F.MX_CTRL_MASK, F.MX_PBA_PEND]

/-- The fields of the table of R440. -/
def im : List FD :=
  [F.IM_ADDR_LO_ADDR, F.IM_ADDR_HI_ADDR, F.IM_DATA_DATA]

/-- The fields of the table of R441. -/
def cv : List FD :=
  [F.CV_CFG_POLY, F.CV_CFG_MODE, F.CV_CFG_CONT, F.CV_CFG_SPACE, F.CV_CFG_AWIDTH, F.CV_CFG_AVALID] ++
  [F.CV_INIT_VALUE, F.CV_SRC_LO_ADDR, F.CV_SRC_HI_ADDR, F.CV_LEN_BYTES, F.CV_MSG_COUNT, F.CV_MSG_CRCOFF] ++
  [F.CV_AOFF_AOFF, F.CV_CTRL_GO, F.CV_STAT_BUSY, F.CV_STAT_RESULT, F.CV_STAT_DONEMSG, F.CV_RUN_VALUE] ++
  [F.CV_RESULT_VALUE, F.CV_ALAST_LAST, F.CV_COUNT_OK, F.CV_COUNT_CRCERR, F.CV_ALCNT_REPEAT, F.CV_ALCNT_JUMP]

/-- The fields of the table of R469. -/
def pm : List FD :=
  [F.PM_LVL0_LVL0, F.PM_LVL0_LVL1, F.PM_LVL0_LVL2, F.PM_LVL0_LVL3, F.PM_LVL0_LVL4, F.PM_LVL0_LVL5] ++
  [F.PM_LVL0_LVL6, F.PM_LVL0_LVL7, F.PM_LVL1_LVL1, F.PM_LVL1_LVL2, F.PM_LVL1_LVL3, F.PM_LVL1_LVL4] ++
  [F.PM_LVL1_LVL5, F.PM_LVL1_LVL6, F.PM_SLEEP_TARGET, F.PM_WARD_REQ_TARGET, F.PM_WARD_REQ_KEY, F.PM_STAT_STATE] ++
  [F.PM_STAT_PHASE, F.PM_STAT_RESULT, F.PM_STAT_WAKESRC, F.PM_ACT0_LVL0, F.PM_ACT0_LVL1, F.PM_ACT0_LVL2] ++
  [F.PM_ACT0_LVL3, F.PM_ACT0_LVL4, F.PM_ACT0_LVL5, F.PM_ACT0_LVL6, F.PM_ACT0_LVL7, F.PM_ACT1_LVL1] ++
  [F.PM_ACT1_LVL2, F.PM_ACT1_LVL3, F.PM_ACT1_LVL4, F.PM_ACT1_LVL5, F.PM_ACT1_LVL6, F.PM_RAIL_CORE] ++
  [F.PM_RAIL_GFX, F.PM_RAIL_PORT, F.PM_WAKE_EN_I2C, F.PM_WAKE_EN_RTC, F.PM_WAKE_EN_GESTURE, F.PM_WAKE_EN_RING] ++
  [F.PM_EVT_DONE, F.PM_EVT_WAKE, F.PM_EVT_THERM, F.PM_THERM_LIMIT, F.PM_THERM_CAP, F.PM_THERM_ACTIVE] ++
  [F.PM_THERM_TEMP, F.PM_COUNT_CHANGES, F.PM_COUNT_RACES, F.PM_LOG_LO_TIME, F.PM_LOG_HI_TIME, F.PM_LOG_KIND] ++
  [F.PM_LOG_DETAIL, F.PM_GATE_OFF, F.PM_GATE_CLKSTOP, F.PM_GATE_RSTHOLD]

/-- The fields of the table of R470. -/
def rg : List FD :=
  [F.RG_TMO_BUS, F.RG_TMO_ACK, F.RG_CFG_ADDR, F.RG_CFG_PAGE, F.RG_STAT_ACK, F.RG_STAT_UNSURE] ++
  [F.RG_STAT_FAILS, F.RG_STAT_MV, F.RG_ERR_BUS, F.RG_ERR_ACK, F.RG_SW_STATUS]

/-- The fields of the table of R471. -/
def wk : List FD :=
  [F.WK_I2C_ADDR, F.WK_I2C_EN, F.WK_STAT_MATCHES, F.RTC_CNT_LO_COUNT, F.RTC_CNT_HI_COUNT, F.RTC_ALM_LO_COUNT] ++
  [F.RTC_ALM_HI_COUNT, F.RTC_CTRL_ALM_EN, F.RTC_CTRL_ALM_FIRED, F.RTC_CTRL_OSC_OK]

/-- The fields of the table of R472. -/
def rb : List FD :=
  [F.RB_CTRL_HOLD, F.RB_CTRL_TMASTER, F.RB_CTRL_KEYEN, F.RB_CTRL_NODE, F.RB_CTRL_TNODE, F.RB_EMGSRC_MASK] ++
  [F.RB_STAT_HOLD, F.RB_EMGSTAT_HELD, F.RB_EMGSTAT_SRC, F.RB_EMGSTAT_COUNT, F.RB_EMGT_LO_TIME, F.RB_EMGT_HI_TIME] ++
  [F.RB_AUTH_FAIL, F.RB_AUTH_STALE, F.RB_TOFS_NS, F.RB_TX_GO, F.RB_TX_BUSY, F.RB_RX_COUNT] ++
  [F.RB_RX_POP, F.RB_RX_LOST, F.RB_KEY_KEY, F.RB_EMG_WORD, F.RB_TX_WORD, F.RB_RX_WORD] ++
  [F.RP_STAT_STATE, F.RP_ERR_CODE, F.RP_ERR_CRC, F.RP_DLY_NS, F.RP_FWD_COUNT]

/-- The fields of the table of R493. -/
def ft : List FD :=
  [F.FT_STAT_HIGHEST, F.FT_STAT_WINDOW, F.FT_STAT_UNREAD, F.FT_STAT_LOST, F.FT_SEQ_NEXT, F.FT_WEND_LO_TIME] ++
  [F.FT_WEND_HI_TIME, F.FT_POP_POP, F.FT_CNT1_UNIT, F.FT_CNT1_CLUSTER, F.FT_CNT1_REGION, F.FT_CNT1_DIE] ++
  [F.FT_CNT2_PACKAGE, F.FT_CNT2_ESCALATED, F.FT_CNT2_CONSEQUENT, F.FT_INJECT_PAGE, F.FT_INJECT_GO, F.FT_INJECT_KEY] ++
  [F.FT_REC_WORD, F.FT_PKG_WORD]

/-- The fields of the table of R494. -/
def lb : List FD :=
  [F.LB_CTRL_IFACE, F.LB_CTRL_INST, F.LB_CTRL_DEPTH, F.LB_CTRL_PATTERN, F.LB_GO_GO, F.LB_GO_ABORT] ++
  [F.LB_GO_KEY, F.LB_RATE_RATE, F.LB_RATE_LANES, F.LB_LEN_MBIT, F.LB_ADDR_LO_ADDR, F.LB_ADDR_HI_ADDR] ++
  [F.LB_SIZE_MIB, F.LB_LIMIT_LO, F.LB_LIMIT_HI, F.LB_STAT_BUSY, F.LB_STAT_RESULT, F.LB_STAT_LANE] ++
  [F.LB_ERR_COUNT, F.LB_DONE_MBIT, F.LB_MEAS_VALUE, F.LB_MEAS_INDEX]

end Map

end Sys2Proof.Machine
end

