-- ==== Sys2Proof/Machine/Pages.lean ====
section
/-! DEFINITION. The page index map (R37, R43, R76) and what each block's page map says of its page: the type, the
capabilities, whether the ledger records it, and the fields it holds. -/

namespace Sys2Proof.Machine

/-- The blocks that have register pages, one name for every page type of the spec's page maps. -/
inductive PageKind where
  | ledger | checkEngine | faultLog
  | portCtl | portPart | viHost | pfDoorbell
  | memCtl | eccZones | remap | sramRepair | diag
  | rendCtl | rendUse | rendCluster | fence
  | compose | strike | strikeCtl | pipeStatus | layerCtl | flips
  | head | crc
  | fabricCtl | arbPrio | slotWheel | classPage | periodCtl | periodEntries | irqOwner | irqTarget | clocks
  | openPilot | power | regulators
  | hingeTable | bootStatus | watchdog | deviceTime | mailbox | wake | ring
  | displayPhy | touchCtl | touchRegions | touchReports
  | audioEngine | streams | sink | tones | dramPhy | pintle | loopback
  | hapticChannel | wardHaptic | speaker
  | viControl | viContexts | viDoorbells | viIrq | viRender | viFences | viPeriods | viLayers | viFlips
  | viTouch | viHapticAudio | viStage1
  deriving DecidableEq, Repr

/-- The first page number of the VI windows in the model's page numbering: window page `w` of VI `v` is
`viBase + 16 * v + w`, every other page is its page index of R37. -/
def viBase : Nat := 0x1000

/-- The model's page number of a window page. -/
def viPage (v w : Nat) : Nat := viBase + 16 * v + w

/-- The VI of a page number, for a window page. -/
def viOfPage (pid : Nat) : Option Nat := if viBase ≤ pid ∧ pid < viBase + 1024 then some ((pid - viBase) / 16) else none

/-- A page number in a run of equal pages, with its place in the run. -/
def inRun (pid base count : Nat) (k : PageKind) : Option (PageKind × Nat) :=
  if base ≤ pid ∧ pid < base + count then some (k, pid - base) else none

/-- The block of a window page (R43). -/
def windowKind (w : Nat) : Option PageKind :=
  [PageKind.viControl, .viContexts, .viDoorbells, .viIrq, .viRender, .viFences, .viPeriods, .viLayers, .viFlips,
   .viTouch, .viHapticAudio, .viStage1][w]?

/-- The pages of the Core die (R76 and the page maps). -/
def coreKind (pid : Nat) : Option (PageKind × Nat) :=
  inRun pid 0x010 1 .ledger <|> inRun pid 0x020 8 .checkEngine <|> inRun pid 0x030 1 .faultLog
  <|> inRun pid 0x080 4 .portCtl <|> inRun pid 0x084 1 .portPart <|> inRun pid 0x090 64 .viHost
  <|> inRun pid 0x0F0 4 .pfDoorbell
  <|> inRun pid 0x100 1 .memCtl <|> inRun pid 0x110 1 .eccZones <|> inRun pid 0x120 1 .remap
  <|> inRun pid 0x121 1 .sramRepair <|> inRun pid 0x130 1 .diag
  <|> inRun pid 0x180 1 .rendCtl <|> inRun pid 0x181 1 .rendUse
  <|> (if 0x190 ≤ pid ∧ pid < 0x1D0 ∧ pid % 16 < 4 then some (.rendCluster, (pid - 0x190) / 16 * 4 + pid % 16) else none)
  <|> inRun pid 0x1F0 6 .fence
  <|> inRun pid 0x200 8 .compose <|> inRun pid 0x210 8 .strike <|> inRun pid 0x218 1 .strikeCtl
  <|> inRun pid 0x220 48 .pipeStatus <|> inRun pid 0x260 5 .layerCtl <|> inRun pid 0x270 5 .flips
  <|> inRun pid 0x280 8 .head <|> inRun pid 0x290 8 .crc
  <|> inRun pid 0x300 1 .fabricCtl <|> inRun pid 0x301 1 .arbPrio <|> inRun pid 0x310 1 .slotWheel
  <|> inRun pid 0x320 1 .classPage <|> inRun pid 0x321 1 .periodCtl <|> inRun pid 0x322 4 .periodEntries
  <|> inRun pid 0x330 6 .irqOwner <|> inRun pid 0x340 8 .irqTarget <|> inRun pid 0x350 1 .clocks
  <|> inRun pid 0x380 1 .openPilot <|> inRun pid 0x390 1 .power <|> inRun pid 0x391 1 .regulators

/-- The pages of the Port die and the Drive die. -/
def edgeKind (pid : Nat) : Option (PageKind × Nat) :=
  inRun pid 0x400 1 .hingeTable <|> inRun pid 0x401 1 .bootStatus <|> inRun pid 0x402 1 .watchdog
  <|> inRun pid 0x403 1 .deviceTime <|> inRun pid 0x404 5 .mailbox <|> inRun pid 0x409 1 .wake
  <|> inRun pid 0x410 1 .ring
  <|> inRun pid 0x500 8 .displayPhy
  <|> (if 0x580 ≤ pid ∧ pid < 0x600 ∧ pid % 16 = 0 then some (.touchCtl, (pid - 0x580) / 16) else none)
  <|> (if 0x580 ≤ pid ∧ pid < 0x600 ∧ pid % 16 = 1 then some (.touchRegions, (pid - 0x580) / 16) else none)
  <|> (if 0x580 ≤ pid ∧ pid < 0x600 ∧ pid % 16 = 2 then some (.touchReports, (pid - 0x580) / 16) else none)
  <|> inRun pid 0x600 1 .audioEngine <|> inRun pid 0x610 5 .streams <|> inRun pid 0x620 12 .sink
  <|> inRun pid 0x630 1 .tones <|> inRun pid 0x680 1 .dramPhy <|> inRun pid 0x700 4 .pintle
  <|> inRun pid 0x710 1 .loopback
  <|> inRun pid 0x800 8 .hapticChannel <|> inRun pid 0x808 1 .wardHaptic <|> inRun pid 0x880 8 .speaker

/-- The block of a page and its number among the block's pages; none for a page that is not implemented. VI host
pages and window pages exist only below N, which the caller checks. -/
def kindOf (pid : Nat) : Option (PageKind × Nat) :=
  match viOfPage pid with
  | some v => (windowKind (pid % 16)).map (fun k => (k, v))
  | none => if pid < 0x400 then coreKind pid else if pid < 0xC00 then edgeKind pid else none

/-- `PAGE_ID.TYPE` of a block (R40 and the page maps). -/
def PageKind.type : PageKind → Nat
  | .ledger => 0x011 | .checkEngine => 0x093 | .faultLog => 0x010
  | .portCtl => 0x050 | .portPart => 0x051 | .viHost => 0x052 | .pfDoorbell => 0x053
  | .memCtl => 0x060 | .eccZones => 0x061 | .remap => 0x062 | .sramRepair => 0x063 | .diag => 0x064
  | .rendCtl => 0x080 | .rendUse => 0x081 | .rendCluster => 0x082 | .fence => 0x085
  | .compose => 0x0A0 | .strike => 0x0A1 | .strikeCtl => 0x0A2 | .pipeStatus => 0x0A3 | .layerCtl => 0x0A7
  | .flips => 0x0A8 | .head => 0x0B0 | .crc => 0x0B4
  | .fabricCtl => 0x030 | .arbPrio => 0x031 | .slotWheel => 0x032 | .classPage => 0x034 | .periodCtl => 0x036
  | .periodEntries => 0x037 | .irqOwner => 0x090 | .irqTarget => 0x091 | .clocks => 0x035
  | .openPilot => 0x038 | .power => 0x0F0 | .regulators => 0x0F1
  | .hingeTable => 0x041 | .bootStatus => 0x042 | .watchdog => 0x043 | .deviceTime => 0x040 | .mailbox => 0x044
  | .wake => 0x0F2 | .ring => 0x0F3
  | .displayPhy => 0x0B8 | .touchCtl => 0x0C0 | .touchRegions => 0x0C1 | .touchReports => 0x0C2
  | .audioEngine => 0x0E0 | .streams => 0x0E1 | .sink => 0x0E2 | .tones => 0x0E3 | .dramPhy => 0x068
  | .pintle => 0x070 | .loopback => 0x071 | .hapticChannel => 0x0D0 | .wardHaptic => 0x0D1 | .speaker => 0x0E8
  | .viControl => 0x054 | .viContexts => 0x055 | .viDoorbells => 0x056 | .viIrq => 0x092 | .viRender => 0x084
  | .viFences => 0x085 | .viPeriods => 0x033 | .viLayers => 0x0A7 | .viFlips => 0x0A8 | .viTouch => 0x0C2
  | .viHapticAudio => 0x0D2 | .viStage1 => 0x05B

/-- `PAGE_CAP` of a block: bit 0 SHADOW, bit 1 BOUNDARY, bit 2 NOWRUN, bit 3 RUNSTATE (R39). -/
def PageKind.cap : PageKind → Nat
  | .ledger => 0x8 | .checkEngine => 0x8 | .faultLog => 0
  | .portCtl => 0 | .portPart => 0x5 | .viHost => 0x8 | .pfDoorbell => 0
  | .memCtl => 0x8 | .eccZones => 0xD | .remap => 0xD | .sramRepair => 0xD | .diag => 0x8
  | .rendCtl => 0 | .rendUse => 0 | .rendCluster => 0 | .fence => 0
  | .compose => 0xB | .strike => 0xB | .strikeCtl => 0 | .pipeStatus => 0 | .layerCtl => 0xB | .flips => 0
  | .head => 0xB | .crc => 0xB
  | .fabricCtl => 0 | .arbPrio => 0 | .slotWheel => 0xB | .classPage => 0 | .periodCtl => 0 | .periodEntries => 0x8
  | .irqOwner => 0 | .irqTarget => 0 | .clocks => 0 | .openPilot => 0 | .power => 0xB | .regulators => 0x8
  | .hingeTable => 0 | .bootStatus => 0 | .watchdog => 0 | .deviceTime => 0x8 | .mailbox => 0x8 | .wake => 0
  | .ring => 0x8
  | .displayPhy => 0 | .touchCtl => 0x8 | .touchRegions => 0xB | .touchReports => 0xB
  | .audioEngine => 0xD | .streams => 0x8 | .sink => 0x8 | .tones => 0 | .dramPhy => 0x8 | .pintle => 0x8
  | .loopback => 0x8 | .hapticChannel => 0xB | .wardHaptic => 0 | .speaker => 0x8
  | .viControl => 0x8 | .viContexts => 0x8 | .viDoorbells => 0 | .viIrq => 0 | .viRender => 0xD | .viFences => 0
  | .viPeriods => 0x8 | .viLayers => 0xB | .viFlips => 0 | .viTouch => 0xB | .viHapticAudio => 0xB | .viStage1 => 0xD

/-- The page has a commit boundary (`PAGE_CAP.BOUNDARY`). -/
def PageKind.hasBoundary (k : PageKind) : Bool := bit k.cap 1

/-- NOW is accepted while the page runs (`PAGE_CAP.NOWRUN`). -/
def PageKind.nowRun (k : PageKind) : Bool := bit k.cap 2

/-- The ledger exempts the whole page (R74). -/
def PageKind.exempt : PageKind → Bool
  | .viDoorbells | .viFences | .viFlips | .pfDoorbell | .fence | .flips => true
  | _ => false

/-- The registers of the ledger page that R74 exempts. -/
def exemptReg (k : PageKind) (off : Nat) : Bool :=
  k.exempt || (k == .ledger && (off == 0x060 || off == 0x06C || (decide (0x100 ≤ off) && decide (off < 0x160))))

/-- The four `IR_SRC` registers of a VI lie at 0x080 of its window page and not at 0x800 (R438). -/
def viSrc (f : FD) : FD := { f with off := 0x080, n := 4 }

/-- The fields of window page 0x3000: the owner fields of R438 with the VI's four sources, and the target fields of
R439, of which the message address and data are read-only there. -/
def viIrqFields : List FD :=
  [F.IR_EVT_TOUCH, F.IR_EVT_FLIP, F.IR_EVT_MAILBOX, F.IR_CQPEND_LO_CTX, F.IR_CQPEND_HI_CTX,
   viSrc F.IR_SRC_PRIO, viSrc F.IR_SRC_TARGETS, viSrc F.IR_SRC_LEVEL, viSrc F.IR_SRC_PEND,
   viSrc F.IR_SRC_INSVC, viSrc F.IR_SRC_ORPHAN, viSrc F.IR_SRC_TARGET,
   F.IR_CLAIM_SOURCE, F.IR_CLAIM_PRIO, F.IR_CLAIM_VALID, F.IR_INSVC_PRIO, F.IR_TGT_THRESH, F.IR_TGT_RUNPRIO,
   F.IR_TGT_TEN, F.IR_TSTAT_PENDING, F.IR_TSTAT_ENABLED, F.IR_TSTAT_SIGNALS,
   { F.MX_ADDR_LO_ADDR with acc := .ro }, { F.MX_ADDR_HI_ADDR with acc := .ro }, { F.MX_DATA_DATA with acc := .ro },
   F.MX_CTRL_MASK, F.MX_PBA_PEND]

/-- The block's own fields, by its register tables. -/
def PageKind.ownFields : PageKind → List FD
  | .ledger => Map.led | .checkEngine => Map.cv | .faultLog => Map.ft
  | .portCtl => Map.hp | .portPart => Map.pp | .viHost => Map.vih | .pfDoorbell => Map.pdb
  | .memCtl => Map.mc | .eccZones => Map.ez | .remap => Map.rmp | .sramRepair => Map.sr | .diag => Map.dg
  | .rendCtl => Map.rnd | .rendUse => Map.rndUse | .rendCluster => Map.rc | .fence => Map.fnc
  | .compose => Map.hc | .strike => Map.stk | .strikeCtl => Map.sc | .pipeStatus => Map.pst
  | .layerCtl => Map.lcHead ++ Map.lp | .flips => Map.fl
  | .head => Map.hd | .crc => Map.crHead ++ Map.crBlk
  | .fabricCtl => Map.xb | .arbPrio => Map.arb | .slotWheel => Map.sw | .classPage => Map.cls | .periodCtl => Map.ps
  | .periodEntries => Map.pe | .irqOwner => Map.irOwn | .irqTarget => Map.irTgt ++ Map.im | .clocks => Map.isl
  | .openPilot => Map.op | .power => Map.pm | .regulators => Map.rg
  | .hingeTable => Map.ht | .bootStatus => Map.boot | .watchdog => Map.wdg | .deviceTime => Map.dt
  | .mailbox => Map.mb | .wake => Map.wk | .ring => Map.rb
  | .displayPhy => Map.dp | .touchCtl => Map.ts | .touchRegions => Map.tb | .touchReports => Map.trHead ++ Map.trBlk
  | .audioEngine => Map.ae | .streams => Map.stBlk ++ Map.stTail | .sink => Map.sk | .tones => Map.tn
  | .dramPhy => Map.phy | .pintle => Map.pl | .loopback => Map.lb
  | .hapticChannel => Map.ha | .wardHaptic => Map.hb | .speaker => Map.sp
  | .viControl => Map.vic | .viContexts => Map.ctxHead ++ Map.ctxBlk | .viDoorbells => Map.db | .viIrq => viIrqFields
  | .viRender => Map.rq | .viFences => Map.fnc | .viPeriods => Map.pv | .viLayers => Map.lcHead ++ Map.lp
  | .viFlips => Map.fl | .viTouch => Map.trHead ++ Map.trBlk | .viHapticAudio => Map.ha ++ Map.stBlk ++ Map.stTail.tail
  | .viStage1 => Map.s1

/-- Every field of a page: the common header of R39 and the block's own. -/
def PageKind.fields (k : PageKind) : List FD := Map.hdr ++ k.ownFields

/-- The fields of the register at a byte offset, each with its index. -/
def fieldsAt (k : PageKind) (off : Nat) : List (FD × Nat) :=
  k.fields.filterMap (fun f => (f.index? (off / 4 * 4)).map (fun i => (f, i)))

/-- A register space address of R37 as a page index and an offset. -/
def addrPage (a : Nat) : Nat := a / 4096 % 4096

/-- The offset of an address within its page. -/
def addrOff (a : Nat) : Nat := a % 4096

end Sys2Proof.Machine
end

