-- ==== Sys2Proof/Machine/State.lean ====
section
/-! DEFINITION. The state of the IBX8640: every register field, and behind the registers what the rules make the blocks
remember. It is plain data throughout. A part's structure gives each field its value at reset. -/

namespace Sys2Proof.Machine

open Sys2Proof

/-- Why a command stops. No command of this device stops: every row of the table has an effect that the spec states,
so no meaning raises this one (safe: it can only stop a run, never let a false claim through). -/
inductive Fault where
  /-- Raised by nobody; the type must not be empty for the outcome type to be informative (safe). -/
  | noSuchBehaviour
  deriving DecidableEq, Repr

/-- Why a command is not run. -/
inductive Refusal where
  /-- Raised by a dispatch arm whose command has no meaning yet, and by nothing else (safe). -/
  | notModelled (mnemonic : String)
  deriving DecidableEq, Repr

/-- What leaves the device, in the order in which it leaves. The addresses and data are the rules' own. -/
inductive Out where
  /-- A message-signalled interrupt by a target (R426): target, address, data. -/
  | msix (target addr data : Nat)
  /-- An interrupt line of a pilot asserted (R426): the target. -/
  | line (target : Nat)
  /-- A frame sent on a ring port (R463): port and bytes. -/
  | ringFrame (port : Nat) (bytes : List Nat)
  /-- A PMBus transaction (R447): rail, its address, command code and value. -/
  | pmbus (rail addr code value : Nat)
  /-- An AUX transaction started on a head (R334): head, command, address, data bytes. -/
  | aux (head cmd addr : Nat) (bytes : List Nat)
  /-- A response of the device to a secured message or a mailbox, not held in a register: channel and bytes. -/
  | message (channel : Nat) (bytes : List Nat)
  /-- An error response to an initiator port (R82, R95). -/
  | errorResponse (port : Nat)
  /-- The value that a register read returns to the reader. -/
  | read (value : Nat)
  /-- A completion on a host port: port, status code of the event, data. -/
  | completion (port status : Nat) (data : List Nat)
  /-- A PCIe request of the device (R165): port, the requester's function on it (0 the PF, k VF k), whether it writes, its
  address and its length. -/
  | hostReq (port requester : Nat) (write : Bool) (addr len : Nat)
  /-- The data that a translated read returns to its engine (R172, R191). -/
  | data (bytes : List Nat)
  /-- What a shader's read returns (R253 to R255): whether every page it touched is resident, and the bytes. -/
  | shader (resident : Bool) (bytes : List Nat)
  /-- A request of an initiator port leaves a host port (R184): host port, initiator port, tag. -/
  | outbound (hostPort port tag : Nat)
  /-- A drive sample at a haptic bridge or a speaker stage: unit, value in µV, and a haptic bridge's current limit in mA. -/
  | drive (unit : Nat) (value : Int) (limitMa : Nat := 0)
  /-- A named event at a pin or transmitter: code and operands. -/
  | event (code : Nat) (args : List Nat)
  deriving DecidableEq, Repr

/-- One entry of the change ledger on chip (R62, R68). `complete` is false for a commit entry whose check still runs;
`reserve` marks an entry of the sixteen kept for device records. -/
structure LEntry where
  time : Nat
  page : Nat
  off : Nat
  kind : Nat
  origin : Nat
  old : Nat
  new : Nat
  seq : Nat
  rep : Nat := 0
  complete : Bool := true
  reserve : Bool := false
  deriving DecidableEq, Repr

/-- A formed checkpoint (R71, R72): its number, first SEQ, time and chain value. -/
structure Ckpt where
  num : Nat
  first : Nat
  time : Nat
  hash : List Nat
  deriving DecidableEq, Repr

/-- The change ledger behind its page (R61 to R73). -/
structure Ledger where
  /-- Entries on chip, oldest first (R68). -/
  store : List LEntry := []
  /-- Entries taken for the APPLY of accepted commit requests (R68). -/
  applyHeld : Nat := 0
  /-- Records have been lost since the last LOST record (R69). -/
  lostSince : Bool := false
  /-- `LED_LOST` at the previous LOST record (R64). -/
  lostAt : Nat := 0
  /-- T of R71, once DRAIN_EN has been set after reset. -/
  started : Option Nat := none
  /-- The chain value C of the last checkpoint formed (R71), in SHA-384 output order. -/
  chain : List Nat := []
  /-- The drained entries not yet covered by a checkpoint, as bytes, oldest first. -/
  batch : List (List Nat) := []
  /-- Checkpoints waiting for their signature, oldest first, at most eight (R73). -/
  waiting : List Ckpt := []
  /-- Checkpoints signed and not yet written to the ring, with the bytes of r and s. -/
  signed : List (Ckpt × List Nat) := []
  deriving DecidableEq, Repr

/-- Why a write is held back (R47, R53, R69). -/
inductive HoldWhy where
  /-- It waits for a ledger entry. -/
  | ledger
  /-- It is a commit request to a page whose check runs. -/
  | busy
  /-- It stands behind an earlier write of its origin that waits. -/
  | behind
  /-- Its page lies behind a Pintle link that trains (R114). -/
  | link
  deriving DecidableEq, Repr

/-- A register read that waits behind the writes of its origin or for a link: the agent's own, or a host's Memory Read by
port, address and length in DW (R47, R114, R167). -/
inductive HeldRead where
  | own
  | host (port addr dws : Nat)
  deriving DecidableEq, Repr

/-- A write that waits, in the device-wide order of R47; with `rd`, a read. -/
structure Held where
  ag : Agent
  pid : Nat
  off : Nat
  v : Nat
  why : HoldWhy
  rd : Option HeldRead := none
  /-- Device time at which it was sent (R114). -/
  since : Nat := 0
  deriving DecidableEq, Repr

/-- A commit check in progress (R53): the request, its snapshot, the SEQ of its ledger entry, its time, and the heads that
held layer sets when it was accepted (R291), and whether a CRC set waits for the strike page's next set (R339). -/
structure Check where
  now : Bool
  v : Nat
  snap : List (Nat × Nat)
  seq : Option Nat
  since : Nat := 0
  hold : List Nat := []
  linked : Bool := false
  deriving DecidableEq, Repr

/-- A pending set (R56): its snapshot, and the parts of it still to be applied. A page with one boundary has the one
part 0; a set of a layer control page has a part for each head (R290), one of a haptic window for each channel
(R389), one of a report page for each touch port (R372). -/
structure Pend where
  snap : List (Nat × Nat)
  parts : List Nat
  /-- Parts held for a commit of their head's compose page (R291). -/
  held : List Nat := []
  /-- A CRC set that waits for the strike page's next set (R339). -/
  linked : Bool := false
  /-- Device time of its acceptance. -/
  since : Nat := 0
  deriving DecidableEq, Repr

/-- The commit logic of one page (R56). -/
structure PageCtl where
  busy : Option Check := none
  pend : Option Pend := none
  deriving DecidableEq, Repr

/-- An open fault (R473 to R476). `pid` is the detecting page, `unit` the page whose element it is on (they differ for
causes 10 and 15). -/
structure OpenFault where
  seq : Nat
  level : Nat
  cause : Nat
  pid : Nat
  unit : Nat
  detail : Nat
  opened : Nat
  latched : Bool := false
  consequent : Bool := false
  /-- The device time from which the bound of its recovery runs, where that is not its opening (R475). -/
  since : Nat := opened
  deriving DecidableEq, Repr

/-- The window of a fault (R476, R481, R482): the level it counts at and the device time at which it ends. -/
structure Window where
  seq : Nat
  level : Nat
  ends : Nat
  deriving DecidableEq, Repr

/-- The fault unit behind the fault log page (R481, R492). -/
structure FaultSt where
  faults : List OpenFault := []
  windows : List Window := []
  /-- Unread records as eight words each, oldest first. -/
  log : List (List Nat) := []
  /-- Faults opened by the present command whose containment is still to be carried out, oldest first, each with the
  eight words of its record. -/
  due : List (OpenFault × List Nat) := []
  deriving DecidableEq, Repr

/-- A fabric request (R89 to R101, R117, R144): its port, class, target and world tag; the page that a register access
names; the 64-byte beats it has still to transfer; the address and the bytes of an access to strike SRAM (none: a read); the
device time of its issue and the timeout it was issued with, in ns; and, while it waits at its arbiter, the decisions that
have passed it by. -/
structure Req where
  port : Nat
  cls : ServiceClass
  target : Nat
  tag : Nat := 0
  page : Nat := 0
  beats : Nat := 1
  addr : Nat := 0
  data : Option (List Nat) := none
  since : Nat := 0
  limit : Nat := 0
  waited : Nat := 0
  aged : Bool := false
  /-- The sequence number of the last flit that carried it across link 2 (R113). -/
  flit : Nat := 0
  /-- Its host port has sent it (R184). -/
  sent : Bool := false
  deriving DecidableEq, Repr

/-- A crossing (R81): the words in its buffer, oldest first, and the two phases of its handshake, which the sender and the
receiver turn with every word. -/
structure Cross where
  words : List Req := []
  req : Bool := false
  ack : Bool := false
  deriving DecidableEq, Repr

/-- A flit of a Pintle link (R113): virtual channel (2 × class, + 1 for a response), sequence number, payload, CRC. -/
structure Flit where
  vc : Nat
  seq : Nat
  payload : List Nat
  crc : Nat
  deriving DecidableEq, Repr

/-- A Pintle link behind its page (R113, R114): training attempts, replays of the present flit, the next sequence number, the
replay buffer with the flits not yet acknowledged, oldest first, and a RETRAIN that waits for the end of the current flit. -/
structure LinkSt where
  attempts : Nat := 0
  replays : Nat := 0
  seq : Nat := 0
  unacked : List Flit := []
  retrain : Bool := false
  deriving DecidableEq, Repr

/-- The crossbar, the island clocks and the time master behind their pages (R78, R81, R84, R87, R88, R91, R97 to R102,
R113). -/
structure Fabric where
  /-- Requests that their initiators hold before issue, oldest first (R19, R81, R92). -/
  waiting : List Req := []
  /-- The crossing from each port's cluster into the fabric, by port. -/
  cross : Tab Cross := []
  /-- Requests at their arbiter and not yet granted, in order of arrival. -/
  reqs : List Req := []
  /-- The grant that each target's arbiter has decided for its next cycle (R98). -/
  decided : Tab Req := []
  /-- The transfer that holds each target, and the beats left of its grant (R100). -/
  burst : Tab (Req × Nat) := []
  /-- Requests transferred to their target and not yet answered. -/
  granted : List Req := []
  /-- Responses in the response channels of their class, oldest first (R91). -/
  resp : List Req := []
  /-- Requests ended by their timeout whose response has not arrived: port and target. -/
  late : List (Nat × Nat) := []
  /-- The port that each target granted last, by class: 3 * target + class. -/
  rr : Tab Nat := []
  /-- The mode that the crossbar takes when its drain ends (R102). -/
  drainTo : Option Nat := none
  /-- The clusters whose generators have not settled on their target, with the frequency they run at (R78). -/
  settling : Tab Nat := []
  /-- Cycles lengthened by droop, by cluster (R120). -/
  stretch : Tab Nat := []
  /-- By cluster, newest first: the frequencies of the last 1 ms with the times from which they held, and the cycles that
  lengthening took, in ps × MHz, with their times (R120). -/
  speeds : Tab (List (Nat × Nat)) := []
  droops : Tab (List (Nat × Nat)) := []
  /-- The time master's count: 64 bits of ns with a 32-bit fraction, and the remainder that the fraction leaves of the
  increments so far, in units of 2^-32 / (24 * 10^9) ns (R84). -/
  count : Nat := 0
  carry : Nat := 0
  /-- A forward step in ns waiting for the next reference tick (R86). -/
  stepNs : Nat := 0
  /-- The hinge domain has power: device time runs (R84, R459). -/
  hingeOn : Bool := true
  /-- The 64-bit time bus with its strobe, the values that the time lane of link 2 carries, newest first, and what the
  Core-die repeater shows (R87). -/
  bus : Nat := 0
  strobe : Bool := false
  /-- `DT_CTRL.AUTO` as the last reference tick took it (R121). -/
  auto : Bool := false
  lane : List Nat := []
  repeated : Nat := 0
  /-- The latest time-stamp taken in each cluster (R88). -/
  stamped : Tab Nat := []
  links : Tab LinkSt := []
  /-- The VI whose request left each host port last (R184). -/
  dmaLast : Tab Nat := []
  deriving DecidableEq, Repr

/-- A period entry behind its registers (R29): the number of its next boundary, the boundary at which the open period
began, whether its job starts with tile signatures unused (R31), the status of its work once that is done, and whether it
owes its fence a signal (R263). -/
structure PerEntry where
  next : Nat := 0
  opened : Nat := 0
  noSig : Bool := false
  fin : Option Nat := none
  owes : Bool := false
  deriving DecidableEq, Repr

/-- One interrupt source inside the controller (R424 to R430): the level it has seen, the target and priority it is in
service at, the target it is assigned to, the target last assigned (none: 127), and an open orphan episode. -/
structure Src where
  level : Bool := false
  svc : Option (Nat × Nat) := none
  asg : Option Nat := none
  last : Nat := 127
  orphan : Bool := false
  /-- Since when it is pending with no enabled target (R430). -/
  alone : Option Nat := none
  deriving DecidableEq, Repr

/-- The interrupt controller: the sources by number, and the targets that are signalled (R426). -/
structure Irq where
  src : Tab Src := []
  lines : List Nat := []
  deriving DecidableEq, Repr

/-- What a PCIe function's configuration space decides for the device (R162, R168, R423): MSI-X Enable, Function Mask, the
power state (0 is D0), for a PF the logged status of an Uncorrectable Internal Error and whether its reporting is
enabled (R486), Max Payload Size and Max Read Request Size as powers of two above 128 B, ASPM L1, ECRC generation and
checking, the Completion Timeout Value, and the System Page Size. -/
structure FnCfg where
  msixEn : Bool := false
  funcMask : Bool := false
  dstate : Nat := 0
  uie : Bool := false
  uieOn : Bool := false
  payload : Nat := 0
  readReq : Nat := 2
  aspmL1 : Bool := false
  ecrcGen : Bool := false
  ecrcCheck : Bool := false
  cplTimeout : Nat := 0
  sysPage : Nat := 1
  deriving DecidableEq, Repr

/-- The memories. `lost` counts the losses of DRAM contents under R478; after one, a byte that nothing has written reads
as a free value. Host memory is the hosts' own: the byte at address `a` behind port `p` has key `p * 2 ^ 64 + a`. -/
structure Mems where
  dram : List Host.Cell := []
  lost : Nat := 0
  strike : List Host.Cell := []
  /-- How the check byte stored beside each word of strike SRAM differs from that of its data, by word (R229). -/
  strikeBad : Tab Nat := []
  ward : List Host.Cell := []
  flash : List Host.Cell := []
  host : List Host.Cell := []
  deriving DecidableEq, Repr

/-- What a DRAM request does (R107, R213): an access for an initiator, a line that the scrubber reads, or a burst that the
copy of a remap entry moves. -/
inductive McJob where
  | access
  | scrub
  | copy (entry : Nat)
  deriving DecidableEq, Repr

/-- A DRAM request that waits in its channel (R107, R208): the initiator port, the wheel owner it is served as, its
address, its length, the bytes of a write, and the device time of its issue at the port. -/
structure DramReq where
  port : Nat
  owner : Nat
  addr : Nat
  len : Nat
  data : Option (List Nat)
  since : Nat := 0
  /-- It came as a request of the crossbar, which counts it there (R19). -/
  fab : Bool := false
  job : McJob := .access
  deriving DecidableEq, Repr

/-- The memory controller behind its pages. Banks are keyed 16 * channel + bank, bank pairs 8 * channel + pair. -/
structure Mc where
  /-- Requests not yet issued, oldest first. -/
  reqs : List DramReq := []
  /-- Bolt reads that the ward pair holds before issue, oldest first (R19). -/
  wardHeld : List DramReq := []
  /-- The open row of a bank, plus one; 0 for none (R211). -/
  rows : Tab Nat := []
  /-- The 2-bit counters of R211. -/
  count : Tab Nat := []
  /-- The Latch owner that a channel served last (R107). -/
  latch : Tab Nat := []
  /-- Neighbour refreshes queued (R217): channel, bank, row, RADIUS at the activate. -/
  nrq : List (Nat × Nat × Nat × Nat) := []
  /-- Refreshes postponed by bank pair, or pulled in where negative (R214). -/
  owed : Tab Int := []
  /-- The WCK delay that a channel's correction step waits to set (R207, R213). -/
  wck : Tab (Option Nat) := []
  /-- Device times: the end of a bank's hold time (R211), a channel's next oscillator read (R207), the next MR4 poll
  (R214), and the start of the scrubbing pass with its duration in ns (R226). -/
  hold : Tab Nat := []
  wckNext : Tab Nat := []
  mr4Next : Nat := 0
  scrub : Option (Nat × Nat) := none
  /-- The check lines of the check cache, most recently used first (R222). -/
  chk : List Nat := []
  /-- Rolling activate counts, and the threshold that the devices report (R215). -/
  raa : Tab Nat := []
  raaMax : Nat := 0
  /-- Corrected words waiting to be written back (R223): word address, data, check byte. -/
  wback : List (Nat × Nat × Nat) := []
  /-- Remap entries that are not IDLE (R228): bank, source row, target row. -/
  remap : Tab (Nat × Nat × Nat) := []
  /-- The bursts that the copy of a remap entry has moved, by entry (R228). -/
  copied : Tab Nat := []
  /-- Device time since which MR4 has reported within limits, while MEM_TEMP is open (R474). -/
  coolSince : Option Nat := none
  /-- SRAM repair entries whose row is being copied (R229): 8 * SRAM + entry. -/
  srCopy : List Nat := []
  deriving DecidableEq, Repr

/-- A TLB entry (R189): its tag, the input page, the page size as a power of two, the output address, the guest-physical
page it came through, the permissions of each stage, and the logged flag of R193. -/
structure TlbEntry where
  vi : Nat
  gen : Nat
  asp : Nat
  epoch : Nat
  base : Nat
  size : Nat
  out : Nat
  tgt : Nat
  gpa : Nat
  r1 : Bool
  w1 : Bool
  r2 : Bool
  w2 : Bool
  logged : Bool := false
  deriving DecidableEq, Repr

/-- A table walk in flight (R187): the access that missed, with its bytes (of a read, as many as it asks for) and the
CMD_ID of the command it belongs to. -/
structure Walk where
  vi : Nat
  gen : Nat
  asp : Nat
  ctx : Nat
  addr : Nat
  write : Bool
  data : List Nat := []
  cmd : Option Nat := none
  deriving DecidableEq, Repr

/-- A client context behind its registers (R179): the SQ tail and the CQ head that its doorbells set. -/
structure CtxSt where
  sqTail : Nat := 0
  cqHead : Nat := 0
  deriving DecidableEq, Repr

/-- An invalidation in progress (R192): whole VI, address space or all of stage 1, or a range. -/
structure Inval where
  scope : Nat := 0
  asp : Nat := 0
  first : Nat := 0
  pages : Nat := 0
  deriving DecidableEq, Repr

/-- A VI behind its pages: the epochs of its address spaces (R190), its invalidations (stage 1, stage 2), the dirty
log's ring as EN fixed it (R194), and whether RESETTING ends in ACTIVE (R169). -/
structure ViSt where
  epochs : Tab Nat := []
  inv1 : Option Inval := none
  inv2 : Option Inval := none
  dlWait : Bool := false
  dlBase : Nat := 0
  dlLog2 : Nat := 12
  dlHalt : Bool := false
  restart : Bool := true
  deriving DecidableEq, Repr

/-- The tenancy region behind its pages. Contexts are keyed 64 v + c. `sriov` holds, by port, NumVFs while VF Enable is
set and 0 otherwise. -/
structure HostSt where
  /-- The TLB, most recently used entry first. -/
  tlb : List TlbEntry := []
  walks : List Walk := []
  /-- The VI whose walk was served last (R184). -/
  lastWalk : Nat := 63
  /-- The ports whose next read of host memory ends in an error (R168), and how many table reads a walk still makes before
  the one that ends in an error response (R191). -/
  failNext : List Nat := []
  failRead : Option Nat := none
  ctx : Tab CtxSt := []
  /-- Resident contexts, most recently used first (R182). -/
  resident : List Nat := []
  /-- Contexts that wait for residency, in order of their request. -/
  waitRes : List Nat := []
  lastRes : Nat := 63
  /-- The context of each VI that was fetched from last (R201). -/
  lastFetch : Tab Nat := []
  vis : Tab ViSt := []
  /-- CREATE requests waiting for mediation, oldest first, with the times of the requests (R174). -/
  creates : List (Nat × Nat) := []
  sriov : Tab Nat := []
  deriving DecidableEq, Repr

/-- A vertex after its shader (R248): homogeneous coordinates in units of 2^-149 and the point size in 1/256 pixel. -/
structure Vert where
  x : Int
  y : Int
  z : Int
  w : Int
  size : Nat
  deriving DecidableEq, Repr

/-- A primitive after clipping (R248): the draw record it comes from, its shape (0 point, 1 line, 2 a convex polygon), its
points in 1/256 pixel, the depth of each as a fraction, and a point's size in 1/256 pixel. -/
structure Prim where
  draw : Nat
  shape : Nat
  pts : List (Int × Int)
  zs : List (Int × Int)
  size : Nat := 0
  deriving DecidableEq, Repr

/-- A draw of a render job that R247 does not skip: its record, and the binding tables and flags of its two shaders. -/
structure Draw where
  record : List Nat
  vsBinds : List Nat
  fsBinds : List Nat
  fsFlags : Nat
  deriving DecidableEq, Repr

/-- A render or compute job in progress (R257, R258, R267). `desc` is the 256-byte descriptor of a render job. `phase`: 0
binning, 1 an overflow flush's tiles, 2 the final tiles; a compute job uses `binds` for its shader's binding table and
`next` and `total` for its slices. -/
structure Job where
  desc : List Nat := []
  phase : Nat := 0
  /-- A binning batch runs on a cluster. -/
  binning : Bool := false
  draws : List Draw := []
  /-- Where binning stands: the draw, the instance, the vertex or index, the vertices of the primitive begun, and the
  number of the next primitive of a strip. -/
  draw : Nat := 0
  inst : Nat := 0
  pos : Nat := 0
  verts : List Vert := []
  strip : Nat := 0
  /-- The list of each tile, and the blocks of the pool that the lists occupy. -/
  lists : Tab (List Prim) := []
  blocks : Nat := 0
  /-- Tiles of the present phase that no cluster has taken. -/
  todo : List Nat := []
  /-- Tiles stored by an overflow flush of this job. -/
  flushed : List Nat := []
  /-- The signatures of colour target t are usable (R260). -/
  sigUse : List Bool := []
  binds : List Nat := []
  next : Nat := 0
  total : Nat := 0
  sliceMs : Nat := 16
  deriving DecidableEq, Repr

/-- A command in flight (R177, R240 to R243): its 64-byte entry, and what has become of it. `status` is its CQ status
once that is decided; it completes when no item of it runs. `began` is the time from which its deadline runs, `fed` the bits
of feedback bitmaps that it has set (R255): bitmap address and page. -/
structure Cmd where
  uid : Nat
  vi : Nat
  ctx : Nat
  gen : Nat
  engine : Nat
  cmdId : Nat
  op : Nat
  hold : Bool
  entry : List Nat
  sqHead : Nat
  started : Bool := false
  running : Nat := 0
  status : Option Nat := none
  fence : Option Nat := none
  period : Option Nat := none
  job : Option Job := none
  began : Option Nat := none
  fed : List (Nat × Nat) := []
  deriving DecidableEq, Repr

/-- A work item on a render cluster (R239): the command, its kind (0 binning, 1 tile, 2 slice), the tile or slice
number, the device times of its start and from which it is still to be charged, its limit in ms, and for a slice its
first workgroup (X, Y, Z) and their number (R267). -/
structure Item where
  uid : Nat
  kind : Nat
  index : Nat
  start : Nat
  since : Nat
  limit : Nat
  group : Nat × Nat × Nat := (0, 0, 0)
  groups : Nat := 0
  deriving DecidableEq, Repr

/-- An owed signal (R263, R264): who owes it, when it was taken, and the fence's timeout in ms at that time. -/
structure Owe where
  who : Nat
  since : Nat
  tmo : Nat
  deriving DecidableEq, Repr

/-- A waiter on a fence (R265): a WAIT command by its uid, or the flip of pipe `p` on a page (`who = 2^32 + 64 * page +
p`). `got` is the status it was satisfied with. -/
structure Waiter where
  who : Nat
  fence : Nat
  target : Nat
  got : Option Nat := none
  deriving DecidableEq, Repr

/-- The renderer behind its pages. A fence is keyed 256 * page + index. -/
structure Rend where
  /-- Commands in flight, in the order of their fetch. -/
  cmds : List Cmd := []
  nextUid : Nat := 0
  items : Tab (Option Item) := []
  fences : Tab (List Owe) := []
  waiters : List Waiter := []
  /-- The charge of each VI in the present share period, in cluster-ns. -/
  charge : Tab Nat := []
  lastVi : Nat := 63
  lastCtx : Tab Nat := []
  /-- Busy time of each cluster that `RC_BUSY` does not show yet, in ns. -/
  busyRem : Tab Nat := []
  /-- Bytes of residency maps as they were cached, newest first (R256): VI, address space, address, bytes. -/
  resMaps : List (Nat × Nat × Nat × List Nat) := []
  /-- Period entries whose released job waits for its context (R243). -/
  releases : List Nat := []
  deriving DecidableEq, Repr

/-- A buffer that a pipe reads (R286): its format, width, height and pitch, its address, its chroma offset, and the entries
of its pipe map. -/
structure Buf where
  fmt : Nat
  width : Nat
  height : Nat
  pitch : Nat
  addr : Nat
  chroma : Nat
  map : List TlbEntry := []
  deriving DecidableEq, Repr

/-- A queued flip (R292): its buffer, its ADJ, whether its walk is complete, and the status of its satisfied fence. -/
structure Flip where
  buf : Buf
  adjX : Int
  adjY : Int
  walked : Bool := false
  fate : Option Nat := none
  deriving DecidableEq, Repr

/-- The source lines that a pipe has fetched for a band (R283): the warp they were fetched with, the bytes of each buffer
line within the crop, those of each chroma line, and whether no access received an error response. -/
structure BandSrc where
  band : Nat
  ax : Int
  ay : Int
  rows : Tab (List Nat)
  crows : Tab (List Nat)
  ok : Bool
  deriving DecidableEq, Repr

/-- A layer pipe behind its blocks: the current buffer, the queued flip, the remainder of R296, the coefficients that
differ from the bilinear set (key 768 * bank + INDEX), and the bands fetched and not yet composed. -/
structure PipeSt where
  cur : Option Buf := none
  flip : Option Flip := none
  rem : Int := 0
  coef : Tab Nat := []
  bands : List BandSrc := []
  deriving DecidableEq, Repr

/-- A pixel: red, green and blue of 10 bits each. -/
structure Pix where
  r : Nat
  g : Nat
  b : Nat
  deriving DecidableEq, Repr

/-- A head behind its pages (R282, R322 to R341). -/
structure HeadSt where
  /-- Device time of the latest F. -/
  ftime : Nat := 0
  /-- The latest boundary with a flip taken: time, frame, pipes (R327). -/
  flipT : Nat := 0
  flipF : Nat := 0
  flipP : List Nat := []
  /-- A set that changes the active area has applied, and no layer boundary of the new mode has passed (R324). -/
  newMode : Bool := false
  /-- Bands of the frame in work whose composition has started or ended. -/
  started : Nat := 0
  composed : Nat := 0
  /-- Layers of a band in work that show their fill colour. -/
  fill : List Nat := []
  /-- The composed lines of each band, as they left the compositor. -/
  rows : Tab (List (List Pix)) := []
  /-- The frame leaves the transmitter as video from its first pixel on (R338). -/
  video : Bool := false
  /-- A mismatch is to be forced in the next band (R300). -/
  inject : Bool := false
  /-- The emergency message shown, and the 16 entries of the emergency palette (R301, R305). -/
  emg : Option Nat := none
  emgPal : List Nat := []
  /-- The safe screen is shown because of forcing; RELEASE has been written (R340). -/
  forced : Bool := false
  release : Bool := false
  /-- The frame that was counted last as compared, and as skipped. -/
  compared : Option Nat := none
  skipped : Option Nat := none
  /-- What the sink reported when it was plugged. -/
  sink : Option SinkCaps := none
  /-- An owner's AUX transaction that is queued or running: TYPE and LEN as its GO took them. -/
  aux : Option (Nat × Nat) := none
  /-- The backlight output, and when a frame was first sent since the link came up (R336). -/
  blen : Bool := false
  sent : Option Nat := none
  /-- Device time of the latest strobe without a frame (R329). -/
  strobeAt : Nat := 0
  /-- Since the last boot no safe screen has been sent (R13 path 7); the sink asserted HPD within 250 ms of it; training
  attempts since then. -/
  safeDue : Bool := false
  early : Bool := false
  tries : Nat := 0
  /-- Acceptance times of a strike commit and of an emergency frame whose content no frame has carried yet (R13). -/
  strikeSince : Option Nat := none
  emgSince : Option Nat := none
  deriving DecidableEq, Repr

/-- The display: pipes, heads, the acceptance time of the emergency frame that the ward world acts on (R13 path 1), and
the time from which path 7 runs, with whether a safe screen has been sent since. -/
structure Disp where
  pipes : Tab PipeSt := []
  heads : Tab HeadSt := []
  emgFrame : Option Nat := none
  bootAt : Nat := 0
  safeSent : Bool := false
  deriving DecidableEq, Repr

/-- A tracked contact (R356, R358, R359). `kind` is 0 pending, 1 a contact of the report queue, 2 a Bolt contact, 3 a ghost.
Positions are in 1/16 head pixel. -/
structure Track where
  id : Nat
  kind : Nat := 0
  x : Nat
  y : Nat
  /-- Peak delta, touched nodes of the blob, and those nodes. -/
  peak : Nat
  area : Nat
  nodes : List Nat
  /-- Consecutive scan frames matched before its DOWN, and without a candidate. -/
  hits : Nat := 1
  misses : Nat := 0
  /-- A ghost that stays where it is until its nodes are re-baselined (R356). -/
  stay : Bool := false
  /-- When and where it went DOWN, and the position of its previous record. -/
  downAt : Nat := 0
  downX : Nat := 0
  downY : Nat := 0
  recX : Nat := 0
  recY : Nat := 0
  region : Nat := 0
  /-- Its DOWN fell in a scan frame during which the queue's EN was 1 (R367). -/
  fed : Bool := false
  /-- The pipes in whose destination rectangle it went DOWN, and those it drags with the position of the last delta. -/
  under : List Nat := []
  drags : List (Nat × Int × Int) := []
  deriving DecidableEq, Repr

/-- The class L fields of a touch port as a scan frame takes them at its start (R373). -/
structure TouchCfg where
  touch : Nat := 200
  anti : Nat := 100
  track : Nat := 6
  downFr : Nat := 1
  upFr : Nat := 1
  maxMove : Nat := 64
  palm : Nat := 24
  cover : Nat := 448
  holdS : Nat := 30
  deriving DecidableEq, Repr

/-- What the wake gestures follow in STANDBY (R370): the contact on the panel with its first scan frame's end, first
position and whether it has left MAXMOVE of it, and the end of a first tap. -/
structure Gesture where
  start : Option (Nat × Nat × Nat) := none
  x : Nat := 0
  y : Nat := 0
  moved : Bool := false
  known : Bool := false
  misses : Nat := 0
  tap : Option (Nat × Nat × Nat) := none
  /-- GESTURE, HZ, TAP and GAP as the entry to STANDBY took them. -/
  gesture : Nat := 0
  hz : Nat := 20
  tapMs : Nat := 250
  gapMs : Nat := 500
  deriving DecidableEq, Repr

/-- A direct-path trigger on its way (R364, R365): a Bolt effect, a Latch effect, or a Bolt tone with its speaker. -/
inductive TouchTrig where
  | bolt (effect : Nat)
  | click (effect : Nat)
  | tone (tone speaker : Nat)
  deriving DecidableEq, Repr

/-- A touch port behind its pages (R347 to R371). Node (d, s) is number d × SENSE + s. -/
structure TouchSt where
  /-- The baselines B, the sums of capture and its length, and the raw values of the latest scan frame. -/
  base : List Nat := []
  acc : List Nat := []
  capN : Nat := 0
  need : Nat := 4
  last : List Nat := []
  /-- The nodes whose delta was −ANTI or less in the previous scan frame. -/
  anti : List Nat := []
  tracks : List Track := []
  lastId : Nat := 0
  /-- A scan frame runs; the settings that it took, and the report queue's EN. -/
  scanning : Bool := false
  cfg : TouchCfg := {}
  en : Bool := false
  /-- RECAL and DUMP wait for the next scan frame; the address of the dump. -/
  recal : Bool := false
  dump : Option Nat := none
  /-- The linked head's windows have been present for the whole display frame so far; no frame strobe has come for 50 ms, and
  the port has not returned to its SYNC mode (R351). -/
  whole : Bool := false
  lost : Bool := false
  /-- Device times of the latest start of a scan frame, of the earliest end of that frame, and of the latest frame strobe;
  the scan frames started since the strobe, and the linked head's state at the start (R349, R350). -/
  startAt : Nat := 0
  endAt : Nat := 0
  strobeAt : Nat := 0
  since : Nat := 0
  headAt : Nat := 0
  /-- The ward touch mailbox: records as bytes, oldest first. -/
  mbox : List (List Nat) := []
  /-- Records of the report queue have been lost since the last RESYNC (R369). -/
  lossy : Bool := false
  /-- Drag deltas not yet at their pipes (pipe, dx, dy), and triggers not yet delivered, with the end of their scan frame. -/
  deltas : List (Nat × Int × Int) := []
  trigs : List (TouchTrig × Nat) := []
  gest : Gesture := {}
  deriving DecidableEq, Repr

/-- A resident effect of the effect store (R377): its place in its pool and its flags. -/
structure Effect where
  offset : Nat
  length : Nat
  bolt : Bool
  noBrake : Bool
  noOd : Bool
  deriving DecidableEq, Repr

/-- The settings of a channel block in force while an effect plays and brakes (R382 to R384, R387). -/
structure HapCfg where
  vfs : Nat := 60
  ilim : Nat := 7
  odMs : Nat := 4
  odX : Nat := 32
  brk : Nat := 8
  brkMs : Nat := 5
  thr : Nat := 20
  ref : Nat := 200
  stall : Nat := 10
  deriving DecidableEq, Repr

/-- A load into the effect store (R378): its issuer's code, the effect (none: no slot of that number), the pool range, the
flags, and the source. -/
structure HapLoad where
  issuer : Nat
  effect : Option Nat
  offset : Nat
  length : Nat
  bolt : Bool
  noBrake : Bool
  noOd : Bool
  addr : Nat
  asp : Nat
  gen : Nat
  deriving DecidableEq, Repr

/-- A haptic channel behind its block (R380 to R388). A trigger is an effect, a gain and a repeat count. -/
structure HapSt where
  cfg : HapCfg := {}
  gain : Nat := 255
  /-- Samples to play in all, the number of the next one, and whether the first drive edge has come. -/
  total : Nat := 0
  pos : Nat := 0
  edge : Bool := false
  k : Nat := 16
  /-- The last back-EMF measured, in mV. -/
  emf : Int := 0
  /-- The end of the scan frame that a Bolt start answers, and its touch port (path 3 of R13). -/
  since : Option (Nat × Nat) := none
  pend : Option (Nat × Nat × Nat) := none
  /-- A Bolt trigger held during CHECK, with its `since`; the time at which CHECK was entered. -/
  held : Option (Nat × Nat × Option (Nat × Nat)) := none
  checkAt : Nat := 0
  stallRun : Nat := 0
  stalls : List Nat := []
  latched : Bool := false
  /-- Brake samples so far, and consecutive measurements below THR. -/
  braked : Nat := 0
  below : Nat := 0
  load : Option HapLoad := none
  deriving DecidableEq, Repr

/-- The haptic block: channels, the effect directory and its samples (0 to 65,535 the ward pool, then 24,576 for each
channel), the ward world's load, and whether VHAP is out of 9.5 to 14.5 V. -/
structure Hap where
  ch : Tab HapSt := []
  dir : Tab (Option Effect) := []
  store : Tab Nat := []
  load : Option HapLoad := none
  supplyOut : Bool := false
  deriving DecidableEq, Repr

/-- A gain that steps (R398): the value in force, the ticks since the first write that waits, and the sample before. -/
structure GainSt where
  now : Nat := 0x8000
  wait : Option Nat := none
  prev : Int := 0
  deriving DecidableEq, Repr

/-- An input stream behind its block (R394 to R398): the write index and EOS of its pointer word; the block fetched and not
yet playing and whether it is the first after a gap; the block that plays with its ramps and its next sample; the gain and
the sample of this tick. Paced, `pace` holds the number of the period, the blocks of its region fetched so far, and whether
the region playing and the region of the period's work are filled (R397). -/
structure AStream where
  widx : Nat := 0
  eos : Bool := false
  hand : Option (List Int) := none
  handFirst : Bool := false
  play : List Int := []
  rampIn : Bool := false
  rampOut : Bool := false
  gain : GainSt := {}
  out : Int := 0
  pace : Option Nat := none
  block : Nat := 0
  playFilled : Bool := false
  workFilled : Bool := false
  /-- The blocks of the region playing, and of that of the period's work, that were filled when its period was dropped
  (R31). -/
  playCap : Option Nat := none
  workCap : Option Nat := none
  deriving DecidableEq, Repr

/-- An operation of a Tumbler program (R401). -/
structure TumOp where
  op : Nat
  d : Nat
  a : Nat
  b : Nat
  k : Nat
  deriving DecidableEq, Repr

/-- A Tumbler bank (R400, R401): its program, its registers, its biquad states (x1, x2, y1, y2), its delay memory, the ticks
it has run. -/
structure Bank where
  ops : List TumOp := []
  coef : List Int := []
  biq : List (List Int) := []
  dly : List Nat := []
  regs : Tab Int := []
  bst : Tab (Int × Int × Int × Int) := []
  mem : Tab Int := []
  tick : Nat := 0
  deriving DecidableEq, Repr

/-- A sink channel (R404, R406): its source, the ramp (0 none, 1 out, 2 in) with its tick and target, a write that waits for
a block boundary, one held until the ramp ends, its gain, and the limiter's gain in units of 2 ^ −60. -/
structure SinkCh where
  src : Nat := 0
  ramp : Nat := 0
  n : Nat := 0
  target : Nat := 0
  due : Option Nat := none
  held : Option Nat := none
  gain : GainSt := {}
  lim : Nat := 2 ^ 60
  deriving DecidableEq, Repr

/-- A Bolt tone of the store (R407). -/
structure Tone where
  offset : Nat
  length : Nat
  level : Nat
  deriving DecidableEq, Repr

/-- A speaker: the tone that plays with its next sample, the ducking taken at its start with its ramp of 0 to 16 ticks,
the trigger's time and the touch port it came from (path 4 of R13), and the stage's gain ramp: ticks up to 480, and ticks
left of a fall of 48. -/
structure Spk where
  tone : Option (Tone × Nat) := none
  toneId : Nat := 0
  duck : Nat := 2
  duckN : Nat := 0
  since : Option (Nat × Option Nat) := none
  /-- Ticks of the gain ramp so far, up after the start at `rampAt`, and down after EN was cleared (R410). -/
  up : Nat := 0
  rampAt : Nat := 0
  fall : Nat := 0
  latched : Bool := false
  deriving DecidableEq, Repr

/-- The audio engine (R392 to R412). Sink channels are keyed 8 × sink + channel. -/
structure Aud where
  tick : Nat := 0
  /-- A block boundary is due. -/
  blockDue : Bool := false
  streams : Tab AStream := []
  bank0 : Bank := {}
  bank1 : Bank := {}
  /-- A SWAP that waits for a block boundary; the tick of the crossfade. -/
  swap : Bool := false
  fade : Nat := 0
  /-- A program load: bank, offset, bytes. -/
  load : Option (Nat × Nat × Nat) := none
  live : Tab GainSt := []
  /-- The program outputs of the last 16 ticks, newest first. -/
  delayed : List (List Int) := []
  sinks : Tab SinkCh := []
  tones : Tab (Option Tone) := []
  pool : Tab Nat := []
  /-- A tone load: tone, level, length, offset, address. -/
  toneLoad : Option (Nat × Nat × Nat × Nat × Nat) := none
  spk : Tab Spk := []
  deriving DecidableEq, Repr

/-- A ring frame that waits to leave a port or is on its line (R463): its 32 bytes, and for a frame forwarded or a
response the arrival of what it follows and the port of that. `tx`: `RB_TX`'s frame; `release`: an ALERT after which the
hold output falls. -/
structure OutFrame where
  bytes : List Nat
  follows : Option (Nat × Nat) := none
  tx : Bool := false
  release : Bool := false
  deriving DecidableEq, Repr

/-- An accepted frame whose effect is still to come: port, arrival of its byte 0 and of its last bit, its bytes, and the
ALIVE accepted before it for its SRC and TYPE. -/
structure InFrame where
  port : Nat
  arrived : Nat
  ended : Nat
  bytes : List Nat
  prior : Option Nat
  deriving DecidableEq, Repr

/-- A ring port: the frame on its line, those that wait, the departure of its last LINK_DELAY request, and the last eight
link delays, newest first. -/
structure RingPort where
  line : Option OutFrame := none
  queue : List OutFrame := []
  asked : Nat := 0
  delays : List Nat := []
  deriving DecidableEq, Repr

/-- The ring behind its page (R460 to R467): own ALIVE counters by TYPE, accepted ALIVE by 16 × SRC + TYPE, the accepted
frames, the receive queue, and what R465 and R466 remember. -/
structure Ring where
  port0 : RingPort := {}
  port1 : RingPort := {}
  alive : Tab Nat := []
  seen : Tab Nat := []
  accepted : List InFrame := []
  rx : List (List Nat) := []
  near : Nat := 0
  integ : Int := 0
  nodeSet : Bool := false
  /-- When the hold output rose, and when a TIME frame was last accepted. -/
  holdAt : Nat := 0
  timeAt : Nat := 0
  deriving DecidableEq, Repr

/-- A change of the power manager that runs (R446): the levels requested and those in force at its start (Core regions 0 to
7, then Port regions 1 to 6), the sleep target, whether the ward world asked, the rails still to be written in its phase, and
the step of the entry or exit. `race`: the wake source that has won against its sleep part (R455). -/
structure Change where
  levels : List Nat
  old : List Nat
  target : Nat
  ward : Bool
  rails : List Nat
  step : Nat := 0
  race : Option Nat := none
  /-- When step 3 of an entry began. -/
  since : Nat := 0
  deriving DecidableEq, Repr

/-- A PMBus transaction under way (R447): rail, command, value, failed attempts so far, and whether the change that runs
waits for it. -/
structure BusOp where
  rail : Nat
  code : Nat
  value : Nat
  tries : Nat := 0
  forChange : Bool := true
  deriving DecidableEq, Repr

/-- The power manager behind its page (R446 to R456): the change that runs, a pending request of the ward world, a pending
change of R451, the transactions not yet ended, the rail whose acknowledgement is awaited with the mV it stands for, the
exponent that each rail's VOUT_MODE reported, and a wake after the point of no return. -/
structure Pm where
  run : Option Change := none
  wardPend : Option Nat := none
  thermPend : Bool := false
  bus : List BusOp := []
  ack : Option (Nat × Nat × Nat) := none
  mode : Tab (Option Int) := []
  woken : Option Nat := none
  /-- When the transaction at the front was first sent, with the ns that it may take; when the acknowledgement began to be
  awaited, with the ns after which the wait expires (R447, R448). -/
  busAt : Nat × Nat := (0, 0)
  ackAt : Nat × Nat := (0, 0)
  /-- `PM_WAKE_EN` as the latest sleep request took it, bit s - 1 for source s (R455, R469). -/
  wakeEn : Nat := 3
  deriving DecidableEq, Repr

/-- The boot and the reset controller (R123 to R133, R153, R477, R478, R505). `down`: the dies are held in reset. `hot`:
that hold lasts until every junction sensor is below its release temperature; `hotDrive`: likewise for the Drive die
alone. `goodAt`: power-good or the release of reset, for `BOOT_SAFE`. `base`: the booted slot's place in flash. `svn`: the
fused counter. `due`: a boot is to be run, 1 an exit from S2, 2 a package-level recovery. `cdi`, `idKey`, `aliasKey`: what
the ward key engine holds. `restart`: the first event of a ward restart, with what its steps have done: 1 isolated, 2 ward
SRAM cleared, 3 measured; `answered`: a mailbox answer since then is still to be measured. `fwStopped`: the open pilots
whose firmware level a second-stage fault has stopped (R146). -/
structure BootSt where
  powerGood : Bool := false
  mainEn : Bool := true
  faultN : Bool := false
  down : Bool := true
  hot : Bool := false
  hotDrive : Bool := false
  quad : Bool := false
  toLoad : Bool := false
  goodAt : Nat := 0
  base : Nat := 0
  svn : Nat := 0
  udsHidden : Bool := false
  cdi : List Nat := []
  idKey : Nat := 0
  aliasKey : Nat := 0
  /-- The alias certificate that the boot ROM has issued (R133), and the touch panel parameters resident in the touch engine
  (section 0x000A of R128). -/
  aliasCert : List Nat := []
  panel : List Nat := []
  due : Nat := 0
  restart : Option Nat := none
  wrStep : Nat := 0
  answered : Bool := true
  kicked : Nat := 0
  kickMs : Nat := 50
  fwStopped : List Nat := []
  deriving DecidableEq, Repr

/-- A ward mailbox behind its page (R151): how many requests it has numbered, the deadline of the one in WAIT, and the time
of its acceptance. -/
structure Mbox where
  count : Nat := 0
  deadline : Nat := 0
  deriving DecidableEq, Repr

/-- A secure session of a port (R136, R138): its handshake is finished; its requester chain ends at the port's ROOTHASH. -/
structure Session where
  id : Nat
  ready : Bool := false
  mutual_ : Bool := false
  deriving DecidableEq, Repr

/-- The SPDM responder of a port (R136): how far the connection has come (1 version, 2 capabilities, 3 algorithms), its
open sessions and the number of the next. -/
structure Spdm where
  phase : Nat := 0
  sessions : List Session := []
  next : Nat := 1
  deriving DecidableEq, Repr

/-- A prompt that ward firmware keeps (R306, R307, R361). `stage`: 0 its regions are to apply, 1 its strike set, 2 it is
shown, 3 the strike set that removes it is to apply, 4 the set that removes its regions, 5 it is gone. `tpl` is its
template's directory entry in strike SRAM, `regions` its regions by port and first region, `keys` the CODE and FLAGS of
its key records, `mism` the mismatches of its CRC rectangle when it was shown. `ended`: its session is over, and it goes
with its removal. -/
structure Prompt where
  handle : Nat
  port : Nat
  session : Nat
  tag : Nat
  head : Nat
  win : Nat
  tpl : Nat
  x : Nat
  y : Nat
  scale : Nat
  collect : Bool
  crc : Bool
  stage : Nat := 0
  regions : List (Nat × Nat) := []
  keys : List (Nat × Nat) := []
  state : Nat := 0
  codes : List Nat := []
  entryMax : Nat := 1
  timeout : Nat := 0
  ends : Option Nat := none
  mism : Nat := 0
  ended : Bool := false
  deriving DecidableEq, Repr

/-- The RTC (R458): the count at a device time, from which it runs while the crystal does. -/
structure Rtc where
  count : Nat := 0
  since : Nat := 0
  deriving DecidableEq, Repr

/-- Everything the device is, but for the commands that wait. -/
structure Dev where
  /-- Register fields by `fieldKey`; a field not listed holds its reset value. -/
  regs : Tab Nat := []
  /-- Active values of class S fields by `fieldKey`; one not listed is at its reset value (R49). -/
  act : Tab Nat := []
  /-- `PAGE_ERREN` as each page's last error event took it, by page number (R39, R48). -/
  errEn : Tab Nat := []
  /-- The commit logic of each page, by page number. -/
  pages : Tab PageCtl := []
  /-- Writes that wait, in the device-wide order (R47). -/
  held : List Held := []
  /-- The hinge store: the 4,096 bytes of the hinge table loaded at boot (R139). -/
  hinge : List Host.Cell := []
  led : Ledger := {}
  flt : FaultSt := {}
  fab : Fabric := {}
  per : Tab PerEntry := []
  irq : Irq := {}
  /-- PCIe functions: 0 to 3 the PFs of ports A to D, 4 + v the VF of VI v. -/
  fn : Tab FnCfg := []
  mems : Mems := {}
  mc : Mc := {}
  hst : HostSt := {}
  rend : Rend := {}
  disp : Disp := {}
  /-- The touch ports. -/
  tch : Tab TouchSt := []
  hap : Hap := {}
  aud : Aud := {}
  ring : Ring := {}
  pm : Pm := {}
  boot : BootSt := {}
  mbox : Tab Mbox := []
  rtc : Rtc := {}
  /-- SPDM by port, the prompts that ward firmware keeps, the next handle, and the end of a TEST_EMERGENCY. -/
  spdm : Tab Spdm := []
  prompts : List Prompt := []
  nextPrompt : Nat := 1
  emgTest : Option Nat := none
  /-- Wake events raised and not yet taken by the power manager, by the codes of `PM_STAT.WAKESRC` (R455, R469). -/
  wakes : List Nat := []
  /-- The PF ports whose DOE mailbox holds a request (R420). -/
  doeWaiting : List Nat := []
  /-- The ward mailbox channels in WAIT whose request ward firmware has not read (R151). -/
  mboxUnread : List Nat := []
  /-- The monitors whose count and worst latency their next measurement clears first (R33). -/
  bmonClr : Nat := 0
  /-- High words that reads of their low words have latched, by 4,096 × page + offset (R4). -/
  latch : Tab Nat := []
  /-- What has left the device, oldest first. -/
  emitted : List Out := []
  /-- The model's own counter, to which the free values of Config are applied. -/
  fresh : Nat := 0
  deriving DecidableEq, Repr

/-- The machine: the device, and the commands that wait, first in, first out. -/
structure State where
  dev : Dev
  pending : List Instr
  deriving DecidableEq, Repr

/-- The machine at power-good low: every register at its reset value and no command waiting. -/
def State.reset : State := { dev := {}, pending := [] }

end Sys2Proof.Machine
end

