-- ==== Sys2Proof/Machine/Ops.lean ====
section
/-! DEFINITION. The operations that every block shares: reading and writing a field, the memories, time-stamps, and
what leaves the device. -/

namespace Sys2Proof.Machine

open Sys2Proof

/-! ### Register fields -/

/-- The value a field holds: the last value written to it, or its reset value. For a class S field this is the shadow
(R49). -/
def Dev.r (d : Dev) (pid : Nat) (f : FD) (i : Nat := 0) : Nat := tabGet d.regs (f.rstAt i) (fieldKey pid f i)

/-- The active value of a class S field: what the block uses (R49). -/
def Dev.a (d : Dev) (pid : Nat) (f : FD) (i : Nat := 0) : Nat := tabGet d.act (f.rstAt i) (fieldKey pid f i)

/-- Set a field, cut to its width. -/
def Dev.w (d : Dev) (pid : Nat) (f : FD) (v : Nat) (i : Nat := 0) : Dev :=
  { d with regs := tabPut d.regs (f.rstAt i) (fieldKey pid f i) (v % 2 ^ f.w) }

/-- Set the active value of a class S field, cut to its width. -/
def Dev.wa (d : Dev) (pid : Nat) (f : FD) (v : Nat) (i : Nat := 0) : Dev :=
  { d with act := tabPut d.act (f.rstAt i) (fieldKey pid f i) (v % 2 ^ f.w) }

/-- Add to a counter that wraps at its width. -/
def Dev.add (d : Dev) (pid : Nat) (f : FD) (n : Nat := 1) (i : Nat := 0) : Dev := d.w pid f (d.r pid f i + n) i

/-- Add to a counter that saturates at its width. -/
def Dev.addSat (d : Dev) (pid : Nat) (f : FD) (n : Nat := 1) (i : Nat := 0) : Dev :=
  d.w pid f (sat (2 ^ f.w - 1) (d.r pid f i + n)) i

/-- Write a 64-bit time or a wide value over a low and a high register. -/
def Dev.w64 (d : Dev) (pid : Nat) (lo hi : FD) (v : Nat) (i : Nat := 0) : Dev :=
  (d.w pid lo v i).w pid hi (v / 2 ^ lo.w) i

/-- Read a wide value over a low and a high register, in units of the low field's lowest bit. -/
def Dev.r64 (d : Dev) (pid : Nat) (lo hi : FD) (i : Nat := 0) : Nat := d.r pid lo i + d.r pid hi i * 2 ^ lo.w

/-- A field of one bit as a truth value. -/
def Dev.on (d : Dev) (pid : Nat) (f : FD) (i : Nat := 0) : Bool := d.r pid f i == 1

/-! ### Memories -/

/-- The byte at an address; an unlisted address reads 0. -/
def memRd (m : List Host.Cell) (a : Nat) : Nat := (tabGet m (0 : Byte) a).toNat

/-- Write one byte. -/
def memWr (m : List Host.Cell) (a v : Nat) : List Host.Cell := tabPut m (0 : Byte) a (BitVec.ofNat 8 v)

/-- `n` bytes from an address upward. -/
def memRdN (m : List Host.Cell) (a : Nat) : Nat → List Nat
  | 0 => []
  | n + 1 => memRd m a :: memRdN m (a + 1) n

/-- Write bytes from an address upward. -/
def memWrN (m : List Host.Cell) (a : Nat) : List Nat → List Host.Cell
  | [] => m
  | b :: r => memWrN (memWr m a b) (a + 1) r

/-- The little-endian number of `n` bytes. -/
def memRdLE (m : List Host.Cell) (a n : Nat) : Nat := ofBytesLE (memRdN m a n)

/-- The canonical form of a memory: addresses strictly rising, no entry that reads as an unlisted byte does. -/
def memOk (m : List Host.Cell) : Bool := tabOk m (0 : Byte)

/-- Bits of the row address (R204). -/
def Dev.rowBits (d : Dev) : Nat := 15 + d.r 0x100 F.MC_CFG_DENS

/-- The interleave grain exponent (R232). -/
def Dev.grain (d : Dev) : Nat :=
  let g := d.r 0x100 F.MC_CFG_GRAIN
  if 8 ≤ g ∧ g ≤ 14 then g else 12

/-- The channel of a DRAM address (R209). -/
def Dev.chanOf (d : Dev) (a : Nat) : Nat :=
  let g := d.grain
  if d.on 0x100 F.MC_CFG_HASH then a / 2 ^ g % 8 ^^^ a / 2 ^ (g + 3) % 8 else a / 2 ^ g % 8

/-- The channel address of a DRAM address (R209). -/
def Dev.localOf (d : Dev) (a : Nat) : Nat :=
  let g := d.grain
  a / 2 ^ (g + 3) * 2 ^ g + a % 2 ^ g

/-- The DRAM address that decodes to a channel and a channel address: R209 read backwards. -/
def Dev.addrAt (d : Dev) (chan loc : Nat) : Nat :=
  let g := d.grain
  let hi := loc / 2 ^ g
  let low3 := if d.on 0x100 F.MC_CFG_HASH then chan ^^^ hi % 8 else chan
  hi * 2 ^ (g + 3) + low3 * 2 ^ g + loc % 2 ^ g

/-- The bank of a channel address, 4 × bank group + bank, and its row (R210). -/
def bankOf (loc : Nat) : Nat := 4 * bits loc 11 2 + bits loc 13 2
def rowOf (loc : Nat) : Nat := loc / 2 ^ 15

/-- The row that accesses to a row of a bank use: the target of a remap entry that is ACTIVE or RETURNING (R228). -/
def Dev.mappedRow (d : Dev) (chan bank row : Nat) : Nat :=
  match (upFrom (4 * chan) 4).find? (fun e =>
      (d.r 0x120 F.RMP_DST_STATE e == 2 || d.r 0x120 F.RMP_DST_STATE e == 3) &&
      (let m := tabGet d.mc.remap (0, 0, 0) e; m.1 == bank && m.2.1 == row)) with
  | some e => (tabGet d.mc.remap (0, 0, 0) e).2.2
  | none => row

/-- The address of the cell that an access at a DRAM address uses, rows remapped (R227, R228). -/
def Dev.cellAt (d : Dev) (a : Nat) : Nat :=
  let l := d.localOf a
  let r := d.mappedRow (d.chanOf a) (bankOf l) (rowOf l)
  if r = rowOf l then a else d.addrAt (d.chanOf a) (2 ^ 15 * r + l % 2 ^ 15)

/-- What a DRAM byte that is not listed reads as: 0 until contents have been lost, then a free value (R478). -/
def Dev.dramUnlisted (d : Dev) (a : Nat) : Byte := if d.mems.lost = 0 then 0 else Config.lostByte d.mems.lost a

/-- The byte in a DRAM cell. -/
def Dev.cellRd (d : Dev) (a : Nat) : Nat := (tabGet d.mems.dram (d.dramUnlisted a) a).toNat

/-- Put a byte into a DRAM cell. The byte 0 leaves the list only while an unlisted byte reads 0. -/
def Dev.cellWr (d : Dev) (a v : Nat) : Dev :=
  { d with mems := { d.mems with dram :=
      if d.mems.lost = 0 then memWr d.mems.dram a v else tabIns d.mems.dram a (BitVec.ofNat 8 v) } }

/-- A byte of DRAM as stored, rows remapped and nothing checked. -/
def Dev.dramRd (d : Dev) (a : Nat) : Nat := d.cellRd (d.cellAt a)

/-- The cell that mirrors a write at a DRAM address (R228): in the other row of a remap entry whose copy has already moved
the burst. -/
def Dev.mirrorAt (d : Dev) (a : Nat) : Option Nat :=
  let chan := d.chanOf a
  let l := d.localOf a
  ((upFrom (4 * chan) 4).find? (fun e =>
      (d.r 0x120 F.RMP_DST_STATE e == 1 || d.r 0x120 F.RMP_DST_STATE e == 3) &&
      (let m := tabGet d.mc.remap (0, 0, 0) e; m.1 == bankOf l && m.2.1 == rowOf l) &&
      decide (bits l 6 5 < tabGet d.mc.copied 0 e))).map (fun e =>
    let m := tabGet d.mc.remap (0, 0, 0) e
    d.addrAt chan (2 ^ 15 * (if d.r 0x120 F.RMP_DST_STATE e = 1 then m.2.2 else m.2.1) + l % 2 ^ 15))

/-- Store a byte of DRAM, rows remapped and nothing checked. -/
def Dev.dramWr (d : Dev) (a v : Nat) : Dev :=
  let d' := d.cellWr (d.cellAt a) v
  match d.mirrorAt a with
  | some b => d'.cellWr b v
  | none => d'

/-- `n` bytes of DRAM as stored, from an address upward. -/
def Dev.dramRdN (d : Dev) (a n : Nat) : List Nat := (upFrom a n).map d.dramRd

/-- Store bytes of DRAM from an address upward. -/
def Dev.dramWrN (d : Dev) (a : Nat) : List Nat → Dev
  | [] => d
  | b :: r => (d.dramWr a b).dramWrN (a + 1) r

/-- The canonical form of the DRAM list. -/
def Mems.dramOk (m : Mems) : Bool := if m.lost = 0 then memOk m.dram else tabSorted none m.dram

/-- The key of a byte of host memory behind a port. -/
def hostKey (port a : Nat) : Nat := 2 ^ 64 * port + a % 2 ^ 64

/-- `n` bytes of host memory. -/
def Dev.hostRdN (d : Dev) (port a n : Nat) : List Nat := (upFrom a n).map (fun x => memRd d.mems.host (hostKey port x))

/-- Write bytes of host memory. -/
def Dev.hostWrN (d : Dev) (port a : Nat) : List Nat → Dev
  | [] => d
  | b :: r => { d with mems := { d.mems with host := memWr d.mems.host (hostKey port a) b } }.hostWrN port (a + 1) r

/-! ### What leaves the device -/

/-- Something leaves the device. -/
def Dev.emit (d : Dev) (o : Out) : Dev := { d with emitted := d.emitted ++ [o] }

/-! ### Device time -/

/-- The units of the time master's count in one ns: it has a 32-bit fraction (R84). -/
def countUnit : Nat := 2 ^ 32

/-- Device time: the integer part of the time master's count (R84). -/
def Dev.now (d : Dev) : Nat := d.fab.count / countUnit

/-- The time that reaches a cluster (R87): on the Core die the repeater's, elsewhere the time bus. -/
def Dev.timeAt (d : Dev) (cluster : Nat) : Nat := if cluster < 64 then d.fab.repeated else d.fab.bus

/-- A time-stamp taken in a cluster (R87, R88): the time captured through its synchroniser, 0 to 64 ns behind the time
master, never below the cluster's last one. The hinge domain, Port die region 0, shows the time master's own count. -/
def Dev.stampIn (d : Dev) (cluster : Nat) : Nat :=
  if cluster / 8 = 8 then d.now
  else
    let seen := min d.now (d.timeAt cluster) - sat 64 (Config.stampLag cluster d.fresh)
    max (tabGet d.fab.stamped 0 cluster) (max (d.now - 64) seen)

/-- The cluster of a page's unit, as page-index bits [11:4] (R77); a VI's window page lies with its host page. -/
def clusterOf (pid : Nat) : Nat := if viBase ≤ pid then 9 else pid / 16

/-- Take a time-stamp in the cluster of a page: the stamp, and the device that has taken it. -/
def Dev.stamp (d : Dev) (pid : Nat) : Nat × Dev :=
  let c := clusterOf pid
  let t := d.stampIn c
  (t, { d with fab := { d.fab with stamped := tabPut d.fab.stamped 0 c t }, fresh := d.fresh + 1 })

/-- The model's next free value: the counter before, and the device with the counter advanced. -/
def Dev.tick (d : Dev) : Dev := { d with fresh := d.fresh + 1 }

end Sys2Proof.Machine
end

