-- ==== Sys2Proof/Machine/Operands.lean ====
section
/-! DEFINITION. The operand forms: pages, addresses and origins as the agents name them, the hinge table's entries, and
the owner of every page. -/

namespace Sys2Proof.Machine

open Sys2Proof

/-- The model's page number of a page reference. -/
def PageRef.pid : PageRef → Nat
  | .dev i => i.toNat
  | .win v w => viPage v w

/-- The page an agent's address names: the 16 MiB layout of R37, or the 64 KiB window of a VI (R42). -/
def agentPage (ag : Agent) (addr : Nat) : Nat :=
  match ag with
  | .vi v => if addr < 65536 then viPage v (addr / 4096) else 0xFFFF
  | _ => addr / 4096

/-- The page an agent names by number: a page index, or a window page number for a VI. -/
def agentPageNo (ag : Agent) (n : Nat) : Nat :=
  match ag with
  | .vi v => if n < 16 then viPage v n else 0xFFFF
  | _ => n

/-! ### The hinge table (R139 to R141) -/

/-- A byte of the hinge store. -/
def Dev.hb (d : Dev) (a : Nat) : Nat := memRd d.hinge a

/-- A 16-bit owner code of the hinge store. -/
def Dev.hw (d : Dev) (a : Nat) : Nat := d.hb a + 256 * d.hb (a + 1)

/-- A 32-bit number of the hinge store. -/
def Dev.hd (d : Dev) (a : Nat) : Nat := d.hw a + 65536 * d.hw (a + 2)

/-- N, the number of VIs. -/
def Dev.nVis (d : Dev) : Nat := 2 ^ d.hb 6

/-- The port of a VI, 0xFF for none. -/
def Dev.viPort (d : Dev) (v : Nat) : Nat := d.hb (0x40 + v)

/-- The hinge table is locked (R143). -/
def Dev.locked (d : Dev) : Bool := d.on 0x400 F.HT_STAT_LOCKED

/-- HEAD entry h: enabled, eDP, slots, safe mode, owner. -/
def Dev.headEn (d : Dev) (h : Nat) : Bool := bit (d.hb (0x80 + 16 * h)) 0
def Dev.headEdp (d : Dev) (h : Nat) : Bool := bit (d.hb (0x80 + 16 * h)) 1
def Dev.headSlots (d : Dev) (h : Nat) : Nat := d.hb (0x81 + 16 * h)
def Dev.headSafe (d : Dev) (h : Nat) : Nat := d.hb (0x82 + 16 * h)
def Dev.headOwner (d : Dev) (h : Nat) : Nat := d.hw (0x84 + 16 * h)

/-- PIPE entry p: owner, head, assigned, Latch-permitted, warp-permitted. -/
def Dev.pipeOwner (d : Dev) (p : Nat) : Nat := d.hw (0x100 + 4 * p)
def Dev.pipeHead (d : Dev) (p : Nat) : Nat := d.hb (0x102 + 4 * p) % 8
def Dev.pipeAssigned (d : Dev) (p : Nat) : Bool := bit (d.hb (0x102 + 4 * p)) 3
def Dev.pipeLatchOk (d : Dev) (p : Nat) : Bool := bit (d.hb (0x102 + 4 * p)) 4
def Dev.pipeWarpOk (d : Dev) (p : Nat) : Bool := bit (d.hb (0x102 + 4 * p)) 5

/-- TOUCH entry t: owner of the report queue, linked head, enable, wake gesture, haptic channel of the direct path. -/
def Dev.touchOwner (d : Dev) (t : Nat) : Nat := d.hw (0x1C0 + 4 * t)
def Dev.touchHead (d : Dev) (t : Nat) : Nat := d.hb (0x1C2 + 4 * t) % 8
def Dev.touchEn (d : Dev) (t : Nat) : Bool := bit (d.hb (0x1C2 + 4 * t)) 3
def Dev.touchWake (d : Dev) (t : Nat) : Bool := bit (d.hb (0x1C2 + 4 * t)) 4
def Dev.touchHap (d : Dev) (t : Nat) : Option Nat :=
  if bit (d.hb (0x1C3 + 4 * t)) 3 then some (d.hb (0x1C3 + 4 * t) % 8) else none

/-- HAPTIC entry h and SINK entry k: owner and enable. -/
def Dev.hapOwner (d : Dev) (h : Nat) : Nat := d.hw (0x1E0 + 4 * h)
def Dev.hapEn (d : Dev) (h : Nat) : Bool := bit (d.hb (0x1E2 + 4 * h)) 0
def Dev.sinkOwner (d : Dev) (k : Nat) : Nat := d.hw (0x200 + 4 * k)
def Dev.sinkEn (d : Dev) (k : Nat) : Bool := bit (d.hb (0x202 + 4 * k)) 0

/-- PORT entry p: GRANT, SPDM enabled, and the 48 bytes of ROOTHASH. -/
def Dev.portGrant (d : Dev) (p : Nat) : Nat := d.hd (0x240 + 64 * p + 48)
def Dev.portSpdm (d : Dev) (p : Nat) : Bool := bit (d.hb (0x240 + 64 * p + 52)) 0
def Dev.portRootHash (d : Dev) (p : Nat) : List Nat := memRdN d.hinge (0x240 + 64 * p) 48

/-- The owner code of an interrupt source. -/
def Dev.irqOwnerCode (d : Dev) (s : Nat) : Nat := d.hw (0x400 + 2 * s)

/-- The PAGE entries up to the first with UNUSED set (R141): page word and owner. -/
def hingePages (m : List Host.Cell) (a : Nat) : Nat → List (Nat × Nat)
  | 0 => []
  | n + 1 =>
    let w := memRdLE m a 2
    let o := memRdLE m (a + 2) 2
    if bit o 15 then [] else (w, o) :: hingePages m (a + 4) n

def Dev.pageEntries (d : Dev) : List (Nat × Nat) := hingePages d.hinge 0x800 256

/-! ### Owner codes (R140) and page owners (R41, R141) -/

def codeWard : Nat := 0
def codeOpen : Nat := 1
def codePf (p : Nat) : Nat := 2 + 4 * p
def codeAllPf : Nat := 2 + 2048
def codeVi (port v : Nat) : Nat := 3 + 4 * port + 16 * v

/-- The owner code of an agent. -/
def Dev.agentCode (d : Dev) : Agent → Nat
  | .ward => codeWard
  | .openWorld _ => codeOpen
  | .pf p => codePf p
  | .vi v => codeVi (d.viPort v) v

/-- The owner of a page: the hinge table's entry for the pages that R141 names, else the block's page map. -/
def Dev.mapOwner (d : Dev) (pid : Nat) : Nat :=
  match kindOf pid with
  | none => codeWard
  | some (k, i) =>
    match k with
    | .head | .compose | .displayPhy => d.headOwner i
    | .touchReports => d.touchOwner i
    | .hapticChannel => d.hapOwner i
    | .sink | .speaker => d.sinkOwner i
    | .portCtl | .pfDoorbell => codePf i
    | .viHost => codePf (d.viPort i)
    | .portPart | .rendCtl | .rendUse | .rendCluster | .pipeStatus | .arbPrio | .clocks | .openPilot | .power
    | .regulators | .wake | .audioEngine => codeOpen
    | .bootStatus => codeAllPf
    | .periodEntries => if i = 0 then codeWard else codeAllPf
    | .mailbox | .layerCtl | .flips | .streams => if i < 4 then codePf i else codeOpen
    | .fence => if i < 4 then codePf i else if i = 4 then codeWard else codeOpen
    | .irqOwner => if i < 4 then codePf i else if i = 4 then codeOpen else codeWard
    | .irqTarget => if i < 4 then codePf i else if i < 7 then codeOpen else codeWard
    | .viControl | .viContexts | .viDoorbells | .viIrq | .viRender | .viFences | .viPeriods | .viLayers | .viFlips
    | .viTouch | .viHapticAudio | .viStage1 => codeVi (d.viPort i) i
    | .ledger | .checkEngine | .faultLog | .memCtl | .eccZones | .remap | .sramRepair | .diag | .strike | .strikeCtl
    | .crc | .fabricCtl | .slotWheel | .classPage | .periodCtl | .hingeTable | .watchdog | .deviceTime | .ring
    | .touchCtl | .touchRegions | .tones | .dramPhy | .pintle | .loopback | .wardHaptic => codeWard

/-- The owner of a page now: the ward world until the lock (R41), then the PAGE entry that names it, else the map. -/
def Dev.owner (d : Dev) (pid : Nat) : Nat :=
  if d.locked then
    match d.pageEntries.find? (fun e => e.1 % 4096 == pid) with
    | some e => e.2 % 4096
    | none => d.mapOwner pid
  else codeWard

/-- The page is implemented in this configuration: its block has it, and a VI's pages exist only below N. -/
def Dev.implemented (d : Dev) (pid : Nat) : Bool :=
  match kindOf pid with
  | none => false
  | some (.viHost, i) => decide (i < d.nVis)
  | some (_, i) => match viOfPage pid with
    | some _ => decide (i < d.nVis)
    | none => true

/-- The code names an agent: the page belongs to it, or jointly to all PFs. -/
def owns (code agCode : Nat) : Bool :=
  if bit code 11 then agCode % 4 == 2 else code % 1024 == agCode % 1024

/-- The agent may read the page (R42). -/
def Dev.sees (d : Dev) (ag : Agent) (pid : Nat) : Bool :=
  match ag with
  | .ward => true
  | .openWorld _ => !(d.owner pid == codeWard)
  | .pf _ | .vi _ => owns (d.owner pid) (d.agentCode ag)

/-- A VI's generation (R63, `VIH_STAT.GEN`). -/
def Dev.gen (d : Dev) (v : Nat) : Nat := d.r (0x090 + v) F.VIH_STAT_GEN

/-- ORIGIN bits [23:0] of an agent (R63). -/
def Dev.origin (d : Dev) : Agent → Nat
  | .ward => 0
  | .openWorld k => 1 + 4 * k.val
  | .pf p => 2 + 4 * p.val
  | .vi v => 3 + 4 * (d.viPort v % 4) + 16 * v.val + 65536 * d.gen v

/-- ORIGIN of a record that the device makes itself (R63, R64). -/
def originHw : Nat := 1024

/-- The page and the ledger's form of it (R62): a window page is 0xC00 plus its number. -/
def ledgerPage (pid : Nat) : Nat :=
  match viOfPage pid with
  | some _ => 0xC00 + pid % 16
  | none => pid % 4096

/-- The writer's home page (R44 step 1). -/
def homePage : Agent → Nat
  | .ward => 0x030
  | .openWorld _ => 0x380
  | .pf p => 0x080 + p.val
  | .vi v => viPage v 0

/-- Two writers that R47 orders as one origin: what a waiting write holds back. -/
def sameOrigin (a b : Agent) : Bool := a == b

/-- The order of R47 for writes of the same cycle: ward world, open world, ports A to D, a PF before its VIs. -/
def Dev.originRank (d : Dev) : Agent → Nat
  | .ward => 0
  | .openWorld k => 1 + k.val
  | .pf p => 100 * (p.val + 1)
  | .vi v => 100 * (d.viPort v % 4 + 1) + 1 + v.val

end Sys2Proof.Machine
end

