-- ==== Sys2Proof/Machine/Flags.lean ====
section
/-! DEFINITION. The status flags of the common header (R39): the error bits of `PAGE_ERR`, and the bits of
`PAGE_STAT` that follow from the state of the block. -/

namespace Sys2Proof.Machine

open Sys2Proof

/-- The power page. -/
def pmPid : Nat := 0x390

/-! ### `PAGE_ERR` -/

def errCE : Nat := 0
def errUE : Nat := 1
def errReject : Nat := 2
def errRefused : Nat := 3
def errTimeout : Nat := 4
def errLock : Nat := 5
def errClaimed : Nat := 6
def errLate : Nat := 7
def errHandshake : Nat := 8
def errAddress : Nat := 9

/-- `PAGE_ERR` as one number of 16 bits. -/
def Dev.pageErr (d : Dev) (pid : Nat) : Nat := d.r pid F.PAGE_ERR_COMMON + 1024 * d.r pid F.PAGE_ERR_BLOCK

/-- `PAGE_ERREN` as one number of 16 bits: as written, and as the page's last error event took it (R48). -/
def Dev.pageErrEn (d : Dev) (pid : Nat) : Nat := d.r pid F.PAGE_ERREN_COMMON + 1024 * d.r pid F.PAGE_ERREN_BLOCK
def Dev.takenErrEn (d : Dev) (pid : Nat) : Nat := tabGet d.errEn 0x3FF pid

/-- An error event of a page: bit `b` of its `PAGE_ERR` is set, and `PAGE_ERREN` takes effect as it stands (R39). -/
def Dev.err (d : Dev) (pid b : Nat) : Dev :=
  let d : Dev := { d with errEn := tabPut d.errEn 0x3FF pid (d.pageErrEn pid) }
  if b < 10 then d.w pid F.PAGE_ERR_COMMON (d.r pid F.PAGE_ERR_COMMON ||| 2 ^ b)
  else d.w pid F.PAGE_ERR_BLOCK (d.r pid F.PAGE_ERR_BLOCK ||| 2 ^ (b - 10))

/-- The page's interrupt source is asserted: an error bit that `PAGE_ERREN` lets through is set (R39). -/
def Dev.errLine (d : Dev) (pid : Nat) : Bool := !((d.pageErr pid &&& d.takenErrEn pid) == 0)

/-! ### Elements of faults (R473) -/

/-- Two units lie in one element at a level: unit, cluster, region, die, package, system. A window page's unit is in
the tenancy region, cluster 1, with its VI's host page. -/
def unitOf (pid : Nat) : Nat :=
  match viOfPage pid with
  | some v => 0x090 + v
  | none => pid

def sameElement (level u v : Nat) : Bool :=
  if level = 1 then u == v
  else if level = 2 then unitOf u / 16 == unitOf v / 16
  else if level = 3 then unitOf u / 128 == unitOf v / 128
  else if level = 4 then unitOf u / 1024 == unitOf v / 1024
  else true

/-- `PAGE_STAT.FAULT`: the highest level of an open fault whose element contains the page. -/
def Dev.faultLevel (d : Dev) (pid : Nat) : Nat :=
  d.flt.faults.foldl (fun m f => if sameElement f.level f.unit pid then max m f.level else m) 0

/-! ### What kind of recovery a fault has (R474, R477) -/

/-- The cause names a recovery of its own at this level. -/
def OpenFault.ownRecovery (f : OpenFault) : Bool :=
  let unitCause := f.level == 1 && [1, 2, 3, 4, 6, 7, 8].contains f.cause
  unitCause || (f.level == 3 && ((f.cause == 3 && f.pid == 0x900) || f.cause == 10 || f.cause == 11)) ||
    (f.level == 5 && f.cause == 16)

/-- The unit lies where no local reset can rebuild what is held. -/
def hardUnit (unit : Nat) : Bool :=
  let u := unitOf unit
  let r := u / 128
  (r == 0 && !(u / 16 == 0)) || [2, 6, 8, 13, 14].contains r || u / 16 == 0x39

/-- The fault is recovered by package-level recovery. -/
def OpenFault.byPackage (f : OpenFault) : Bool :=
  !f.ownRecovery && (f.level == 5 || (f.level == 4 && decide (unitOf f.unit / 1024 < 2)) ||
    (decide (f.level ≤ 3) && hardUnit f.unit))

/-- A fault is open on the block of a page. A package-level recovery whose dies are out of reset again stops no block: the
boot that ends it commits sets and locks the table while its fault is open (R478). -/
def Dev.blockFault (d : Dev) (pid : Nat) : Bool :=
  d.flt.faults.any (fun f => decide (1 ≤ f.level) && sameElement f.level f.unit pid && (d.boot.down || !f.byPackage))

/-! ### `PAGE_STAT.RUN` -/

/-- A head is enabled: its timing generator is not STOPPED. -/
def Dev.headRuns (d : Dev) (h : Nat) : Bool := !(d.r (0x280 + h) F.HD_STAT_STATE == 0)

def Dev.viState (d : Dev) (v : Nat) : Nat := d.r (0x090 + v) F.VIH_STAT_STATE

/-- The VI is ACTIVE. -/
def Dev.viActive (d : Dev) (v : Nat) : Bool := d.viState v == 3

/-- The memory controller is in SERVICE. -/
def Dev.memService (d : Dev) : Bool := d.r 0x100 F.MC_TRAIN_STATE == 2

/-- A haptic channel is in CHECK, PLAY, BOLT or BRAKE (R389). -/
def Dev.hapRuns (d : Dev) (h : Nat) : Bool := [1, 3, 4, 5].contains (d.r (0x800 + h) F.HA_STAT_STATE)

/-- The first period entry of a VI and how many it has (R26). -/
def Dev.perFirst (d : Dev) (v : Nat) : Nat := 64 + v * (192 / d.nVis)
def Dev.perCount (d : Dev) : Nat := 192 / d.nVis

/-- The page that holds a period entry's fields, and its index there (R35). -/
def perPage (e : Nat) : Nat := 0x322 + e / 64
def Dev.perState (d : Dev) (e : Nat) : Nat := d.r (perPage e) F.PE_CTRL_STATE (e % 64)

/-- The page that holds the layer blocks of an owner code (R308): layer control pages of PFs and the open world, or
window page 0x7000. -/
def layerPage (code : Nat) : Nat :=
  if code % 4 = 3 then viPage (code / 16 % 64) 7 else if code % 4 = 2 then 0x260 + code / 4 % 4 else 0x264

/-- The page that holds the flip blocks of an owner code (R308). -/
def flipPage (code : Nat) : Nat :=
  if code % 4 = 3 then viPage (code / 16 % 64) 8 else if code % 4 = 2 then 0x270 + code / 4 % 4 else 0x274

/-- `PAGE_STAT.RUN` of a page, as its block's page map gives it. -/
def Dev.running (d : Dev) (pid : Nat) : Bool :=
  match kindOf pid with
  | none => false
  | some (k, i) =>
    match k with
    | .ledger => d.on pid F.LED_CTRL_DRAIN_EN
    | .checkEngine => d.on pid F.CV_STAT_BUSY
    | .viHost => decide (2 ≤ d.viState i)
    | .memCtl | .eccZones | .remap | .sramRepair | .diag => d.memService
    | .dramPhy => d.memService
    | .compose | .strike | .head | .crc => d.headRuns i
    | .slotWheel | .deviceTime | .regulators => d.locked
    | .periodEntries => (upFrom 0 64).any (fun j => !(d.r pid F.PE_CTRL_STATE j == 0))
    | .viPeriods => (upFrom (d.perFirst i) d.perCount).any (fun e => !(d.perState e == 0))
    | .power => !(d.r pid F.PM_STAT_PHASE == 0)
    | .mailbox => d.r pid F.MB_STAT_STATE == 1
    | .ring => d.on pid F.RB_STAT_HOLD
    | .touchCtl => !(d.r pid F.TS_STAT_STATE == 0)
    | .touchRegions => [1, 2].contains (d.r (pid - 1) F.TS_STAT_STATE)
    | .touchReports => d.on pid F.TR_CTRL_EN i
    | .viTouch => (upFrom 0 8).any (fun t => d.on pid F.TR_CTRL_EN t)
    | .audioEngine => decide (d.r 0x390 F.PM_STAT_STATE ≤ 1)
    | .streams => (upFrom 0 96).any (fun s => d.on pid F.ST_CTRL_EN s)
    | .sink => d.on pid F.TDM_CFG_EN
    | .pintle => !(d.r pid F.PL_STAT_STATE == 0)
    | .loopback => d.on pid F.LB_STAT_BUSY
    | .hapticChannel => d.hapRuns i
    | .speaker => !(d.r pid F.SP_STAT_STATE == 0)
    | .viControl | .viRender | .viStage1 => d.viActive i
    | .viContexts => (upFrom 0 64).any (fun c => !(d.r pid F.CTX_CTRL_STATE c == 0))
    | .layerCtl | .viLayers =>
      (upFrom 0 48).any (fun p => layerPage (d.pipeOwner p) == pid && d.pipeAssigned p &&
        d.a pid F.LP_CTRL_ENABLE p == 1 && d.headRuns (d.pipeHead p))
    | .viHapticAudio =>
      (upFrom 0 8).any (fun h => d.hapOwner h == codeVi (d.viPort i) i && d.hapRuns h) ||
      (upFrom 0 96).any (fun s => d.on pid F.ST_CTRL_EN s)
    | .faultLog | .portCtl | .portPart | .pfDoorbell | .rendCtl | .rendUse | .rendCluster | .fence | .strikeCtl
    | .pipeStatus | .flips | .fabricCtl | .arbPrio | .classPage | .periodCtl | .irqOwner | .irqTarget | .clocks
    | .openPilot | .hingeTable | .bootStatus | .watchdog | .wake | .displayPhy | .tones | .wardHaptic | .viDoorbells
    | .viIrq | .viFences | .viFlips => false

end Sys2Proof.Machine
end

