-- ==== Sys2Proof/Machine/DramCtl.lean ====
section
/-! DEFINITION. A DRAM access through the memory controller: the slot and class it is issued in, its row, its address checks,
the ECC zones and the address-covering code (R106, R107, R206, R208, R211, R215 to R225). -/

namespace Sys2Proof.Machine

open Sys2Proof

def mcPid : Nat := 0x100
def ezPid : Nat := 0x110
def swPid : Nat := 0x310
def srPid : Nat := 0x121

/-! ### The slot of the moment (R106, R107) -/

/-- The owner field of a slot within its register: slot 4k + j. -/
def slotField (j : Nat) : FD :=
  if j = 0 then F.SW_SLOT_OWNER0 else if j = 1 then F.SW_SLOT_OWNER1 else if j = 2 then F.SW_SLOT_OWNER2
  else F.SW_SLOT_OWNER3

def actField (j : Nat) : FD :=
  if j = 0 then F.SW_ACT_OWNER0 else if j = 1 then F.SW_ACT_OWNER1 else if j = 2 then F.SW_ACT_OWNER2
  else F.SW_ACT_OWNER3

/-- The active owner of a slot. -/
def Dev.slotOwner (d : Dev) (slot : Nat) : Nat := d.r swPid (actField (slot % 4)) (slot / 4)

/-- The slot of this moment: 32 ns each from the last wrap. -/
def Dev.slotNow (d : Dev) : Nat :=
  let t0 := d.r64 swPid F.SW_WRAP_LO_TIME F.SW_WRAP_HI_TIME
  (d.stampIn (swPid / 16) - t0) / 32 % 64

/-- A command of the Bolt class or of a Latch owner outside its own slots is counted (R119). -/
def Dev.reclaim (d : Dev) (slotOwner owner : Nat) : Dev :=
  if owner = slotOwner ∨ owner = 0 then d
  else if owner = 1 then d.add swPid F.SW_RECLAIM_BOLT else d.add swPid F.SW_RECLAIM_LATCH

/-! ### Rows (R211, R215 to R217) -/

/-- The page mode in effect: 3 acts as 2 (R232). -/
def Dev.pageMode (d : Dev) : Nat := min 2 (d.r mcPid F.MC_PAGE_MODE)

/-- Close the row of a bank. -/
def Dev.rowClose (d : Dev) (chan bank : Nat) : Dev :=
  { d with mc := { d.mc with rows := tabDel d.mc.rows (16 * chan + bank) } }

/-- Pending requests of a bank. -/
def Dev.bankBusy (d : Dev) (chan bank : Nat) : Bool :=
  d.mc.reqs.any (fun q => d.chanOf q.addr == chan && bankOf (d.localOf q.addr) == bank)

/-- A row is activated (R215 to R217): its bank's activate count rises, and the generator may queue a neighbour
refresh of it, within the RADIUS of this activate. -/
def Dev.activate (d : Dev) (chan bank row : Nat) : Dev :=
  let b := 16 * chan + bank
  let draw := (Config.nrDraw chan d.fresh).toNat
  let d := d.tick
  let d := { d with mc := { d.mc with raa := tabPut d.mc.raa 0 b (tabGet d.mc.raa 0 b + 1) } }
  let k := max 3 (min 13 (d.r mcPid F.MC_NR_K))
  let taken := draw % 2 ^ k == 0
  if (d.mc.nrq.filter (fun x => x.1 == chan)).length < 16 then
    { d with mc := { d.mc with nrq :=
        if taken then d.mc.nrq ++ [(chan, bank, row, d.r mcPid F.MC_NR_RADIUS)] else d.mc.nrq } }
  else if taken then (d.add mcPid F.MC_NRDROP_COUNT).err mcPid 11
  else d

/-- The banks' side of an access (R211): the row it needs is open, or is activated; then the page policy keeps or closes
it. -/
def Dev.rowAccess (d : Dev) (chan bank row : Nat) : Dev :=
  let b := 16 * chan + bank
  let now := tabGet d.mc.rows 0 b
  let n := tabGet d.mc.count 0 b
  let two := decide (d.pageMode = 2)
  let n' := if now = row + 1 then sat 3 (n + 1) else if now = 0 then n else n - 1
  let hit := decide (now = row + 1)
  let d := { d with mc := { d.mc with rows := tabPut d.mc.rows 0 b (row + 1),
                                       hold := tabPut d.mc.hold 0 b (d.now + 8 * d.r mcPid F.MC_PAGE_HOLD),
                                       count := if two then tabPut d.mc.count 0 b n' else d.mc.count } }
  let d := if hit then d else d.activate chan bank row
  if d.pageMode = 1 then d.rowClose chan bank
  else if two && !d.bankBusy chan bank && decide (tabGet d.mc.count 0 b < 2) then d.rowClose chan bank
  else d

/-- One burst of 64 B on its channel (R205, R212), issued for a wheel owner in the slot of the moment. -/
def Dev.burst (d : Dev) (own a : Nat) : Dev :=
  let chan := d.chanOf a
  let l := d.localOf a
  let d := d.reclaim (d.slotOwner d.slotNow) own
  let d := if 2 ≤ own then { d with mc := { d.mc with latch := tabPut d.mc.latch 12 chan own } } else d
  d.rowAccess chan (bankOf l) (d.mappedRow chan (bankOf l) (rowOf l))

/-! ### The address-covering code (R220, R221) -/

/-- The number of ones in a byte. -/
def weight8 (v : Nat) : Nat := ((upFrom 0 8).filter (bit v)).length

/-- The 8-bit values of a weight, ascending. -/
def ofWeight (n : Nat) : List Nat := (upFrom 0 256).filter (fun v => weight8 v == n)

/-- The columns of the data bits 0 to 63, and of the address bits 3 to 34. -/
def dataColumns : List Nat := ofWeight 3 ++ (ofWeight 5).take 8
def addrColumns : List Nat := ofWeight 2 ++ (ofWeight 4).take 4

/-- The xor of the columns whose bit of `v` is set, from bit `i` on. -/
def columnSum (v : Nat) : Nat → List Nat → Nat
  | _, [] => 0
  | i, c :: r => (if bit v i then c else 0) ^^^ columnSum v (i + 1) r

/-- The check byte of a 64-bit word at a DRAM address: H_d·d xor H_a·A. -/
def checkByte (word a : Nat) : Nat := columnSum word 0 dataColumns ^^^ columnSum a 3 addrColumns

/-- What a syndrome says (R221). -/
inductive EccOut where
  | clean
  | dataBit (i : Nat)
  | checkBit
  | bad
  deriving DecidableEq, Repr

def decodeSyndrome (s : Nat) : EccOut :=
  if s = 0 then .clean
  else if dataColumns.contains s then .dataBit (dataColumns.idxOf s)
  else if weight8 s = 1 then .checkBit
  else .bad

/-! ### Strike SRAM (R229) -/

/-- Strike SRAM in bytes. -/
def strikeSize : Nat := 8 * 2 ^ 20

/-- A word of strike SRAM is read: a CE is counted, corrected and written back; false on a UE. -/
def Dev.strikeWord (d : Dev) (w : Nat) : Dev × Bool :=
  let clean := fun (d : Dev) => { d with mems := { d.mems with strikeBad := tabDel d.mems.strikeBad w } }
  match decodeSyndrome (tabGet d.mems.strikeBad 0 w) with
  | .clean => (d, true)
  | .bad => (d.addSat srPid F.SR_ERR_UE 1 0, false)
  | .checkBit => (clean (d.addSat srPid F.SR_ERR_CE 1 0), true)
  | .dataBit i =>
    let a := 8 * w + i / 8
    let d := clean (d.addSat srPid F.SR_ERR_CE 1 0)
    ({ d with mems := { d.mems with strike := memWr d.mems.strike a (memRd d.mems.strike a ^^^ 2 ^ (i % 8)) } }, true)

/-- Every word of a list is read; false if one has a UE. -/
def Dev.strikeWords (d : Dev) : List Nat → Dev × Bool
  | [] => (d, true)
  | w :: rest =>
    let (d, ok) := d.strikeWord w
    let (d, ok') := d.strikeWords rest
    (d, ok && ok')

/-- The 8-byte words of a range. -/
def wordRange (a n : Nat) : List Nat := if n = 0 then [] else upFrom (a / 8) ((a + n - 1) / 8 - a / 8 + 1)

/-- Bytes of strike SRAM are read; none on a UE. -/
def Dev.strikeRead (d : Dev) (a n : Nat) : Dev × Option (List Nat) :=
  let (d, ok) := d.strikeWords (wordRange a n)
  (d, if ok then some (memRdN d.mems.strike a n) else none)

/-- Bytes of strike SRAM are stored. A word stored whole takes its check byte, a part of one is read first (R229). -/
def Dev.strikeStore (d : Dev) (a : Nat) (bs : List Nat) : Dev :=
  let whole := fun w => decide (a ≤ 8 * w) && decide (8 * w + 8 ≤ a + bs.length)
  let ws := wordRange a bs.length
  let d := (d.strikeWords (ws.filter (fun w => !whole w))).1
  { d with mems := { d.mems with strike := memWrN d.mems.strike a bs,
                                  strikeBad := d.mems.strikeBad.filter (fun e => !(ws.contains e.1 && whole e.1)) } }

/-! ### Zones (R218, R219) -/

/-- The bounds of a zone in bytes: base, size, and the base of its check region. -/
def Dev.zoneBase (d : Dev) (z : Nat) : Nat := 2 ^ 24 * d.a ezPid F.EZ_RANGE_BASE z
def Dev.zoneSize (d : Dev) (z : Nat) : Nat := 2 ^ 24 * d.a ezPid F.EZ_RANGE_SIZE z
def Dev.zoneChk (d : Dev) (z : Nat) : Nat := 2 ^ 21 * d.a ezPid F.EZ_CHK_CBASE z
def Dev.zoneState (d : Dev) (z : Nat) : Nat := d.r ezPid F.EZ_STAT_STATE z

/-- Two ranges of bytes have one in common. -/
def overlap (a n b m : Nat) : Bool := decide (a < b + m) && decide (b < a + n) && decide (0 < n) && decide (0 < m)

/-- The zone in a state that holds an address. -/
def Dev.zoneAt (d : Dev) (state a : Nat) : Option Nat :=
  (upFrom 0 16).find? (fun z => d.zoneState z == state && decide (d.zoneBase z ≤ a) &&
    decide (a < d.zoneBase z + d.zoneSize z))

/-- A range touches a check region, or a zone that is being filled. -/
def Dev.inCheck (d : Dev) (a n : Nat) : Bool :=
  (upFrom 0 16).any (fun z => !(d.zoneState z == 0) && overlap a n (d.zoneChk z) (d.zoneSize z / 8))
def Dev.inInit (d : Dev) (a n : Nat) : Bool :=
  (upFrom 0 16).any (fun z => d.zoneState z == 1 && overlap a n (d.zoneBase z) (d.zoneSize z))

/-- Installed capacity in bytes (R208). -/
def Dev.capacity (d : Dev) : Nat := 2 ^ 30 * d.r mcPid F.MC_STAT_CAP

/-- Where the check byte of a word of a zone lies (R222). -/
def Dev.checkAddr (d : Dev) (z a : Nat) : Nat := d.zoneChk z + (a - d.zoneBase z) / 8

/-- The checks of a request before its data (R206, R208, R218, R219): the device with its counters, and whether the
request may go on. -/
def Dev.mcAdmit (d : Dev) (a n : Nat) : Dev × Bool :=
  if d.capacity < a + n then ((d.add mcPid F.MC_ADDRERR_COUNT).err mcPid errAddress, false)
  else if !d.memService then (d, false)
  else if d.inCheck a n then (d.add mcPid F.MC_ADDRERR_COUNT, false)
  else (d, !d.inInit a n)

/-! ### The bursts of an access (R205, R222) -/

/-- The 64-byte lines that a range touches. -/
def linesOf (a n : Nat) : List Nat := if n = 0 then [] else (upFrom (a / 64) ((a + n - 1) / 64 - a / 64 + 1)).map (64 * ·)

/-- A check line is used: the check cache holds it as the latest of at most 256 (R222). -/
def Dev.chkUse (d : Dev) (line : Nat) : Dev :=
  { d with mc := { d.mc with chk := (line :: d.mc.chk.filter (fun x => !(x == line))).take 256 } }

/-- The check line that an access to a line of an ON zone uses, in the slot and class of that access (R222): a read that the
check cache answers costs no burst; a write always goes on to DRAM. -/
def Dev.chkBurst (d : Dev) (own a : Nat) (write : Bool) : Dev :=
  match d.zoneAt 2 a with
  | none => d
  | some z =>
    let line := d.checkAddr z a / 64 * 64
    let d := if d.mc.chk.contains line && !write then d else d.burst own line
    d.chkUse line

/-- Every burst of an access. -/
def Dev.bursts (d : Dev) (own a n : Nat) (write : Bool) : Dev :=
  (linesOf a n).foldl (fun d l => (d.burst own l).chkBurst own l write) d

/-! ### Words of an ON zone -/

/-- Count and record a CE (R223). -/
def Dev.logCe (d : Dev) (z a : Nat) : Dev :=
  let d := (d.addSat ezPid F.EZ_STAT_CE 1 z).w ezPid F.EZ_LASTCE_LO_ADDR (a / 8)
  ((d.w ezPid F.EZ_LASTCE_HI_ADDR (a / 2 ^ 32)).w ezPid F.EZ_LASTCE_HI_ZONE z).err ezPid errCE

/-- Count and log a UE with its SOURCE (R224). -/
def Dev.logUe (d : Dev) (z a source : Nat) : Dev :=
  let i := d.r ezPid F.EZ_UEIDX_NEXT
  let d := (d.addSat ezPid F.EZ_UE_COUNT 1 z).w ezPid F.EZ_UELOG_LO_ADDR (a / 8) i
  let d := (d.w ezPid F.EZ_UELOG_HI_ADDR (a / 2 ^ 32) i).w ezPid F.EZ_UELOG_HI_ZONE z i
  let d := (d.w ezPid F.EZ_UELOG_HI_SOURCE source i).w ezPid F.EZ_UELOG_HI_VALID 1 i
  ((d.add ezPid F.EZ_UEIDX_NEXT).add ezPid F.EZ_UEIDX_TOTAL).err ezPid errUE

/-- The stored word at a multiple of 8, its stored check byte, and its syndrome. -/
def Dev.storedWord (d : Dev) (a : Nat) : Nat := ofBytesLE (d.dramRdN a 8)
def Dev.storedCheck (d : Dev) (z a : Nat) : Nat := d.dramRd (d.checkAddr z a)
def Dev.syndrome (d : Dev) (z a : Nat) : Nat := d.storedCheck z a ^^^ checkByte (d.storedWord a) a

/-- Read a word of an ON zone: the device, the corrected word, and false on a UE. `source` is the SOURCE of R224; `wb`
asks for a write-back of a corrected word. -/
def Dev.eccRead (d : Dev) (z a source : Nat) (wb : Bool) : Dev × Nat × Bool :=
  let w := d.storedWord a
  match decodeSyndrome (d.syndrome z a) with
  | .clean => (d, w, true)
  | .bad => (d.logUe z a source, 0, false)
  | o =>
    let w' := match o with
      | .dataBit i => w ^^^ 2 ^ i
      | _ => w
    let d := d.logCe z a
    let d := if wb then { d with mc := { d.mc with wback := d.mc.wback ++ [(a, w', checkByte w' a)] } } else d
    (d, w', true)

/-- Store a word of a zone with a check byte. -/
def Dev.storeWord (d : Dev) (z a word check : Nat) : Dev :=
  (d.dramWrN a (bytesLE 8 word)).dramWr (d.checkAddr z a) check

/-- The words that a byte range touches. -/
def wordsOf (a n : Nat) : List Nat := if n = 0 then [] else (upFrom (a / 8) ((a + n - 1) / 8 - a / 8 + 1)).map (8 * ·)

/-- Read the words of a range that lie in ON zones: each corrected or found bad. The flag is false after a UE; the
list gives the corrected words. -/
def Dev.readWords (d : Dev) : List Nat → Dev × List Nat × Bool
  | [] => (d, [], true)
  | a :: r =>
    let (d, w, ok) := match d.zoneAt 2 a with
      | some z => d.eccRead z a 0 (d.on ezPid F.EZ_CTRL_WBACK)
      | none => (d, d.storedWord a, true)
    let (d, ws, ok') := d.readWords r
    (d, w :: ws, ok && ok')

/-- A read through the controller for a wheel owner: the device, the bytes, and false where it receives an error response;
the data are then zeros (R82). -/
def Dev.mcRead (d : Dev) (own a n : Nat) : Dev × List Nat × Bool :=
  let (d, go) := d.mcAdmit a n
  if go then
    let d := d.bursts own a n false
    let (d, ws, ok) := d.readWords (wordsOf a n)
    if ok then (d, ((ws.flatMap (bytesLE 8)).drop (a % 8)).take n, true) else (d, List.replicate n 0, false)
  else (d, List.replicate n 0, false)

/-- A word with some of its bytes replaced: byte `i` of the word by the byte of `bs` at its place, when `bs` has it. -/
def mergeWord (word wa a : Nat) (bs : List Nat) : Nat :=
  ofBytesLE ((upFrom 0 8).map (fun i =>
    if a ≤ wa + i ∧ wa + i < a + bs.length then bs.getD (wa + i - a) 0 else word / 256 ^ i % 256))

/-- Write the part of a range that lies in one word. A whole word of an ON zone takes its check byte; a part of one is
a read-modify-write, which keeps a UE visible (R225). -/
def Dev.writeWord (d : Dev) (a : Nat) (bs : List Nat) (wa : Nat) : Dev :=
  match d.zoneAt 2 wa with
  | none => (upFrom 0 8).foldl (fun d i =>
      if a ≤ wa + i ∧ wa + i < a + bs.length then d.dramWr (wa + i) (bs.getD (wa + i - a) 0) else d) d
  | some z =>
    if a ≤ wa ∧ wa + 8 ≤ a + bs.length then
      let w := mergeWord 0 wa a bs
      d.storeWord z wa w (checkByte w wa)
    else
      let old := d.storedWord wa
      let (d, w, ok) := d.eccRead z wa 2 false
      if ok then
        let w := mergeWord w wa a bs
        d.storeWord z wa w (checkByte w wa)
      else
        let w := mergeWord old wa a bs
        d.storeWord z wa w (checkByte w wa ^^^ 3)

/-- A write to a line cancels the write-backs that wait for it (R223). -/
def Dev.unback (d : Dev) (a n : Nat) : Dev :=
  { d with mc := { d.mc with wback := d.mc.wback.filter (fun x => !overlap (x.1 / 64 * 64) 64 a n) } }

/-- A write through the controller for a wheel owner; false where it receives an error response and stores nothing. -/
def Dev.mcWrite (d : Dev) (own a : Nat) (bs : List Nat) : Dev × Bool :=
  let (d, go) := d.mcAdmit a bs.length
  if go then
    let d := (d.bursts own a bs.length true).unback a bs.length
    ((wordsOf a bs.length).foldl (fun d wa => d.writeWord a bs wa) d, true)
  else (d, false)

end Sys2Proof.Machine
end

