-- ==== Sys2Proof/Machine/Sha.lean ====
section
/-! DEFINITION. SHA-384 (R71, R126, R133 and the key derivations name it; the function is the one of FIPS 180-4, which
the spec refers to by name and does not restate). PRESUMED: log entry 3. Its constants are computed here from what they
are: digits of the roots of primes. -/

namespace Sys2Proof.Machine

/-- The hash works on words of 64 bits. -/
def m64 : Nat := 2 ^ 64

/-- `k` further binary digits of the `n`-th root of `x`, below those in `r`. -/
def rootDigits (n x : Nat) : Nat → Nat → Nat
  | 0, r => r
  | k + 1, r => rootDigits n x k (if (r + 2 ^ k) ^ n ≤ x then r + 2 ^ k else r)

/-- The first 64 binary digits after the point of the `n`-th root of a number whose root is below 8. -/
def rootFraction (n p : Nat) : Nat := rootDigits n (p * m64 ^ n) 67 0 % m64

/-- The first eighty primes. -/
def shaPrimes : List Nat := (upFrom 2 408).filter (fun n => (upFrom 2 (n - 2)).all (fun q => !(n % q == 0)))

/-- The constant of each of the eighty rounds: from the cube root of its prime. -/
def shaRounds : List Nat := shaPrimes.map (rootFraction 3)

/-- The chaining value before the first block: from the square roots of the ninth to the sixteenth prime. -/
def shaStart : List Nat := ((shaPrimes.drop 8).take 8).map (rootFraction 2)

/-- The exclusive or of a word's right rotations by some distances, begun with `c`. -/
def rotSum (x : Nat) (by_ : List Nat) (c : Nat := 0) : Nat :=
  by_.foldl (fun acc n => acc ^^^ (x / 2 ^ n + x % 2 ^ n * 2 ^ (64 - n))) c

/-- The message schedule of a block: its words reversed, with `n` further words in front, each from the four at the places
1, 6, 14 and 15 behind it. -/
def shaSchedule : Nat → List Nat → List Nat
  | 0, w => w
  | n + 1, w =>
    let at_ := fun k => w.getD k 0
    let fromTwo := rotSum (at_ 1) [19, 61] (at_ 1 / 64)
    let fromFifteen := rotSum (at_ 14) [1, 8] (at_ 14 / 128)
    shaSchedule n ((fromTwo + at_ 6 + (fromFifteen + at_ 15)) % m64 :: w)

/-- One round on the eight working words, with the round's constant and schedule word added in `kw`. -/
def shaMix (work : List Nat) (kw : Nat) : List Nat :=
  match work with
  | [a, b, c, d, e, f, g, h] =>
    let choice := g ^^^ (e &&& (f ^^^ g))
    let majority := (a &&& (b ||| c)) ||| (b &&& c)
    let step := h + kw + choice + rotSum e [14, 18, 41]
    [(step + majority + rotSum a [28, 34, 39]) % m64, a, b, c, (step + d) % m64, e, f, g]
  | other => other

/-- Words of 64 bits, most significant byte first, from bytes: `n` of them. -/
def shaWords : Nat → List Nat → List Nat
  | 0, _ => []
  | n + 1, bs => ofBytesBE (bs.take 8) :: shaWords n (bs.drop 8)

/-- The chaining value after `n` blocks of 128 bytes. -/
def shaChain : Nat → List Nat → List Nat → List Nat
  | 0, _, chain => chain
  | n + 1, bs, chain =>
    let w := (shaSchedule 64 (shaWords 16 bs).reverse).reverse
    let mixed := (shaRounds.zip w).foldl (fun work kw => shaMix work (kw.1 + kw.2)) chain
    shaChain n (bs.drop 128) ((chain.zip mixed).map (fun p => (p.1 + p.2) % m64))

/-- A big-endian byte string of `n` bytes. -/
def bytesBE (n v : Nat) : List Nat := (bytesLE n v).reverse

/-- SHA-384 of a byte string, in output order: the message, a one bit, zeros up to 16 bytes short of a whole block, and its
length in bits. -/
def sha384 (bs : List Nat) : List Nat :=
  let zeros := (239 - bs.length % 128) % 128
  let padded := bs ++ 0x80 :: takePad 0 zeros [] ++ bytesBE 16 (8 * bs.length)
  ((shaChain (padded.length / 128) padded shaStart).take 6).flatMap (bytesBE 8)

/-- HMAC with SHA-384 (RFC 2104) over a key of at most 128 bytes. -/
def hmac384 (key bs : List Nat) : List Nat :=
  let k := takePad 0 128 key
  sha384 (k.map (· ^^^ 0x5c) ++ sha384 (k.map (· ^^^ 0x36) ++ bs))

end Sys2Proof.Machine
end

