-- ==== Sys2Proof/Machine/Ledger.lean ====
section
/-! DEFINITION. The change ledger: its records, its store on chip, its drain and its checkpoints (R61 to R75). -/

namespace Sys2Proof.Machine

open Sys2Proof

/-- The page index of the ledger page. -/
def ledPid : Nat := 0x010

/-- Bytes 0 to 29 of an entry (R62). -/
def LEntry.head (e : LEntry) : List Nat :=
  bytesLE 8 e.time ++ bytesLE 2 (e.page % 4096) ++ bytesLE 2 (e.off % 4096 + 4096 * e.kind) ++ bytesLE 4 e.origin ++
  bytesLE 4 e.old ++ bytesLE 4 e.new ++ bytesLE 4 e.seq ++ bytesLE 2 e.rep

/-- The 32 bytes of an entry, with its check value (R62, R65). -/
def LEntry.bytes (e : LEntry) : List Nat := e.head ++ bytesLE 2 (crc16 e.head)

/-- The entries of the writer store in use (R68), those taken for APPLY records included. -/
def Ledger.writerUsed (l : Ledger) : Nat := (l.store.filter (fun e => !e.reserve)).length + l.applyHeld

/-- The entries on chip. An entry taken for an APPLY counts from the acceptance of its request on (DESIGN CHOICE, log entry
82: R68 says that it is taken then, R75 only "entries on chip"). -/
def Ledger.fill (l : Ledger) : Nat := l.store.length + l.applyHeld

/-- `n` writer entries are free (R68: 2,032 serve writer records). -/
def Ledger.room (l : Ledger) (n : Nat) : Bool := decide (l.writerUsed + n ≤ 2032)

/-- Show the fill and raise HIGH at the watermark, in units of 8 entries (R75). -/
def Dev.ledShow (d : Dev) : Dev :=
  let d := d.w ledPid F.LED_STAT_FILL d.led.fill
  if 8 * d.r ledPid F.LED_CTRL_WM ≤ d.led.fill then d.err ledPid 10 else d

/-- Count records not made (R68, R69) and raise LOST. -/
def Dev.ledLost (d : Dev) : Dev :=
  let d := (d.add ledPid F.LED_LOST_COUNT).err ledPid 12
  { d with led := { d.led with lostSince := true } }

/-- Append a record, with the next SEQ. The caller has found an entry for it. -/
def Dev.ledAppend (d : Dev) (e : LEntry) : Dev :=
  let seq := d.r ledPid F.LED_SEQ_NEXT
  let d := { d with led := { d.led with store := d.led.store ++ [{ e with seq := seq }] } }
  (d.add ledPid F.LED_SEQ_NEXT).ledShow

/-- A record of a writer's kind, for which an entry is free. The record is stamped in the ledger's cluster. -/
def Dev.ledRecord (d : Dev) (kind pid off origin old new : Nat) (complete : Bool := true) : Dev :=
  let (t, d) := d.stamp ledPid
  d.ledAppend { time := t, page := ledgerPage pid, off := off, kind := kind, origin := origin, old := old, new := new,
                seq := 0, complete := complete }

/-- A record the device makes itself: a writer entry if one is free, else for the kinds SUPERSEDED, RESET, LOST and
LOCK one of the reserve, else the loss is counted (R68). -/
def Dev.ledDevice (d : Dev) (kind pid off old new : Nat) (origin : Nat := originHw) (time : Option Nat := none) : Dev :=
  let (t, d) := d.stamp ledPid
  let e : LEntry := { time := time.getD t, page := ledgerPage pid, off := off, kind := kind, origin := origin,
                      old := old, new := new, seq := 0 }
  if d.led.room 1 then d.ledAppend e
  else if [5, 7, 8, 9].contains kind ∧ (d.led.store.filter (·.reserve)).length < 16 then
    d.ledAppend { e with reserve := true }
  else d.ledLost

/-- The last REFUSED record still on chip, if it matches (R66): the store with its REPEAT raised. -/
def coalesce (now page off origin new : Nat) : List LEntry → Option (List LEntry)
  | [] => none
  | e :: rest =>
    match coalesce now page off origin new rest with
    | some r => some (e :: r)
    | none =>
      if e.kind = 6 ∧ !(rest.any (fun x => x.kind == 6)) then
        if e.origin = origin ∧ e.page = page ∧ e.off = off ∧ e.new = new ∧ now < e.time + 1000000 then
          some ({ e with rep := sat 65535 (e.rep + 1) } :: rest)
        else none
      else none

/-- A refusal of R44 steps 1 to 5: coalesced, recorded, or counted as lost; it never waits (R66, R69). -/
def Dev.ledRefused (d : Dev) (ag : Agent) (page off old new errBit : Nat) : Dev :=
  let origin := d.origin ag + 2 ^ 24 * errBit
  let (t, d) := d.stamp ledPid
  match coalesce t page off origin new d.led.store with
  | some st => { d with led := { d.led with store := st } }
  | none =>
    if d.led.room 1 then
      d.ledAppend { time := t, page := page, off := off, kind := 6, origin := origin, old := old, new := new, seq := 0 }
    else d.ledLost

/-- An entry has become free: a LOST record comes before any other when records have been lost (R69). -/
def Dev.ledAfterFree (d : Dev) : Dev :=
  if d.led.lostSince ∧ (d.led.room 1 ∨ (d.led.store.filter (·.reserve)).length < 16) then
    let now := d.r ledPid F.LED_LOST_COUNT
    let d := d.ledDevice 9 ledPid 0x064 d.led.lostAt now
    { d with led := { d.led with lostSince := false, lostAt := now } }
  else d.ledShow

/-- Complete the entry that a commit request took at acceptance: KIND, and for a REJECT the REASON in ORIGIN (R68). -/
def Dev.ledComplete (d : Dev) (seq : Nat) (kind reason : Nat) : Dev :=
  { d with led := { d.led with store := d.led.store.map (fun e =>
      if e.seq == seq && !e.complete then
        { e with kind := kind, origin := e.origin + 2 ^ 24 * reason, complete := true } else e) } }

/-- Give back the entry taken for an APPLY that will not come (R68). -/
def Dev.ledFreeApply (d : Dev) : Dev :=
  ({ d with led := { d.led with applyHeld := d.led.applyHeld - 1 } }).ledAfterFree

/-- The APPLY record of a set (R64): it takes the entry kept for it. -/
def Dev.ledApply (d : Dev) (pid old new : Nat) : Dev :=
  let d := { d with led := { d.led with applyHeld := d.led.applyHeld - 1 } }
  let (t, d) := d.stamp ledPid
  d.ledAppend { time := t, page := ledgerPage pid, off := 0x020, kind := 3, origin := originHw, old := old, new := new,
                seq := 0 }

/-- The ledger records the page: its block is not exempt (R74). -/
def ledgered (pid : Nat) : Bool :=
  match kindOf pid with
  | none => true
  | some (k, _) => !k.exempt

/-! ### The drain ring (R70) -/

/-- The ring's base, size, head and tail in bytes. -/
def Dev.ringBase (d : Dev) : Nat := 4096 * d.r64 ledPid F.LED_RING_LO_BASE F.LED_RING_HI_BASE
def Dev.ringSize (d : Dev) : Nat := 2 ^ d.r ledPid F.LED_RING_SIZE_LOG2
def Dev.ringHead (d : Dev) : Nat := 32 * d.r ledPid F.LED_RING_HEAD_OFFSET
def Dev.ringTail (d : Dev) : Nat := 32 * d.r ledPid F.LED_RING_TAIL_OFFSET

/-- free := (TAIL − HEAD − 32) mod size (R70). -/
def Dev.ringFree (d : Dev) : Nat :=
  (((d.ringTail : Int) - d.ringHead - 32) % (d.ringSize : Int)).toNat

/-- Write a block to a ring in DRAM from an offset on for a wheel owner, wrapping at its end; false on an error response
(R70). -/
def Dev.ringWrite (d : Dev) (own base size at_ : Nat) (bs : List Nat) : Dev × Bool :=
  let n := min bs.length (size - at_ % size)
  let (d, ok) := d.mcWrite own (base + at_ % size) (bs.take n)
  if n < bs.length then
    let (d, ok') := d.mcWrite own base (bs.drop n)
    (d, ok && ok')
  else (d, ok)

/-- C_{−1} of R71: the hash of the nonce and T. -/
def Dev.chainStart (d : Dev) (t : Nat) : List Nat :=
  sha384 ((upFrom 0 8).flatMap (fun k => bytesLE 4 (d.r ledPid F.LED_NONCE_NONCE k)) ++ bytesLE 8 t)

/-- Bytes 0 to 31 of a checkpoint block, the shape of an entry of KIND 10 (R72). -/
def Ckpt.head (c : Ckpt) : List Nat :=
  let b := bytesLE 8 c.time ++ bytesLE 2 0 ++ bytesLE 2 (10 * 4096) ++ bytesLE 4 originHw ++ bytesLE 4 c.first ++
    bytesLE 4 c.num ++ List.replicate 6 0
  b ++ bytesLE 2 (crc16 b)

/-- The 256 bytes of a checkpoint block with its signature bytes (R72). -/
def Ckpt.block (c : Ckpt) (sig : List Nat) : List Nat := takePad 0 256 (c.head ++ c.hash ++ takePad 0 96 sig)

/-- Present the oldest waiting checkpoint in the HDR, HASH and SEQ registers (R73). While none waits they keep what they
showed last (DESIGN CHOICE, log entry 83). -/
def Dev.ckptShow (d : Dev) : Dev :=
  let d := d.w ledPid F.LED_STAT_CKQ d.led.waiting.length
  match d.led.waiting with
  | [] => d
  | c :: _ =>
    let d := (d.w ledPid F.LED_CKPT_SEQ_FIRST c.first).err ledPid 13
    let d := forAll (upFrom 0 8) (fun k d => d.w ledPid F.LED_CKPT_HDR_HDR (ofBytesLE ((c.head.drop (4 * k)).take 4)) k) d
    forAll (upFrom 0 12) (fun k d => d.w ledPid F.LED_CKPT_HASH_HASH (ofBytesLE ((c.hash.drop (4 * k)).take 4)) k) d

/-- Form a checkpoint when the entry with SEQ 256 j + 255 has been drained (R71). -/
def Dev.ckptForm (d : Dev) (seq : Nat) : Dev :=
  if seq % 256 = 255 then
    let (t, d) := d.stamp ledPid
    let h := sha384 (d.led.chain ++ d.led.batch.flatMap id)
    let c : Ckpt := { num := seq / 256, first := seq - 255, time := t, hash := h }
    ({ d with led := { d.led with chain := h, batch := [], waiting := d.led.waiting ++ [c] } }).ckptShow
  else d

/-- The ledger drain's own code in the slot wheel (R106). -/
def ownLedger : Nat := 12

/-- The oldest entry may be drained: DRAIN_EN, complete, fewer than eight checkpoints waiting, no signed block before
it, and the ring free for 288 bytes (R70, R73). -/
def Dev.canDrain (d : Dev) : Bool :=
  d.on ledPid F.LED_CTRL_DRAIN_EN && decide (d.led.waiting.length < 8) && d.led.signed.isEmpty &&
  decide (288 ≤ d.ringFree) && (match d.led.store with | e :: _ => e.complete | [] => false)

/-- The head moves on by some bytes, wrapping at the ring's end. -/
def Dev.ringAdvance (d : Dev) (n : Nat) : Dev := d.w ledPid F.LED_RING_HEAD_OFFSET ((d.ringHead + n) % d.ringSize / 32)

/-- The oldest entry is drained (R70, R71). One whose write receives an error response stays on chip. -/
def Dev.drainEntry (d : Dev) : Dev :=
  match d.led.store with
  | [] => d
  | e :: rest =>
    if !d.canDrain then d
    else
      let (d, ok) := d.ringWrite ownLedger d.ringBase d.ringSize d.ringHead e.bytes
      if !ok then d
      else
        let d : Dev := { d with led := { d.led with store := rest, batch := d.led.batch ++ [e.bytes] } }
        ((d.ringAdvance 32).ckptForm e.seq).ledAfterFree

/-- A signed checkpoint may be written: DRAIN_EN, and the ring free for its 256 bytes (R70, R73). -/
def Dev.canBlock (d : Dev) : Bool :=
  !d.led.signed.isEmpty && d.on ledPid F.LED_CTRL_DRAIN_EN && decide (256 ≤ d.ringFree)

/-- `LED_STAT.DRAINING`: a block or an entry is written now (R75). -/
def Dev.draining (d : Dev) : Bool := d.canBlock || d.canDrain

/-- The first signed checkpoint is written, before any entry whose write has not begun (R73). -/
def Dev.drainCkpt (d : Dev) : Dev :=
  match d.led.signed with
  | [] => d
  | (c, sig) :: rest =>
    if d.canBlock then
      let (d, ok) := d.ringWrite ownLedger d.ringBase d.ringSize d.ringHead (c.block sig)
      if ok then ({ d with led := { d.led with signed := rest } }).ringAdvance 256 else d
    else d

end Sys2Proof.Machine
end

