-- ==== Sys2Proof/Machine/Commit.lean ====
section
/-! DEFINITION. The commit logic of a page: its shadow set, and the transitions of R56 that apply, supersede, discard
and reset sets. -/

namespace Sys2Proof.Machine

open Sys2Proof

/-- The offset and the lowest bit of the field of a key within its page. -/
def keyOff (k : Nat) : Nat := k % 32768 / 32 * 4
def keyLo (k : Nat) : Nat := k % 32

/-- The key is of a class S field of the kind. -/
def isShadowKey (kind : PageKind) (k : Nat) : Bool :=
  kind.fields.any (fun f => f.cls == .s && f.lo == keyLo k && (f.index? (keyOff k)).isSome)

/-- The key belongs to the shadow set of a page (R49): its own class S fields, and for a VI's haptic window those of
the channels that the VI owns (R389). -/
def Dev.shadowKey (d : Dev) (pid : Nat) (k : Nat) : Bool :=
  match kindOf pid with
  | none => false
  | some (.viHapticAudio, v) =>
    match kindOf (keyPage k) with
    | some (.hapticChannel, h) => d.hapOwner h == codeVi (d.viPort v) v && isShadowKey .hapticChannel k
    | _ => false
  | some (kind, _) => keyPage k == pid && isShadowKey kind k

/-- The shadow set as written: the fields that are not at their reset value. -/
def Dev.shadow (d : Dev) (pid : Nat) : List (Nat × Nat) := d.regs.filter (fun e => d.shadowKey pid e.1)

/-- The active set, likewise. -/
def Dev.active (d : Dev) (pid : Nat) : List (Nat × Nat) := d.act.filter (fun e => d.shadowKey pid e.1)

/-- The part of a set that a key belongs to: the head of a layer block's pipe (R290), the channel of a haptic block
(R389), the port of a report block (R372); 0 on every other page. -/
def Dev.partOf (d : Dev) (k : Nat) : Nat :=
  match kindOf (keyPage k) with
  | some (.layerCtl, _) | some (.viLayers, _) => if keyOff k < 0x100 then 0 else d.pipeHead ((keyOff k - 0x100) / 64)
  | some (.touchReports, _) | some (.viTouch, _) => if keyOff k < 0x100 then 0 else (keyOff k - 0x100) / 64
  | some (.hapticChannel, h) => h
  | _ => 0

/-- The keys at which two sets differ. -/
def diffKeys (a b : List (Nat × Nat)) : List Nat :=
  (a.filter (fun e => !(tabFind b e.1 == some e.2))).map (·.1) ++
  (b.filter (fun e => (tabFind a e.1).isNone)).map (·.1)

/-- The value that a snapshot gives a field. -/
def snapGet (snap : List (Nat × Nat)) (pid : Nat) (f : FD) (i : Nat := 0) : Nat :=
  tabGet snap (f.rstAt i) (fieldKey pid f i)

/-- The parts of the page's active set that a snapshot would change. -/
def Dev.changedParts (d : Dev) (pid : Nat) (snap : List (Nat × Nat)) : List Nat :=
  ((diffKeys snap (d.active pid)).map d.partOf).eraseDups

/-- Replace the parts `sel` of a page's active set by those of a snapshot. -/
def Dev.applyParts (d : Dev) (pid : Nat) (snap : List (Nat × Nat)) (sel : Nat → Bool) : Dev :=
  let kept := d.act.filter (fun e => !(d.shadowKey pid e.1 && sel (d.partOf e.1)))
  { d with act := (snap.filter (fun e => sel (d.partOf e.1))).foldl (fun t e => tabIns t e.1 e.2) kept }

def Dev.ctl (d : Dev) (pid : Nat) : PageCtl := tabGet d.pages {} pid

def Dev.setCtl (d : Dev) (pid : Nat) (c : PageCtl) : Dev := { d with pages := tabPut d.pages {} pid c }

/-- A set has been applied (R56): DONE, COUNT + 1, `PAGE_CHG` + 1, and the APPLY record. -/
def Dev.setApplied (d : Dev) (pid : Nat) : Dev :=
  let c := d.r pid F.PAGE_CSTAT_COUNT
  let d := ((d.w pid F.PAGE_CSTAT_DONE 1).w pid F.PAGE_CSTAT_COUNT (c + 1)).add pid F.PAGE_CHG_COUNT
  if ledgered pid then d.ledApply pid c ((c + 1) % 65536) else d

/-- A pending set ends in another way than being applied: its SUPERSEDED record and its freed APPLY entry (R56, R68). -/
def Dev.supersede (d : Dev) (pid : Nat) : Dev :=
  match (d.ctl pid).pend with
  | none => d
  | some _ =>
    let d := d.setCtl pid { d.ctl pid with pend := none }
    let d := d.w pid F.PAGE_CSTAT_REASON 6
    if ledgered pid then d.ledFreeApply.ledDevice 5 pid 0x020 (d.r pid F.PAGE_CSTAT_COUNT) 0 else d

/-- Apply the parts `sel` of a pending set. COUNT and DONE change once, at its last part (R290). -/
def Dev.applyPend (d : Dev) (pid : Nat) (sel : Nat → Bool) : Dev :=
  match (d.ctl pid).pend with
  | none => d
  | some p =>
    let d := d.applyParts pid p.snap sel
    let left := p.parts.filter (fun x => !sel x)
    if left.isEmpty then (d.setCtl pid { d.ctl pid with pend := none }).setApplied pid
    else d.setCtl pid { d.ctl pid with pend := some { p with parts := left } }

/-- A fault opens on a page with a pending set: the set is discarded with the reason FAULT (R56). -/
def Dev.discardPend (d : Dev) (pid : Nat) : Dev :=
  match (d.ctl pid).pend with
  | none => d
  | some _ =>
    let d := d.setCtl pid { d.ctl pid with pend := none }
    let d := ((d.w pid F.PAGE_CSTAT_REJECT 1).w pid F.PAGE_CSTAT_REASON 8).w pid F.PAGE_CSTAT_DONE 0
    if ledgered pid then
      d.ledFreeApply.ledDevice 4 pid 0x020 (d.r pid F.PAGE_CSTAT_COUNT) 0 (originHw + 8 * 2 ^ 24)
    else d

/-- The keys of a page's own fields. -/
def onPage (pid : Nat) (k : Nat) : Bool := keyPage k == pid

/-- The key of a page's LOCK or of its HINGE. Only a reset of the page's region, of the device, or of the VI whose window
it lies in clears them (R59). -/
def lockKey (pid k : Nat) : Bool := k == fieldKey pid F.PAGE_LOCK_LOCK 0 || k == fieldKey pid F.PAGE_LOCK_HINGE 0

/-- A page reset (R56, last row): every field to its reset value but those that `keep` names, the commit logic to
IDLE, and a RESET record. A check that ran is abandoned; its entry is completed as a REJECT with the reason FAULT. -/
def Dev.pageReset (d : Dev) (pid : Nat) (keep : Nat → Bool := fun _ => false) : Dev :=
  let c := d.ctl pid
  let d := match c.busy with
    | some b => (match b.seq with | some q => (d.ledComplete q 4 8).ledFreeApply | none => d)
    | none => d
  let d := if c.pend.isSome && ledgered pid then d.ledFreeApply else d
  let d := { d with regs := d.regs.filter (fun e => !(onPage pid e.1) || keep e.1),
                    act := d.act.filter (fun e => !(onPage pid e.1)),
                    errEn := tabDel d.errEn pid, latch := d.latch.filter (fun e => !(e.1 / 4096 == pid)),
                    pages := tabDel d.pages pid }
  if ledgered pid then d.ledDevice 8 pid 0 0 0 else d

/-- The implemented pages of a run of page numbers. -/
def Dev.pagesIn (d : Dev) (first count : Nat) : List Nat := (upFrom first count).filter d.implemented

end Sys2Proof.Machine
end

