-- ==== Sys2Proof/Machine/Faults.lean ====
section
/-! DEFINITION. Opening, escalating and closing a fault (R473 to R485, R492). What a fault's containment does to the
blocks is carried out after the command that opened it; see Settle. -/

namespace Sys2Proof.Machine

open Sys2Proof

def ftPid : Nat := 0x030

/-- Bytes 0 to 29 of a fault record (R492). -/
def faultHead (time seq level kind conseq latched superseded cause pid detail first recovery : Nat) : List Nat :=
  bytesLE 8 time ++ bytesLE 4 seq ++
  [level + 8 * kind + 32 * conseq + 64 * latched + 128 * superseded, cause] ++ bytesLE 2 (unitOf pid % 4096) ++
  bytesLE 4 detail ++ bytesLE 4 first ++ bytesLE 4 recovery ++ [0, 0]

/-- Eight words of 32 bits from 32 bytes. -/
def words8 (bs : List Nat) : List Nat := (upFrom 0 8).map (fun k => ofBytesLE ((bs.drop (4 * k)).take 4))

/-- Write a fault record (R492): it takes the next SEQ whether or not the log has room. -/
def Dev.faultRecord (d : Dev) (time level kind conseq latched superseded cause pid detail first recovery : Nat) :
    List Nat × Dev :=
  let seq := d.r ftPid F.FT_SEQ_NEXT
  let h := faultHead time seq level kind conseq latched superseded cause pid detail first recovery
  let ws := words8 (h ++ bytesLE 2 (crc16 h))
  let d := d.add ftPid F.FT_SEQ_NEXT
  if d.flt.log.length < 32 then
    let d := { d with flt := { d.flt with log := d.flt.log ++ [ws] } }
    (ws, (d.w ftPid F.FT_STAT_UNREAD d.flt.log.length).err ftPid 10)
  else (ws, (d.addSat ftPid F.FT_STAT_LOST).err ftPid 11)

/-- The level a fault's window counts at (R482): a die-level fault of the Core die or the Port die holds the package
window. -/
def windowLevel (level unit : Nat) : Nat := if level = 4 ∧ unitOf unit / 1024 < 2 then 5 else level

/-- The length of a window in ns (R476); system level has none. -/
def windowNs (level : Nat) : Nat :=
  if level ≤ 2 then 100000000 else if level ≤ 4 then 1000000000 else if level = 5 then 10000000000 else 0

/-- The windows open at a time. -/
def Dev.openWindows (d : Dev) (t : Nat) : List Window := d.flt.windows.filter (fun w => decide (t < w.ends))

/-- Count a fault at its level (R493). -/
def Dev.faultCount (d : Dev) (level : Nat) : Dev :=
  if level = 1 then d.addSat ftPid F.FT_CNT1_UNIT else if level = 2 then d.addSat ftPid F.FT_CNT1_CLUSTER
  else if level = 3 then d.addSat ftPid F.FT_CNT1_REGION else if level = 4 then d.addSat ftPid F.FT_CNT1_DIE
  else if level = 5 then d.addSat ftPid F.FT_CNT2_PACKAGE else d

/-- Close one fault: its CLOSED record, and it is open no more (R476, R492). -/
def Dev.closeOne (d : Dev) (superseded : Bool) (f : OpenFault) : Dev :=
  let (t, d) := d.stamp ftPid
  let d := { d with flt := { d.flt with faults := d.flt.faults.erase f } }
  (d.faultRecord t f.level 1 (b2n f.consequent) (b2n f.latched) (b2n superseded) f.cause f.pid 0 f.seq
    (sat (2 ^ 32 - 1) ((t - f.opened) / 1000))).2

/-- Close the open faults that a recovery on an element ends or covers (R483, R485), all but `seq` itself. -/
def Dev.closeWithin (d : Dev) (level unit seq : Nat) (sel : OpenFault → Bool) (superseded : Bool) : Dev :=
  (d.flt.faults.filter (fun f => sameElement level unit f.unit && !(f.seq == seq) && sel f)).foldl
    (fun d f => d.closeOne superseded f) d

/-- Close a fault whose recovery has ended, and the consequent faults that its element covers. -/
def Dev.closeFault (d : Dev) (f : OpenFault) : Dev :=
  (d.closeWithin f.level f.unit f.seq (fun g => g.consequent) false).closeOne false f

/-- Put a fault among the open ones, and its containment among the things to be done. -/
def Dev.addFault (d : Dev) (f : OpenFault) (rec_ : List Nat) : Dev :=
  { d with flt := { d.flt with faults := d.flt.faults ++ [f], due := d.flt.due ++ [(f, rec_)] } }

/-- Open the window of a fault (R481). -/
def Dev.addWindow (d : Dev) (f : OpenFault) : Dev :=
  let lv := windowLevel f.level f.unit
  { d with flt := { d.flt with windows := d.openWindows f.opened ++
      [{ seq := f.seq, level := lv, ends := f.opened + windowNs lv }] } }

/-- The double-fault rule (R482): escalate a fault that opens while windows of earlier faults are open. -/
def Dev.escalate (d : Dev) (g : OpenFault) (ws : List Window) : Dev :=
  let hw := ws.foldl (fun m w => max m w.level) 0
  let h := max hw g.level
  let lv := if h = 6 then 6 else h + 1
  let detail := if hw < g.level then g.seq else
    ((ws.filter (fun w => w.level == hw)).getLast?.map (·.seq)).getD g.seq
  let seq := d.r ftPid F.FT_SEQ_NEXT
  let (rec_, d) := d.faultRecord g.opened lv 2 0 0 0 g.cause g.pid detail g.seq 0
  let d := ((d.addSat ftPid F.FT_CNT2_ESCALATED).err ftPid 12).faultCount lv
  let f : OpenFault := { seq := seq, level := lv, cause := g.cause, pid := g.pid, unit := g.unit, detail := detail,
                         opened := g.opened }
  let d := d.closeWithin lv g.unit seq (fun _ => true) true
  let d := { d with flt := { d.flt with due := d.flt.due.filter (fun x => !(x.1.seq == g.seq)) } }
  (d.addFault f rec_).addWindow f

/-- Open a fault (R473, R476, R481 to R485). `unit` is the unit whose element the fault is on: the detecting page, but
for causes 10 and 15 the ward pair, and where `at_` names another. `breachOutside`: a Bolt breach measured while a
condition of R12 did not hold. An overrun (cause 17) is not consequent on the recovery that overran. DEDUCED (log 90):
WARD_MEASURE opens while the restart that found it recovers the ward pair, so it is consequent under R483 and neither opens a
window nor escalates; the package-level recovery that R474 names for it runs all the same. -/
def Dev.openFault (d : Dev) (cause level pid detail : Nat) (latched breachOutside : Bool := false)
    (at_ : Option Nat := none) : Dev :=
  let unit := if cause = 10 ∨ cause = 15 then 0x000 else at_.getD pid
  let (t, d) := d.stamp ftPid
  let conseq := breachOutside || !(cause == 16) && d.flt.faults.any (fun f => !f.consequent && !f.latched && decide (f.level ≥ 1) &&
    sameElement f.level f.unit unit && !(f.cause == 16) && !(cause == 17 && f.seq % 65536 == detail))
  let seq := d.r ftPid F.FT_SEQ_NEXT
  let g : OpenFault := { seq := seq, level := level, cause := cause, pid := pid, unit := unit, detail := detail,
                         opened := t, latched := latched, consequent := conseq }
  let (rec_, d) := d.faultRecord t level 0 (b2n conseq) (b2n latched) 0 cause pid detail 0 0
  let d := d.faultCount level
  if conseq && cause == 15 then
    let d := (d.addSat ftPid F.FT_CNT2_CONSEQUENT).closeWithin level unit seq (fun _ => true) true
    d.addFault g rec_
  else if conseq then
    let d := d.addSat ftPid F.FT_CNT2_CONSEQUENT
    let d := { d with flt := { d.flt with faults := d.flt.faults ++ [g] } }
    if breachOutside then d.closeOne false g else d
  else
    let ws := if cause = 16 then [] else
      (d.openWindows t).filter (fun w => !(cause == 17 && w.seq % 65536 == detail))
    let d := d.closeWithin level unit seq (fun _ => true) true
    let d := d.addFault g rec_
    if cause = 16 then d
    else if ws.isEmpty then
      let d := d.addWindow g
      if cause = 7 ∨ cause = 8 ∨ latched then d.closeOne false g else d
    else (d.addWindow g).escalate g ws

end Sys2Proof.Machine
end

