-- ==== Sys2Proof/Machine/Bolt.lean ====
section
/-! DEFINITION. The Bolt bounds: the conditions under which they hold, and their monitors (R12 to R16). -/

namespace Sys2Proof.Machine

open Sys2Proof

def clsPid : Nat := 0x320

/-- The ward world is restarting: a fault of cause 10 is open (R12, R152). -/
def Dev.wardRestarting (d : Dev) : Bool := d.flt.faults.any (fun f => f.cause == 10)

/-- The ward world has asked for a sleep state, which suspends the bounds (R14). -/
def Dev.wardSleeps (d : Dev) : Bool :=
  (match d.pm.wardPend with | some t => decide (0 < t) | none => false) ||
  (match d.pm.run with | some c => c.ward && decide (0 < c.target) | none => false)

/-- Conditions 1, 4 and 5 of R12 for a path over the units of some pages: S0, no fault at die level or above, and none in a
unit on the path; and no sleep that the ward world has asked for (R14). -/
def Dev.pathSound (d : Dev) (units : List Nat) : Bool :=
  d.r 0x390 F.PM_STAT_STATE == 0 && !d.wardSleeps && !(d.flt.faults.any (fun f => decide (4 ≤ f.level))) &&
  units.all (fun u => d.faultLevel u == 0)

/-- The conditions of R12 for a path: also the table is locked, and the ward world is not restarting. -/
def Dev.boltHolds (d : Dev) (units : List Nat) : Bool := d.pathSound units && d.locked && !d.wardRestarting

/-- A write of `CLS_BMON_CLR` (R33): each monitor that it names is cleared at its next measurement (R48). -/
def Dev.bmonClear (d : Dev) (mask : Nat) : Dev := { d with bmonClr := d.bmonClr ||| mask }

/-- The clearing of a monitor that `CLS_BMON_CLR` has asked for, at its measurement. -/
def Dev.bmonFirst (d : Dev) (n : Nat) : Dev :=
  if bit d.bmonClr n then
    { (d.w clsPid F.CLS_BMON_CNT_COUNT 0 n).w clsPid F.CLS_BMON_WORST_WORST 0 n with bmonClr := d.bmonClr ^^^ 2 ^ n }
  else d

/-- Measure one occurrence of a path (R15, R16): the worst latency, and a breach with its unit-level fault on the unit
of the path's end point. -/
def Dev.measure (d : Dev) (n latency bound pid : Nat) (holds : Bool) : Dev :=
  let d := d.bmonFirst n
  let d := if d.r clsPid F.CLS_BMON_WORST_WORST n < latency then
      d.w clsPid F.CLS_BMON_WORST_WORST (sat (2 ^ 32 - 1) latency) n else d
  if bound < latency then
    ((d.addSat clsPid F.CLS_BMON_CNT_COUNT 1 n).err clsPid 10).openFault 8 1 pid n false !holds
  else d

/-- A request of the ward world that exceeds a Bolt limit is refused (R19). -/
def Dev.boltLimit (d : Dev) : Dev := d.w clsPid F.CLS_ADM_RESULT 3

/-! ### The units on each path (R12, R13, R89, R112) -/

/-- A commit of the strike plane at a head: strike SRAM and its control page, the strike and the compose page, the timing
generator, link 1, the port. -/
def strikePath (h : Nat) : List Nat := [0x218, 0x210 + h, 0x200 + h, 0x280 + h, 0x701, 0x500 + h]

/-- An emergency frame: the ring, link 2, the crossbar, the ward pair, and on to the head. -/
def emergencyPath (h : Nat) : List Nat := [0x410, 0x702, 0x300, 0x000] ++ strikePath h

/-- A Bolt contact: the port with its Bolt page, link 2, the crossbar, the ward pair's mailbox. -/
def touchPath (t : Nat) : List Nat := [0x580 + 16 * t, 0x581 + 16 * t, 0x702, 0x300, 0x000]

/-- A trigger of a touch port on its way (Bolt touch work travels on crossbar port 21). -/
def trigPath (t : Nat) : List Nat := [0x580 + 16 * t, 0x581 + 16 * t, 0x702, 0x300]

/-- A Bolt effect that answers a scan frame: the touch port, the haptic block, link 3, the channel. -/
def hapticPath (t h : Nat) : List Nat := trigPath t ++ [0x808, 0x703, 0x800 + h]

/-- A Bolt tone: the touch port that triggered it, or the way of the ward world's write; the engine, the sink, link 3, the
stage. -/
def tonePath (t : Option Nat) (k : Nat) : List Nat :=
  (match t with | some t => trigPath t | none => [0x702, 0x300, 0x000]) ++ [0x630, 0x620 + k, 0x703, 0x880 + k]

/-- A Bolt DRAM read: the ward pair, the crossbar, the memory controller, link 0, the PHY. -/
def dramPath : List Nat := [0x000, 0x300, 0x100, 0x700, 0x680]

/-- A Bolt DRAM read has returned to its requester (path 5 of R13). -/
def Dev.dramMeasure (d : Dev) (since : Nat) : Dev := d.measure 5 (d.now - since) 1200 0x100 (d.boltHolds dramPath)

end Sys2Proof.Machine
end

