-- ==== Sys2Proof/Machine/Fabric.lean ====
section
/-! DEFINITION. Island clocks, crossings, the crossbar and its arbiters, the slot wheel, device time and the Pintle
links (R77 to R122). -/

namespace Sys2Proof.Machine

open Sys2Proof

def xbPid : Nat := 0x300
def dtPid : Nat := 0x403

/-! ### Isolation (R82, R105) -/

/-- A region has no power or no clock: the dies while they are held, the regions that a sleep state leaves off, a region
gated under R450 (the render region once its quads have drained). -/
def Dev.dark (d : Dev) (r : Nat) : Bool :=
  let st := d.r 0x390 F.PM_STAT_STATE
  (d.boot.down && !(r == 8)) ||
  (decide (2 ≤ st) && !([8, 11, 12, 13].contains r)) || (st == 1 && r == 3) ||
  (decide (r < 16) && ((d.on 0x390 F.PM_GATE_OFF r && (!(r == 3) || d.r 0x180 F.RND_STAT_POWERED == 0)) ||
    d.on 0x390 F.PM_GATE_CLKSTOP r))

/-- The unit has no power, no clock or is held in reset, its cluster under RSTHOLD (R450). -/
def Dev.stopped (d : Dev) (pid : Nat) : Bool :=
  let u := unitOf pid
  d.dark (u / 128) || (decide (u / 128 < 16) && bit (d.r 0x390 F.PM_GATE_RSTHOLD (u / 128)) (u / 16 % 8))

/-- A fault of a level or above contains a unit while it is in recovery (R476). A cause that names its own recovery contains
in the way of its own rule: a ward restart isolates cluster 0 and strike SRAM, until the firmware starts (R153). -/
def Dev.contained (d : Dev) (level pid : Nat) : Bool :=
  d.flt.faults.any (fun f => decide (level ≤ f.level) && decide (f.level ≤ 4) && !f.byPackage && !f.consequent && !f.latched &&
    (if f.cause = 10 ∧ f.level = 3 then
      [1, 2].contains (d.r 0x401 F.WR_STAT_STATE) && (unitOf pid / 16 == 0 || pid == 0x218)
     else !f.ownRecovery && sameElement f.level f.unit pid))

/-- A request to the unit receives an error response (R82, R476): it is stopped, or a fault in recovery contains it. -/
def Dev.isolated (d : Dev) (pid : Nat) : Bool := d.stopped pid || d.contained 1 pid

/-- The crossbar isolates the unit (R105): a fault of cluster level or above in recovery contains it, or its region is gated
under R450. -/
def Dev.crossIsolated (d : Dev) (pid : Nat) : Bool :=
  d.contained 2 pid || (let r := unitOf pid / 128
    decide (r < 16) && d.on 0x390 F.PM_GATE_OFF r && (!(r == 3) || d.r 0x180 F.RND_STAT_POWERED == 0))

/-- The page of the unit behind an initiator port, which places the port in a region (R89, R105). -/
def portUnit (port : Nat) : Nat :=
  if port = 0 then 0x000 else if port ≤ 3 then 0x380 else if port ≤ 7 then 0x080 + (port - 4)
  else if port ≤ 11 then 0x190 + 16 * (port - 8) else if port ≤ 19 then 0x200 + (port - 12)
  else if port = 20 then 0x600 else if port = 21 then 0x580 else if port = 22 then 0x400
  else if port = 23 then 0x010 else 0x084

/-- The home page of an initiator: the writer's of R44 for the pilots and the host ports, and for an engine, to which
the spec gives none, the page of `portUnit`, the audio engine's and the touch engine's control page and the like. -/
def portHome (port : Nat) : Nat :=
  if port = 0 then 0x030 else if 8 ≤ port ∧ port ≤ 11 then 0x180 else portUnit port

/-! ### Island clocks (R78, R120) -/

/-- A droop lengthens `n` cycles of a cluster that runs at `mhz`, each by `ps` and at most 12.5 %. -/
def Dev.clockDroop (d : Dev) (cluster mhz n ps : Nat) : Dev :=
  let lost := n * min (ps * mhz) 125000
  let recent := (tabGet d.fab.droops [] cluster).filter (fun x => decide (d.now < x.1 + 1000000))
  { d with fab := { d.fab with
      stretch := tabPut d.fab.stretch 0 cluster ((tabGet d.fab.stretch 0 cluster + n) % 2 ^ 32),
      droops := tabPut d.fab.droops [] cluster ((d.now, lost) :: recent) } }

/-- The generator of a cluster has settled: it runs at its target. -/
def Dev.clockSettled (d : Dev) (cluster : Nat) : Dev :=
  { d with fab := { d.fab with settling := tabDel d.fab.settling cluster } }

/-! ### Classes and tags of requests (R10, R11, R89, R90, R144) -/

/-- The classes a port may issue (R89). -/
def portAllows (port : Nat) (c : ServiceClass) : Bool :=
  match c with
  | .bolt => port == 0 || port == 22
  | .latch => (decide (12 ≤ port) && decide (port ≤ 21)) || port == 23
  | .bulk => !(port == 23)

/-- A layer pipe is set to the Latch class; `LP_CTRL.MODE` 1 is best effort (R10, R310). -/
def Dev.layerLatch (d : Dev) (p : Nat) : Bool := d.a (layerPage (d.pipeOwner p)) F.LP_CTRL_MODE p == 0

/-- The service class that a path fixes (R11, R90). -/
def Dev.pathClass (d : Dev) (port : Nat) : Traffic → ServiceClass
  | .wardRead | .emergency => .bolt
  | .register _ => if port = 0 then .bolt else .bulk
  | .layer p => if d.layerLatch p then .latch else .bulk
  | .stream _ | .report _ | .timeSync | .drain => .latch
  | .wardOther | .openAccess | .hostDma _ | .render _ | .programLoad | .toneLoad | .effectLoad _ | .dump | .service
  | .flash | .walk _ | .dirtyLog _ | .check _ => .bulk

def classNo : ServiceClass → Nat
  | .bolt => 0 | .latch => 1 | .bulk => 2

/-- The wheel owner that a request of a class at a port is served as (R106): Bolt; the head, the audio engine, the touch
engine or the ledger drain for Latch; else Bulk. -/
def wheelOwner (port : Nat) : ServiceClass → Nat
  | .bolt => 1
  | .latch => if 12 ≤ port ∧ port ≤ 19 then 2 + (port - 12) else if port = 20 then 10 else if port = 21 then 11
      else if port = 23 then 12 else 0
  | .bulk => 0

/-- The tag of a VI (R144): its ORIGIN without the generation. -/
def Dev.viTag (d : Dev) (v : Nat) : Nat := 3 + 4 * (d.viPort v % 4) + 16 * v

/-- The world tag that an initiator port sets (R144): ward world, open pilot, the function of a host port, and for an engine
the owner of the work that the path names. -/
def Dev.portTag (d : Dev) (port : Nat) (path : Traffic) : Nat :=
  if port = 0 ∨ port = 22 ∨ port = 23 then 0
  else if port ≤ 3 then 1 + 4 * (port - 1)
  else if port ≤ 7 then match path with
    | .register (some v) | .hostDma (some v) => d.viTag v
    | _ => codePf (port - 4)
  else match path with
    | .render v | .walk v | .dirtyLog v => d.viTag v
    | .layer p => d.pipeOwner p % 1024
    | .stream s => d.a 0x600 F.AE_SOWN_OWNER s % 1024
    | .programLoad => d.owner 0x600 % 1024
    | .effectLoad who => if who.val < 8 then d.hapOwner who % 1024 else codeWard
    | .report t => d.touchOwner t % 1024
    | _ => codeWard

/-! ### The mode of the crossbar (R102 to R104) -/

/-- The initiator port of the interface that a loop-back test drives, for the grant order of TEST (R489). -/
def Dev.testPort (d : Dev) : Nat :=
  let inst := d.r 0x710 F.LB_CTRL_INST
  match d.r 0x710 F.LB_CTRL_IFACE with
  | 0 => 4 + inst % 4
  | 1 => 12 + inst % 8
  | 7 => 20
  | _ => 0

/-- The order of the grants in TEST (R489), highest first; other ports are not granted. -/
def Dev.testOrder (d : Dev) : List Nat := [d.testPort, 0, 22, 23]

/-- The ports that the crossbar's mode grants (R103, R489). -/
def Dev.modeAllows (d : Dev) (port : Nat) : Bool :=
  match d.r xbPid F.XB_MODE_MODE with
  | 0 => port == 0 || port == 22 || port == 23
  | 2 => d.testOrder.contains port
  | _ => true

/-! ### Flits of a Pintle link (R91, R113) -/

def plPid (link : Nat) : Nat := 0x700 + link

def Dev.link (d : Dev) (l : Nat) : LinkSt := tabGet d.fab.links {} l
def Dev.setLink (d : Dev) (l : Nat) (x : LinkSt) : Dev := { d with fab := { d.fab with links := tabPut d.fab.links {} l x } }

/-- A flit of 64 B payload with its virtual channel, its sequence number and its CRC (R113). -/
def mkFlit (vc seq : Nat) (payload : List Nat) : Flit :=
  let bs := takePad 0 64 payload
  { vc := vc, seq := seq, payload := bs, crc := crc16 (vc :: bytesLE 2 seq ++ bs) }

/-- One flit of each payload is sent on a link. The replay buffer keeps it until the receiver acknowledges it. -/
def Dev.sendFlits (d : Dev) (l vc : Nat) (payloads : List (List Nat)) : Dev :=
  payloads.foldl (fun d p =>
    let x := d.link l
    d.setLink l { x with seq := (x.seq + 1) % 4096, unacked := x.unacked ++ [mkFlit vc x.seq p] }) d

/-- The flits of a replay buffer that follow the one of a sequence number; all of them, if it is not there. -/
def afterFlit (seq : Nat) (l : List Flit) : List Flit :=
  if l.any (fun f => f.seq == seq) then (l.dropWhile (fun f => !(f.seq == seq))).tail else l

/-- The receiver has acknowledged the flits up to a sequence number: good flits are acknowledged in order. -/
def Dev.ackFlits (d : Dev) (l seq : Nat) : Dev :=
  d.setLink l { d.link l with unacked := afterFlit seq (d.link l).unacked }

/-! ### A request on its way (R81, R82, R89 to R93, R98, R100) -/

/-- The unit that a request addresses (R90): the memory controller, strike SRAM, the page that a register access names, a
host port. -/
def reqUnit (q : Req) : Nat :=
  if q.target = 0 then 0x100 else if q.target = 1 then 0x218 else if q.target ≤ 3 then q.page
  else if 0x080 ≤ q.page ∧ q.page < 0x084 then q.page else 0x080 + (q.port - 4) % 4

/-- A request to it receives an error response at once (R82, R105). -/
def Dev.reqIsolated (d : Dev) (q : Req) : Bool := d.isolated (reqUnit q) || (q.target == 3 && d.isolated (plPid 2))

/-- The beats of response that a request needs buffers for, a transfer of more than 8 beats asking anew for each 8 (R92,
R100). -/
def Req.room (q : Req) : Nat := if q.data.isSome then 1 else min 8 q.beats

/-- Every request of the crossbar that has no response yet, the oldest first in each part of it: granted, in transfer,
decided, at its arbiter, in a crossing. -/
def Dev.outstanding (d : Dev) : List Req :=
  d.fab.granted ++ d.fab.burst.map (fun e => e.2.1) ++ d.fab.decided.map (fun e => e.2) ++ d.fab.reqs ++
    d.fab.cross.flatMap (fun e => e.2.words)

/-- The response buffer that a port has in use. -/
def Dev.roomUsed (d : Dev) (port : Nat) : Nat :=
  ((d.outstanding ++ d.fab.resp).filter (fun q => q.port == port)).foldl (fun n q => n + q.room) 0

/-- The crossing from a port's cluster into the fabric. -/
def Dev.crossing (d : Dev) (port : Nat) : Cross := tabGet d.fab.cross {} port

/-- Bolt DRAM reads that are issued and not complete, by address: in the crossbar, and in the memory controller those that
did not come through it (R19). -/
def Dev.boltReads (d : Dev) : List Nat :=
  ((d.outstanding.filter (fun q => q.target == 0 && q.cls == .bolt && q.data.isNone)).map (·.addr)) ++
    ((d.mc.reqs.filter (fun q => q.owner == 1 && q.data.isNone && !q.fab)).map (·.addr))

/-- Bolt DRAM reads to the channel of an address. -/
def Dev.chanReads (d : Dev) (a : Nat) : Nat := (d.boltReads.filter (fun x => d.chanOf x == d.chanOf a)).length

/-- The request is a Bolt DRAM read. -/
def Req.boltRead (q : Req) : Bool := q.target == 0 && q.cls == .bolt && q.data.isNone

/-- An initiator holds a request before issue: a ninth register access of the ward pair, its ninth read to a channel
(R19), one without room for its response (R92), one without place in its crossing (R81), one behind another that it holds
in the same class, and every one while the crossbar drains. -/
def Dev.reqWaits (d : Dev) (before : List Req) (q : Req) : Bool :=
  d.fab.drainTo.isSome || before.any (fun x => x.port == q.port && x.cls == q.cls) ||
  decide (8 ≤ (d.crossing q.port).words.length) ||
  (!(d.roomUsed q.port == 0) && decide (Config.responseBeats q.port < d.roomUsed q.port + q.room)) ||
  (q.port == 0 && (q.target == 2 || q.target == 3) &&
    decide (8 ≤ (d.outstanding.filter (fun x => x.port == 0 && (x.target == 2 || x.target == 3))).length)) ||
  (q.boltRead && (decide (16 ≤ d.boltReads.length) || decide (8 ≤ d.chanReads q.addr)))

/-- The timeout of a request in ns (R117): of DRAM, SRAM and host memory, or of registers. -/
def Dev.reqLimit (d : Dev) (target : Nat) : Nat :=
  1000 * (if target = 2 ∨ target = 3 then max 32 (d.r xbPid F.XB_TMO_REG) else max 16 (d.r xbPid F.XB_TMO_MEM))

/-- A request is issued: into its port's crossing, with a turn of the request phase (R81). -/
def Dev.reqIssue (d : Dev) (q : Req) : Dev :=
  let x := d.crossing q.port
  let q := { q with since := d.now, limit := d.reqLimit q.target }
  { d with fab := { d.fab with cross := tabPut d.fab.cross {} q.port { x with words := x.words ++ [q], req := !x.req } } }

/-- A request in its class at its port: an error response where the crossbar's mode, the target or an isolation refuses it
(R82, R90, R103, R105), `CLS_ADM.RESULT` 3 for a Bolt DRAM read beyond the sixteenth (R19); else it is issued or held. -/
def Dev.reqEnter (d : Dev) (q : Req) : Dev :=
  if !d.modeAllows q.port || (q.target == 1 && (!(q.port == 0) || decide (strikeSize < q.addr + 64 * q.beats))) ||
      d.reqIsolated q then d.emit (.errorResponse q.port)
  else if q.boltRead && decide (16 ≤ d.boltReads.length) && decide (d.chanReads q.addr < 8) then
    d.boltLimit.emit (.errorResponse q.port)
  else if d.reqWaits d.fab.waiting q then { d with fab := { d.fab with waiting := d.fab.waiting ++ [q] } }
  else d.reqIssue q

/-- An initiator issues a request (R89). A class that the port may not issue is refused at the port. -/
def Dev.fabricRequest (d : Dev) (port : Nat) (path : Traffic) (target page addr beats : Nat) (data : Option (List Nat)) : Dev :=
  let c := d.pathClass port path
  if !portAllows port c then (d.emit (.errorResponse port)).err (portHome port) errAddress
  else d.reqEnter { port := port, cls := c, target := target, tag := d.portTag port path, page := page, beats := max 1 beats,
                    addr := addr, data := data.map (List.take (64 * max 1 beats)) }

/-- Requests that their initiators hold are issued, oldest first, as what held them back passes. -/
def Dev.reqRelease (d : Dev) (before : List Req) : List Req → Dev
  | [] => { d with fab := { d.fab with waiting := before } }
  | q :: rest => if d.reqWaits before q then d.reqRelease (before ++ [q]) rest else (d.reqIssue q).reqRelease before rest

def Dev.fabGo (d : Dev) : Dev := d.reqRelease [] d.fab.waiting

/-! ### Arbitration (R91, R96 to R101) -/

/-- The effective priority of a port's Bulk request (R97). -/
def Dev.bulkPrio (d : Dev) (r : Req) : Nat := if r.aged then 15 else d.r 0x301 F.ARB_PRIO_PRIO r.port

/-- How far a port lies after the one granted last, in round robin order. -/
def rrDist (last port : Nat) : Nat := (port + 64 - last - 1) % 64

/-- The request of a list that comes first by a measure; the earlier of two equal ones. -/
def firstBy (f : Req → Nat) : List Req → Option Req
  | [] => none
  | r :: rest => match firstBy f rest with
    | none => some r
    | some q => if f q < f r then some q else some r

/-- The port granted last by a target in a class. -/
def Dev.lastGrant (d : Dev) (target cls : Nat) : Nat := tabGet d.fab.rr 63 (3 * target + cls)

/-- The grant of an arbiter (R96, R97, R103): strict class order, round robin within Bolt and within Latch, effective
priority with round robin ties within Bulk; in START the lowest Bulk port, in TEST the fixed order. -/
def Dev.arbitrate (d : Dev) (target : Nat) (cand : List Req) : Option Req :=
  let of := fun c => cand.filter (fun r => r.cls == c)
  if d.r xbPid F.XB_MODE_MODE = 2 then
    firstBy (fun r => d.testOrder.idxOf r.port) cand
  else if !(of .bolt).isEmpty then firstBy (fun r => rrDist (d.lastGrant target 0) r.port) (of .bolt)
  else if !(of .latch).isEmpty then firstBy (fun r => rrDist (d.lastGrant target 1) r.port) (of .latch)
  else if d.r xbPid F.XB_MODE_MODE = 0 then firstBy (fun r => r.port) (of .bulk)
  else firstBy (fun r => (15 - d.bulkPrio r) * 64 + rrDist (d.lastGrant target 2) r.port) (of .bulk)

/-- A link carries no traffic: it trains (R114), or a loop-back test of it runs before the lock (R490). -/
def Dev.linkShut (d : Dev) (link : Nat) : Bool :=
  d.r (plPid link) F.PL_STAT_STATE == 1 ||
    (d.on 0x710 F.LB_STAT_BUSY && !d.locked && d.r 0x710 F.LB_CTRL_IFACE == 3 && d.r 0x710 F.LB_CTRL_INST == link)

/-- Requests of a class that hold a credit of its channel at a target: decided, in transfer, or granted (R91, R98). -/
def Dev.creditsUsed (d : Dev) (target : Nat) (c : ServiceClass) : Nat :=
  ((d.fab.granted ++ d.fab.burst.map (fun e => e.2.1) ++ d.fab.decided.map (fun e => e.2)).filter (fun q =>
    q.target == target && q.cls == c)).length

/-- A credit of the class's request channel at a target is free. Across link 2 the channel also needs room in the replay
buffer and a link that carries traffic (R113, R114). -/
def Dev.creditFree (d : Dev) (target : Nat) (c : ServiceClass) : Bool :=
  (d.creditsUsed target c == 0 || decide (d.creditsUsed target c < Config.channelCredits target (classNo c))) &&
  (!(target == 3) || (!d.linkShut 2 && decide ((d.link 2).unacked.length + 8 ≤ 256)))

/-- The aging limit of a port in fabric cycles (R101). -/
def Dev.ageLimit (d : Dev) (port : Nat) : Nat :=
  let a := d.r 0x301 F.ARB_PRIO_AGE port
  64 * (if a = 0 then 256 else a)

/-- A Bulk request that has waited longer than its port's limit is at priority 15 until it is granted (R101). -/
def Dev.aging (d : Dev) (r : Req) : Req :=
  if r.cls == .bulk && decide (d.ageLimit r.port < r.waited) then { r with aged := true } else r

/-- A port's Bulk requests that have waited longer than its limit are raised to priority 15 (R101). -/
def Dev.bulkAge (d : Dev) (port : Nat) : Dev :=
  { d with fab := { d.fab with reqs := d.fab.reqs.map (fun r => if r.port == port then d.aging r else r) } }

/-- The requests at a target have waited one fabric cycle more, and the longest wait of each port is kept (R101, R118). -/
def Dev.cycleWaited (d : Dev) (target : Nat) : Dev :=
  let d : Dev := { d with fab := { d.fab with reqs := d.fab.reqs.map (fun r =>
    if r.target == target then d.aging { r with waited := r.waited + 1 } else r) } }
  d.fab.reqs.foldl (fun d r => if r.target == target && r.cls == .bulk &&
      decide (d.r 0x301 F.ARB_PRIO_WAITMAX r.port < r.waited) then
    d.w 0x301 F.ARB_PRIO_WAITMAX (sat 65535 r.waited) r.port else d) d

/-- The words at the heads of the crossings that name a target go on to its arbiter, in the order of the ports, each with a
turn of the acknowledge phase (R81). -/
def Dev.crossingTake (d : Dev) (target : Nat) : Dev :=
  (upFrom 0 25).foldl (fun d p =>
    let x := d.crossing p
    let go := x.words.takeWhile (fun q => q.target == target)
    if go.isEmpty then d
    else { d with fab := { d.fab with
      reqs := d.fab.reqs ++ go,
      cross := tabPut d.fab.cross {} p { x with words := x.words.drop go.length, ack := x.ack != (go.length % 2 == 1) } } }) d

/-- What reaches the target with the last beat of a grant: a store to strike SRAM is done, a read of it takes its data, which
answers an error response on a UE (R299, R229); an access through link 2 leaves as flits, one a beat (R113). -/
def Dev.delivered (d : Dev) (q : Req) (n : Nat) : Dev × Req :=
  if q.target = 1 then
    match q.data with
    | some bs => (d.strikeStore q.addr (bs.take (64 * n)), { q with data := some [] })
    | none =>
      match d.strikeRead q.addr (64 * n) with
      | (d, some bs) => (d, { q with data := some bs })
      | (d, none) => (d.emit (.errorResponse q.port), { q with data := some (List.replicate (64 * n) 0) })
  else if q.target = 3 then
    let bs := q.data.getD []
    let d := d.sendFlits 2 (2 * classNo q.cls) ((upFrom 0 n).map (fun i => (bs.drop (64 * i)).take 64))
    (d, { q with flit := ((d.link 2).seq + 4095) % 4096 })
  else (d, q)

/-- The last beat of a grant has passed. What a longer transfer has left requests again as a new request (R100). -/
def Dev.grantEnds (d : Dev) (q : Req) : Dev :=
  let n := min 8 q.beats
  let (d, sent) := d.delivered q n
  let rest : List Req := if q.beats ≤ 8 then [] else
    [{ q with beats := q.beats - 8, addr := q.addr + 512, data := q.data.map (List.drop 512), since := d.now,
              limit := d.reqLimit q.target, waited := 0, aged := false }]
  { d with fab := { d.fab with granted := d.fab.granted ++ [{ sent with beats := n }], reqs := d.fab.reqs ++ rest } }

/-- A beat of the transfer that holds a target passes; a grant decided in the cycle before begins if none does (R98, R100). A
link that trains lets no beat pass (R114). -/
def Dev.beat (d : Dev) (target : Nat) : Dev :=
  let clear := fun (d : Dev) => { d with fab := { d.fab with burst := tabDel d.fab.burst target } }
  let go := fun (d : Dev) (q : Req) n =>
    if n ≤ 1 then (clear d).grantEnds q
    else { d with fab := { d.fab with burst := tabIns d.fab.burst target (q, n - 1) } }
  if target = 3 ∧ d.linkShut 2 then d else
  match tabFind d.fab.burst target with
  | some (q, n) => go d q n
  | none =>
    match tabFind d.fab.decided target with
    | some q => go { d with fab := { d.fab with decided := tabDel d.fab.decided target } } q (min 8 q.beats)
    | none => d

/-- The grant that a free target issues in its next cycle is decided from the requests, credits and priorities of this
one, and takes its credit (R98). An isolated port receives none (R105). -/
def Dev.decideNext (d : Dev) (target : Nat) : Dev :=
  if (tabFind d.fab.burst target).isSome || (tabFind d.fab.decided target).isSome then d
  else
    let cand := d.fab.reqs.filter (fun r => r.target == target && d.creditFree target r.cls && !d.crossIsolated (portUnit r.port))
    match d.arbitrate target cand with
    | none => d
    | some g =>
      { d with fab := { d.fab with reqs := d.fab.reqs.erase g, decided := tabIns d.fab.decided target g,
                                    rr := tabPut d.fab.rr 63 (3 * target + classNo g.cls) g.port } }

/-- A response reaches its initiator: read data of strike SRAM leave with it, and a Bolt DRAM read is measured. -/
def Dev.respond (d : Dev) (q : Req) : Dev :=
  let d := if q.boltRead then d.dramMeasure q.since else d
  match q.data with
  | some (b :: bs) => if q.target = 1 then d.emit (.completion q.port 0 (b :: bs)) else d
  | _ => d

/-- The responses of a target reach their initiators; those that the target gives now take their channel, which frees the
credits of their requests (R91). A response through link 2 acknowledges the flits up to its request's. -/
def Dev.responses (d : Dev) (target : Nat) (ports : List Nat) : Dev :=
  let done := d.fab.resp.filter (fun q => q.target == target)
  let d := done.foldl Dev.respond { d with fab := { d.fab with resp := d.fab.resp.filter (fun q => !(q.target == target)) } }
  ports.foldl (fun d p =>
    match d.fab.granted.find? (fun q => q.port == p && q.target == target) with
    | none => d
    | some q =>
      let d : Dev := { d with fab := { d.fab with granted := d.fab.granted.erase q, resp := d.fab.resp ++ [q] } }
      if target = 3 then d.ackFlits 2 q.flit else d) d

/-- The place of a request in its host port's order (R184): walk and log traffic, then the VIs round robin after the one
served last, then what belongs to no VI. -/
def outRank (last : Nat) (q : Req) : Nat :=
  if q.port = 24 then 0 else if q.tag % 4 = 3 then 1 + rrDist last (q.tag / 16) else 65

/-- A host port sends one of the requests granted to it. -/
def Dev.outbound (d : Dev) (p : Nat) : Dev :=
  let l := d.fab.granted.filter (fun q => q.target == 4 && reqUnit q == 0x080 + p && !q.sent)
  match firstBy (outRank (tabGet d.fab.dmaLast 63 p)) l with
  | none => d
  | some q =>
    { d with fab := { d.fab with
        granted := d.fab.granted.map (fun x => if x == q then { x with sent := true } else x),
        dmaLast := if q.tag % 4 = 3 then tabPut d.fab.dmaLast 63 p (q.tag / 16) else d.fab.dmaLast } }.emit
      (.outbound p q.port q.tag)

/-- One fabric cycle of a target's arbiter (R98): responses, words out of the crossings, the beat of the grant that is
issued, the decision for the next cycle, and the wait of the requests that are left. -/
def Dev.arbDecide (d : Dev) (target : Nat) (answered : List Nat) : Dev :=
  let d := ((((d.responses target answered).crossingTake target).beat target).decideNext target).cycleWaited target
  (if target = 4 then forAll (upFrom 0 4) (fun p d => d.outbound p) d else d).fabGo

/-! ### Time-outs (R83, R95) -/

/-- A request leaves the crossbar, wherever it stands. -/
def Dev.reqDrop (d : Dev) (q : Req) : Dev :=
  { d with fab := { d.fab with
      granted := d.fab.granted.erase q, reqs := d.fab.reqs.erase q,
      burst := d.fab.burst.filter (fun e => !(e.2.1 == q)), decided := d.fab.decided.filter (fun e => !(e.2 == q)),
      cross := d.fab.cross.map (fun e => (e.1, { e.2 with words := e.2.words.erase q })) } }

/-- A word was not acknowledged within 10 µs (R83). Nothing happens where the receiver is isolated: its isolation cell
answers at once (R82). -/
def Dev.crossingTimeout (d : Dev) (pid sender : Nat) : Dev :=
  if d.isolated pid || !d.implemented pid then d
  else
    let d := match d.outstanding.find? (fun q => portUnit q.port / 16 == sender && reqUnit q == pid) with
      | some q => (d.reqDrop q).emit (.errorResponse q.port)
      | none => d.emit (.event 83 [sender])
    ((d.err pid errHandshake).addSat xbPid F.XB_HS_CNT_COUNT).openFault 9 2 pid sender |>.fabGo

/-- A request ends by its timeout (R95): the error response, the initiator's TIMEOUT, the counters, and the fault of the unit
that it addressed. -/
def Dev.timedOut (d : Dev) (port target unit : Nat) : Dev :=
  let d := (d.emit (.errorResponse port)).err (portHome port) errTimeout
  let d := ((d.add xbPid F.XB_TMO_CNT_COUNT).w xbPid F.XB_LASTTMO_PORT port).w xbPid F.XB_LASTTMO_TARGET target
  d.openFault 5 1 unit port

/-- A request of a port at a target, of a register access the one that names a page, has had no response within its timeout
(R95). -/
def Dev.expired (d : Dev) (port target page : Nat) (q : Req) : Bool :=
  q.port == port && q.target == target && (!(target == 2 || target == 3) || q.page == page) && decide (q.since + q.limit ≤ d.now)

/-- The oldest such request ends; one that its target has is late from now on. -/
def Dev.responseTimeout (d : Dev) (port target page : Nat) : Dev :=
  match d.outstanding.find? (d.expired port target page) with
  | some q =>
    let late := if d.fab.granted.contains q then d.fab.late ++ [(port, target)] else d.fab.late
    (({ d.reqDrop q with fab := { (d.reqDrop q).fab with late := late } }).timedOut port target (reqUnit q)).fabGo
  | none => d

/-- A response after its request's timeout is discarded and counted (R95). -/
def Dev.lateResponse (d : Dev) (port target : Nat) : Dev :=
  if d.fab.late.contains (port, target) then
    { d with fab := { d.fab with late := d.fab.late.erase (port, target) } }.addSat xbPid F.XB_LATE_CNT_COUNT
  else d

/-! ### The drain (R102) -/

/-- TEST_REQ is written (R102): outstanding requests drain before the new mode. -/
def Dev.testRequest (d : Dev) (on_ : Bool) : Dev :=
  let m := d.r xbPid F.XB_MODE_MODE
  if on_ && m == 0 then { d with fab := { d.fab with drainTo := some 2 } }
  else if !on_ && (m == 2 || d.fab.drainTo == some 2) then { d with fab := { d.fab with drainTo := some 0 } }
  else d

/-- Every outstanding request has been served, its response too. -/
def Dev.drained (d : Dev) : Dev :=
  let serve := fun (d : Dev) (q : Req) => let (d, q) := d.delivered q q.beats; d.respond q
  let rest := d.fab.burst.map (fun e => e.2.1) ++ d.fab.decided.map (fun e => e.2) ++ d.fab.reqs ++
    d.fab.cross.flatMap (fun e => e.2.words)
  let d' := rest.foldl serve ((d.fab.resp ++ d.fab.granted).foldl Dev.respond d)
  { d' with fab := { d'.fab with cross := [], reqs := [], decided := [], burst := [], granted := [], resp := [] } }

/-- The drain is over and the crossbar takes its new mode (R102). Requests that came meanwhile are held by their
initiators and enter now, in that mode (DESIGN CHOICE, log entry 84). -/
def Dev.drainDone (d : Dev) : Dev :=
  match d.fab.drainTo with
  | none => d
  | some m =>
    let d := d.drained
    let held := d.fab.waiting
    held.foldl Dev.reqEnter ({ d with fab := { d.fab with drainTo := none, waiting := [] } }.w xbPid F.XB_MODE_MODE m)

/-! ### The slot wheel (R106 to R110) -/

/-- The owner that a snapshot of the page gives a slot. -/
def snapSlot (snap : List (Nat × Nat)) (slot : Nat) : Nat :=
  tabGet snap ((slotField (slot % 4)).rstAt (slot / 4)) (fieldKey swPid (slotField (slot % 4)) (slot / 4))

/-- Copy the applied set to the active wheel. -/
def Dev.wheelShow (d : Dev) : Dev :=
  forAll (upFrom 0 64) (fun s d => d.w swPid (actField (s % 4)) (d.a swPid (slotField (s % 4)) (s / 4)) (s / 4)) d

/-- The slots in the stride order of R108, the Bolt slots skipped. -/
def strideOrder : List Nat := (upFrom 1 15).flatMap (fun r => (upFrom 0 4).map (fun q => 16 * q + r))

/-- The Latch reservation of an owner code 2 to 12 (R21, R139). -/
def Dev.reservation (d : Dev) (code : Nat) : Nat :=
  if 2 ≤ code ∧ code ≤ 9 then d.headSlots (code - 2)
  else if code = 10 then d.hb 0x20 else if code = 11 then d.hb 0x21 else if code = 12 then d.hb 0x22 else 0

/-- The sum of the Latch reservations. -/
def Dev.latchSum (d : Dev) : Nat := (upFrom 2 11).foldl (fun n c => n + d.reservation c) 0

/-- The Latch owners in the order of R108, each as often as it has slots. -/
def Dev.latchOwners (d : Dev) : List Nat := (upFrom 2 11).flatMap (fun c => List.replicate (d.reservation c) c)

/-- The owner of a slot in the wheel built at the lock (R108). -/
def Dev.builtOwner (d : Dev) (slot : Nat) : Nat :=
  if slot % 16 = 0 then 1 else (d.latchOwners[strideOrder.idxOf slot]?).getD 0

/-- Build the active wheel and the shadow wheel at the lock (R108). -/
def Dev.buildWheel (d : Dev) : Dev :=
  let b := d
  forAll (upFrom 0 64) (fun s d =>
    let v := b.builtOwner s
    ((d.w swPid (slotField (s % 4)) v (s / 4)).wa swPid (slotField (s % 4)) v (s / 4)).w swPid (actField (s % 4)) v
      (s / 4)) d

/-- The check of a wheel set (R109): RANGE before HINGE. -/
def Dev.wheelCheck (d : Dev) (snap : List (Nat × Nat)) : Option Nat :=
  let own := (upFrom 0 64).map (snapSlot snap)
  if own.any (fun o => decide (12 < o)) then some 3
  else if (upFrom 0 64).any (fun s => (snapSlot snap s == 1) != (s % 16 == 0)) then some 7
  else if d.locked then
    if (upFrom 2 11).any (fun c => !((own.filter (· == c)).length == d.reservation c)) then some 7 else none
  else if own.any (fun o => decide (2 ≤ o)) then some 7 else none

/-- The wrap (R106, R110): the turn is counted and timed; a pending set checked before the cut-off takes effect. -/
def Dev.wheelWrap (d : Dev) (inTime : Bool) : Dev :=
  let (t, d) := d.stamp swPid
  let d := (d.add swPid F.SW_STAT_TURN).w64 swPid F.SW_WRAP_LO_TIME F.SW_WRAP_HI_TIME t
  if inTime && (d.ctl swPid).pend.isSome then
    if d.blockFault swPid then d.discardPend swPid else (d.applyPend swPid (fun _ => true)).wheelShow
  else d

/-! ### Device time (R84 to R88) -/

/-- The sum rate before and after the clamp (R85). -/
def Dev.rateSum (d : Dev) : Int := sx 19 (d.r dtPid F.DT_TRIM_PPB) + sx 19 (d.r dtPid F.DT_SYNCTRIM_PPB)
def Dev.rate (d : Dev) : Int := clampI (-200000) 200000 d.rateSum

/-- The increment of a tick over the 24·10^9 part of a unit of the count: (26 + 1/24) ns at the rate, that is
625·(10^9 + rate) parts of 24·10^9 of a ns. -/
def Dev.tickParts (d : Dev) : Nat := (625 * (1000000000 + d.rate)).toNat * countUnit + d.fab.carry

/-- What the repeater shows (R87): the newest value of the time lane that has crossed the link, with the link delay added. -/
def repeaterShows (lane : List Nat) (ofs now before : Nat) : Nat :=
  match lane.find? (fun v => decide (v + ofs ≤ now)) with
  | some v => v + ofs
  | none => before

/-- The time master drives the new device time on the time bus, and the lane of link 2 carries it to the repeater (R87). The
lane holds what may still be on its way: PL_LAT has 10 bits. -/
def Dev.driveTime (d : Dev) : Dev :=
  let t := d.now
  let lane := (t :: d.fab.lane).take 48
  { d with fab := { d.fab with bus := t, strobe := !d.fab.strobe, lane := lane,
                                repeated := repeaterShows lane (d.r dtPid F.DT_LINKOFS_NS) t d.fab.repeated } }

/-- A reference tick (R84 to R87, R121): AUTO and the rate take effect, the trimmed increment and any forward step are added,
and the new time is driven. -/
def Dev.refTick (d : Dev) : Dev :=
  if !d.fab.hingeOn then d
  else
    let auto := d.on dtPid F.DT_CTRL_AUTO
    let d := if auto then d else d.w dtPid F.DT_SYNCTRIM_PPB 0
    let clamped := decide (d.rate ≠ d.rateSum)
    let parts := d.tickParts
    let d := { d with fab := { d.fab with
      count := (d.fab.count + parts / 24000000000 + d.fab.stepNs * countUnit) % (2 ^ 64 * countUnit),
      carry := parts % 24000000000, stepNs := 0, auto := auto } }
    let d := (d.w dtPid F.DT_STAT_CLAMP (b2n clamped)).driveTime
    if clamped then d.err dtPid 10 else d

/-- A forward step is accepted (R86); it is added at the next reference tick. -/
def Dev.timeStep (d : Dev) (ns : Nat) : Dev := { d with fab := { d.fab with stepNs := d.fab.stepNs + ns } }

/-! ### Pintle links (R112 to R114) -/

/-- Data lanes and spare lanes of a link each way (R112). -/
def linkLanes (link : Nat) : Nat := [96, 48, 8, 2].getD link 0
def linkSpares (link : Nat) : Nat := [4, 2, 1, 1].getD link 0

/-- Close the open faults of a cause on a page. -/
def Dev.closeCause (d : Dev) (cause pid : Nat) : Dev :=
  (d.flt.faults.filter (fun f => f.cause == cause && f.pid == pid && f.level == 1)).foldl (fun d f => d.closeFault f) d

/-- The spare lanes still free. -/
def Dev.freeSpares (d : Dev) (link : Nat) : Nat :=
  linkSpares link - ((upFrom 0 4).filter (fun k => d.on (plPid link) F.PL_SPARE_VALID k)).length

/-- A link goes to TRAIN: its traffic is held, and the count of attempts starts again. -/
def Dev.linkTrain (d : Dev) (link : Nat) : Dev :=
  (d.setLink link { d.link link with attempts := 0, replays := 0, retrain := false }).w (plPid link) F.PL_STAT_STATE 1

/-- Reset of both dies' link clusters is released: DOWN to TRAIN. -/
def Dev.linkStart (d : Dev) (link : Nat) : Dev :=
  if d.r (plPid link) F.PL_STAT_STATE = 0 then d.linkTrain link else d

/-- Training completes: UP, the latency is measured, and link 2 loads `DT_LINKOFS`. SPARES shows the spares from the first
training result on, and 0 before it (DESIGN CHOICE, log entry 85). -/
def Dev.linkUp (d : Dev) (link latency : Nat) : Dev :=
  let p := plPid link
  if d.r p F.PL_STAT_STATE = 1 then
    let d := ((d.w p F.PL_STAT_STATE 2).w p F.PL_LAT_NS latency).w p F.PL_STAT_LANES (linkLanes link)
    let d := d.w p F.PL_STAT_SPARES (d.freeSpares link)
    let d := if link = 2 then d.w dtPid F.DT_LINKOFS_NS latency else d
    (d.setLink link { d.link link with attempts := 0, replays := 0, retrain := false }).closeCause 6 p
  else d

/-- Substitute a spare for one failing lane, if one is free. -/
def Dev.spareLane (d : Dev) (link lane : Nat) : Dev :=
  let p := plPid link
  match (upFrom 0 (linkSpares link)).find? (fun k => !d.on p F.PL_SPARE_VALID k) with
  | none => d
  | some k => (d.w p F.PL_SPARE_LANE lane k).w p F.PL_SPARE_VALID 1 k

/-- A training attempt fails: spares are substituted and training is tried again, or the link goes DOWN with a die-level
fault at the fourth attempt or with no spare left. With SPARE_AUTO 0 the link tries again without a substitution. -/
def Dev.linkFail (d : Dev) (link : Nat) (lanes : List Nat) : Dev :=
  let p := plPid link
  if d.r p F.PL_STAT_STATE = 1 then
    let n := (d.link link).attempts + 1
    let d := d.setLink link { d.link link with attempts := n }
    if 4 ≤ n ∨ d.freeSpares link = 0 then
      (((d.w p F.PL_STAT_STATE 0).w p F.PL_STAT_LANES 0).err p 12).openFault 12 4 p link
    else if d.on p F.PL_CTRL_SPARE_AUTO then
      let d := (forAll lanes (fun l d => d.spareLane link l) d).err p 11
      d.w p F.PL_STAT_SPARES (d.freeSpares link)
    else d
  else d

/-- A flit arrives with a CRC error in UP: those before it are acknowledged, and the replay buffer sends again from it on
(R113, R114). -/
def Dev.linkCrcError (d : Dev) (link seq : Nat) : Dev :=
  let p := plPid link
  if d.r p F.PL_STAT_STATE = 2 then
    let x := d.link link
    let un := if x.unacked.any (fun f => f.seq == seq) then x.unacked.dropWhile (fun f => !(f.seq == seq)) else x.unacked
    let d := ((d.add p F.PL_CRC_COUNT).add p F.PL_REPLAY_COUNT).w p F.PL_STAT_STATE 3
    d.setLink link { x with unacked := un, replays := 1 }
  else d

/-- A replay ends: good, and the flit is acknowledged; or failed, and the third failure of one flit retrains the link with a
unit-level fault. A RETRAIN that waited for the end of the flit follows (DESIGN CHOICE, log entry 86). -/
def Dev.linkReplayEnd (d : Dev) (link : Nat) (good : Bool) : Dev :=
  let p := plPid link
  let x := d.link link
  if d.r p F.PL_STAT_STATE = 3 then
    if good then
      let d := ((d.w p F.PL_STAT_STATE 2).err p 10).setLink link { x with unacked := x.unacked.tail, replays := 0 }
      if x.retrain then d.linkTrain link else d
    else
      let d := d.add p F.PL_CRC_COUNT
      if 3 ≤ x.replays then (d.linkTrain link).openFault 6 1 p link
      else (d.setLink link { x with replays := x.replays + 1 }).add p F.PL_REPLAY_COUNT
  else d

/-- `PL_CTRL.RETRAIN` is written to 1: UP to TRAIN. In REPLAY it waits for the end of the current flit, in TRAIN the
training that runs is the one it asks for, and a link that is DOWN stays so (R114, R122; DESIGN CHOICE, log entry 86). -/
def Dev.linkRetrain (d : Dev) (link : Nat) : Dev :=
  let st := d.r (plPid link) F.PL_STAT_STATE
  if st = 2 then d.linkTrain link
  else if st = 3 then d.setLink link { d.link link with retrain := true }
  else d

end Sys2Proof.Machine
end

