-- ==== Sys2Proof/Machine/Irq.lean ====
section
/-! DEFINITION. The interrupt controller: sources, targets, priorities, claims and completions (R419 to R432). -/

namespace Sys2Proof.Machine

open Sys2Proof

/-! ### Sources (R419 to R422) -/

/-- The page through which a source's owner sees its `IR_SRC`, and its index there (R437, R438). -/
def srcPage (s : Nat) : Nat :=
  if s < 256 then viPage (s / 4) 3 else if s < 272 then 0x330 + (s - 256) / 4 else if s < 320 then 0x334 else 0x335

def srcIdx (s : Nat) : Nat := if s < 256 then s % 4 else s

/-- A field of a source's `IR_SRC` as its owner's page holds it. -/
def srcField (s : Nat) (f : FD) : FD := if s < 256 then viSrc f else f

def Dev.srcPrio (d : Dev) (s : Nat) : Nat := d.r (srcPage s) (srcField s F.IR_SRC_PRIO) (srcIdx s)
def Dev.srcTargets (d : Dev) (s : Nat) : Nat := d.r (srcPage s) (srcField s F.IR_SRC_TARGETS) (srcIdx s)

/-- The owner that R420 gives a source. -/
def Dev.srcOwner (d : Dev) (s : Nat) : Nat :=
  if s < 256 then codeVi (d.viPort (s / 4)) (s / 4) else if s < 272 then codePf ((s - 256) / 4)
  else if s < 278 then codeOpen else codeWard

/-- The source is reserved (R420). -/
def srcReserved (s : Nat) : Bool := (decide (278 ≤ s) && decide (s < 320)) || decide (364 ≤ s)

/-- The source is live (R421). -/
def Dev.srcLive (d : Dev) (s : Nat) : Bool :=
  if d.locked then !srcReserved s && !bit (d.irqOwnerCode s) 15 && (!decide (s < 256) || decide (s / 4 < d.nVis))
  else decide (320 ≤ s) && decide (s < 364)

/-- A page that has an interrupt source of its own in R420. -/
def ownSource (pid : Nat) : Option Nat :=
  match kindOf pid with
  | some (.ledger, _) => some 331
  | some (.crc, h) => some (340 + h)
  | some (.strikeCtl, _) => some 348
  | some (.classPage, _) => some 349
  | some (.checkEngine, e) => some (350 + e)
  | some (.memCtl, _) | some (.eccZones, _) | some (.remap, _) | some (.sramRepair, _) | some (.diag, _)
  | some (.dramPhy, _) => some 358
  | some (.pintle, n) => some (359 + n)
  | some (.wardHaptic, _) | some (.tones, _) => some 363
  | _ => none

/-- The pages whose `PAGE_ERR` is not 0, each once or twice. -/
def Dev.errPages (d : Dev) : List Nat :=
  d.regs.filterMap (fun e => if keyOff e.1 = 0x010 then some (keyPage e.1) else none)

/-- The OR of the page interrupts of the pages that a test selects. -/
def Dev.pagesLine (d : Dev) (sel : Nat → Bool) : Bool := d.errPages.any (fun p => sel p && d.errLine p)

/-- An owner's pages: every page it holds without a source of its own (R420). -/
def Dev.ownerLine (d : Dev) (code : Nat) : Bool :=
  d.pagesLine (fun p => (ownSource p).isNone && owns (d.owner p) code)

/-- The level that the inputs of R420 give a source now. -/
def Dev.srcLevel (d : Dev) (s : Nat) : Bool :=
  let evt := fun pid => d.r pid F.IR_EVT_TOUCH
  if s < 256 then
    let p := viPage (s / 4) 3
    match s % 4 with
    | 0 => !(d.r p F.IR_CQPEND_LO_CTX == 0) || !(d.r p F.IR_CQPEND_HI_CTX == 0)
    | 1 => d.pagesLine (fun q => viOfPage q == some (s / 4))
    | 2 => !(evt p == 0)
    | _ => d.on p F.IR_EVT_FLIP
  else if s < 276 then
    let p := srcPage s
    match s % 4 with
    | 0 => d.ownerLine (d.srcOwner s)
    | 1 => d.on p F.IR_EVT_MAILBOX
    | 2 => !(evt p == 0)
    | _ => d.on p F.IR_EVT_FLIP
  else if s = 276 then d.on 0x084 F.PP_REQ_PENDING
  else if s = 277 then
    d.on 0x390 F.PM_EVT_DONE || d.on 0x390 F.PM_EVT_WAKE || d.on 0x390 F.PM_EVT_THERM
  else if s = 320 then d.ownerLine codeWard
  else if s = 321 then d.on 0x335 F.IR_ORPHAN_PENDING
  else if s = 322 then !(d.r ftPid F.FT_STAT_UNREAD == 0)
  else if s = 323 then d.on 0x410 F.RB_EMGSTAT_HELD
  else if s = 324 then !(d.r 0x410 F.RB_RX_COUNT == 0)
  else if s = 325 then !d.doeWaiting.isEmpty
  else if 326 ≤ s ∧ s < 331 then d.mboxUnread.contains (s - 326)
  else if 332 ≤ s ∧ s < 340 then !(d.r (0x581 + 16 * (s - 332)) F.TB_STAT_FILL == 0)
  else d.pagesLine (fun p => ownSource p == some s)

/-! ### Targets (R423, R424) -/

/-- The page of a target: ward pilot, open pilots, VI vectors, PFs. -/
def tgtPage (t : Nat) : Nat :=
  if t = 0 then 0x347 else if t ≤ 3 then 0x343 + t else if t < 68 then viPage (t - 4) 3 else 0x340 + (t - 68) % 4

/-- The PCIe function of a VI vector or a PF target. -/
def tgtFn (t : Nat) : Nat := if t < 68 then t else t - 68

def Dev.fnOk (d : Dev) (n : Nat) : Bool :=
  let c := tabGet d.fn {} n
  c.msixEn && !c.funcMask && c.dstate == 0

/-- The target is enabled (R423). -/
def Dev.tgtEnabled (d : Dev) (t : Nat) : Bool :=
  let ten := d.on (tgtPage t) F.IR_TGT_TEN
  if t = 0 then d.r 0x401 F.WR_STAT_STATE == 0 && ten
  else if t ≤ 3 then (d.r 0x380 F.OP_STAT_RUN).testBit (t - 1) && decide (d.r 0x390 F.PM_STAT_STATE ≤ 1) && ten
  else if t < 68 then [3, 5, 6].contains (d.viState (t - 4)) && d.fnOk (tgtFn t)
  else d.fnOk (tgtFn t) && d.on (0x080 + (t - 68)) F.HP_LINK_DLUP && ten

/-- The highest bit set in a 16-bit number; none for 0. -/
def topBit (v : Nat) : Nat → Option Nat
  | 0 => none
  | n + 1 => if v.testBit n then some n else topBit v n

/-- The running priority of a target (R424). -/
def Dev.runPrio (d : Dev) (t : Nat) : Nat :=
  max (d.r (tgtPage t) F.IR_TGT_THRESH) ((topBit (d.r (tgtPage t) F.IR_INSVC_PRIO) 16).getD 0)

/-- The targets that `IR_SRCs.TARGETS` names (R425). -/
def Dev.srcSet (d : Dev) (s : Nat) : List Nat :=
  let m := d.srcTargets s
  if s < 256 then (if m.testBit 0 then [4 + s / 4] else [])
  else if s < 272 then (if m.testBit 0 then [68 + (s - 256) / 4] else [])
  else if s < 320 then (upFrom 0 3).filterMap (fun k => if m.testBit k then some (1 + k) else none)
  else if m.testBit 0 then [0] else []

/-- The enabled targets of a source's set, rising. -/
def Dev.srcEnabled (d : Dev) (s : Nat) : List Nat := (d.srcSet s).filter d.tgtEnabled

def Dev.src (d : Dev) (s : Nat) : Src := tabGet d.irq.src {} s
def Dev.setSrc (d : Dev) (s : Nat) (x : Src) : Dev := { d with irq := { d.irq with src := tabPut d.irq.src {} s x } }

/-- The source is pending (R424). -/
def Dev.srcPending (d : Dev) (s : Nat) : Bool :=
  d.srcLive s && (d.src s).level && decide (0 < d.srcPrio s) && (d.src s).svc.isNone

/-! ### The delivery decision (R425, R426) -/

/-- The next enabled target after the one last assigned, in rising order, going round. -/
def nextTarget (last : Nat) (en : List Nat) : Option Nat :=
  match en.find? (fun t => decide (last < t) && !(last == 127)) with
  | some t => some t
  | none => en.head?

/-- Assign one source, or take away an assignment that no longer stands. -/
def Dev.assign (d : Dev) (s : Nat) : Dev :=
  let en := d.srcEnabled s
  let alone := if d.srcPending s && en.isEmpty then (d.src s).alone <|> some d.now else none
  let x := { d.src s with alone := alone }
  if d.srcPending s then
    match x.asg with
    | some t => if en.contains t then d.setSrc s x else
        match nextTarget x.last en with
        | some u => d.setSrc s { x with asg := some u, last := u, orphan := false }
        | none => d.setSrc s { x with asg := none }
    | none =>
      match nextTarget x.last en with
      | some u => d.setSrc s { x with asg := some u, last := u, orphan := false }
      | none => d.setSrc s x
  else if x.svc.isSome then d.setSrc s x else d.setSrc s { x with asg := none, orphan := false }

/-- The sources that the controller has seen. -/
def Dev.sources (d : Dev) : List Nat := d.irq.src.map (·.1)

/-- A target is signalled: a source assigned to it is pending above its running priority (R426). -/
def Dev.signalled (d : Dev) (t : Nat) : Bool :=
  d.sources.any (fun s => (d.src s).asg == some t && d.srcPending s && decide (d.runPrio t < d.srcPrio s))

/-- The message address and data of a target: its own fields on a PF page, the PF's VI block for a VI vector (R432). -/
def Dev.msixAddr (d : Dev) (t : Nat) : Nat :=
  if t < 68 then
    let p := 0x340 + d.viPort (t - 4)
    4 * d.r p F.IM_ADDR_LO_ADDR (t - 4) + 2 ^ 32 * d.r p F.IM_ADDR_HI_ADDR (t - 4)
  else 4 * d.r (tgtPage t) F.MX_ADDR_LO_ADDR + 2 ^ 32 * d.r (tgtPage t) F.MX_ADDR_HI_ADDR

def Dev.msixData (d : Dev) (t : Nat) : Nat :=
  if t < 68 then d.r (0x340 + d.viPort (t - 4)) F.IM_DATA_DATA (t - 4) else d.r (tgtPage t) F.MX_DATA_DATA

/-- Send a target's message (R426). -/
def Dev.sendMsix (d : Dev) (t : Nat) : Dev :=
  (d.emit (.msix t (d.msixAddr t) (d.msixData t))).add (tgtPage t) F.IR_TSTAT_SIGNALS

/-- A target's signalled condition as it was and as it is: the line or the message at its rise, the PBA cleared at its
end (R426). -/
def Dev.signal (d : Dev) (t : Nat) : Dev :=
  let was := d.irq.lines.contains t
  let is := d.signalled t
  if is && !was then
    let d := { d with irq := { d.irq with lines := d.irq.lines ++ [t] } }
    if t ≤ 3 then (d.emit (.line t)).add (tgtPage t) F.IR_TSTAT_SIGNALS
    else if d.on (tgtPage t) F.MX_CTRL_MASK then d.w (tgtPage t) F.MX_PBA_PEND 1
    else d.sendMsix t
  else if !is && was then
    let d := { d with irq := { d.irq with lines := d.irq.lines.filter (fun u => !(u == t)) } }
    if t ≤ 3 then d else d.w (tgtPage t) F.MX_PBA_PEND 0
  else d

/-- One delivery decision. -/
def Dev.irqDecide (d : Dev) : Dev :=
  let d := d.sources.foldl (fun d s => d.assign s) d
  forAll (upFrom 0 72) (fun t d => d.signal t) d

/-- A source's level reaches the controller (R419). -/
def Dev.levelChange (d : Dev) (s : Nat) : Dev := d.setSrc s { d.src s with level := d.srcLevel s }

/-! ### Claim, completion, target reset, unmask, orphan -/

/-- The source that a claim by a target returns (R427). -/
def Dev.claimable (d : Dev) (t : Nat) : Option Nat :=
  (d.sources.filter (fun s => (d.src s).asg == some t && d.srcPending s && decide (d.runPrio t < d.srcPrio s))).foldl
    (fun b s => match b with
      | none => some s
      | some q => if d.srcPrio q < d.srcPrio s ∨ (d.srcPrio q = d.srcPrio s ∧ s < q) then some s else some q) none

/-- A read of `IR_CLAIM` by a target (R427); the value read stands in the register's fields. -/
def Dev.claim (d : Dev) (t : Nat) : Dev :=
  let p := tgtPage t
  match d.claimable t with
  | none => ((d.w p F.IR_CLAIM_VALID 0).w p F.IR_CLAIM_SOURCE 0).w p F.IR_CLAIM_PRIO 0
  | some s =>
    let k := d.srcPrio s
    let d := ((d.w p F.IR_CLAIM_VALID 1).w p F.IR_CLAIM_SOURCE s).w p F.IR_CLAIM_PRIO k
    let d := d.w p F.IR_INSVC_PRIO (d.r p F.IR_INSVC_PRIO ||| 2 ^ k)
    d.setSrc s { d.src s with svc := some (t, k), orphan := false }

/-- Complete the source in service on a target at priority k (R428): its level is sampled, its service ends. -/
def Dev.completeAt (d : Dev) (t k : Nat) : Dev :=
  match d.sources.find? (fun s => (d.src s).svc == some (t, k)) with
  | none => d
  | some s =>
    let p := tgtPage t
    let d := d.w p F.IR_INSVC_PRIO (d.r p F.IR_INSVC_PRIO &&& (65535 - 2 ^ k))
    d.setSrc s { d.src s with svc := none, asg := none, level := d.srcLevel s }

/-- A write of 1s to `IR_INSVC` of a target. -/
def Dev.complete (d : Dev) (t bits : Nat) : Dev :=
  forAll (upFrom 0 16) (fun k d => if bits.testBit k then d.completeAt t k else d) d

/-- A target is reset: every source in service on it is completed (R429). -/
def Dev.targetReset (d : Dev) (t : Nat) : Dev := d.complete t 65535

/-- A vector's mask is cleared (R426): a pending message is sent if its condition still holds. -/
def Dev.unmask (d : Dev) (t : Nat) : Dev :=
  if d.on (tgtPage t) F.MX_PBA_PEND then
    let d := d.w (tgtPage t) F.MX_PBA_PEND 0
    if d.signalled t then d.sendMsix t else d
  else d

/-- A pending source has had no enabled target for 1 ms (R430): it is reported once in an episode. -/
def Dev.orphan (d : Dev) (s : Nat) : Dev :=
  let due := match (d.src s).alone with
    | some t => decide (t + 1000000 ≤ d.now)
    | none => false
  if d.srcPending s && (d.srcEnabled s).isEmpty && !(d.src s).orphan && due then
    let d := d.setSrc s { d.src s with orphan := true, asg := none }
    ((d.w 0x335 F.IR_ORPHAN_SOURCE s).w 0x335 F.IR_ORPHAN_PENDING 1).addSat 0x335 F.IR_ORPHAN_COUNT
  else d

/-! ### Event latches (R422) -/

/-- The owner page of an owner code: where its event latches are. -/
def evtPage (code : Nat) : Nat :=
  if code % 4 = 3 then viPage (code / 16 % 64) 3 else if code % 4 = 2 then 0x330 + code / 4 % 4
  else if code % 4 = 1 then 0x334 else 0x335

def Dev.evtFlip (d : Dev) (code : Nat) : Dev := d.w (evtPage code) F.IR_EVT_FLIP 1
def Dev.evtTouch (d : Dev) (code port : Nat) : Dev :=
  d.w (evtPage code) F.IR_EVT_TOUCH (d.r (evtPage code) F.IR_EVT_TOUCH ||| 2 ^ port)
def Dev.evtMailbox (d : Dev) (code : Nat) : Dev := d.w (evtPage code) F.IR_EVT_MAILBOX 1
def Dev.evtCq (d : Dev) (v ctx : Nat) : Dev :=
  let p := viPage v 3
  if ctx < 32 then d.w p F.IR_CQPEND_LO_CTX (d.r p F.IR_CQPEND_LO_CTX ||| 2 ^ ctx)
  else d.w p F.IR_CQPEND_HI_CTX (d.r p F.IR_CQPEND_HI_CTX ||| 2 ^ (ctx - 32))

end Sys2Proof.Machine
end

