-- ==== Sys2Proof/Machine/CheckUnits.lean ====
section
/-! DEFINITION. The check-value engines (R433 to R436). -/

namespace Sys2Proof.Machine

open Sys2Proof

/-- The width of a POLY in bits. -/
def cvWidth (poly : Nat) : Nat := if poly ≤ 1 then 32 else if poly = 2 then 16 else 8

/-- The register of a POLY after bytes; a reflected CRC's register is held reflected. -/
def cvRun (poly init : Nat) (bs : List Nat) : Nat :=
  if poly = 0 then crcLsb 0xEDB88320 init bs
  else if poly = 1 then crcLsb 0x82F63B78 init bs
  else if poly = 2 then crcMsb 16 0x1021 (init % 65536) bs
  else crcMsb 8 0x1D (init % 256) bs

/-- The finalised value of a register (R433). -/
def cvFinal (poly r : Nat) : Nat :=
  if poly ≤ 1 then r ^^^ 0xFFFFFFFF else if poly = 2 then r else r ^^^ 0xFF

def cvPid (e : Nat) : Nat := 0x020 + e

/-- The bytes of the space that SPACE names (R434): DRAM by its address, strike SRAM and ward SRAM by offset. The flag
is false where the read receives an error response. -/
def Dev.cvRead (d : Dev) (space a n : Nat) : Dev × List Nat × Bool :=
  if space = 0 then d.mcRead 0 a n
  else if space = 1 then (match d.strikeRead a n with
    | (d, some bs) => (d, bs, true)
    | (d, none) => (d, List.replicate n 0, false))
  else (d, memRdN d.mems.ward a n, true)

/-- The data lies in its space: the ward carve-out, the 8 MiB of strike SRAM, the 4 MiB of ward SRAM (R229). -/
def Dev.cvInSpace (d : Dev) (space a n : Nat) : Bool :=
  if space = 0 then decide (2 ^ 21 * d.hd 0x10 ≤ a) && decide (a + n ≤ 2 ^ 21 * (d.hd 0x10 + d.hd 0x14))
  else if space = 1 then decide (a + n ≤ 2 ^ 23) else if space = 2 then decide (a + n ≤ 2 ^ 22) else false

def cvAlive (w : Nat) : Nat := if w = 0 then 0 else if w = 1 then 1 else if w = 2 then 2 else 4

/-- A GO on engine e (R434): the run is in progress. -/
def Dev.cvGo (d : Dev) (e : Nat) : Dev := (d.w (cvPid e) F.CV_STAT_BUSY 1).w (cvPid e) F.CV_STAT_DONEMSG 0

/-- The settings of a run lie in their ranges (R434). -/
def Dev.cvRangeOk (d : Dev) (e : Nat) : Bool :=
  let p := cvPid e
  let len := d.r p F.CV_LEN_BYTES
  let src := d.r64 p F.CV_SRC_LO_ADDR F.CV_SRC_HI_ADDR
  let sp := d.r p F.CV_CFG_SPACE
  if d.r p F.CV_CFG_MODE = 0 then
    decide (1 ≤ len) && decide (len ≤ 16777216) && d.cvInSpace sp src len
  else
    let n := d.r p F.CV_MSG_COUNT
    let aw := cvAlive (d.r p F.CV_CFG_AWIDTH)
    decide (8 ≤ len) && decide (len ≤ 4096) && decide (1 ≤ n) && decide (n ≤ 256) &&
    decide (d.r p F.CV_MSG_CRCOFF + cvWidth (d.r p F.CV_CFG_POLY) / 8 ≤ len) &&
    (aw == 0 || decide (d.r p F.CV_AOFF_AOFF + aw ≤ len)) && d.cvInSpace sp src (n * len)

/-- Classify a message's alive counter (R436). -/
def Dev.cvClassify (d : Dev) (e counter aw : Nat) : Dev :=
  let p := cvPid e
  let last := d.r p F.CV_ALAST_LAST
  if d.r p F.CV_CFG_AVALID = 0 then (d.w p F.CV_ALAST_LAST counter).w p F.CV_CFG_AVALID 1
  else if counter = (last + 1) % 2 ^ (8 * aw) then (d.w p F.CV_ALAST_LAST counter).addSat p F.CV_COUNT_OK
  else if counter = last then (d.addSat p F.CV_ALCNT_REPEAT).err p 11
  else ((d.w p F.CV_ALAST_LAST counter).addSat p F.CV_ALCNT_JUMP).err p 12

/-- A message whose bytes have been read (R434, R436). -/
def Dev.cvMessage (d : Dev) (e k : Nat) (m : List Nat) : Dev :=
  let p := cvPid e
  let poly := d.r p F.CV_CFG_POLY
  let off := d.r p F.CV_MSG_CRCOFF
  let run := cvRun poly (d.r p F.CV_INIT_VALUE) (m.take off)
  let fin := cvFinal poly run
  let d := ((d.w p F.CV_RUN_VALUE run).w p F.CV_RESULT_VALUE fin).w p F.CV_STAT_DONEMSG (k + 1)
  let aw := cvAlive (d.r p F.CV_CFG_AWIDTH)
  if ofBytesLE ((m.drop off).take (cvWidth poly / 8)) = fin then
    if aw = 0 then d else d.cvClassify e (ofBytesLE ((m.drop (d.r p F.CV_AOFF_AOFF)).take aw)) aw
  else (d.addSat p F.CV_COUNT_CRCERR).err p 10

/-- `n` messages from number `k` on, up to one whose read receives an error response: `stop` names one for which the
path to the memory gave it. The flag is false where the run ends so. -/
def Dev.cvMessages (d : Dev) (e : Nat) (stop : Option Nat) : Nat → Nat → Dev × Bool
  | _, 0 => (d, true)
  | k, n + 1 =>
    let p := cvPid e
    let len := d.r p F.CV_LEN_BYTES
    let (d, m, ok) := d.cvRead (d.r p F.CV_CFG_SPACE) (d.r64 p F.CV_SRC_LO_ADDR F.CV_SRC_HI_ADDR + k * len) len
    if !ok || stop == some k then (d, false) else (d.cvMessage e k m).cvMessages e stop (k + 1) n

/-- The run ends (R434): RANGE reads nothing; a read that receives an error response ends it with RESULT 2. -/
def Dev.cvEnd (d : Dev) (e : Nat) (readError : Option Nat) : Dev :=
  let p := cvPid e
  if !d.on p F.CV_STAT_BUSY then d
  else
    let done := fun (d : Dev) res => ((d.w p F.CV_STAT_BUSY 0).w p F.CV_STAT_RESULT res).err p 13
    if !d.cvRangeOk e then done d 1
    else if d.r p F.CV_CFG_MODE = 0 then
      let (d, bs, ok) := d.cvRead (d.r p F.CV_CFG_SPACE) (d.r64 p F.CV_SRC_LO_ADDR F.CV_SRC_HI_ADDR)
        (d.r p F.CV_LEN_BYTES)
      if !ok || readError.isSome then done d 2
      else
        let poly := d.r p F.CV_CFG_POLY
        let init := if d.on p F.CV_CFG_CONT then d.r p F.CV_RUN_VALUE else d.r p F.CV_INIT_VALUE
        let run := cvRun poly init bs
        done ((d.w p F.CV_RUN_VALUE run).w p F.CV_RESULT_VALUE (cvFinal poly run)) 0
    else
      let (d, ok) := d.cvMessages e readError 0 (d.r p F.CV_MSG_COUNT)
      done d (if ok then 0 else 2)

end Sys2Proof.Machine
end

