-- ==== Sys2Proof/Machine/Translate.lean ====
section
/-! DEFINITION. Two-stage translation, the TLB, translation faults, invalidation and the dirty-page log (R186 to
R194). -/

namespace Sys2Proof.Machine

open Sys2Proof

def vihPid (v : Nat) : Nat := 0x090 + v

def Dev.vi (d : Dev) (v : Nat) : ViSt := tabGet d.hst.vis {} v
def Dev.setVi (d : Dev) (v : Nat) (x : ViSt) : Dev := { d with hst := { d.hst with vis := tabPut d.hst.vis {} v x } }

/-- The DRAM window of a port in bytes: base and size (R188). -/
def Dev.winBase (d : Dev) (port : Nat) : Nat := 2 ^ 21 * d.a 0x084 F.PP_WIN_BASE port
def Dev.winSize (d : Dev) (port : Nat) : Nat := 2 ^ 21 * d.a 0x084 F.PP_WIN_SIZE port

/-- What a walk of one stage finds. -/
inductive WalkRes where
  /-- A leaf: output address, page size as a power of two, permissions, TGT. -/
  | leaf (out size : Nat) (r w : Bool) (tgt : Nat)
  /-- A fault of R191: kind, stage, and the GPA it met. -/
  | bad (kind stage gpa : Nat)
  deriving DecidableEq, Repr

/-! ### Requests to host memory (R162, R165, R168) -/

/-- The pieces of a byte range that lie between multiples of a size. -/
def cuts (unit : Nat) : Nat → Nat → Nat → List (Nat × Nat)
  | 0, _, _ => []
  | fuel + 1, a, n =>
    if n = 0 then []
    else
      let k := min n (unit - a % unit)
      (a, k) :: cuts unit fuel (a + k) (n - k)

/-- The pieces that lie in one 4 KiB page each. -/
def pieces : Nat → Nat → Nat → List (Nat × Nat) := cuts 4096

/-- The function that a VI's requests come from (R164, R165): VF k of its port, k from 1; 0 is the PF. -/
def Dev.vfNo (d : Dev) (v : Nat) : Nat := 1 + ((upFrom 0 v).filter (fun u => d.viPort u == d.viPort v)).length

/-- The device's requests for a range of host memory: reads of Max Read Request Size, writes of Max Payload Size. -/
def Dev.hostAsk (d : Dev) (port rid : Nat) (write : Bool) (a n : Nat) : Dev :=
  let c := tabGet d.fn {} port
  let unit := 128 * 2 ^ (if write then c.payload else c.readReq)
  (cuts unit (n / unit + 2) a n).foldl (fun d x => d.emit (.hostReq port rid write x.1 x.2)) d

/-- Bytes of host memory are read for a function of a port; false where the read ends in an error (R168) or the port is
isolated (R82), with data of zeros. -/
def Dev.hostRd (d : Dev) (port rid a n : Nat) : Dev × List Nat × Bool :=
  if d.isolated (0x080 + port) then (d, List.replicate n 0, false)
  else
    let d := d.hostAsk port rid false a n
    if d.hst.failNext.contains port then
      ({ d with hst := { d.hst with failNext := d.hst.failNext.erase port } }, List.replicate n 0, false)
    else (d, d.hostRdN port a n, true)

/-- Bytes of host memory are written for a function of a port; false where the port is isolated. -/
def Dev.hostWr (d : Dev) (port rid a : Nat) (bs : List Nat) : Dev × Bool :=
  if d.isolated (0x080 + port) then (d, false) else ((d.hostAsk port rid true a bs.length).hostWrN port a bs, true)

/-- A table read is the one that ends in an error response. -/
def Dev.tableFails (d : Dev) : Dev × Bool :=
  match d.hst.failRead with
  | none => (d, false)
  | some 0 => ({ d with hst := { d.hst with failRead := none } }, true)
  | some (n + 1) => ({ d with hst := { d.hst with failRead := some n } }, false)

/-- An 8-byte table entry at an output address, read for a function, or the kind of fault its read meets (R191): outside the
port's DRAM window, or an error response. -/
def Dev.readEntry (d : Dev) (v rid target a : Nat) : Dev × (Nat ⊕ Nat) :=
  let p := d.viPort v
  let (d, bad) := d.tableFails
  if bad then (d, .inr 5)
  else if target = 1 then
    if a + 8 ≤ d.winSize p then
      let (d, bs, ok) := d.mcRead 0 (d.winBase p + a) 8
      (d, if ok then .inl (ofBytesLE bs) else .inr 5)
    else (d, .inr 4)
  else
    let (d, bs, ok) := d.hostRd p rid a 8
    (d, if ok then .inl (ofBytesLE bs) else .inr 5)

/-- The faults that an entry can carry at a level (R187, R191): 0 for none. `sh` is the level's lowest input bit. -/
def entryFault (stage sh e : Nat) : Nat :=
  if e % 2 = 0 then 1
  else if bits e 6 6 ≠ 0 ∨ bits e 52 12 ≠ 0 then 3
  else if stage = 1 ∧ (bit e 5 ∨ bits e 48 4 ≠ 0) then 3
  else if (sh = 39 ∨ sh = 30) ∧ bit e 1 then 3
  else if sh = 12 ∧ !bit e 1 then 3
  else 0

/-- The page size of a leaf at a level (R187). -/
def leafSize (sh e : Nat) : Nat := if sh = 21 then 21 else if bit e 4 then 16 else 12

/-- The ADDR field of an entry. -/
def entryAddr (e : Nat) : Nat := 4096 * bits e 12 40

/-- An address with its low bits replaced by those of another. -/
def pageJoin (base addr size : Nat) : Nat := base / 2 ^ size * 2 ^ size + addr % 2 ^ size

/-- The stage-2 walk of a GPA from a table, down the levels left. -/
def Dev.s2walk (d : Dev) (v gpa target : Nat) : List Nat → Nat → Dev × WalkRes
  | [], _ => (d, .bad 3 2 gpa)
  | sh :: rest, tbl =>
    match d.readEntry v 0 target (tbl + 8 * bits gpa sh 9) with
    | (d, .inr k) => (d, .bad k 2 gpa)
    | (d, .inl e) =>
      let k := entryFault 2 sh e
      if k ≠ 0 then (d, .bad k 2 gpa)
      else if bit e 1 then
        let size := leafSize sh e
        let out := pageJoin (entryAddr e) gpa size
        let tgt := b2n (bit e 5)
        if tgt = 1 ∧ d.winSize (d.viPort v) ≤ out then (d, .bad 4 2 gpa)
        else (d, .leaf out size (bit e 2) (bit e 3) tgt)
      else d.s2walk v gpa target rest (entryAddr e)

def levels : List Nat := [39, 30, 21, 12]

/-- Stage 2 of a VI for a GPA. -/
def Dev.stage2 (d : Dev) (v gpa : Nat) : Dev × WalkRes :=
  let p := vihPid v
  let root := 4096 * d.r p F.VIH_S2_LO_BASE + 2 ^ 32 * d.r p F.VIH_S2_HI_BASE
  d.s2walk v gpa (d.r p F.VIH_S2_LO_TARGET) levels root

/-- A stage-1 table entry at a GPA, read through stage 2 (R187) with the VF's Requester ID (R165). -/
def Dev.readGpa (d : Dev) (v a : Nat) : Dev × (Nat ⊕ WalkRes) :=
  match d.stage2 v a with
  | (d, .leaf out _ r _ tgt) =>
    if !r then (d, .inr (.bad 2 2 a))
    else match d.readEntry v (d.vfNo v) tgt out with
      | (d, .inl e) => (d, .inl e)
      | (d, .inr k) => (d, .inr (.bad k (if k = 4 then 2 else 1) a))
  | (d, b) => (d, .inr b)

/-- The stage-1 walk of an input address from a table, down the levels left. -/
def Dev.s1walk (d : Dev) (v addr : Nat) : List Nat → Nat → Dev × WalkRes
  | [], _ => (d, .bad 3 1 0)
  | sh :: rest, tbl =>
    match d.readGpa v (tbl + 8 * bits addr sh 9) with
    | (d, .inr b) => (d, b)
    | (d, .inl e) =>
      let k := entryFault 1 sh e
      if k ≠ 0 then (d, .bad k 1 0)
      else if bit e 1 then
        let size := leafSize sh e
        (d, .leaf (pageJoin (entryAddr e) addr size) size (bit e 2) (bit e 3) 0)
      else d.s1walk v addr rest (entryAddr e)

/-- Stage 1 of an address space: mode 0 maps an address to the equal GPA (R186). -/
def Dev.stage1 (d : Dev) (v asp addr : Nat) : Dev × WalkRes :=
  let p := viPage v 0xB
  if 2 ^ 48 ≤ addr then (d, .bad 6 1 0)
  else if d.a p F.S1_ROOT_LO_MODE asp = 0 then (d, .leaf addr 48 true true 0)
  else d.s1walk v addr levels (4096 * d.a p F.S1_ROOT_LO_BASE asp + 2 ^ 32 * d.a p F.S1_ROOT_HI_BASE asp)

def Dev.epoch (d : Dev) (v asp : Nat) : Nat := tabGet (d.vi v).epochs 0 asp

/-- The dirty log of a VI is enabled, so its TLB entries are filled at 4 KiB only (R193). -/
def Dev.dlOn (d : Dev) (v : Nat) : Bool :=
  d.on (vihPid v) F.VIH_DL_CTRL_EN || d.on (vihPid v) F.VIH_DL_STAT_ACTIVE

/-- Both stages for an address: the TLB entry that the walk fills, or the fault. -/
def Dev.walkBoth (d : Dev) (v asp addr : Nat) : Dev × (TlbEntry ⊕ WalkRes) :=
  match d.stage1 v asp addr with
  | (d, .bad k s g) => (d, .inr (.bad k s g))
  | (d, .leaf gpa s1 r1 w1 _) =>
    match d.stage2 v gpa with
    | (d, .bad k s g) => (d, .inr (.bad k s g))
    | (d, .leaf out s2 r2 w2 tgt) =>
      let size := if d.dlOn v then 12 else min s1 s2
      (d, .inl { vi := v, gen := d.gen v, asp := asp, epoch := d.epoch v asp, base := addr / 2 ^ size, size := size,
                 out := out / 2 ^ size * 2 ^ size, tgt := tgt, gpa := gpa / 2 ^ size * 2 ^ size, r1 := r1, w1 := w1,
                 r2 := r2, w2 := w2 })

/-! ### The TLB (R189) -/

def TlbEntry.hits (e : TlbEntry) (v gen asp epoch addr : Nat) : Bool :=
  e.vi == v && e.gen == gen && e.asp == asp && e.epoch == epoch && e.base == addr / 2 ^ e.size

/-- The least recently used entry that a test selects is removed. -/
def dropLast (sel : TlbEntry → Bool) (l : List TlbEntry) : List TlbEntry :=
  match l.reverse.find? sel with
  | some e => (l.reverse.erase e).reverse
  | none => l

/-- Fill an entry: free space first, else the least recently used entry of a VI above its guarantee, else the VI's own. -/
def Dev.tlbFill (d : Dev) (e : TlbEntry) : Dev :=
  let t := d.hst.tlb
  let t := if t.length < 16384 then t
    else if t.any (fun x => decide (16384 / d.nVis < (t.filter (fun y => y.vi == x.vi)).length)) then
      dropLast (fun x => decide (16384 / d.nVis < (t.filter (fun y => y.vi == x.vi)).length)) t
    else dropLast (fun x => x.vi == e.vi) t
  { d with hst := { d.hst with tlb := e :: t } }

/-- The entry that an access hits. -/
def Dev.tlbFind (d : Dev) (v asp addr : Nat) : Option TlbEntry :=
  d.hst.tlb.find? (fun e => e.hits v (d.gen v) asp (d.epoch v asp) addr)

/-- An entry becomes the most recently used one. -/
def Dev.tlbTouch (d : Dev) (e e' : TlbEntry) : Dev :=
  { d with hst := { d.hst with tlb := e' :: d.hst.tlb.erase e } }

/-! ### Faults (R191) -/

/-- Record a translation fault on the VI control page, and in stage 2 on the VI host page. -/
def Dev.xlatFault (d : Dev) (v asp ctx addr : Nat) (write : Bool) (kind stage gpa : Nat) : Dev :=
  let p := viPage v 0
  let d := (((d.w p F.VIC_FAULT_STAGE stage).w p F.VIC_FAULT_KIND kind).w p F.VIC_FAULT_CTX ctx).w p F.VIC_FAULT_WRITE
    (b2n write)
  let d := (d.w p F.VIC_FAULT_ASPACE asp).addSat p F.VIC_FAULT_COUNT
  let d := ((d.w p F.VIC_FADDR_LO_ADDR (addr / 4096)).w p F.VIC_FADDR_HI_ADDR (addr / 2 ^ 32)).err p 10
  if stage = 2 then
    let q := vihPid v
    let d := ((d.w q F.VIH_FAULT_KIND kind).w q F.VIH_FAULT_CTX ctx).w q F.VIH_FAULT_WRITE (b2n write)
    ((d.addSat q F.VIH_FAULT_COUNT).w q F.VIH_FGPA_LO_ADDR (gpa / 4096)).w q F.VIH_FGPA_HI_ADDR (gpa / 2 ^ 32)
      |>.err q 10
  else d

/-! ### The dirty-page log (R193, R194) -/

/-- No further record is written until CLEAR. -/
def Dev.dlStop (d : Dev) (v : Nat) : Dev :=
  ((d.setVi v { d.vi v with dlHalt := true }).w (vihPid v) F.VIH_DL_STAT_OVERFLOW 1).err (vihPid v) 11

/-- Append the record of a GPA page to a VI's log ring in host memory, with the PF's Requester ID; a record that finds the
ring full, or whose write ends in an error, is lost, and no further one is written until CLEAR. -/
def Dev.dlAppend (d : Dev) (v gpa : Nat) : Dev :=
  let q := vihPid v
  let x := d.vi v
  let n := 2 ^ x.dlLog2
  let port := d.viPort v
  let h := d.r q F.VIH_DL_HEAD_INDEX
  if x.dlHalt then d
  else if (h + 1) % n = d.r (0x0F0 + port) F.PDB_DLTAIL_INDEX v % n then d.dlStop v
  else match d.hostWr port 0 (x.dlBase + 8 * (h % n)) (bytesLE 8 (gpa / 4096 * 4096)) with
    | (d, true) => (d.w q F.VIH_DL_HEAD_INDEX ((h + 1) % n)).add q F.VIH_DL_STAT_RECORDS
    | (d, false) => d.dlStop v

/-- A write passes stage 2 through an entry: it is logged once while the log is active. -/
def Dev.dlNote (d : Dev) (v : Nat) (e : TlbEntry) : Dev × TlbEntry :=
  if d.on (vihPid v) F.VIH_DL_STAT_ACTIVE && !e.logged then (d.dlAppend v e.gpa, { e with logged := true })
  else (d, e)

/-! ### Accesses -/

/-- Use an entry for an access: its permissions, the dirty log, the place. -/
def Dev.useEntry (d : Dev) (v ctx addr : Nat) (write : Bool) (e : TlbEntry) : Dev × Option (Nat × Nat) :=
  if if write then e.w1 && e.w2 else e.r1 && e.r2 then
    let (d1, e') := if write then d.dlNote v e else (d, e)
    (d1.tlbTouch e e', some (e.tgt, e.out + addr % 2 ^ e.size))
  else
    let stage := if (if write then e.w1 else e.r1) then 2 else 1
    (d.xlatFault v e.asp ctx addr write 2 stage (e.gpa + addr % 2 ^ e.size), none)

/-- Translate one access of a VI, walking at once where the TLB has no entry: TGT and the output address. A stale access
is refused before any lookup (R172); a faulting one is recorded. -/
def Dev.translate (d : Dev) (v gen asp ctx addr : Nat) (write : Bool) : Dev × Option (Nat × Nat) :=
  if !(gen == d.gen v) then (d, none)
  else match d.tlbFind v asp addr with
    | some e => d.useEntry v ctx addr write e
    | none =>
      match d.walkBoth v asp addr with
      | (d, .inl e) => (d.tlbFill e).useEntry v ctx addr write e
      | (d, .inr (.bad k s g)) => (d.xlatFault v asp ctx addr write k s g, none)
      | (d, .inr (.leaf ..)) => (d, none)

/-- Read bytes at a translated place, in DRAM for a wheel owner; false on an error response, with data of zeros. -/
def Dev.placeRd (d : Dev) (own v tgt out n : Nat) : Dev × List Nat × Bool :=
  let p := d.viPort v
  if tgt = 1 then d.mcRead own (d.winBase p + out) n else d.hostRd p (d.vfNo v) out n

/-- Write bytes at a translated place; false on an error response. -/
def Dev.placeWr (d : Dev) (own v tgt out : Nat) (bs : List Nat) : Dev × Bool :=
  let p := d.viPort v
  if tgt = 1 then d.mcWrite own (d.winBase p + out) bs else d.hostWr p (d.vfNo v) out bs

/-- The CQ status that accesses leave a command with (R178, R191, R168): the first that is not good counts. A fault, or a
stale access, gives FAULT, an error response HOST_ERROR. -/
def statusThen (a b : Option Nat) : Option Nat := match a with
  | some s => some s
  | none => b

/-- Read bytes at an input address, with the status of the command they are for. The data of an access that faulted, was
stale or received an error response are zeros. -/
def Dev.vmReadP (d : Dev) (v gen asp ctx : Nat) : List (Nat × Nat) → Dev × Option Nat × List Nat
  | [] => (d, none, [])
  | (a, n) :: rest =>
    let (d, r) := d.translate v gen asp ctx a false
    let (d, bs, st) := match r with
      | some (tgt, out) =>
        let (d, bs, ok) := d.placeRd 0 v tgt out n
        (d, bs, if ok then none else some 3)
      | none => (d, List.replicate n 0, some 2)
    let (d, st', bs') := d.vmReadP v gen asp ctx rest
    (d, statusThen st st', bs ++ bs')

def Dev.vmRead (d : Dev) (v gen asp ctx addr n : Nat) : Dev × Option Nat × List Nat :=
  d.vmReadP v gen asp ctx (pieces (n / 4096 + 2) addr n)

/-- Write bytes at an input address; the bytes of a faulting piece are dropped. -/
def Dev.vmWriteP (d : Dev) (v gen asp ctx : Nat) : List (Nat × Nat) → List Nat → Dev × Option Nat
  | [], _ => (d, none)
  | (a, n) :: rest, bs =>
    let (d, r) := d.translate v gen asp ctx a true
    let (d, st) := match r with
      | some (tgt, out) =>
        let (d, ok) := d.placeWr 0 v tgt out (bs.take n)
        (d, if ok then none else some 3)
      | none => (d, some 2)
    let (d, st') := d.vmWriteP v gen asp ctx rest (bs.drop n)
    (d, statusThen st st')

def Dev.vmWrite (d : Dev) (v gen asp ctx addr : Nat) (bs : List Nat) : Dev × Option Nat :=
  d.vmWriteP v gen asp ctx (pieces (bs.length / 4096 + 2) addr bs.length) bs

/-- The started command of a context with a CMD_ID takes a status, if it has none (R168, R191). -/
def Dev.failCmd (d : Dev) (v ctx : Nat) (cmd : Option Nat) (status : Nat) : Dev :=
  match d.rend.cmds.find? (fun x => x.vi == v && x.ctx == ctx && x.gen == d.gen v && x.started && x.status.isNone &&
      cmd == some x.cmdId) with
  | none => d
  | some c => { d with rend := { d.rend with cmds := d.rend.cmds.map (fun x =>
      if x.uid == c.uid then { x with status := some status } else x) } }

/-- The end of an access without data: zeros for a read, and the status of its command. -/
def Dev.accessFails (d : Dev) (k : Walk) (status : Nat) : Dev :=
  let d := d.failCmd k.vi k.ctx k.cmd status
  if k.write then d else d.emit (.data (List.replicate k.data.length 0))

/-- An access is performed through an entry: permissions, dirty log, data (R186, R189, R191, R193). -/
def Dev.accessBy (d : Dev) (k : Walk) (e : TlbEntry) : Dev :=
  match d.useEntry k.vi k.ctx k.addr k.write e with
  | (d, none) => d.accessFails k 2
  | (d, some (tgt, out)) =>
    if k.write then
      let (d, ok) := d.placeWr 0 k.vi tgt out k.data
      if ok then d else d.accessFails k 3
    else
      let (d, bs, ok) := d.placeRd 0 k.vi tgt out k.data.length
      if ok then d.emit (.data bs) else d.accessFails k 3

/-- An access of a VI (R186): on a hit it is performed, on a miss its walk is in flight, and a stale one is refused before
any lookup (R172). -/
def Dev.access (d : Dev) (k : Walk) : Dev :=
  if !(k.gen == d.gen k.vi) then (if k.write then d else d.emit (.data (List.replicate k.data.length 0)))
  else if 2 ^ 48 ≤ k.addr then (d.xlatFault k.vi k.asp k.ctx k.addr k.write 6 1 0).accessFails k 2
  else match d.tlbFind k.vi k.asp k.addr with
    | none => { d with hst := { d.hst with walks := d.hst.walks ++ [k] } }
    | some e => d.accessBy k e

/-- The walk that is served next (R184): round robin among the VIs with a pending miss, the oldest of the VI. -/
def Dev.nextWalk (d : Dev) : Option Walk :=
  ((upFrom 1 64).map (fun j => (d.hst.lastWalk + j) % 64)).findSome? (fun v => d.hst.walks.find? (fun k => k.vi == v))

/-- A walk in flight ends (R187): it fills an entry, through which the access that missed is performed, or faults. `fails`
is the table read that ends in an error response, counted from 0. A walk of a stale generation ends without effect (R172).
-/
def Dev.walkEnd (d : Dev) (fails : Option Nat) : Dev :=
  match d.nextWalk with
  | none => d
  | some k =>
    let d := { d with hst := { d.hst with walks := d.hst.walks.erase k, lastWalk := k.vi } }
    if !(k.gen == d.gen k.vi) then (if k.write then d else d.emit (.data (List.replicate k.data.length 0)))
    else
      let (d, r) := ({ d with hst := { d.hst with failRead := fails } }).walkBoth k.vi k.asp k.addr
      let d := { d with hst := { d.hst with failRead := none } }
      match r with
      | .inl e => (d.tlbFill e).accessBy k e
      | .inr (.bad kind s g) => (d.xlatFault k.vi k.asp k.ctx k.addr k.write kind s g).accessFails k 2
      | .inr (.leaf ..) => d

/-! ### Invalidation (R192) -/

/-- Two ranges of addresses overlap. -/
def overlaps (a n b m : Nat) : Bool := decide (a < b + m) && decide (b < a + n)

/-- An entry falls to a stage-1 invalidation: a range of an address space, an address space, or all of stage 1. -/
def TlbEntry.inS1 (e : TlbEntry) (v : Nat) (i : Inval) : Bool :=
  e.vi == v && (i.scope == 2 || (e.asp == i.asp && (i.scope == 1 ||
    overlaps (e.base * 2 ^ e.size) (2 ^ e.size) (4096 * i.first) (4096 * i.pages))))

/-- An entry falls to a stage-2 invalidation: a range of GPAs, or the whole VI. -/
def TlbEntry.inS2 (e : TlbEntry) (v : Nat) (i : Inval) : Bool :=
  e.vi == v && (i.scope == 1 || overlaps e.gpa (2 ^ e.size) (4096 * i.first) (4096 * i.pages))

def Dev.tlbDrop (d : Dev) (sel : TlbEntry → Bool) : Dev :=
  { d with hst := { d.hst with tlb := d.hst.tlb.filter (fun e => !sel e) } }

def Dev.pipe (d : Dev) (p : Nat) : PipeSt := tabGet d.disp.pipes {} p
def Dev.setPipe (d : Dev) (p : Nat) (x : PipeSt) : Dev :=
  { d with disp := { d.disp with pipes := tabPut d.disp.pipes {} p x } }

/-- Entries leave the pipe maps (R286): a flip whose map lost one returns to its walk. -/
def Dev.mapDrop (d : Dev) (sel : TlbEntry → Bool) : Dev :=
  (d.disp.pipes.map (·.1)).foldl (fun d p =>
    let x := d.pipe p
    let hit := match x.flip with
      | some f => f.buf.map.any sel
      | none => false
    let keep := fun (b : Buf) => { b with map := b.map.filter (fun e => !sel e) }
    let d := d.setPipe p { x with cur := x.cur.map keep,
                                  flip := x.flip.map (fun f => { f with buf := keep f.buf,
                                                                        walked := f.walked && !hit }) }
    if hit then d.w (flipPage (d.pipeOwner p)) F.FL_STAT_STATE 1 p else d) d

/-- Entries leave the TLB and the pipe maps. -/
def Dev.xlatDrop (d : Dev) (sel : TlbEntry → Bool) : Dev := (d.tlbDrop sel).mapDrop sel

/-- GO on `VIH_INV_CTRL`: BUSY until the invalidation is complete; the range is fixed at GO. -/
def Dev.s2Inval (d : Dev) (v scope pages : Nat) : Dev :=
  let q := vihPid v
  let i : Inval := { scope := scope, first := d.r q F.VIH_INV_LO_ADDR + 2 ^ 20 * d.r q F.VIH_INV_HI_ADDR,
                     pages := if pages = 0 then 65536 else pages }
  ((d.setVi v { d.vi v with inv2 := some i }).w q F.VIH_INV_STAT_BUSY 1).xlatDrop (fun e => e.inS2 v i)

/-- GO on `S1_INV_CTRL`. -/
def Dev.s1Inval (d : Dev) (v scope asp pages : Nat) : Dev :=
  let q := viPage v 0xB
  let i : Inval := { scope := scope, asp := asp, first := d.r q F.S1_INV_LO_ADDR + 2 ^ 20 * d.r q F.S1_INV_HI_ADDR,
                     pages := if pages = 0 then 65536 else pages }
  ((d.setVi v { d.vi v with inv1 := some i }).w q F.S1_INV_STAT_BUSY 1).xlatDrop (fun e => e.inS1 v i)

/-- A commit of the stage-1 page has applied (R190): every address space whose mode or root changed takes a new epoch,
and its older entries go. -/
def Dev.newEpochs (d : Dev) (v : Nat) (asps : List Nat) : Dev :=
  let x := d.vi v
  let d := d.setVi v { x with epochs := asps.foldl (fun t a => tabPut t 0 a (tabGet t 0 a + 1)) x.epochs }
  d.xlatDrop (fun e => e.vi == v && asps.contains e.asp)

/-- Logging is enabled (R194): BASE and LOG2 take effect and the VI's entries are invalidated; ACTIVE follows. -/
def Dev.dlEnable (d : Dev) (v : Nat) : Dev :=
  let q := vihPid v
  let base := 4096 * d.r q F.VIH_DL_LO_BASE + 2 ^ 32 * d.r q F.VIH_DL_HI_BASE
  let d := d.setVi v { d.vi v with dlWait := true, dlBase := base, dlLog2 := d.r q F.VIH_DL_CTRL_LOG2 }
  d.xlatDrop (fun e => e.vi == v)

/-- Clearing EN stops recording at the next write. -/
def Dev.dlDisable (d : Dev) (v : Nat) : Dev :=
  (d.setVi v { d.vi v with dlWait := false }).w (vihPid v) F.VIH_DL_STAT_ACTIVE 0

/-- CLEAR clears every logged flag of the VI and re-arms recording. -/
def Dev.dlClear (d : Dev) (v : Nat) : Dev :=
  let d := d.setVi v { d.vi v with dlHalt := false }
  { d with hst := { d.hst with tlb := d.hst.tlb.map (fun e => { e with logged := e.logged && !(e.vi == v) }) } }

/-- An invalidation is complete: `which` is 0 the stage-1 page's, 1 the VI host page's, 2 the dirty log's own. -/
def Dev.invalDone (d : Dev) (v which : Nat) : Dev :=
  let x := d.vi v
  match which with
  | 0 => match x.inv1 with
    | none => d
    | some i =>
      let d := (d.setVi v { x with inv1 := none }).xlatDrop (fun e => e.inS1 v i)
      (d.w (viPage v 0xB) F.S1_INV_STAT_BUSY 0).add (viPage v 0xB) F.S1_INV_STAT_COUNT
  | 1 => match x.inv2 with
    | none => d
    | some i =>
      let d := (d.setVi v { x with inv2 := none }).xlatDrop (fun e => e.inS2 v i)
      (d.w (vihPid v) F.VIH_INV_STAT_BUSY 0).add (vihPid v) F.VIH_INV_STAT_COUNT
  | _ => if x.dlWait then
      ((d.setVi v { x with dlWait := false }).xlatDrop (fun e => e.vi == v)).w (vihPid v) F.VIH_DL_STAT_ACTIVE 1
    else d

/-! ### Errors on the device's own requests (R168) -/

/-- A device read to host memory ends in an error: 0 Unsupported Request, 1 Completer Abort, 2 Completion Timeout, 3
poisoned. The initiator receives an error response. -/
def Dev.dmaError (d : Dev) (port kind : Nat) : Dev :=
  let p := 0x080 + port
  let d := match kind with
    | 0 => d.addSat p F.HP_DMAERR_UR
    | 1 => d.addSat p F.HP_DMAERR_CA
    | 2 => d.addSat p F.HP_DMAERR_CTO
    | _ => d.addSat p F.HP_DMAERR_POISON
  (d.err p 10).emit (.errorResponse (4 + port))

/-- Which read it is (R168): a data read of a command of a context, which completes HOST_ERROR; or else the next read of the
port, since each of them is one step. -/
def Dev.dmaFail (d : Dev) (port kind : Nat) (cmd : Option (Nat × Nat × Nat)) : Dev :=
  let d := d.dmaError port kind
  match cmd with
  | some (v, c, id) => d.failCmd v c (some id) 3
  | none => { d with hst := { d.hst with failNext := d.hst.failNext ++ [port] } }

end Sys2Proof.Machine
end

