-- ==== Sys2Proof/Machine/Contexts.lean ====
section
/-! DEFINITION. Client contexts, their doorbells and the resident context cache (R176 to R182). -/

namespace Sys2Proof.Machine

open Sys2Proof

/-- The work of an entry's open period is done, with a status (R29); the scheduler takes it at PERIOD_WORK_COMPLETE. -/
def Dev.perFinish (d : Dev) (e status : Nat) : Dev :=
  if d.perState e = 2 then
    { d with per := tabPut d.per {} e { tabGet d.per {} e with fin := some ((tabGet d.per {} e).fin.getD status) } }
  else d

/-- The armed entries of a kind that name a target, open ones finished by it (R27, R29). -/
def Dev.perNamed (d : Dev) (kind target : Nat) : List Nat :=
  (upFrom 0 256).filter (fun e => d.r (perPage e) F.PE_CTRL_KIND (e % 64) == kind &&
    d.r (perPage e) F.PE_TARGET_HANDLE (e % 64) == target && !(d.perState e == 0))

def Dev.perFinishNamed (d : Dev) (kind target : Nat) : Dev :=
  (d.perNamed kind target).foldl (fun d e => d.perFinish e 0) d

/-- The window page of a VI's contexts, and a context's key. -/
def ctxPid (v : Nat) : Nat := viPage v 1
def ctxKey (v c : Nat) : Nat := 64 * v + c

def Dev.ctxSt (d : Dev) (v c : Nat) : CtxSt := tabGet d.hst.ctx {} (ctxKey v c)
def Dev.setCtx (d : Dev) (v c : Nat) (x : CtxSt) : Dev :=
  { d with hst := { d.hst with ctx := tabPut d.hst.ctx {} (ctxKey v c) x } }

def Dev.ctxState (d : Dev) (v c : Nat) : Nat := d.r (ctxPid v) F.CTX_CTRL_STATE c
def Dev.sqSize (d : Dev) (v c : Nat) : Nat := 2 ^ d.r (ctxPid v) F.CTX_SQ_HI_LOG2 c
def Dev.cqSize (d : Dev) (v c : Nat) : Nat := 2 ^ d.r (ctxPid v) F.CTX_CQ_HI_LOG2 c

/-- The commands of a context in flight, oldest first. -/
def Dev.ctxCmds (d : Dev) (v c : Nat) : List Cmd :=
  d.rend.cmds.filter (fun x => x.vi == v && x.ctx == c && x.gen == d.gen v)

/-- The context has entries not yet fetched. -/
def Dev.unfetched (d : Dev) (v c : Nat) : Bool := !((d.ctxSt v c).sqTail == d.r (ctxPid v) F.CTX_SQ_HEAD_INDEX c)

/-- An enabled context shows ACTIVE while it has work and IDLE while it has none. -/
def Dev.ctxShow (d : Dev) (v c : Nat) : Dev :=
  let st := d.ctxState v c
  if st = 1 ∨ st = 2 then
    d.w (ctxPid v) F.CTX_CTRL_STATE (if d.unfetched v c || !(d.ctxCmds v c).isEmpty then 2 else 1) c
  else d

/-- The context goes to ERROR (R179, R181). -/
def Dev.ctxError (d : Dev) (v c code : Nat) : Dev :=
  let d := (d.w (ctxPid v) F.CTX_CTRL_STATE 4 c).w (ctxPid v) F.CTX_CTRL_ERR code c
  (d.err (ctxPid v) 10).err (viPage v 0) 11

/-- The context asks for residency if it needs it and has none (R182). -/
def Dev.needRes (d : Dev) (v c : Nat) : Dev :=
  let k := ctxKey v c
  if d.hst.resident.contains k || d.hst.waitRes.contains k then d
  else { d with hst := { d.hst with waitRes := d.hst.waitRes ++ [k] } }

/-- The VI takes doorbells: ACTIVE, QUIESCING or QUIESCED (R179). -/
def Dev.viLive (d : Dev) (v : Nat) : Bool := [3, 5, 6].contains (d.viState v)

def Dev.bellOk (d : Dev) (v c : Nat) : Bool := d.viLive v && [1, 2].contains (d.ctxState v c)

/-- A write of `DB_SQc` (R179). -/
def Dev.sqBell (d : Dev) (v c tail : Nat) : Dev :=
  if !d.bellOk v c then d.err (viPage v 2) 10
  else if d.sqSize v c ≤ tail then d.ctxError v c 1
  else
    let d := d.setCtx v c { d.ctxSt v c with sqTail := tail }
    (if d.unfetched v c then d.needRes v c else d).ctxShow v c

/-- A write of `DB_CQc`: it frees the entries before the new head, which the device must have written. -/
def Dev.cqBell (d : Dev) (v c head : Nat) : Dev :=
  let n := d.cqSize v c
  let x := d.ctxSt v c
  let tail := d.r (ctxPid v) F.CTX_CQ_TAIL_INDEX c
  if !d.bellOk v c then d.err (viPage v 2) 10
  else if n ≤ head ∨ (tail + n - x.cqHead) % n < (head + n - x.cqHead) % n then d.ctxError v c 1
  else d.setCtx v c { x with cqHead := head }

/-- The CQ's free entries; a ring of n entries holds n − 1. -/
def Dev.cqFree (d : Dev) (v c : Nat) : Nat :=
  let n := d.cqSize v c
  n - 1 - (d.r (ctxPid v) F.CTX_CQ_TAIL_INDEX c + n - (d.ctxSt v c).cqHead) % n

/-- `CTX_CTRL.ENABLE` cannot be set (R181): a LOG2 out of range or a reserved ENGINE. -/
def Dev.enableBad (d : Dev) (v c engine : Nat) : Bool :=
  let sq := d.r (ctxPid v) F.CTX_SQ_HI_LOG2 c
  let cq := d.r (ctxPid v) F.CTX_CQ_HI_LOG2 c
  !(decide (4 ≤ sq) && decide (sq ≤ 12) && decide (4 ≤ cq) && decide (cq ≤ 14) && decide (engine ≤ 1))

/-- Show the running contexts in `CTX_EN`. -/
def Dev.ctxEnShow (d : Dev) (v : Nat) : Dev :=
  let m := (upFrom 0 64).foldl (fun m c => if d.ctxState v c = 0 then m else m + 2 ^ c) 0
  d.w64 (ctxPid v) F.CTX_EN_LO_EN F.CTX_EN_HI_EN m

/-- ENABLE is set: the context runs with empty queues at the positions its registers give (R175, R181). -/
def Dev.ctxEnable (d : Dev) (v c : Nat) : Dev :=
  let p := ctxPid v
  if d.ctxState v c = 0 then
    let d := d.setCtx v c { sqTail := d.r p F.CTX_SQ_HEAD_INDEX c, cqHead := d.r p F.CTX_CQ_TAIL_INDEX c }
    ((d.w p F.CTX_CTRL_STATE 1 c).w p F.CTX_CTRL_ERR 0 c).ctxEnShow v
  else d

/-- A context that drains has no command left: it is DISABLED. -/
def Dev.ctxDrained (d : Dev) (v c : Nat) : Dev :=
  if d.ctxState v c = 3 && (d.ctxCmds v c).isEmpty then (d.w (ctxPid v) F.CTX_CTRL_STATE 0 c).ctxEnShow v else d

/-- ENABLE is cleared: fetch stops at once, and the context drains. -/
def Dev.ctxDisable (d : Dev) (v c : Nat) : Dev :=
  if d.ctxState v c = 0 then d
  else
    let d := { d with hst := { d.hst with waitRes := d.hst.waitRes.filter (fun k => !(k == ctxKey v c)) } }
    (d.w (ctxPid v) F.CTX_CTRL_STATE 3 c).ctxDrained v c

/-! ### Residency (R182) -/

def Dev.resCount (d : Dev) (v : Nat) : Nat := (d.hst.resident.filter (fun k => k / 64 == v)).length

/-- The context can be evicted: it has no command in flight. -/
def Dev.evictable (d : Dev) (k : Nat) : Bool := (d.ctxCmds (k / 64) (k % 64)).isEmpty

/-- The slot that a waiting context takes: `none` where it must wait, else the context evicted, if any. -/
def Dev.slotFor (d : Dev) (k : Nat) : Option (Option Nat) :=
  let g := 256 / d.nVis
  let lru := d.hst.resident.reverse
  if d.hst.resident.length < 256 then some none
  else match lru.find? (fun x => d.evictable x && decide (g < d.resCount (x / 64))) with
    | some x => some (some x)
    | none =>
      if g ≤ d.resCount (k / 64) then (lru.find? (fun x => d.evictable x && x / 64 == k / 64)).map some else none

def Dev.setResident (d : Dev) (k b : Nat) : Dev :=
  let d := d.w (ctxPid (k / 64)) F.CTX_CTRL_RESIDENT b (k % 64)
  d.w (ctxPid (k / 64)) F.CTX_RES_RESIDENT (d.resCount (k / 64))

/-- A context leaves its slot; one that has unfetched entries asks for residency again. -/
def Dev.evict (d : Dev) (k : Nat) : Dev :=
  let d := { d with hst := { d.hst with resident := d.hst.resident.filter (fun x => !(x == k)) } }.setResident k 0
  if [1, 2].contains (d.ctxState (k / 64) (k % 64)) && d.unfetched (k / 64) (k % 64) then d.needRes (k / 64) (k % 64) else d

/-- The first waiting context of each VI, in round robin order of VIs after the one served last. -/
def Dev.waitOrder (d : Dev) : List Nat :=
  ((upFrom 1 64).map (fun j => (d.hst.lastRes + j) % 64)).filterMap (fun v => d.hst.waitRes.find? (fun k => k / 64 == v))

/-- A context that needs residency takes a slot and is swapped in. -/
def Dev.swapIn (d : Dev) : Dev :=
  match d.waitOrder.find? (fun k => (d.slotFor k).isSome) with
  | none => d
  | some k =>
    let slot := d.slotFor k
    let d := { d with hst := { d.hst with waitRes := d.hst.waitRes.filter (fun x => !(x == k)) } }
    let d := match slot with
      | some (some x) => d.evict x
      | _ => d
    let d := { d with hst := { d.hst with resident := k :: d.hst.resident, lastRes := k / 64 } }
    (d.setResident k 1).add (ctxPid (k / 64)) F.CTX_RES_SWAPINS

/-- A resident context is used: it becomes the most recently used one. -/
def Dev.touchRes (d : Dev) (k : Nat) : Dev :=
  if d.hst.resident.contains k then { d with hst := { d.hst with resident := k :: d.hst.resident.erase k } } else d

end Sys2Proof.Machine
end

