-- ==== Sys2Proof/Machine/Raster.lean ====
section
/-! DEFINITION. The fixed-function stages of the renderer (R244, R245, R247 to R249): clipping, coverage, depth, stencil and
blending. All of it is exact arithmetic on fractions until a value is stored in a target. -/

namespace Sys2Proof.Machine

open Sys2Proof

/-! ### Numbers -/

/-- A little-endian number in an entry or a descriptor. -/
def le (bs : List Nat) (off n : Nat) : Nat := ofBytesLE ((bs.drop off).take n)

/-- A fraction; its denominator is positive. -/
structure Frac where
  n : Int
  d : Int
  deriving DecidableEq, Repr

def Frac.ofInt (i : Int) : Frac := { n := i, d := 1 }
def Frac.add (a b : Frac) : Frac := { n := a.n * b.d + b.n * a.d, d := a.d * b.d }
def Frac.sub (a b : Frac) : Frac := { n := a.n * b.d - b.n * a.d, d := a.d * b.d }
def Frac.mul (a b : Frac) : Frac := { n := a.n * b.n, d := a.d * b.d }
def Frac.lt (a b : Frac) : Bool := decide (a.n * b.d < b.n * a.d)
def Frac.min (a b : Frac) : Frac := if b.lt a then b else a
def Frac.max (a b : Frac) : Frac := if a.lt b then b else a
def Frac.clamp01 (a : Frac) : Frac := (a.max (.ofInt 0)).min (.ofInt 1)

/-- A binary32 number in units of 2^-149. -/
def f32 (v : Nat) : Int :=
  let e := bits v 23 8
  let m := if e = 0 then bits v 0 23 else (2 ^ 23 + bits v 0 23) * 2 ^ (e - 1)
  if e = 255 then Config.oddFloat v else if bit v 31 then -(m : Int) else m

def Frac.ofF32 (v : Nat) : Frac := { n := f32 v, d := 2 ^ 149 }

/-- A binary16 number. -/
def Frac.ofF16 (v : Nat) : Frac :=
  let e := bits v 10 5
  let m := if e = 0 then bits v 0 10 else (2 ^ 10 + bits v 0 10) * 2 ^ (e - 1)
  if e = 31 then .ofInt (Config.oddFloat (2 ^ 31 * bits v 15 1 + 0x7F800000 + 2 ^ 13 * bits v 0 10))
  else { n := if bit v 15 then -(m : Int) else m, d := 2 ^ 24 }

/-- A quotient rounded to nearest, to even from a half. -/
def divEven (a b : Nat) : Nat :=
  let q := a / b
  if b < 2 * (a % b) ∨ (2 * (a % b) = b ∧ q % 2 = 1) then q + 1 else q

/-- The pattern of the nearest number of a binary format with `m` fraction bits and `e` exponent bits. -/
def roundFloat (m e : Nat) (x : Frac) : Nat :=
  let a := x.n.natAbs
  let d := x.d.natAbs
  let bias : Int := 2 ^ (e - 1) - 1
  if a = 0 then 0
  else
    let l : Int := (Nat.log2 a : Int) - Nat.log2 d
    let big := if 0 ≤ l then decide (d * 2 ^ l.toNat ≤ a) else decide (d ≤ a * 2 ^ (-l).toNat)
    let ex := max (if big then l else l - 1) (1 - bias)
    let u := ex - m
    let q := if 0 ≤ u then divEven a (d * 2 ^ u.toNat) else divEven (a * 2 ^ (-u).toNat) d
    let p := if q < 2 ^ m then q else q - 2 ^ m + (ex + bias).toNat * 2 ^ m
    (if x.n < 0 then 2 ^ (m + e) else 0) + min p ((2 ^ e - 1) * 2 ^ m)

/-- The nearest `w`-bit unsigned normalised value. -/
def Frac.unorm (w : Nat) (x : Frac) : Nat :=
  let c := x.clamp01
  ((2 * c.n * (2 ^ w - 1) + c.d) / (2 * c.d)).toNat

def Frac.ofUnorm (w v : Nat) : Frac := { n := v, d := 2 ^ w - 1 }

/-! ### Colour formats (R245) -/

/-- Bytes per element of a format: a pixel, or for ASTC a block of 4 × 4; 0 for a reserved code. -/
def elemBytes (f : Nat) : Nat :=
  match f with
  | 0 | 1 | 3 | 7 => 4 | 2 | 6 => 2 | 4 => 8 | 5 => 1 | 8 => 16 | _ => 0

/-- Bytes per pixel of a format that may be a render target; 0 for one that may not. -/
def targetBytes (f : Nat) : Nat := if f < 7 then elemBytes f else 0

/-- The format may be a storage image. -/
def imageFormat (f : Nat) : Bool := decide (f < 8) && !(f == 2)

/-- The lowest bit and the width of the components R, G, B and A in a pixel, the first-named component lowest. -/
def components (f : Nat) : List (Option (Nat × Nat)) :=
  match f with
  | 0 => [some (0, 8), some (8, 8), some (16, 8), some (24, 8)]
  | 1 => [some (16, 8), some (8, 8), some (0, 8), some (24, 8)]
  | 2 => [some (0, 5), some (5, 6), some (11, 5), none]
  | 3 => [some (0, 10), some (10, 10), some (20, 10), some (30, 2)]
  | 4 => [some (0, 16), some (16, 16), some (32, 16), some (48, 16)]
  | 5 => [some (0, 8), none, none, none]
  | 6 => [some (0, 8), some (8, 8), none, none]
  | _ => [none, none, none, none]

/-- A component of a stored pixel; one that the format lacks is 0, and alpha 1. -/
def component (f px i : Nat) : Frac :=
  match (components f).getD i none with
  | some (lo, w) => if f = 4 then .ofF16 (bits px lo w) else .ofUnorm w (bits px lo w)
  | none => .ofInt (if i = 3 then 1 else 0)

/-- A component as the format stores it. -/
def storeComponent (f w : Nat) (x : Frac) : Nat := if f = 4 then roundFloat 10 5 (.ofF32 (roundFloat 23 8 x)) else x.unorm w

/-! ### Blending (R247, R248) -/

/-- A blend factor for a component, from the component and the alpha of source and destination. -/
def blendFactor (code : Nat) (s sa t ta : Frac) : Frac :=
  let one := Frac.ofInt 1
  match code with
  | 0 => .ofInt 0 | 1 => one | 2 => s | 3 => one.sub s | 4 => sa | 5 => one.sub sa
  | 6 => t | 7 => one.sub t | 8 => ta | _ => one.sub ta

/-- A blend operation on a component, with the two factors. -/
def blendOp (op : Nat) (s sf t tf : Frac) : Frac :=
  match op with
  | 0 => (s.mul sf).add (t.mul tf)
  | 1 => (s.mul sf).sub (t.mul tf)
  | 2 => (t.mul tf).sub (s.mul sf)
  | 3 => s.min t
  | _ => s.max t

/-- A component of a pixel after blending, from the BLEND word. -/
def blended (b i : Nat) (s sa t ta : Frac) : Frac :=
  if !bit b 11 then s
  else if i = 3 then blendOp (bits b 20 3) s (blendFactor (bits b 12 4) s sa t ta) t (blendFactor (bits b 16 4) s sa t ta)
  else blendOp (bits b 8 3) s (blendFactor (bits b 0 4) s sa t ta) t (blendFactor (bits b 4 4) s sa t ta)

/-- A fragment's colour, as binary32 patterns R, G, B, A, goes into a stored pixel of a format. -/
def colourWrite (f b px : Nat) (src : List Nat) : Nat :=
  let s := fun i => if f = 4 then Frac.ofF32 (src.getD i 0) else (Frac.ofF32 (src.getD i 0)).clamp01
  (upFrom 0 4).foldl (fun p i =>
    match (components f).getD i none with
    | some (lo, w) =>
      if bit b (24 + i) then
        let v := src.getD i 0
        let x := if f = 4 ∧ !bit b 11 ∧ v % 2 ^ 31 = 0x7F800000 then 2 ^ 15 * bits v 31 1 + 0x7C00
          else storeComponent f w (blended b i (s i) (s 3) (component f px i) (component f px 3))
        setBits p lo w x
      else p
    | none => p) px

/-! ### Depth and stencil (R244, R247, R248) -/

/-- Bytes per pixel of a depth format: D16, D24S8, D32F. -/
def depthBytes (f : Nat) : Nat := if f = 0 then 2 else 4

/-- A depth as a format stores it. -/
def depthStore (f : Nat) (z : Frac) : Nat :=
  if f = 0 then z.unorm 16 else if f = 1 then z.unorm 24 else roundFloat 23 8 z.clamp01

/-- A stored depth as a number that compares as the depths do. -/
def depthValue (f v : Nat) : Int := if f = 2 then f32 v else v

/-- A compare function of a new value with the stored one. -/
def compares (code : Nat) (new old : Int) : Bool :=
  match code with
  | 0 => false | 1 => decide (new < old) | 2 => new == old | 3 => decide (new ≤ old) | 4 => decide (old < new)
  | 5 => !(new == old) | 6 => decide (old ≤ new) | _ => true

/-- A stencil operation on a stored value. -/
def stencilOp (op ref v : Nat) : Nat :=
  match op with
  | 0 => v | 1 => 0 | 2 => ref | 3 => min 255 (v + 1) | 4 => v - 1 | 5 => 255 - v | 6 => (v + 1) % 256 | _ => (v + 255) % 256

/-- A pixel of tile memory: the stored pixel of each colour target, the stored depth and the stencil value. -/
structure TilePix where
  cols : List Nat
  depth : Nat
  stencil : Nat
  deriving DecidableEq, Repr

/-- The depth and stencil test of a fragment: whether it passes, and the pixel with its stencil and depth updated. `j` is the
job descriptor, `r` the draw record. -/
def depthStencil (j r : List Nat) (p : TilePix) (z : Nat) : Bool × TilePix :=
  let st := le r 20 4
  let f := le j 60 1
  let mask := bits st 20 8
  let ref := bits st 12 8
  let withSt := fun (op : Nat) =>
    if bit (le j 5 1) 1 then { p with stencil := (p.stencil &&& (255 - mask)) ||| (stencilOp op ref p.stencil &&& mask) } else p
  let sOk := !bit (le j 5 1) 1 || compares (bits st 0 3) ((ref &&& mask : Nat) : Int) ((p.stencil &&& mask : Nat) : Int)
  let zOk := !bit (le j 5 1) 0 || compares (le r 2 1 % 8) (depthValue f z) (depthValue f p.depth)
  if !sOk then (false, withSt (bits st 3 3))
  else if !zOk then (false, withSt (bits st 6 3))
  else
    let q := withSt (bits st 9 3)
    (true, if bit (le j 5 1) 0 && bit (le r 2 1) 3 then { q with depth := z } else q)

/-- The colour formats of a job's targets. -/
def jobFormats (j : List Nat) : List Nat := (upFrom 0 (le j 4 1)).map (fun t => le j (128 + 32 * t + 12) 1)

/-- A fragment of a primitive meets its pixel (R248, R249): the test, the shader's discard, and the blend. The second
component says whether its fragment shader runs; where the test comes first, it runs only where the test passes. -/
def fragment (j : List Nat) (w : Draw) (p : TilePix) (z : Frac) (o : FragOut) : TilePix × Bool :=
  let late := bit w.fsFlags 0 || bit w.fsFlags 1
  if bit w.fsFlags 1 && o.discard then (p, true)
  else
    let zv := depthStore (le j 60 1) (if bit w.fsFlags 0 then Frac.ofF32 o.depth.toNat else z)
    match depthStencil j w.record p zv with
    | (false, q) => (q, late)
    | (true, q) =>
      let src := o.colours.map (fun c => c.toNat)
      let cols := ((jobFormats j).zip (upFrom 0 4)).map (fun x =>
        colourWrite x.1 (le w.record 56 4) (q.cols.getD x.2 0) (takePad 0 4 (src.drop (4 * x.2))))
      ({ q with cols := cols }, true)

/-! ### Primitives (R248) -/

/-- A vertex from what its shader left. -/
def vertOf (o : VertOut) : Vert :=
  { x := f32 o.x.toNat, y := f32 o.y.toNat, z := f32 o.z.toNat, w := f32 o.w.toNat,
    size := (clampI 256 16384 ((512 * f32 o.size.toNat + 2 ^ 149) / 2 ^ 150)).toNat }

/-- The clip planes for a render area: 0 ≤ z ≤ w, w, and the guard band of 32,768 pixels each way; a vertex is inside where
none is negative. -/
def clipPlanes (width height : Nat) : List (Vert → Int) :=
  [fun v => v.z, fun v => v.w - v.z, fun v => v.w,
   fun v => (v.x + v.w) * width + 65536 * v.w, fun v => 65536 * v.w - (v.x + v.w) * width,
   fun v => (v.y + v.w) * height + 65536 * v.w, fun v => 65536 * v.w - (v.y + v.w) * height]

/-- Where the edge between two vertices on the two sides of a plane meets it. -/
def crossing (f : Vert → Int) (a b : Vert) : Vert :=
  let s : Int := (f b).natAbs
  let t : Int := (f a).natAbs
  { x := s * a.x + t * b.x, y := s * a.y + t * b.y, z := s * a.z + t * b.z, w := s * a.w + t * b.w, size := a.size }

/-- A polygon, or a line as its two ends, against a plane. -/
def clipPoly (f : Vert → Int) (vs : List Vert) : List Vert :=
  let edges := vs.zip (vs.drop 1 ++ vs.take 1)
  if vs.length = 2 then
    match vs with
    | [a, b] =>
      if f a < 0 ∧ f b < 0 then []
      else [if f a < 0 then crossing f a b else a, if f b < 0 then crossing f a b else b]
    | _ => []
  else if vs.length = 1 then vs.filter (fun v => decide (0 ≤ f v))
  else edges.flatMap (fun e =>
    (if 0 ≤ f e.1 then [e.1] else []) ++ (if decide (0 ≤ f e.1) != decide (0 ≤ f e.2) then [crossing f e.1 e.2] else []))

/-- A coordinate in 1/256 pixel, snapped, for an extent of the render area. -/
def snapTo (extent : Nat) (c w : Int) : Int := ((c + w) * extent * 256 + w) / (2 * w)

/-- Twice the signed area of a polygon; positive where its vertices go round clockwise as seen, y pointing down. -/
def area2 (ps : List (Int × Int)) : Int :=
  (ps.zip (ps.drop 1 ++ ps.take 1)).foldl (fun s e => s + (e.1.1 * e.2.2 - e.2.1 * e.1.2)) 0

/-- The primitive that the vertices of one make, for a draw record: clipped, snapped, and not culled. -/
def primOf (width height draw : Nat) (r : List Nat) (vs : List Vert) : Option Prim :=
  let cs := ((clipPlanes width height).foldl (fun l f => clipPoly f l) vs).filter (fun v => decide (0 < v.w))
  let pts := cs.map (fun v => (snapTo width v.x v.w, snapTo height v.y v.w))
  let zs := cs.map (fun v => (v.z, v.w))
  match vs.length with
  | 1 => if cs.isEmpty then none else some { draw := draw, shape := 0, pts := pts, zs := zs, size := (vs.headD
      { x := 0, y := 0, z := 0, w := 0, size := 256 }).size }
  | 2 => if cs.length = 2 then some { draw := draw, shape := 1, pts := pts, zs := zs } else none
  | _ =>
    let a := area2 pts
    let front := decide (0 < a) == bit (le r 1 1) 2
    let cull := le r 1 1 % 4
    if a = 0 ∨ (cull = 1 ∧ front) ∨ (cull = 2 ∧ !front) then none
    else if a < 0 then some { draw := draw, shape := 2, pts := pts.reverse, zs := zs.reverse }
    else some { draw := draw, shape := 2, pts := pts, zs := zs }

/-! ### Coverage (R248) -/

/-- On which side of an edge a point lies: positive inside. -/
def edgeAt (a b p : Int × Int) : Int := (b.1 - a.1) * (p.2 - a.2) - (b.2 - a.2) * (p.1 - a.1)

/-- A point is inside an edge; one on the edge is where it is a top or a left edge. -/
def insideEdge (a b p : Int × Int) : Bool :=
  let e := edgeAt a b p
  decide (0 < e) || (e == 0 && (decide (b.2 < a.2) || (b.2 == a.2 && decide (a.1 < b.1))))

/-- The depth that a triangle has at a point, if it covers it. -/
def triangleAt (a b c : (Int × Int) × (Int × Int)) (p : Int × Int) : Option Frac :=
  let s := edgeAt a.1 b.1 c.1
  if decide (0 < s) && insideEdge a.1 b.1 p && insideEdge b.1 c.1 p && insideEdge c.1 a.1 p then
    let za := edgeAt b.1 c.1 p * a.2.1 * b.2.2 * c.2.2
    let zb := edgeAt c.1 a.1 p * b.2.1 * c.2.2 * a.2.2
    let zc := edgeAt a.1 b.1 p * c.2.1 * a.2.2 * b.2.2
    some { n := za + zb + zc, d := s * a.2.2 * b.2.2 * c.2.2 }
  else none

/-- The depth that a line has at a pixel, if the line, one pixel wide, takes it: of the pixels of each column, or of each
row of a steeper line, whose centre the line passes from its first end up to its second, the one that it passes through.
-/
def lineAt (a b : (Int × Int) × (Int × Int)) (px py : Int) : Option Frac :=
  let dx := b.1.1 - a.1.1
  let dy := b.1.2 - a.1.2
  let xMajor := decide (dy.natAbs ≤ dx.natAbs)
  let (m, len, s, other, slope, row) :=
    if xMajor then (256 * px + 128 - a.1.1, dx, decide (0 < dx), a.1.2, dy, py)
    else (256 * py + 128 - a.1.2, dy, decide (0 < dy), a.1.1, dx, px)
  let on := if s then decide (0 ≤ m) && decide (m < len) else decide (len < m) && decide (m ≤ 0)
  if len ≠ 0 ∧ on ∧ (other * len.natAbs + slope * m.natAbs) / (256 * len.natAbs) = row then
    let t : Frac := { n := m.natAbs, d := len.natAbs }
    let za : Frac := { n := a.2.1, d := a.2.2 }
    some (za.add (t.mul (Frac.sub { n := b.2.1, d := b.2.2 } za)))
  else none

/-- The triangles of a polygon, as a fan from its first vertex. -/
def fan (vs : List ((Int × Int) × (Int × Int))) : List (((Int × Int) × (Int × Int)) × ((Int × Int) × (Int × Int))) :=
  (vs.drop 1).zip (vs.drop 2)

/-- The depth of a primitive at the sample of a pixel, if it covers the pixel. -/
def Prim.at (q : Prim) (px py : Nat) : Option Frac :=
  let c : Int × Int := (256 * px + 128, 256 * py + 128)
  let vs := q.pts.zip q.zs
  match q.shape, vs with
  | 0, v :: _ =>
    let inside := fun (x y : Int) => decide (-(q.size : Int) ≤ 2 * (x - y)) && decide (2 * (x - y) < q.size)
    if inside c.1 v.1.1 && inside c.2 v.1.2 then some { n := v.2.1, d := v.2.2 } else none
  | 1, a :: b :: _ => lineAt a b px py
  | _, a :: _ => (fan vs).findSome? (fun t => triangleAt a t.1 t.2 c)
  | _, [] => none

/-- The render area of a job, its tiles of 32 × 32 pixels row by row. -/
def jobW (j : List Nat) : Nat := le j 0 2
def jobH (j : List Nat) : Nat := le j 2 2
def jobTilesX (j : List Nat) : Nat := ceilDiv (jobW j) 32
def jobTiles (j : List Nat) : Nat := jobTilesX j * ceilDiv (jobH j) 32

/-- The pixels of a tile inside the render area, row by row. -/
def tilePixels (j : List Nat) (tile : Nat) : List (Nat × Nat) :=
  let x := 32 * (tile % jobTilesX j)
  let y := 32 * (tile / jobTilesX j)
  (upFrom y (min 32 (jobH j - y))).flatMap (fun py => (upFrom x (min 32 (jobW j - x))).map (fun px => (px, py)))

/-- The fragments of a primitive in a tile: place and depth, row by row. -/
def Prim.inTile (j : List Nat) (q : Prim) (tile : Nat) : List ((Nat × Nat) × Frac) :=
  (tilePixels j tile).filterMap (fun c => (q.at c.1 c.2).map (fun z => (c, z)))

/-- The tiles that a primitive touches inside the scissor of its draw (R257): those where it covers a pixel, looked for
around its points. -/
def Prim.tiles (j r : List Nat) (q : Prim) : List Nat :=
  let s := le r 60 4
  let near := fun (l : List Int) (t : Nat) =>
    l.any (fun c => decide (c - q.size - 256 < 8192 * (t + 1))) && l.any (fun c => decide (8192 * (t : Int) ≤ c + q.size + 256))
  let xs := (upFrom (bits s 0 8) (bits s 16 8 + 1 - bits s 0 8)).filter (near (q.pts.map (·.1)))
  let ys := (upFrom (bits s 8 8) (bits s 24 8 + 1 - bits s 8 8)).filter (near (q.pts.map (·.2)))
  (ys.flatMap (fun y => xs.map (fun x => y * jobTilesX j + x))).filter (fun t => !(q.inTile j t).isEmpty)

/-! ### Assembly (R247, R248) -/

/-- Vertices that a primitive of a topology needs. -/
def topoVerts (topo : Nat) : Nat := if topo = 0 then 1 else if topo ≤ 2 then 2 else 3

/-- A vertex joins those of the primitive begun: the primitive that is complete with it, if any, the vertices kept for the
next, and the number of the next primitive of a strip. Every other triangle of a strip goes round the other way. -/
def assemble (topo strip : Nat) (kept : List Vert) (v : Vert) : Option (List Vert) × List Vert × Nat :=
  let all := kept ++ [v]
  if all.length < topoVerts topo then (none, all, strip)
  else if topo = 2 then (some all, all.drop 1, strip + 1)
  else if topo = 4 then
    (some (if strip % 2 = 0 then all else (all.drop 1).take 1 ++ all.take 1 ++ all.drop 2), all.drop 1, strip + 1)
  else (some all, [], strip)

end Sys2Proof.Machine
end

