-- ==== Sys2Proof/Machine/Shader.lean ====
section
/-! DEFINITION. What a shader reaches (R251, R253 to R256): buffers, vertex inputs, textures and images through its resource
table, with residency. -/

namespace Sys2Proof.Machine

open Sys2Proof

/-- What the accesses of an item leave: the device, the bits that its command has set in feedback bitmaps, and the status
that they give the command. -/
structure ShRun where
  dev : Dev
  fed : List (Nat × Nat)
  st : Option Nat

/-- From where a shader accesses memory: its command with its address space, its binding table, its resource table, and the
numbers of the vertex and the instance that it works on. -/
structure ShFrom where
  vi : Nat
  gen : Nat
  asp : Nat
  ctx : Nat
  binds : List Nat
  table : Nat
  vertex : Nat := 0
  inst : Nat := 0

/-! ### Textures (R254) -/

/-- The page of a texture in elements, by the bytes of one. -/
def pageElems (n : Nat) : Nat × Nat :=
  match n with
  | 1 => (256, 256) | 2 => (256, 128) | 4 => (128, 128) | 8 => (128, 64) | _ => (64, 64)

/-- The extent of a level in texels, and in elements, from a resource entry. -/
def levelSize (e : List Nat) (level : Nat) : Nat × Nat := (max 1 (le e 4 2 / 2 ^ level), max 1 (le e 6 2 / 2 ^ level))

/-- Texels of an element in each direction: blocks of ASTC have 4. -/
def elemSide (e : List Nat) : Nat := if le e 1 1 = 8 then 4 else 1

/-- The pages of a row, and the pages, of a level. -/
def levelPages (e : List Nat) (level : Nat) : Nat × Nat :=
  let s := levelSize e level
  let p := pageElems (elemBytes (le e 1 1))
  let row := ceilDiv (ceilDiv s.1 (elemSide e)) p.1
  (row, row * ceilDiv (ceilDiv s.2 (elemSide e)) p.2)

/-- The page of a texel of a level, counted through the texture, and the byte of its element in the page. -/
def texelPlace (e : List Nat) (level x y : Nat) : Nat × Nat :=
  let n := elemBytes (le e 1 1)
  let p := pageElems n
  let ex := x / elemSide e
  let ey := y / elemSide e
  let first := (upFrom 0 level).foldl (fun s l => s + (levelPages e l).2) 0
  (first + ey / p.2 * (levelPages e level).1 + ex / p.1, (ey % p.2 * p.1 + ex % p.1) * n)

/-- A texel coordinate under a sampler's mode: 0 repeat, 1 mirror, 2 clamp to edge, 3 clamp to zero. -/
def wrapTexel (mode n : Nat) (x : Int) : Option Nat :=
  match mode with
  | 0 => some (x % n).toNat
  | 1 => let y := (x % (2 * n)).toNat; some (if y < n then y else 2 * n - 1 - y)
  | 2 => some (clampI 0 (n - 1) x).toNat
  | _ => if 0 ≤ x ∧ x < n then some x.toNat else none

/-- A place that a texture access touches. -/
inductive Touched where
  | at (level x y : Nat)
  /-- Outside, where the sampler's mode says 0. -/
  | zero
  /-- Outside the extent or the levels. -/
  | beyond
  deriving DecidableEq, Repr

/-- A texel by its coordinates. -/
def texelTouched (e : List Nat) (level : Nat) (x y : Int) : Touched :=
  let s := levelSize e level
  if level < le e 2 1 ∧ 0 ≤ x ∧ x < s.1 ∧ 0 ≤ y ∧ y < s.2 then .at level x.toNat y.toNat else .beyond

/-- The levels of a sampled access (R253): the sampler's MIP bits and the level of detail choose them. -/
def sampledLevels (e smp : List Nat) (lod : Int) : List Nat :=
  let top : Int := (le e 2 1 : Int) - 1
  let f := le smp 1 1
  if !bit f 3 then [0]
  else if bit f 2 then [(clampI 0 top (lod / 256)).toNat, (clampI 0 top (lod / 256 + 1)).toNat]
  else [(clampI 0 top ((lod + 128) / 256)).toNat]

/-- The texels of a sampled access: one of a level, or four where its filter is linear. -/
def sampledTouched (e smp : List Nat) (u v lod : Int) : List Touched :=
  let linear := bit (le smp 1 1) (if lod ≤ 0 then 0 else 1)
  (sampledLevels e smp lod).flatMap (fun l =>
    let s := levelSize e l
    let at_ := fun (c : Int) (n : Nat) =>
      let p := c * n * 256 / 2 ^ 24
      if linear then [(p - 128) / 256, (p - 128) / 256 + 1] else [p / 256]
    (at_ v s.2).flatMap (fun y => (at_ u s.1).map (fun x =>
      match wrapTexel (le smp 2 1 % 4) s.1 x, wrapTexel (le smp 2 1 / 4 % 4) s.2 y with
      | some x, some y => .at l x y
      | _, _ => .zero)))

/-! ### Residency (R255, R256) -/

/-- A byte of a residency map: as it was cached, or, where it has not been or the cache takes the new value, from memory. -/
def Dev.mapByte (d : Dev) (f : ShFrom) (a : Nat) : Dev × Option Nat × Nat :=
  match d.rend.resMaps.find? (fun m => m.1 == f.vi && m.2.1 == f.asp && decide (m.2.2.1 ≤ a) &&
      decide (a < m.2.2.1 + m.2.2.2.length)) with
  | some m =>
    let n := d.fresh
    let d := { d with fresh := n + 1 }
    if Config.mapNew n then
      let (d, st, bs) := d.vmRead f.vi f.gen f.asp f.ctx a 1
      (d, st, le bs 0 1)
    else (d, none, m.2.2.2.getD (a - m.2.2.1) 0)
  | none =>
    let (d, st, bs) := d.vmRead f.vi f.gen f.asp f.ctx a 1
    (if st.isNone then { d with rend := { d.rend with resMaps := d.rend.resMaps ++ [(f.vi, f.asp, a, bs)] } } else d, st,
      le bs 0 1)

/-- The pages of a sparse texture that are not resident. -/
def Dev.notResident (d : Dev) (f : ShFrom) (e : List Nat) : List Nat → Dev × Option Nat × List Nat
  | [] => (d, none, [])
  | p :: ps =>
    let (d, st, b) := d.mapByte f (le e 16 8 + p / 8)
    let (d, st', l) := d.notResident f e ps
    (d, statusThen st st', if bit b (p % 8) then l else p :: l)

/-- A page that was missed sets its bit in the feedback bitmap, once per command (R255). -/
def ShRun.feed (r : ShRun) (f : ShFrom) (e : List Nat) (p : Nat) : ShRun :=
  let fb := le e 24 8
  let d := r.dev.add (viPage f.vi 4) F.RQ_MISS_COUNT
  if fb = 0 ∨ r.fed.contains (fb, p) then { r with dev := d }
  else
    let a := fb + p / 32 * 4
    let (d, st, bs) := d.vmRead f.vi f.gen f.asp f.ctx a 4
    let (d, st') := d.vmWrite f.vi f.gen f.asp f.ctx a (bytesLE 4 (le bs 0 4 ||| 2 ^ (p % 32)))
    { dev := d, fed := (fb, p) :: r.fed, st := statusThen r.st (statusThen st st') }

/-- The pages that an access touches are looked up; whether all of them are resident. -/
def ShRun.resident (r : ShRun) (f : ShFrom) (e : List Nat) (ts : List Touched) : ShRun × Bool :=
  if !bit (le e 3 1) 0 then (r, true)
  else
    let pages := (ts.filterMap (fun t => match t with
      | .at l x y => some (texelPlace e l x y).1
      | _ => none)).eraseDups
    let (d, st, missed) := r.dev.notResident f e pages
    (missed.foldl (fun r p => r.feed f e p) { r with dev := d, st := statusThen r.st st }, missed.isEmpty)

/-! ### Accesses -/

def ShRun.read (r : ShRun) (f : ShFrom) (a n : Nat) : ShRun × List Nat :=
  let (d, st, bs) := r.dev.vmRead f.vi f.gen f.asp f.ctx a n
  ({ r with dev := d, st := statusThen r.st st }, bs)

def ShRun.write (r : ShRun) (f : ShFrom) (a : Nat) (bs : List Nat) : ShRun :=
  let (d, st) := r.dev.vmWrite f.vi f.gen f.asp f.ctx a bs
  { r with dev := d, st := statusThen r.st st }

def ShRun.answer (r : ShRun) (resident : Bool) (bs : List Nat) : ShRun := { r with dev := r.dev.emit (.shader resident bs) }

/-- The resource entry that a binding names (R251, R253), and the entry of the binding table; none where the table has no
such entry, or its TYPE is another than the resource's, so that every access falls outside. -/
def ShRun.entry (r : ShRun) (f : ShFrom) (bind : Nat) : ShRun × Option (List Nat × List Nat) :=
  if f.binds.length < 16 * (bind + 1) then (r, none)
  else
    let b := (f.binds.drop (16 * bind)).take 16
    let (r, e) := r.read f (f.table + 32 * le b 6 2) 32
    (r, if le e 0 1 = le b 4 1 then some (b, e) else none)

/-- The bytes of the texels that an access touches. -/
def ShRun.texels (r : ShRun) (f : ShFrom) (e : List Nat) : List Touched → ShRun × List Nat
  | [] => (r, [])
  | t :: ts =>
    let n := elemBytes (le e 1 1)
    let (r, bs) := match t with
      | .at l x y =>
        let p := texelPlace e l x y
        r.read f (le e 8 8 + 65536 * p.1 + p.2) n
      | .zero => (r, List.replicate n 0)
      | .beyond =>
        let k := r.dev.fresh
        ({ r with dev := { r.dev with fresh := k + 1 } }, (upFrom 0 n).map (fun i => (Config.beyondTexel k i).toNat))
    let (r, rest) := r.texels f e ts
    (r, bs ++ rest)

/-- A read of texels: 0 in every component where a page is not resident. -/
def ShRun.texRead (r : ShRun) (f : ShFrom) (e : List Nat) (ts : List Touched) : ShRun :=
  match r.resident f e ts with
  | (r, false) => r.answer false (List.replicate (elemBytes (le e 1 1) * ts.length) 0)
  | (r, true) =>
    let (r, bs) := r.texels f e ts
    r.answer true bs

/-- The bytes of a vertex input (R251). -/
def attrBytes (fmt : Nat) : Nat :=
  match fmt with
  | 0 => 4 | 1 => 8 | 2 => 12 | 3 => 16 | _ => 4

/-- A buffer access of `n` bytes lies within SIZE (R253). -/
def inBuffer (e : List Nat) (off n : Nat) : Bool := decide (off + n ≤ le e 4 4)

/-- One access of a shader. A read outside answers 0, a write outside is dropped. -/
def ShRun.access (r : ShRun) (f : ShFrom) (a : ShAccess) : ShRun :=
  let (r, found) := r.entry f a.bind
  let ty := match found with
    | some (b, _) => le b 4 1
    | none => 255
  let b := match found with
    | some (b, _) => b
    | none => []
  let e := match found with
    | some (_, e) => e
    | none => []
  let texOk := decide (0 < elemBytes (le e 1 1)) && (ty == 2 || imageFormat (le e 1 1)) && (ty == 2 || ty == 3)
  match a.op with
  | .load off n =>
    if (ty = 0 ∨ ty = 1) ∧ inBuffer e off.toNat n.val then
      let (r, bs) := r.read f (le e 8 8 + off.toNat) n.val
      r.answer true bs
    else r.answer true (List.replicate n.val 0)
  | .store off data => if ty = 1 ∧ inBuffer e off.toNat data.length then r.write f (le e 8 8 + off.toNat) data else r
  | .vertexInput =>
    let n := attrBytes (le b 5 1)
    let off := (if bit (le b 12 4) 31 then f.inst else f.vertex) * le b 8 4 + bits (le b 12 4) 0 12
    if ty = 5 ∧ inBuffer e off n then
      let (r, bs) := r.read f (le e 8 8 + off) n
      r.answer true bs
    else r.answer true (List.replicate n 0)
  | .texel level x y =>
    if texOk then r.texRead f e [texelTouched e level x y]
    else r.answer true (List.replicate (elemBytes (le e 1 1)) 0)
  | .sample smp u v lod =>
    match r.entry f smp with
    | (r, some (sb, se)) =>
      if texOk && ty == 2 && le sb 4 1 == 4 then r.texRead f e (sampledTouched e se u v lod)
      else r.answer true (List.replicate (elemBytes (le e 1 1)) 0)
    | (r, none) => r.answer true (List.replicate (elemBytes (le e 1 1)) 0)
  | .image level x y data =>
    match texOk && ty == 3, texelTouched e level x y with
    | true, .at l x y =>
      match r.resident f e [.at l x y] with
      | (r, true) =>
        let p := texelPlace e l x y
        r.write f (le e 8 8 + 65536 * p.1 + p.2) (takePad 0 (elemBytes (le e 1 1)) data)
      | (r, false) => r
    | _, _ => r

/-- The accesses of a shader in order. -/
def ShRun.all (r : ShRun) (f : ShFrom) (l : List ShAccess) : ShRun := l.foldl (fun r a => r.access f a) r

end Sys2Proof.Machine
end

