-- ==== Sys2Proof/Machine/Render.lean ====
section
/-! DEFINITION. Render fences, the commands of the engines, and the start of render and compute jobs (R239 to R265). -/

namespace Sys2Proof.Machine

open Sys2Proof

/-! ### Fences (R262 to R265) -/

/-- The fence page of a handle and its index; none for a handle that names no fence. -/
def fencePlace (h : Nat) : Option (Nat × Nat) :=
  let i := h % 256
  let dom := bits h 14 3
  if 2 ^ 17 ≤ h ∨ 192 ≤ i ∨ dom = 7 then none
  else if dom = 0 then some (viPage (bits h 8 6) 5, i)
  else some (0x1EF + dom, i)

/-- The owner code of a fence handle. -/
def Dev.fenceOwner (d : Dev) (h : Nat) : Option Nat :=
  let dom := bits h 14 3
  match fencePlace h with
  | none => none
  | some _ =>
    if dom = 0 then some (codeVi (d.viPort (bits h 8 6)) (bits h 8 6))
    else if dom ≤ 4 then some (codePf (dom - 1)) else if dom = 5 then some codeWard else some codeOpen

def noFence : Nat := 0xFFFFFFFF

def fenceKey (pid i : Nat) : Nat := 256 * pid + i

def Dev.owed (d : Dev) (pid i : Nat) : List Owe := tabGet d.rend.fences [] (fenceKey pid i)

def Dev.setOwed (d : Dev) (pid i : Nat) (l : List Owe) : Dev :=
  { d with rend := { d.rend with fences := tabPut d.rend.fences [] (fenceKey pid i) l } }.w pid F.FNC_STAT_OWED l.length i

/-- A waiter's condition: (VALUE − TARGET) mod 2^32 is below 2^31 (R265). -/
def reached (value target : Nat) : Bool := decide ((value + 2 ^ 32 - target % 2 ^ 32) % 2 ^ 32 < 2 ^ 31)

/-- A signal (R263): VALUE + 1, STATUS, and every waiter of the fence is evaluated. -/
def Dev.fenceSignal (d : Dev) (pid i status : Nat) : Dev :=
  let d := (d.add pid F.FNC_VAL_VALUE 1 i).w pid F.FNC_STAT_STATUS status i
  let v := d.r pid F.FNC_VAL_VALUE i
  { d with rend := { d.rend with waiters := d.rend.waiters.map (fun w =>
      if w.fence == fenceKey pid i && w.got.isNone && reached v w.target then { w with got := some status } else w) } }

/-- Register a waiter; one already satisfied takes STATUS when VALUE equals TARGET and OK otherwise (R265). -/
def Dev.fenceWait (d : Dev) (who pid i target : Nat) : Dev :=
  let v := d.r pid F.FNC_VAL_VALUE i
  let got := if reached v target then some (if v = target % 2 ^ 32 then d.r pid F.FNC_STAT_STATUS i else 0) else none
  { d with rend := { d.rend with waiters := d.rend.waiters ++
      [{ who := who, fence := fenceKey pid i, target := target, got := got }] } }

/-- The timeout of a fence in ms; 0 acts as 1 (R274). -/
def Dev.fenceTmo (d : Dev) (pid i : Nat) : Nat := max 1 (d.r pid F.FNC_CTRL_TMO i)

/-- Take an owed signal for `who` (R263), timed from now with the timeout as it stands now (R274). The caller has checked
that OWED is below 255. -/
def Dev.oweSignal (d : Dev) (who pid i : Nat) : Dev :=
  d.setOwed pid i (d.owed pid i ++ [{ who := who, since := d.now, tmo := d.fenceTmo pid i }])

/-- Pay the owed signal of `who`; one already paid as BROKEN is discarded and counted LATE (R264). -/
def Dev.paySignal (d : Dev) (who pid i status : Nat) : Dev :=
  let l := d.owed pid i
  if l.any (fun o => o.who == who) then
    (d.setOwed pid i (l.filter (fun o => !(o.who == who)))).fenceSignal pid i status
  else d.addSat pid F.FNC_SUM_LATE

/-- Forget an owed signal that will never be paid: its work was of a generation now gone (R172). -/
def Dev.dropOwed (d : Dev) (who pid i : Nat) : Dev :=
  d.setOwed pid i ((d.owed pid i).filter (fun o => !(o.who == who)))

/-- ms left on the fence's timer (R274). -/
def Dev.fenceRemain (d : Dev) (pid i : Nat) : Nat :=
  match d.owed pid i with
  | [] => 0
  | o :: _ => ceilDiv (1000000 * o.tmo - (d.now - o.since)) 1000000

/-- Once the oldest owed signal has reached its timeout it is paid as BROKEN (R264). -/
def Dev.fenceBroken (d : Dev) (pid i : Nat) : Dev :=
  match d.owed pid i with
  | [] => d
  | o :: rest =>
    if d.now < o.since + 1000000 * o.tmo then d
    else (((d.setOwed pid i rest).err pid 10).addSat pid F.FNC_SUM_BROKEN).fenceSignal pid i 2

/-! ### Commands (R176 to R180, R240 to R243) -/

/-- Bytes of a record that must be 0. -/
def zeros (bs : List Nat) (off n : Nat) : Bool := ((bs.drop off).take n).all (· == 0)

/-- A fence handle that a command of a VI may name: one of its own fences, or none (R240, R262). -/
def fenceOk (v h : Nat) : Bool :=
  h == noFence || ((fencePlace h).isSome && bits h 14 3 == 0 && bits h 8 6 == v)

/-- A WAIT or SIGNAL must name a fence. -/
def fenceNamed (v h : Nat) : Bool := fenceOk v h && !(h == noFence)

/-- The entry of an SQ is well formed for its engine (R240): a known opcode, no reserved bit or value. -/
def entryOk (v engine : Nat) (e : List Nat) : Bool :=
  let op := le e 0 2
  decide (le e 2 2 < 2) &&
  (match op with
   | 0 => zeros e 8 56
   | 1 => engine == 0 && le e 8 8 % 256 == 0 && zeros e 16 48
   | 2 => engine == 1 && decide (1 ≤ le e 24 4) && decide (le e 24 4 ≤ 65535) && decide (1 ≤ le e 28 4) &&
      decide (le e 28 4 ≤ 65535) && decide (1 ≤ le e 32 4) && decide (le e 32 4 ≤ 65535) && decide (1 ≤ le e 36 4) &&
      decide (le e 36 4 ≤ 1048576) && decide (1 ≤ le e 40 1) && decide (le e 40 1 ≤ 16) && zeros e 41 3 &&
      fenceOk v (le e 44 4) && zeros e 52 12
   | 3 => fenceNamed v (le e 8 4) && decide (100 ≤ le e 16 4) && decide (le e 16 4 ≤ 1000000) && zeros e 20 44
   | 4 => fenceNamed v (le e 8 4) && zeros e 12 52
   | 5 => decide (1 ≤ le e 16 4) && decide (le e 16 4 ≤ 16777216) && zeros e 20 44
   | _ => false)

/-- Change one command in flight. -/
def Dev.setCmd (d : Dev) (c : Cmd) : Dev :=
  { d with rend := { d.rend with cmds := d.rend.cmds.map (fun x => if x.uid == c.uid then c else x) } }

def Dev.cmdOf (d : Dev) (uid : Nat) : Option Cmd := d.rend.cmds.find? (fun x => x.uid == uid)

/-- The SIGNAL handle that a fetched command names (R263): in its entry, or for RENDER in the job descriptor. A malformed
COMPUTE or SIGNAL may still name one. A descriptor read that ends badly gives the command its status. -/
def Dev.cmdFence (d : Dev) (v asp ctx engine : Nat) (e : List Nat) (bad : Bool) : Dev × Option Nat × Nat :=
  match le e 0 2, bad with
  | 1, false =>
    let (d, st, bs) := d.vmRead v (d.gen v) asp ctx (le e 8 8 + 12) 4
    (d, st, if st.isNone then le bs 0 4 else noFence)
  | 2, _ => (d, none, if engine = 1 then le e 44 4 else noFence)
  | 4, _ => (d, none, le e 8 4)
  | _, _ => (d, none, noFence)

/-- Take a command into flight: the owed signal of the fence it names, or BAD_COMMAND (R240, R262, R263). -/
def Dev.launch (d : Dev) (v c cmdId sqHead : Nat) (e : List Nat) (period : Option Nat) (bad : Bool) (sliceMs : Nat) : Dev :=
  let p := ctxPid v
  let eng := d.r p F.CTX_CTRL_ENGINE c
  let (d, st, h) := if period.isSome then (d, none, noFence) else d.cmdFence v (d.r p F.CTX_CTRL_ASPACE c) c eng e bad
  let uid := d.rend.nextUid
  let full := match fencePlace h with
    | some (pid, i) => decide (255 ≤ (d.owed pid i).length)
    | none => false
  let named := fenceNamed v h && !full
  let cmd : Cmd := { uid := uid, vi := v, ctx := c, gen := d.gen v, engine := eng, cmdId := cmdId, op := le e 0 2,
                     hold := bit (le e 2 2) 0, entry := e, sqHead := sqHead, period := period,
                     status := if bad || !fenceOk v h || full then some 4 else st,
                     fence := if named then some h else none,
                     job := if le e 0 2 = 2 then some { sliceMs := sliceMs } else none }
  let d := { d with rend := { d.rend with cmds := d.rend.cmds ++ [cmd], nextUid := uid + 1 } }
  let d := match named, fencePlace h with
    | true, some (pid, i) => d.oweSignal uid pid i
    | _, _ => d
  (d.touchRes (ctxKey v c)).ctxShow v c

/-- The context can take one more command: fewer than 16 in flight, and the CQ has room for all and one more (R180). -/
def Dev.ctxRoom (d : Dev) (v c : Nat) : Bool :=
  let n := (d.ctxCmds v c).length
  decide (n < 16) && decide (n + 1 ≤ d.cqFree v c)

/-- The context may have its next SQ entry fetched (R169, R180 to R182). -/
def Dev.fetchable (d : Dev) (v c : Nat) : Bool :=
  d.viActive v && [1, 2].contains (d.ctxState v c) && d.hst.resident.contains (ctxKey v c) && d.unfetched v c && d.ctxRoom v c

/-- A context's place in the order of its VI after the one served last: PRIO, 15 first, then round robin (R201, R266). -/
def Dev.prioRank (d : Dev) (v last c : Nat) : Nat := (15 - d.r (ctxPid v) F.CTX_CTRL_PRIO c) * 64 + (c + 63 - last) % 64

/-- The context of a VI that is fetched from next (R201). -/
def Dev.fetchNext (d : Dev) (v : Nat) : Option Nat :=
  let rank := d.prioRank v (tabGet d.hst.lastFetch 63 v)
  ((upFrom 0 64).filter (d.fetchable v)).foldl (fun b c =>
    match b with
    | none => some c
    | some x => if rank c < rank x then some c else some x) none

/-- Fetch the next SQ entry of a context whose turn it is (R180); a read that faults or ends in an error puts the context
in ERROR (R181). -/
def Dev.sqFetch (d : Dev) (v c : Nat) : Dev :=
  let p := ctxPid v
  if d.fetchNext v = some c then
    let h := d.r p F.CTX_SQ_HEAD_INDEX c
    let base := d.r p F.CTX_SQ_LO_BASE c * 64 + 2 ^ 32 * d.r p F.CTX_SQ_HI_BASE c
    let d := { d with hst := { d.hst with lastFetch := tabPut d.hst.lastFetch 63 v c } }
    let (d, st, e) := d.vmRead v (d.gen v) (d.r p F.CTX_CTRL_ASPACE c) c (base + 64 * h) 64
    if st.isSome then d.ctxError v c 2
    else
      let h' := (h + 1) % d.sqSize v c
      let d := d.w p F.CTX_SQ_HEAD_INDEX h' c
      d.launch v c (le e 4 4) h' e none (!entryOk v (d.r p F.CTX_CTRL_ENGINE c) e) (le e 40 1)
  else d

/-- The command that a context may start now (R241): its oldest, not started, not decided, and with HOLD no command
fetched earlier of its VI and engine still in flight. -/
def Dev.startable (d : Dev) (v c op : Nat) : Option Cmd :=
  match d.ctxCmds v c with
  | [] => none
  | x :: _ =>
    if x.op = op ∧ !x.started ∧ x.status.isNone ∧
        !(x.hold && d.rend.cmds.any (fun y => decide (y.uid < x.uid) && y.vi == v && y.engine == x.engine && y.gen == x.gen))
    then some x else none

/-- NOP completes OK. -/
def Dev.cmdNop (d : Dev) (v c : Nat) : Dev :=
  match d.startable v c 0 with
  | some x => d.setCmd { x with started := true, status := some 0 }
  | none => d

/-- SIGNAL: every earlier command of its context has completed, so it completes OK and its fence is signalled with its
completion (R242, R263). -/
def Dev.cmdSignal (d : Dev) (v c : Nat) : Dev :=
  match d.startable v c 4 with
  | some x => d.setCmd { x with started := true, status := some 0 }
  | none => d

/-- WAIT registers a waiter (R265). -/
def Dev.cmdWait (d : Dev) (v c : Nat) : Dev :=
  match d.startable v c 3, fencePlace (match d.startable v c 3 with | some x => le x.entry 8 4 | none => noFence) with
  | some x, some (pid, i) =>
    (d.setCmd { x with started := true, began := some d.now }).fenceWait x.uid pid i (le x.entry 12 4)
  | _, _ => d

/-- A WAIT whose waiter is satisfied has its status: OK, or WAIT_FAILED when the signal's was not OK (R265). -/
def Dev.settleWaits (d : Dev) : Dev :=
  let done := d.rend.waiters.filter (fun w => w.got.isSome && decide (w.who < 2 ^ 32))
  let d := done.foldl (fun d w => match d.cmdOf w.who with
    | some x => d.setCmd { x with status := some (if w.got = some 0 then 0 else 19) }
    | none => d) d
  { d with rend := { d.rend with waiters := d.rend.waiters.filter (fun w => !(w.got.isSome && decide (w.who < 2 ^ 32))) } }

/-- The device time at which a limit of a command in µs is reached; none before the time from which it runs. -/
def Cmd.limitAt (x : Cmd) (us : Nat) : Option Nat := x.began.map (fun t => t + 1000 * us)

/-- A limit of a command has been reached. -/
def Dev.limitMet (d : Dev) (x : Cmd) (us : Nat) : Bool := match x.limitAt us with
  | some t => decide (t ≤ d.now)
  | none => false

/-- A WAIT reaches TIMEOUT_US. -/
def Dev.waitTimeout (d : Dev) (v c : Nat) : Dev :=
  match (d.ctxCmds v c).head? with
  | some x =>
    if x.op = 3 ∧ x.started ∧ x.status.isNone ∧ d.limitMet x (le x.entry 16 4) then
      let d := d.setCmd { x with status := some 18 }
      { d with rend := { d.rend with waiters := d.rend.waiters.filter (fun w => !(w.who == x.uid)) } }
    else d
  | none => d

/-- The address space of a context's commands. -/
def Dev.ctxAsp (d : Dev) (v c : Nat) : Nat := d.r (ctxPid v) F.CTX_CTRL_ASPACE c

/-- RESIDENCY_SYNC (R256): commands of the VI that start later see the map's bytes as they are now. -/
def Dev.cmdResSync (d : Dev) (v c : Nat) : Dev :=
  match d.startable v c 5 with
  | some x =>
    let asp := d.ctxAsp v c
    let a := le x.entry 8 8
    let n := le x.entry 16 4
    let (d, st, bs) := d.vmRead v x.gen asp c a n
    let covered := fun (m : Nat × Nat × Nat × List Nat) =>
      m.1 == v && m.2.1 == asp && decide (a ≤ m.2.2.1) && decide (m.2.2.1 + m.2.2.2.length ≤ a + n)
    let d := if st.isSome then d else
      { d with rend := { d.rend with resMaps := (v, asp, a, bs) :: d.rend.resMaps.filter (fun m => !covered m) } }
    d.setCmd { x with started := true, status := some (st.getD 0) }
  | none => d

/-! ### Render jobs (R244 to R260) -/

def jobColors (j : List Nat) : Nat := le j 4 1
/-- The record of colour target t. -/
def jobTarget (j : List Nat) (t : Nat) : List Nat := (j.drop (128 + 32 * t)).take 32

/-- A colour target record keeps the rules of R244 and R245 for a job of a width. -/
def targetOk (w : Nat) (t : List Nat) : Bool :=
  let bpp := targetBytes (le t 12 1)
  le t 0 8 % 256 == 0 && le t 8 4 % 64 == 0 && decide (w * bpp ≤ le t 8 4) && decide (0 < bpp) && decide (le t 13 1 ≤ 2) &&
  decide (le t 14 1 ≤ 1) && zeros t 15 1 && le t 16 8 % 64 == 0

/-- A render job descriptor keeps the rules of R244 to R246. -/
def descOk (v : Nat) (j : List Nat) : Bool :=
  let n := jobColors j
  let depth := bit (le j 5 1) 0
  decide (1 ≤ jobW j) && decide (jobW j ≤ 8192) && decide (1 ≤ jobH j) && decide (jobH j ≤ 8192) && decide (n ≤ 4) &&
  decide (le j 5 1 < 8) && (!bit (le j 5 1) 1 || le j 60 1 == 1) && zeros j 6 2 &&
  (le j 8 4 == 0 || (decide (100 ≤ le j 8 4) && decide (le j 8 4 ≤ 1000000))) && fenceOk v (le j 12 4) &&
  le j 16 8 % 64 == 0 && decide (1 ≤ le j 24 4) && decide (le j 24 4 ≤ 65536) && zeros j 28 4 &&
  le j 32 8 % 4096 == 0 && decide (256 ≤ le j 40 4) && decide (le j 40 4 ≤ 65536) && zeros j 44 4 &&
  le j 48 8 % 256 == 0 && (!depth || !(le j 48 8 == 0)) && le j 56 4 % 64 == 0 && decide (le j 60 1 ≤ 2) &&
  decide (le j 61 1 ≤ 2) && decide (le j 62 1 ≤ 1) && zeros j 63 1 && zeros j 69 59 &&
  (upFrom 0 n).all (fun t => targetOk (jobW j) (jobTarget j t)) &&
  decide ((upFrom 0 n).foldl (fun s t => s + targetBytes (le (jobTarget j t) 12 1)) 0 ≤ 32)

/-- A draw record holds only listed codes and a scissor inside the render area's tiles (R247). -/
def drawOk (j r : List Nat) : Bool :=
  let st := le r 20 4
  let b := le r 56 4
  let s := le r 60 4
  decide (le r 0 1 % 8 ≤ 4) && decide (le r 0 1 < 64) && decide (le r 1 1 % 4 ≤ 2) && decide (le r 1 1 < 8) &&
  decide (le r 2 1 < 16) && zeros r 3 1 && decide (1 ≤ le r 4 4) && decide (le r 4 4 ≤ 16777216) &&
  decide (1 ≤ le r 8 4) && decide (le r 8 4 ≤ 65536) && decide (st < 2 ^ 28) && decide (bits b 0 4 ≤ 9) &&
  decide (bits b 4 4 ≤ 9) && decide (bits b 8 3 ≤ 4) && decide (bits b 12 4 ≤ 9) && decide (bits b 16 4 ≤ 9) &&
  decide (bits b 20 3 ≤ 4) && bits b 23 1 == 0 && decide (b < 2 ^ 28) &&
  decide (bits s 16 8 < jobTilesX j) && decide (bits s 24 8 < ceilDiv (jobH j) 32) &&
  decide (bits s 0 8 ≤ bits s 16 8) && decide (bits s 8 8 ≤ bits s 24 8) &&
  le r 24 8 % (if bit (le r 0 1) 4 then 4 else 2) == 0 && le r 48 8 % 64 == 0

/-- CRC-32C and CRC-32 of IEEE 802.3, finalised. -/
def crc32c (bs : List Nat) : Nat := crcLsb 0x82F63B78 0xFFFFFFFF bs ^^^ 0xFFFFFFFF
def crc32 (bs : List Nat) : Nat := crcLsb 0xEDB88320 0xFFFFFFFF bs ^^^ 0xFFFFFFFF

/-- The fields of a container header keep their ranges for a use as a stage (R250, R252). -/
def headerOk (stage : Nat) (h : List Nat) : Bool :=
  let x := le h 20 2; let y := le h 22 2; let z := le h 24 2
  le h 0 4 == 0x53584249 && le h 4 2 == 1 && le h 6 1 == stage && decide (le h 7 1 < 8) && le h 8 4 % 256 == 0 &&
  decide (le h 12 4 ≤ 262144) && decide (1 ≤ le h 16 2) && decide (le h 16 2 ≤ 128) &&
  (if stage = 2 then decide (le h 18 2 ≤ 32768) && decide (1 ≤ x * y * z) && decide (x * y * z ≤ 1024)
   else le h 18 2 == 0 && x == 0 && y == 0 && z == 0) &&
  decide (le h 26 1 ≤ 16) && decide (le h 27 1 ≤ 16) && decide (le h 28 2 ≤ 64) && zeros h 88 36

/-- Check a shader container at an input address (R252): the status that its reads leave, whether it passes, its binding
table and its FLAGS. -/
def Dev.container (d : Dev) (v gen asp c stage addr : Nat) : Dev × Option Nat × Bool × List Nat × Nat :=
  let (d, st, h) := d.vmRead v gen asp c addr 128
  if st.isSome then (d, st, false, [], 0)
  else if !headerOk stage h || !(addr % 256 == 0) then (d, none, false, [], 0)
  else
    let (d, st1, bt) := d.vmRead v gen asp c (addr + le h 32 4) (16 * le h 28 2)
    let (d, st2, code) := d.vmRead v gen asp c (addr + le h 8 4) (le h 12 4)
    let slots := (upFrom 0 (le h 28 2)).all (fun k => decide (le bt (16 * k + 6) 2 < 64))
    (d, statusThen st1 st2, slots && crc32c (h.take 124 ++ bt ++ code) == le h 124 4, bt, le h 7 1)

/-- What the draw records of a job come to: the status that a read or a container leaves, the draws, and how many records
were skipped. -/
structure DrawSet where
  st : Option Nat := none
  draws : List Draw := []
  skipped : Nat := 0

/-- Check the draw records in turn, skipping bad ones (R247), and their containers (R252). -/
def Dev.checkDraws (d : Dev) (v gen asp c : Nat) (j : List Nat) : List (List Nat) → Dev × DrawSet
  | [] => (d, {})
  | r :: rest =>
    if !drawOk j r then
      let (d, s) := d.checkDraws v gen asp c j rest
      (d, { s with skipped := s.skipped + 1 })
    else
      let (d, st1, ok1, bt1, _) := d.container v gen asp c 0 (le r 32 8)
      let (d, st2, ok2, bt2, flags) := d.container v gen asp c 1 (le r 40 8)
      match statusThen (statusThen st1 st2) (if ok1 && ok2 then none else some 20) with
      | some st => (d, { st := some st })
      | none =>
        let (d, s) := d.checkDraws v gen asp c j rest
        (d, { s with draws := { record := r, vsBinds := bt1, fsBinds := bt2, fsFlags := flags } :: s.draws })

/-- The 64-byte signature header of a target (R259). -/
def sigHeader (j t : List Nat) (valid : Nat) : List Nat :=
  takePad 0 64 (bytesLE 8 (le t 0 8) ++ bytesLE 2 (jobW j) ++ bytesLE 2 (jobH j) ++ [le t 12 1, valid, 0, 0] ++
    bytesLE 4 (le t 8 4))

/-- The target has a signature buffer in this job. -/
def sigOn (j t : List Nat) : Bool := bit (le j 5 1) 2 && !(le t 16 8 == 0)

/-- Read a target's signature header and write VALID := 0 (R260): which signatures are usable, and the status that the
accesses leave. A periodic job's first frame after a drop runs with signatures unused (R31). -/
def Dev.sigStart (d : Dev) (v gen asp c : Nat) (j : List Nat) (noSig : Bool) : List Nat → Dev × List Bool × Option Nat
  | [] => (d, [], none)
  | t :: rest =>
    let tr := jobTarget j t
    if sigOn j tr then
      let (d, st, h) := d.vmRead v gen asp c (le tr 16 8) 64
      let use := st.isNone && !noSig && le h 13 1 == 1 && le h 0 8 == le tr 0 8 && le h 8 2 == jobW j && le h 10 2 == jobH j &&
        le h 12 1 == le tr 12 1 && le h 16 4 == le tr 8 4
      let (d, st2) := d.vmWrite v gen asp c (le tr 16 8 + 13) [0]
      let (d, us, st3) := d.sigStart v gen asp c j noSig rest
      (d, use :: us, statusThen st (statusThen st2 st3))
    else
      let (d, us, st3) := d.sigStart v gen asp c j noSig rest
      (d, false :: us, st3)

/-- The job of a period entry ignores its SIGNAL and DEADLINE fields (R243). -/
def periodDesc (period : Option Nat) (j : List Nat) : List Nat :=
  if period.isSome then j.take 8 ++ [0, 0, 0, 0, 255, 255, 255, 255] ++ j.drop 16 else j

/-- RENDER (R244 to R252, R260): the descriptor is read and checked, its draw records and containers are checked, the
signature headers are read, and binning begins. -/
def Dev.cmdRender (d : Dev) (v c : Nat) : Dev :=
  match d.startable v c 1 with
  | none => d
  | some x =>
    let asp := d.ctxAsp v c
    let (d, st, j) := d.vmRead v x.gen asp c (le x.entry 8 8) 256
    let j := periodDesc x.period j
    let x := { x with started := true, began := some d.now }
    if st.isSome then d.setCmd { x with status := st }
    else if !descOk v j then d.setCmd { x with status := some 4 }
    else
      let (d, st1, bs) := d.vmRead v x.gen asp c (le j 16 8) (64 * le j 24 4)
      let recs := (upFrom 0 (le j 24 4)).map (fun k => (bs.drop (64 * k)).take 64)
      let (d, s) := if st1.isNone then d.checkDraws v x.gen asp c j recs else (d, { st := st1 })
      let d := d.add (viPage v 4) F.RQ_SKIPREC_COUNT s.skipped
      if s.st.isSome then d.setCmd { x with status := s.st }
      else
        let noSig := match x.period with
          | some e => (tabGet d.per {} e).noSig
          | none => false
        let (d, us, st3) := d.sigStart v x.gen asp c j noSig (upFrom 0 (jobColors j))
        if st3.isSome then d.setCmd { x with status := st3 }
        else d.setCmd { x with job := some { desc := j, sigUse := us, draws := s.draws } }

/-- The workgroups of a COMPUTE entry (R240). -/
def groupsOf (e : List Nat) : Nat := le e 24 4 * le e 28 4 * le e 32 4

/-- The coordinates of a workgroup by its number, in the order X, then Y, then Z (R267). -/
def groupAt (e : List Nat) (n : Nat) : Nat × Nat × Nat :=
  let x := le e 24 4
  let y := le e 28 4
  (n % x, n / x % y, n / (x * y))

/-- COMPUTE (R252, R267): its container is checked and the job is split into slices. -/
def Dev.cmdCompute (d : Dev) (v c : Nat) : Dev :=
  match d.startable v c 2 with
  | none => d
  | some x =>
    let (d, st, pass, bt, _) := d.container v x.gen (d.ctxAsp v c) c 2 (le x.entry 8 8)
    let x := { x with started := true }
    if st.isSome then d.setCmd { x with status := st }
    else if !pass then d.setCmd { x with status := some 20 }
    else
      let ms := match x.job with
        | some j => j.sliceMs
        | none => 16
      d.setCmd { x with job := some { binds := bt, total := ceilDiv (groupsOf x.entry) (le x.entry 36 4), sliceMs := ms } }

end Sys2Proof.Machine
end

