-- ==== Sys2Proof/Machine/Clusters.lean ====
section
/-! DEFINITION. The render clusters: work items, binning, tiles, slices, completion of commands, periodic jobs and share
periods (R239, R242, R243, R257 to R260, R266 to R268). -/

namespace Sys2Proof.Machine

open Sys2Proof

/-! ### Dispatch (R239, R266 to R268) -/

/-- The page of a render cluster. -/
def rcPid (k : Nat) : Nat := 0x190 + 16 * (k / 4) + k % 4
def rndPid : Nat := 0x180

def Dev.itemOn (d : Dev) (k : Nat) : Option Item := tabGet d.rend.items none k
def Dev.setItem (d : Dev) (k : Nat) (i : Option Item) : Dev :=
  { d with rend := { d.rend with items := tabPut d.rend.items none k i } }

/-- The render clusters that run slices. -/
def Dev.sliceCount (d : Dev) : Nat :=
  ((upFrom 0 16).filter (fun k => match d.itemOn k with | some i => i.kind == 2 | none => false)).length

/-- A quad is powered and does not drain. -/
def Dev.quadOn (d : Dev) (q : Nat) : Bool :=
  (d.r rndPid F.RND_STAT_POWERED).testBit q && !(d.r rndPid F.RND_STAT_DRAINING).testBit q

/-- Show the clusters available and those that run slices (R270). -/
def Dev.rndShow (d : Dev) : Dev :=
  let n := ((upFrom 0 4).filter d.quadOn).length
  (d.w rndPid F.RND_STAT_AVAIL (4 * n)).w rndPid F.RND_STAT_SLICES d.sliceCount

/-- The item that a command has ready: kind and number (R258, R266, R267). -/
def Dev.readyItem (d : Dev) (x : Cmd) : Option (Nat × Nat) :=
  match x.job with
  | none => none
  | some j =>
    if !x.started ∨ x.status.isSome then none
    else if x.op = 2 then
      if j.next < j.total ∧ d.sliceCount + d.r rndPid F.RND_CTRL_RESERVE < d.r rndPid F.RND_STAT_AVAIL then
        some (2, j.next) else none
    else if j.phase = 0 then (if j.binning then none else some (0, 0))
    else (j.todo.head?).map (fun t => (1, t))

/-- A VI's budget in the present share period, in cluster-ns. -/
def Dev.budgetNs (d : Dev) (v : Nat) : Nat := 1000 * d.r (viPage v 4) F.RQ_BUDGET_US

/-- The VI that an item works for. -/
def Dev.itemVi (d : Dev) (i : Item) : Option Nat := (d.cmdOf i.uid).map (fun x => x.vi)

/-- The time for which a cluster's item is still to be charged, in ns. -/
def Dev.unchargedNs (d : Dev) (k : Nat) : Nat := match d.itemOn k with
  | some i => d.now - i.since
  | none => 0

/-- What a VI has been charged in the present share period, in cluster-ns, with the items that run (R266). -/
def Dev.chargeNs (d : Dev) (v : Nat) : Nat :=
  (upFrom 0 16).foldl (fun n k => match d.itemOn k with
    | some i => if d.itemVi i = some v then n + (d.now - i.since) else n
    | none => n) (tabGet d.rend.charge 0 v)

/-- The command of a VI whose item goes next: the highest PRIO, round robin among equals (R266). -/
def Dev.viNext (d : Dev) (v : Nat) : Option Cmd :=
  let rank := fun (y : Cmd) => d.prioRank v (tabGet d.rend.lastCtx 63 v) y.ctx
  (d.rend.cmds.filter (fun x => x.vi == v && (d.readyItem x).isSome)).foldl (fun b x =>
    match b with
    | none => some x
    | some y => if rank x < rank y then some x else some y) none

/-- The command whose item a free cluster takes: VIs below their budget first, each round round robin (R266). -/
def Dev.nextWork (d : Dev) : Option Cmd :=
  let order := (upFrom 1 64).map (fun k => (d.rend.lastVi + k) % 64)
  match (order.filter (fun v => decide (d.chargeNs v < d.budgetNs v))).findSome? d.viNext with
  | some x => some x
  | none => order.findSome? d.viNext

/-- The limit of binning batches and tiles in ms (R270). -/
def Dev.itemMs (d : Dev) : Nat :=
  let ms := d.r rndPid F.RND_CTRL_ITEM_MS
  if ms = 0 ∨ 16 < ms then 16 else ms

/-- The item that a cluster starts for a command: its limit (R239), and the workgroups of a slice (R267). -/
def Dev.newItem (d : Dev) (x : Cmd) (j : Job) (kind i : Nat) : Item :=
  let per := le x.entry 36 4
  if kind = 2 then
    { uid := x.uid, kind := kind, index := i, start := d.now, since := d.now, limit := j.sliceMs,
      group := groupAt x.entry (i * per), groups := min per (groupsOf x.entry - i * per) }
  else { uid := x.uid, kind := kind, index := i, start := d.now, since := d.now, limit := d.itemMs }

/-- A free render cluster takes the next ready work item. The deadline of a COMPUTE job runs from its first slice (R242). -/
def Dev.dispatch (d : Dev) (k : Nat) : Dev :=
  if d.quadOn (k / 4) && (d.itemOn k).isNone && d.r (rcPid k) F.RC_STAT_STATE == 1 && !d.isolated (rcPid k) then
    match d.nextWork with
    | none => d
    | some x =>
      match d.readyItem x, x.job with
      | some (kind, i), some j =>
        let item := d.newItem x j kind i
        let j := if kind = 2 then { j with next := j.next + 1 } else if kind = 0 then { j with binning := true }
          else { j with todo := j.todo.drop 1 }
        let d := d.setCmd { x with running := x.running + 1, job := some j,
                                   began := if x.began.isSome then x.began else some d.now }
        let d := d.setItem k (some item)
        let d := { d with rend := { d.rend with lastVi := x.vi, lastCtx := tabPut d.rend.lastCtx 63 x.vi x.ctx } }
        let p := rcPid k
        ((((d.w p F.RC_STAT_STATE 2).w p F.RC_STAT_KIND kind).w p F.RC_STAT_VI x.vi).w p F.RC_STAT_CTX x.ctx).rndShow
      | _, _ => d
  else d

/-- Charge the running item of a cluster up to now (R266, R272). -/
def Dev.chargeItem (d : Dev) (k : Nat) : Dev :=
  match d.itemOn k with
  | none => d
  | some i =>
    let ns := d.now - i.since
    let busy := tabGet d.rend.busyRem 0 k + ns
    let d := { d with rend := { d.rend with busyRem := tabPut d.rend.busyRem 0 k (busy % 1000) } }
    let d := d.add (rcPid k) F.RC_BUSY_US (busy / 1000)
    let d := match d.itemVi i with
      | some v => { d with rend := { d.rend with charge := tabPut d.rend.charge 0 v (tabGet d.rend.charge 0 v + ns) } }
      | none => d
    d.setItem k (some { i with since := d.now })

/-- What `RC_BUSY` and `RQ_USED` show: the item that runs counts up to now. -/
def Dev.busyShown (d : Dev) (k : Nat) : Nat :=
  (d.r (rcPid k) F.RC_BUSY_US + (tabGet d.rend.busyRem 0 k + d.unchargedNs k) / 1000) % 2 ^ 32
def Dev.usedShown (d : Dev) (v : Nat) : Nat := sat (2 ^ 24 - 1) (d.chargeNs v / 1000)

/-- The cluster is free again: idle, or draining when its quad drains. -/
def Dev.freeCluster (d : Dev) (k : Nat) : Dev :=
  ((d.setItem k none).w (rcPid k) F.RC_STAT_STATE
    (if (d.r rndPid F.RND_STAT_DRAINING).testBit (k / 4) then 3 else 1)).rndShow

/-! ### Binning (R257, R258) -/

/-- The tiles of the final phase: those with a list, and where a target is cleared those that no flush has rendered
(R257). -/
def finalTiles (j : Job) : List Nat :=
  let clear := (upFrom 0 (jobColors j.desc)).any (fun t => le (jobTarget j.desc t) 13 1 == 0) ||
    (bit (le j.desc 5 1) 0 && le j.desc 61 1 == 0)
  if clear then (upFrom 0 (jobTiles j.desc)).filter (fun t => !j.flushed.contains t || !(tabGet j.lists [] t).isEmpty)
  else j.lists.map (·.1)

/-- A binning batch under way: what its accesses leave, its job, and whether it found the pool full. -/
structure BinRun where
  run : ShRun
  job : Job
  full : Bool := false

/-- A primitive is appended to the list of a tile; a list whose blocks are full takes the next block of the pool. -/
def BinRun.append (b : BinRun) (f : ShFrom) (q : Prim) (tile : Nat) : BinRun :=
  let l := tabGet b.job.lists [] tile
  let job := { b.job with lists := tabPut b.job.lists [] tile (l ++ [q]) }
  if l.length % max 1 Config.listEntries = 0 then
    if le job.desc 40 4 ≤ job.blocks then { b with job := job, full := true }
    else
      let n := b.run.dev.fresh
      let run := { b.run with dev := { b.run.dev with fresh := n + 1 } }
      { b with run := run.write f (le job.desc 32 8 + 1024 * job.blocks)
                        ((upFrom 0 1024).map (fun i => (Config.poolByte n i).toNat)),
               job := { job with blocks := job.blocks + 1 } }
  else { b with job := job }

/-- Binning passes to the next vertex or index: of the instance, of the next instance, or of the next draw. -/
def Job.pass (j : Job) (r : List Nat) : Job :=
  if j.pos + 1 < le r 4 4 then { j with pos := j.pos + 1 }
  else if j.inst + 1 < le r 8 4 then { j with pos := 0, inst := j.inst + 1, verts := [], strip := 0 }
  else { j with pos := 0, inst := 0, draw := j.draw + 1, verts := [], strip := 0 }

/-- The index at binning's place in an indexed draw, and otherwise the vertex number. -/
def BinRun.index (b : BinRun) (f : ShFrom) (r : List Nat) : BinRun × Nat :=
  let n := le r 12 4 + b.job.pos
  if bit (le r 0 1) 3 then
    let size := if bit (le r 0 1) 4 then 4 else 2
    let (run, bs) := b.run.read f (le r 24 8 + size * n) size
    ({ b with run := run }, le bs 0 size)
  else (b, n % 2 ^ 32)

/-- The next vertex or index of the draws is taken (R247, R248): a restart index ends the strip; a vertex, shaded, may
complete a primitive, which is clipped and appended to the tiles it touches. After the primitive that found the pool full,
nothing. -/
def BinRun.vertex (b : BinRun) (f : ShFrom) (o : VertOut) : BinRun :=
  if b.full then b
  else match b.job.draws[b.job.draw]? with
    | none => b
    | some w =>
      let r := w.record
      let (b, idx) := b.index f r
      let indexed := bit (le r 0 1) 3
      let ends := indexed && bit (le r 0 1) 5 && idx == (if bit (le r 0 1) 4 then 2 ^ 32 - 1 else 2 ^ 16 - 1)
      if ends then { b with job := { b.job with verts := [], strip := 0 }.pass r }
      else
        let number := if indexed then (idx + le r 16 4) % 2 ^ 32 else idx
        let run := b.run.all { f with binds := w.vsBinds, table := le r 48 8, vertex := number, inst := b.job.inst } o.acc
        let (done, kept, strip) := assemble (le r 0 1 % 8) b.job.strip b.job.verts (vertOf o)
        let draw := b.job.draw
        let b := { b with run := run, job := { b.job with verts := kept, strip := strip }.pass r }
        match done.bind (primOf (jobW b.job.desc) (jobH b.job.desc) draw r) with
        | none => b
        | some q => (q.tiles b.job.desc r).foldl (fun b t => b.append f q t) b

/-- From where the shaders of a command reach memory. -/
def Dev.shFrom (d : Dev) (x : Cmd) (binds : List Nat) (table : Nat) : ShFrom :=
  { vi := x.vi, gen := x.gen, asp := d.ctxAsp x.vi x.ctx, ctx := x.ctx, binds := binds, table := table }

/-- The phase after a binning batch: a full pool makes an overflow flush, the end of the draws starts the final tiles. -/
def BinRun.finish (b : BinRun) : Job :=
  let j := { b.job with binning := false }
  if b.full then { j with phase := 1, todo := j.lists.map (·.1) }
  else if j.draws.length ≤ j.draw then { j with phase := 2, todo := finalTiles j }
  else j

/-! ### Tiles (R244, R257 to R260) -/

/-- The rows of a tile inside the render area, as address and number of bytes in a target of a pitch. -/
def tileRows (j : List Nat) (tile addr pitch bpp : Nat) : List (Nat × Nat) :=
  let tx := tile % jobTilesX j; let ty := tile / jobTilesX j
  let w := min 32 (jobW j - 32 * tx); let h := min 32 (jobH j - 32 * ty)
  (upFrom 0 h).map (fun r => (addr + (32 * ty + r) * pitch + 32 * tx * bpp, w * bpp))

/-- The places of the pixels of rows, each of some of its bytes. -/
def pixelPlaces (bpp n : Nat) (rows : List (Nat × Nat)) : List (Nat × Nat) :=
  rows.flatMap (fun r => (upFrom 0 (r.2 / bpp)).map (fun i => (r.1 + bpp * i, n)))

/-- Read pieces. -/
def ShRun.readAll (r : ShRun) (f : ShFrom) : List (Nat × Nat) → ShRun × List Nat
  | [] => (r, [])
  | (a, n) :: rest =>
    let (r, bs) := r.read f a n
    let (r, bs') := r.readAll f rest
    (r, bs ++ bs')

/-- Write pieces. -/
def ShRun.writeAll (r : ShRun) (f : ShFrom) : List (Nat × Nat) → List Nat → ShRun
  | [], _ => r
  | (a, n) :: rest, bs => (r.write f a (takePad 0 n (bs.take n))).writeAll f rest (bs.drop n)

/-- The `n` values of pixels that a target starts a tile with: `mode` 0 its clear value, 1 what memory holds, else
undefined. -/
def ShRun.startPlane (r : ShRun) (f : ShFrom) (mode bpp clear n : Nat) (rows : List (Nat × Nat)) : ShRun × List Nat :=
  match mode with
  | 0 => (r, List.replicate n clear)
  | 1 =>
    let (r, bs) := r.readAll f rows
    (r, (upFrom 0 n).map (fun i => le bs (bpp * i) bpp))
  | _ =>
    let k := r.dev.fresh
    ({ r with dev := { r.dev with fresh := k + 1 } }, (upFrom 0 n).map (fun i => (Config.tileByte k i).toNat % 2 ^ (8 * bpp)))

/-- The pixels of each colour target that a tile starts with, target by target. A tile that a flush has rendered loads them
(R258). -/
def ShRun.startColours (r : ShRun) (f : ShFrom) (j : Job) (tile n : Nat) : List Nat → ShRun × List (List Nat)
  | [] => (r, [])
  | t :: ts =>
    let tr := jobTarget j.desc t
    let bpp := targetBytes (le tr 12 1)
    let mode := if j.flushed.contains tile then 1 else le tr 13 1
    let (r, ps) := r.startPlane f mode bpp (le tr 24 8 % 2 ^ (8 * bpp)) n (tileRows j.desc tile (le tr 0 8) (le tr 8 4) bpp)
    let (r, rest) := r.startColours f j tile n ts
    (r, ps :: rest)

/-- The stored depth values, with stencil in the top byte of D24S8, that a tile starts with. -/
def ShRun.startDepth (r : ShRun) (f : ShFrom) (j : Job) (tile n : Nat) : ShRun × List Nat :=
  let fmt := le j.desc 60 1
  let bpp := depthBytes fmt
  let z := if fmt = 2 then le j.desc 64 4 else depthStore fmt (Frac.ofF32 (le j.desc 64 4))
  let clear := z + (if fmt = 1 then 2 ^ 24 * le j.desc 68 1 else 0)
  let mode := if j.flushed.contains tile then 1 else le j.desc 61 1
  if bit (le j.desc 5 1) 0 then r.startPlane f mode bpp clear n (tileRows j.desc tile (le j.desc 48 8) (le j.desc 56 4) bpp)
  else r.startPlane f (if mode = 0 then 0 else 2) bpp clear n []

/-- The tile memory of a tile at its start. -/
def ShRun.startTile (r : ShRun) (f : ShFrom) (j : Job) (tile : Nat) : ShRun × List TilePix :=
  let n := (tilePixels j.desc tile).length
  let (r, cols) := r.startColours f j tile n (upFrom 0 (jobColors j.desc))
  let (r, zs) := r.startDepth f j tile n
  let d24 := le j.desc 60 1 == 1
  (r, (upFrom 0 n).map (fun i =>
    let z := zs.getD i 0
    { cols := cols.map (fun c => c.getD i 0), depth := if d24 then z % 2 ^ 24 else z,
      stencil := if d24 then bits z 24 8 else 0 }))

/-- A tile under way: what its accesses leave, its pixels, and what its shaders leave of the fragments still to come. -/
structure TileRun where
  run : ShRun
  pix : List TilePix
  frags : List FragOut

/-- A fragment in its turn; `i` is its pixel's place in the tile. -/
def TileRun.fragment (t : TileRun) (f : ShFrom) (j : Job) (w : Draw) (i : Nat) (z : Frac) : TileRun :=
  let o := t.frags.headD {}
  let p := t.pix.getD i { cols := [], depth := 0, stencil := 0 }
  let (q, runs) := Machine.fragment j.desc w p z o
  let run := if runs then t.run.all { f with binds := w.fsBinds, table := le w.record 48 8 } o.acc else t.run
  { run := run, pix := setAt t.pix i q, frags := t.frags.drop 1 }

/-- The fragments of a primitive in a tile. -/
def TileRun.prim (t : TileRun) (f : ShFrom) (j : Job) (tile : Nat) (q : Prim) : TileRun :=
  match j.draws[q.draw]? with
  | none => t
  | some w =>
    ((tilePixels j.desc tile).zip (upFrom 0 1024)).foldl (fun t c =>
      match q.at c.1.1 c.1.2 with
      | some z => t.fragment f j w c.2 z
      | none => t) t

/-- A tile's signature (R259); one that would be 0 is 1. -/
def tileSig (bs : List Nat) : Nat :=
  let s := crc32c bs + 2 ^ 32 * crc32 bs
  if s = 0 then 1 else s

/-- Store a tile's colour targets (R257, R260): a store is skipped when its signature is usable and unchanged. -/
def ShRun.storeColour (r : ShRun) (f : ShFrom) (j : Job) (tile : Nat) (pix : List TilePix) : List Nat → ShRun
  | [] => r
  | t :: ts =>
    let tr := jobTarget j.desc t
    let bpp := targetBytes (le tr 12 1)
    let rows := tileRows j.desc tile (le tr 0 8) (le tr 8 4) bpp
    let bs := pix.flatMap (fun p => bytesLE bpp (p.cols.getD t 0))
    let r :=
      if !(le tr 14 1 == 0 || j.phase == 1) then r
      else if sigOn j.desc tr then
        let ea := le tr 16 8 + 64 + 8 * tile
        let sig := tileSig bs
        let (r, old) := r.read f ea 8
        if j.sigUse.getD t false && !(j.flushed.contains tile || j.phase == 1) && le old 0 8 == sig then
          { r with dev := r.dev.add (viPage f.vi 4) F.RQ_SKIP_COUNT }
        else (r.writeAll f rows bs).write f ea (bytesLE 8 sig)
      else r.writeAll f rows bs
    r.storeColour f j tile pix ts

/-- Store a tile's depth: DEPTH_STORE 0, or an overflow flush; stencil with it when STENCIL_EN is set (R257, R258). -/
def ShRun.storeDepth (r : ShRun) (f : ShFrom) (j : Job) (tile : Nat) (pix : List TilePix) : ShRun :=
  if bit (le j.desc 5 1) 0 && (le j.desc 62 1 == 0 || j.phase == 1) then
    let fmt := le j.desc 60 1
    let bpp := depthBytes fmt
    let n := if fmt = 1 && !bit (le j.desc 5 1) 1 then 3 else bpp
    r.writeAll f (pixelPlaces bpp n (tileRows j.desc tile (le j.desc 48 8) (le j.desc 56 4) bpp))
      (pix.flatMap (fun p => bytesLE n (p.depth + (if fmt = 1 then 2 ^ 24 * p.stencil else 0))))
  else r

/-- A tile is rendered (R257): its targets start, its list is processed in order (R249), and the targets are stored. -/
def ShRun.tile (r : ShRun) (f : ShFrom) (j : Job) (tile : Nat) (frags : List FragOut) : ShRun :=
  let (r, pix) := r.startTile f j tile
  let t := (tabGet j.lists [] tile).foldl (fun (t : TileRun) q => t.prim f j tile q) { run := r, pix := pix, frags := frags }
  (t.run.storeColour f j tile t.pix (upFrom 0 (jobColors j.desc))).storeDepth f j tile t.pix

/-- At the end of a job that completes OK the header is written with VALID = 1 (R260). -/
def ShRun.sigFinish (r : ShRun) (f : ShFrom) (j : Job) : List Nat → ShRun
  | [] => r
  | t :: ts =>
    let tr := jobTarget j.desc t
    (if sigOn j.desc tr then r.write f (le tr 16 8) (sigHeader j.desc tr 1) else r).sigFinish f j ts

/-! ### The end of an item -/

/-- An overflow flush is done (R258): the lists are freed, and binning resumes, or the final tiles start. -/
def Job.flushDone (j : Job) : Job :=
  let k : Job := { j with flushed := (j.flushed ++ j.lists.map (·.1)).eraseDups, lists := [], blocks := 0 }
  if k.draw < k.draws.length then { k with phase := 0 } else { k with phase := 2, todo := finalTiles k }

/-- A render job goes on after an item: flush tiles done resume binning or start the final tiles; final tiles done end
the job. -/
def Dev.renderStep (d : Dev) (x : Cmd) (j : Job) : Dev :=
  if x.status.isSome ∨ 0 < x.running ∨ !j.todo.isEmpty ∨ j.phase = 0 then d.setCmd { x with job := some j }
  else
    let j := if j.phase = 1 then j.flushDone else j
    if j.phase = 2 ∧ j.todo.isEmpty then
      let r := ShRun.sigFinish { dev := d, fed := x.fed, st := none } (d.shFrom x [] 0) j (upFrom 0 (jobColors j.desc))
      r.dev.setCmd { x with job := some j, status := some (r.st.getD 0) }
    else d.setCmd { x with job := some j }

/-- The end of a binning batch. -/
def Dev.binEnd (d : Dev) (x : Cmd) (j : Job) (verts : List VertOut) : Dev :=
  let f := d.shFrom x [] 0
  let b := verts.foldl (fun (b : BinRun) o => b.vertex f o) { run := { dev := d, fed := x.fed, st := none }, job := j }
  let x := { x with fed := b.run.fed, status := b.run.st }
  let d := if b.full then b.run.dev.add (viPage x.vi 4) F.RQ_OVF_COUNT else b.run.dev
  d.renderStep x b.finish

/-- The end of a tile. -/
def Dev.tileEnd (d : Dev) (x : Cmd) (j : Job) (tile : Nat) (frags : List FragOut) : Dev :=
  let r := ShRun.tile { dev := d, fed := x.fed, st := none } (d.shFrom x [] 0) j tile frags
  r.dev.renderStep { x with fed := r.fed, status := statusThen x.status r.st } j

/-- The end of a slice; the last one completes the command. -/
def Dev.sliceEnd (d : Dev) (x : Cmd) (j : Job) (acc : List ShAccess) : Dev :=
  let r := ShRun.all { dev := d, fed := x.fed, st := none } (d.shFrom x j.binds (le x.entry 16 8)) acc
  let st := statusThen x.status r.st
  let st := if st.isNone ∧ x.running = 0 ∧ j.total ≤ j.next then some 0 else st
  r.dev.setCmd { x with fed := r.fed, status := st }

/-- An item is aborted (R239): a unit-level fault of the cluster; the command completes ITEM_ABORT once its other items have
ended. -/
def Dev.abortItem (d : Dev) (k : Nat) (i : Item) : Dev :=
  let p := rcPid k
  let d := (d.chargeItem k).setItem k none
  let v := (d.itemVi i).getD 0
  let d := match d.cmdOf i.uid with
    | some x => d.setCmd { x with running := x.running - 1, status := some (x.status.getD 17) }
    | none => d
  let d := (((d.w p F.RC_STAT_STATE 0).addSat p F.RC_ABORT_COUNT).add rndPid F.RND_ABORTS_COUNT).err p 10
  ((d.err rndPid 10).rndShow).openFault 1 1 p v

/-- The item on a cluster has run longer than its limit. -/
def Dev.overLimit (d : Dev) (i : Item) : Bool := decide (i.start + 1000000 * i.limit < d.now)

/-- An item exceeds its limit. -/
def Dev.itemAbort (d : Dev) (k : Nat) : Dev :=
  match d.itemOn k with
  | none => d
  | some i => if d.overLimit i then d.abortItem k i else d

/-- What an item leaves, for its command; one of a stale generation leaves nothing (R172). A batch of a job that is over
appends nothing more. -/
def Dev.itemResult (d : Dev) (x : Cmd) (j : Job) (i : Item) (r : ItemResult) : Dev :=
  if !(x.gen == d.gen x.vi) then d.setCmd { x with status := some (x.status.getD 2) }
  else match r with
    | .bin verts => if x.status.isSome then d.setCmd x else d.binEnd x j verts
    | .tile frags => d.tileEnd x j i.index frags
    | .slice acc => d.sliceEnd x j acc

/-- The kind of item that a result is of. -/
def resultKind : ItemResult → Nat
  | .bin _ => 0 | .tile _ => 1 | .slice _ => 2

/-- A work item ends on its cluster (R239, R257 to R260, R267), and what it leaves takes effect; one over its limit is
aborted. -/
def Dev.itemEnd (d : Dev) (k : Nat) (r : ItemResult) : Dev :=
  match d.itemOn k with
  | none => d
  | some i =>
    if !(i.kind == resultKind r) then d
    else if d.overLimit i then d.abortItem k i
    else
      let d := (d.chargeItem k).freeCluster k
      match d.cmdOf i.uid with
      | none => d
      | some x =>
        let x := { x with running := x.running - 1 }
        match x.job with
        | none => d.setCmd x
        | some j => d.itemResult x j i r

/-- A job's own deadline in µs (R240, R242 to R244): of RENDER from its descriptor, of COMPUTE from its entry, where 0 is
none. -/
def Cmd.deadlineUs (x : Cmd) : Option Nat :=
  if x.period.isSome then none
  else if x.op = 1 then
    x.job.map (fun j => if le j.desc 8 4 = 0 then 100000 else le j.desc 8 4)
  else if x.op = 2 ∧ 0 < le x.entry 48 4 then some (le x.entry 48 4)
  else none

/-- A job reaches its own deadline (R242): no further item starts, and it completes DEADLINE when the running ones have
ended; the tile lists are freed (R31). -/
def Dev.jobDeadline (d : Dev) (v c : Nat) : Dev :=
  match (d.ctxCmds v c).head? with
  | some x =>
    match x.deadlineUs with
    | some us =>
      if x.started ∧ x.status.isNone ∧ d.limitMet x us then
        (d.setCmd { x with status := some 16, job := x.job.map (fun j => { j with lists := [], todo := [] }) }).add (viPage v 4)
          F.RQ_DROPS_COUNT
      else d
    | none => d
  | none => d

/-! ### Completion (R180, R242) -/

/-- The status with which a command's fence is signalled (R263). -/
def fenceStatus (s : Nat) : Nat := if s = 0 then 0 else if s = 1 ∨ s = 16 then 1 else 3

/-- Write a completion entry (R178); false where the write faults, which puts the context in ERROR. -/
def Dev.cqWrite (d : Dev) (x : Cmd) (status : Nat) : Dev × Bool :=
  let p := ctxPid x.vi
  let c := x.ctx
  let tail := d.r p F.CTX_CQ_TAIL_INDEX c
  let base := d.r p F.CTX_CQ_LO_BASE c * 64 + 2 ^ 32 * d.r p F.CTX_CQ_HI_BASE c
  let (t, d) := d.stamp rndPid
  let e := bytesLE 4 x.cmdId ++ bytesLE 2 status ++ [d.r p F.CTX_CQ_TAIL_PHASE c, x.gen] ++ bytesLE 2 x.sqHead ++ [0, 0] ++
    bytesLE 4 t
  let (d, st) := d.vmWrite x.vi x.gen (d.ctxAsp x.vi c) c (base + 16 * tail) e
  if st.isSome then (d.ctxError x.vi c 3, false)
  else
    let n := d.cqSize x.vi c
    let d := if tail + 1 = n then (d.w p F.CTX_CQ_TAIL_INDEX 0 c).w p F.CTX_CQ_TAIL_PHASE (1 - d.r p F.CTX_CQ_TAIL_PHASE c) c
      else d.w p F.CTX_CQ_TAIL_INDEX (tail + 1) c
    (d.add p F.CTX_DONE_COUNT 1 c, true)

/-- The VI has no work of its generation in flight (R170): no command, and no walk. -/
def Dev.viQuiet (d : Dev) (v : Nat) : Bool :=
  !(d.rend.cmds.any (fun x => x.vi == v && x.gen == d.gen v)) && !(d.hst.walks.any (fun k => k.vi == v && k.gen == d.gen v))

/-- QUIESCING ends when no command of the VI is in flight (R169). -/
def Dev.quiesced (d : Dev) (v : Nat) : Dev :=
  if d.viState v = 5 && !(d.rend.cmds.any (fun x => x.vi == v && x.gen == d.gen v)) then d.w (vihPid v) F.VIH_STAT_STATE 6 else d

def Dev.dropCmd (d : Dev) (uid : Nat) : Dev :=
  { d with rend := { d.rend with cmds := d.rend.cmds.filter (fun x => !(x.uid == uid)),
                                 waiters := d.rend.waiters.filter (fun w => !(w.who == uid)) } }

/-- A command completes (R172, R180, R242): its CQ entry, its fence, its interrupt once the entry is written; a stale
completion is discarded and counted. `gen` names the generation at which the command was fetched. -/
def Dev.cmdComplete (d : Dev) (v c gen : Nat) : Dev :=
  match (d.rend.cmds.filter (fun x => x.vi == v && x.ctx == c && x.gen == gen)).head? with
  | none => d
  | some x =>
    match x.status with
    | none => d
    | some st =>
      if 0 < x.running then d
      else if !(x.gen == d.gen v) then
        ((d.dropCmd x.uid).add (vihPid v) F.VIH_STALE_COUNT).add (0x080 + d.viPort v) F.HP_STALE_COUNT
      else
        let (d, written) := d.cqWrite x st
        let d := match x.fence.bind fencePlace with
          | some (pid, i) => d.paySignal x.uid pid i (fenceStatus st)
          | none => d
        let d := match x.period with
          | some e => d.perFinish e (fenceStatus st)
          | none => d
        let d := if st = 3 then d.addSat (viPage v 0) F.VIC_DMAERR_COUNT else d
        let d := if d.on (ctxPid v) F.CTX_CTRL_CQ_IRQ c && written then d.evtCq v c else d
        ((((d.dropCmd x.uid).ctxDrained v c).ctxShow v c).quiesced v).settleWaits

/-! ### Periodic jobs (R243) -/

/-- A release of a period entry asks for its job: it waits until the context can take it. -/
def Dev.releaseJob (d : Dev) (e : Nat) : Dev := { d with rend := { d.rend with releases := d.rend.releases ++ [e] } }

/-- A job record as its slot takes it: SIGNAL and DEADLINE ignored, the slot's SLICE_MS in place of its own. -/
def slotRecord (bs : List Nat) (sliceMs : Nat) : List Nat :=
  if le bs 0 2 = 2 then bs.take 40 ++ [sliceMs, 0, 0, 0, 255, 255, 255, 255, 0, 0, 0, 0] ++ bs.drop 52 else bs

/-- The record of a released periodic job is inserted as the context's next command, behind the one that runs. A context
that is not resident asks for residency first (R182). -/
def Dev.insertJob (d : Dev) (e : Nat) : Dev :=
  if !d.rend.releases.contains e then d
  else
    let pp := perPage e
    let v := d.r pp F.PE_CTRL_OWNER (e % 64)
    let j := d.r pp F.PE_TARGET_HANDLE (e % 64)
    let kind := d.r pp F.PE_CTRL_KIND (e % 64)
    let q := viPage v 4
    let c := d.a q F.RQ_JOB_CFG_CTX j
    if !([1, 2].contains (d.ctxState v c) && d.ctxRoom v c && d.viActive v) then d
    else if !d.hst.resident.contains (ctxKey v c) then d.needRes v c
    else
      let d := { d with rend := { d.rend with releases := d.rend.releases.erase e } }
      let a := d.a q F.RQ_JOB_LO_ADDR j * 64 + 2 ^ 32 * d.a q F.RQ_JOB_HI_ADDR j
      let (d, st, bs) := d.vmRead v (d.gen v) (d.ctxAsp v c) c a 64
      let eng := d.r (ctxPid v) F.CTX_CTRL_ENGINE c
      let ms := d.a q F.RQ_JOB_CFG_SLICE_MS j
      let bs' := if 1 ≤ ms ∧ ms ≤ 16 then slotRecord bs ms else bs
      let bad := !(st.isNone && j < 16 && d.a q F.RQ_JOB_CFG_VALID j == 1 && le bs 0 2 == kind + 1 &&
        entryOk v eng bs')
      let before := d.rend.cmds
      let uid := d.rend.nextUid
      let d := d.launch v c (d.a q F.RQ_JOB_ID_CMD_ID j) (d.r (ctxPid v) F.CTX_SQ_HEAD_INDEX c) bs' (some e) bad ms
      match d.cmdOf uid with
      | none => d
      | some x =>
        let run := before.takeWhile (fun y => !(y.vi == v && y.ctx == c) || y.started)
        let x := { x with status := if st.isSome then st else x.status }
        { d with rend := { d.rend with cmds := run ++ [x] ++ before.drop run.length } }

/-! ### Share periods and quads (R266, R268) -/

/-- A share period starts: the last one's charges are shown, C is taken, and budgets are set. -/
def Dev.shareStart (d : Dev) : Dev :=
  let d := forAll (upFrom 0 16) (fun k d => d.chargeItem k) d
  let cNow := d.r rndPid F.RND_STAT_AVAIL
  let d := d.w rndPid F.RND_STAT_PERIOD_C cNow
  let d := forAll (upFrom 0 d.nVis) (fun v d =>
    let us := d.chargeNs v / 1000
    let d := (d.w 0x181 F.RND_USE_LAST (sat (2 ^ 24 - 1) us) v).w 0x181 F.RND_USE_OVER
      (b2n (decide (d.budgetNs v < d.chargeNs v))) v
    (d.w (viPage v 4) F.RQ_BUDGET_US (1000 * cNow / d.nVis)).w (viPage v 4) F.RQ_USED_US 0) d
  { d with rend := { d.rend with charge := [] } }

/-- A draining quad whose clusters are all idle powers down. -/
def Dev.quadDrained (d : Dev) (q : Nat) : Dev :=
  let m := d.r rndPid F.RND_STAT_DRAINING
  if m.testBit q && (upFrom (4 * q) 4).all (fun k => (d.itemOn k).isNone) then
    let d := (d.w rndPid F.RND_STAT_DRAINING (m - 2 ^ q)).w rndPid F.RND_STAT_POWERED
      (d.r rndPid F.RND_STAT_POWERED &&& (15 - 2 ^ q))
    (forAll (upFrom (4 * q) 4) (fun k d => d.w (rcPid k) F.RC_STAT_STATE 0) d).rndShow
  else d

/-- Make quads 0 to n − 1 those that work: the others drain, added ones take work at once (R268). -/
def Dev.setQuads (d : Dev) (n : Nat) : Dev :=
  let pw := d.r rndPid F.RND_STAT_POWERED
  let want := 2 ^ n - 1
  let d := (d.w rndPid F.RND_STAT_DRAINING (pw &&& (15 - want))).w rndPid F.RND_STAT_POWERED (pw ||| want)
  let d := forAll (upFrom 0 16) (fun k d =>
    if k / 4 < n then (if (d.itemOn k).isNone then d.w (rcPid k) F.RC_STAT_STATE 1 else d)
    else if pw.testBit (k / 4) && (d.itemOn k).isNone then d.w (rcPid k) F.RC_STAT_STATE 3 else d) d
  d.rndShow

end Sys2Proof.Machine
end

