-- ==== Sys2Proof/Machine/Memory.lean ====
section
/-! DEFINITION. The memory controller: training, requests and their schedule, refresh, zones, scrubbing, remapping and the
diagnostic mode (R204 to R237). -/

namespace Sys2Proof.Machine

open Sys2Proof

def rmpPid : Nat := 0x120
def dgPid : Nat := 0x130
def phyPid : Nat := 0x680

/-! ### Training (R206, R207) -/

/-- `MC_TRAIN.START` is written to 1: training starts, but in SERVICE, where the write was refused. -/
def Dev.trainStart (d : Dev) : Dev :=
  let s := d.r mcPid F.MC_TRAIN_STATE
  if s = 0 ∨ s = 3 then d.w mcPid F.MC_TRAIN_STATE 1 else d

/-- The cause that `MC_TRAIN.FAIL` names: a step that failed (1 to 4), else tRFCpb, the density, the time. -/
def Dev.trainCause (d : Dev) (r : TrainResult) : Nat :=
  if r.failed.val ≠ 0 then r.failed.val
  else if 400 < r.trfcNs then 5
  else if d.r mcPid F.MC_CFG_DENS = 3 ∨ r.dens.any (fun x => !(x.val == d.r mcPid F.MC_CFG_DENS)) then 6
  else if 40 < r.ms then 7
  else 0

/-- Show what training found on a channel (R237). -/
def Dev.phyLoad (d : Dev) (c : Nat) (p : PhyResult) : Dev :=
  (((d.w phyPid F.PHY_WCK_DELAY p.wck.toNat c).w phyPid F.PHY_VREF_RD p.rd.toNat c).w phyPid F.PHY_VREF_WR p.wr.toNat c).w
    phyPid F.PHY_MARG_EYE p.eye.toNat c

def Dev.phyLoadAll (d : Dev) : Nat → List PhyResult → Dev
  | _, [] => d
  | c, p :: r => if c < 8 then (d.phyLoad c p).phyLoadAll (c + 1) r else d

/-- Training ends (R206). -/
def Dev.trainEnd (d : Dev) (r : TrainResult) : Dev :=
  if d.r mcPid F.MC_TRAIN_STATE = 1 then
    let c := d.trainCause r
    if c = 0 then
      let d := (d.w mcPid F.MC_TRAIN_STATE 2).w mcPid F.MC_STAT_CAP (8 * 2 ^ d.r mcPid F.MC_CFG_DENS)
      let d := (d.w mcPid F.MC_REF_RFM (b2n r.raaMax.isSome)).phyLoadAll 0 r.phy
      { d with mc := { d.mc with raaMax := r.raaMax.getD 0 } }
    else ((d.w mcPid F.MC_TRAIN_STATE 3).w mcPid F.MC_TRAIN_FAIL c).err mcPid 12
  else d

/-- A channel's oscillator is read (R207): a drift above one eighth of a unit interval asks for a correction step of the WCK
delay. -/
def Dev.wckAsk (d : Dev) (c : Nat) (drift : Bool) (delay : Nat) : Dev :=
  if drift then { d with mc := { d.mc with wck := tabPut d.mc.wck none c (some delay) } } else d

/-! ### Requests (R107, R208, R211 to R213) -/

/-- A request lies in a carve-out that its world tag does not reach (R144, R145): 0 ward, 1 open world, 2 a PF, 3 a VI. -/
def Dev.tagRefused (d : Dev) (tag addr n : Nat) : Bool :=
  (!(tag == 0) && overlap addr n (2 ^ 21 * d.hd 0x10) (2 ^ 21 * d.hd 0x14)) ||
  (decide (1 < tag) && overlap addr n (2 ^ 21 * d.hd 0x18) (2 ^ 21 * d.hd 0x1C))

/-- The request of the crossbar that a DRAM request carries on: granted, of the same port and class, and of its address. -/
def Dev.carried (d : Dev) (port : Nat) (c : ServiceClass) (addr : Nat) : Option Req :=
  d.fab.granted.find? (fun q => q.port == port && q.target == 0 && q.cls == c && decide (q.addr ≤ addr) &&
    decide (addr < q.addr + 64 * q.beats))

/-- A request joins its channel. -/
def Dev.mcQueue (d : Dev) (q : DramReq) : Dev := { d with mc := { d.mc with reqs := d.mc.reqs ++ [q] } }

/-- The sixteen Bolt reads of the device, or the eight of a channel, are outstanding (R19). -/
def Dev.boltFull (d : Dev) (a : Nat) : Bool := decide (16 ≤ d.boltReads.length) || decide (8 ≤ d.chanReads a)

/-- A Bolt read is within the limits of R19, is held by the ward pair behind eight of its channel, or is refused beyond
sixteen. -/
def Dev.boltEnter (d : Dev) (q : DramReq) : Dev :=
  if !d.boltFull q.addr then d.mcQueue q
  else if decide (8 ≤ d.chanReads q.addr) then { d with mc := { d.mc with wardHeld := d.mc.wardHeld ++ [q] } }
  else d.boltLimit.emit (.errorResponse q.port)

/-- A DRAM request arrives in the class of its path (R10, R11, R89), with the tag that its port sets (R144): refused at the
port, by its carve-out (R145) or by the checks of R208, or queued for its channel. -/
def Dev.dramRequest (d : Dev) (port : Nat) (path : Traffic) (addr len : Nat) (data : Option (List Nat)) : Dev :=
  let c := d.pathClass port path
  let n := min len (64 - addr % 64)
  if !portAllows port c then (d.emit (.errorResponse port)).err (portHome port) errAddress
  else if d.tagRefused (d.portTag port path % 4) addr n then d.emit (.errorResponse port)
  else
    let (d, go) := d.mcAdmit addr n
    let r := d.carried port c addr
    let q : DramReq := { port := port, owner := wheelOwner port c, addr := addr, len := n, data := data,
                         since := (r.map (·.since)).getD d.now, fab := r.isSome }
    if !go then d.emit (.errorResponse port)
    else if q.owner = 1 ∧ q.data.isNone ∧ !q.fab then d.boltEnter q
    else d.mcQueue q

/-- The held Bolt reads of the ward pair go on, oldest first, as reads of their channel complete (R19). -/
def Dev.wardGo (d : Dev) (before : List DramReq) : List DramReq → Dev
  | [] => { d with mc := { d.mc with wardHeld := before } }
  | q :: rest =>
    if d.boltFull q.addr then d.wardGo (before ++ [q]) rest
    else (d.mcQueue { q with since := d.now }).wardGo before rest

/-- The first request of a list that is served as an owner. -/
def firstOf (l : List DramReq) (o : Nat) : Option DramReq := l.find? (fun q => q.owner == o)

/-- The Latch owners in round robin order after the one served last. -/
def latchAfter (last : Nat) : List Nat := (upFrom 0 11).map (fun i => 2 + (last + i + 1 - 2) % 11)

/-- The maintenance accesses among Bulk requests, which come first in a Bulk slot (R213). -/
def firstUpkeep (l : List DramReq) : Option DramReq := l.find? (fun q => !(q.job == .access))

/-- The request that a slot of an owner picks from those pending in a channel (R107, R213). -/
def Dev.pick (d : Dev) (chan owner : Nat) (l : List DramReq) : Option DramReq :=
  let latch := (latchAfter (tabGet d.mc.latch 12 chan)).findSome? (firstOf l)
  let bulk := if owner = 0 then firstUpkeep l <|> firstOf l 0 else firstOf l 0
  let rest := firstOf l 1 <|> latch <|> bulk
  if 2 ≤ owner ∧ owner ≤ 12 then firstOf l owner <|> rest else rest

/-- The address of a byte of a row of a bank of a channel. -/
def Dev.rowAddr (d : Dev) (chan bank row off : Nat) : Nat :=
  d.addrAt chan (2 ^ 15 * row + bank % 4 * 2 ^ 13 + bank / 4 * 2 ^ 11 + off)

/-- The next 64 B burst of a remap entry's copy (R228), from the source to the target, or back in RETURNING. -/
def Dev.copyBurst (d : Dev) (e : Nat) : Dev :=
  let (b, s, t) := tabGet d.mc.remap (0, 0, 0) e
  let n := tabGet d.mc.copied 0 e
  let (src, dst) := if d.r rmpPid F.RMP_DST_STATE e = 1 then (s, t) else (t, s)
  let d := forAll (upFrom (64 * n) 64) (fun off d =>
    d.cellWr (d.rowAddr (e / 4) b dst off) (d.cellRd (d.rowAddr (e / 4) b src off))) d
  { d with mc := { d.mc with copied := tabPut d.mc.copied 0 e (n + 1) } }

/-- The bursts of a row. -/
def rowBursts : Nat := 32

/-- A burst of a copy is issued on its channel: both rows are accessed, and the next burst is requested. -/
def Dev.copyStep (d : Dev) (q : DramReq) (e : Nat) : Dev :=
  let (b, s, t) := tabGet d.mc.remap (0, 0, 0) e
  if tabGet d.mc.copied 0 e < rowBursts then
    let d := (((d.reclaim (d.slotOwner d.slotNow) 0).rowAccess (e / 4) b s).rowAccess (e / 4) b t).copyBurst e
    let n := tabGet d.mc.copied 0 e
    if n < rowBursts then d.mcQueue { q with addr := d.rowAddr (e / 4) b s (64 * n) } else d
  else d

/-- Scrub the words of a line: a CE is written back whatever WBACK says, a UE is logged with SOURCE 1. -/
def Dev.scrubWords (d : Dev) (a : Nat) : Dev :=
  forAll (upFrom 0 8) (fun i d =>
    match d.zoneAt 2 (a + 8 * i) with
    | some z =>
      let (d, _, ok) := d.eccRead z (a + 8 * i) 1 true
      if ok then d else d.err ezPid 10
    | none => d) d

/-- The line that the scrubber reads next: the first line of an ON zone at or after the position, none at the end of a
pass. -/
def Dev.scrubLine (d : Dev) (pos : Nat) : Option Nat :=
  ((upFrom 0 16).filterMap (fun z =>
    if d.zoneState z = 2 then
      let l := max pos (d.zoneBase z)
      if l < d.zoneBase z + d.zoneSize z then some l else none
    else none)).foldl (fun m l => match m with | none => some l | some x => some (min x l)) none

/-- The position of the scrubber, and the line shown as it. -/
def Dev.scrubPos (d : Dev) : Nat := d.r64 ezPid F.EZ_SCRPOS_LO_ADDR F.EZ_SCRPOS_HI_ADDR * 64
def Dev.scrubShow (d : Dev) (a : Nat) : Dev := d.w64 ezPid F.EZ_SCRPOS_LO_ADDR F.EZ_SCRPOS_HI_ADDR (a / 64)

/-- The duration of a pass in ns, and the pass under way: its start and its duration (R226). -/
def Dev.scrubNs (d : Dev) : Nat := 3600000000000 * max 1 (d.r ezPid F.EZ_SCRUB_PERIOD)
def Dev.scrubPass (d : Dev) : Nat × Nat := d.mc.scrub.getD (d.now, d.scrubNs)

/-- The lines of ON zones below an address. -/
def Dev.scrubLines (d : Dev) (a : Nat) : Nat :=
  ((upFrom 0 16).map (fun z => if d.zoneState z = 2 then min (a - d.zoneBase z) (d.zoneSize z) / 64 else 0)).sum

/-- The time of the next line has come: the lines of a pass are spread evenly over it. -/
def Dev.scrubDue (d : Dev) : Bool :=
  let (t, n) := d.scrubPass
  decide (t * d.scrubLines d.capacity + n * d.scrubLines d.scrubPos ≤ d.now * d.scrubLines d.capacity)

/-- The scrubber goes on: to a line, or, after the last line of the last ON zone, to the start of a counted pass. -/
def Dev.scrubOn (d : Dev) : Option Nat → Dev
  | some l => d.scrubShow l
  | none =>
    let (t, n) := d.scrubPass
    let d : Dev := { d with mc := { d.mc with scrub := some (t + n, d.scrubNs) } }
    (d.scrubShow ((d.scrubLine 0).getD 0)).add ezPid F.EZ_SCRPASS_COUNT

/-- A line is scrubbed (R226). -/
def Dev.scrubRead (d : Dev) (l : Nat) : Dev :=
  let d := (d.bursts 0 l 64 false).scrubWords l
  d.scrubOn (d.scrubLine (l + 64))

/-- The access of an initiator that is issued, and the answer to it. A Bolt read that did not come through the crossbar is
measured here. -/
def Dev.serveAccess (d : Dev) (q : DramReq) : Dev :=
  match q.data with
  | some bs =>
    let (d, ok) := d.mcWrite q.owner q.addr (bs.take q.len)
    if ok then d else d.emit (.errorResponse q.port)
  | none =>
    let (d, bs, ok) := d.mcRead q.owner q.addr q.len
    let d := if ok then d.emit (.completion q.port 0 bs) else d.emit (.errorResponse q.port)
    if q.owner = 1 ∧ !q.fab then d.dramMeasure q.since else d

/-- A request is issued. -/
def Dev.issue (d : Dev) (q : DramReq) : Dev :=
  let d : Dev := { d with mc := { d.mc with reqs := d.mc.reqs.erase q } }
  match q.job with
  | .access => let d := d.serveAccess q; d.wardGo [] d.mc.wardHeld
  | .scrub => d.scrubRead q.addr
  | .copy e => d.copyStep q e

/-- A step of `dur` ns that starts now keeps clear of the Bolt slots, 32 ns included (R213). -/
def Dev.boltClear (d : Dev) (dur : Nat) : Bool :=
  let t0 := d.r64 swPid F.SW_WRAP_LO_TIME F.SW_WRAP_HI_TIME
  let o := (d.stampIn (swPid / 16) - t0) % 512
  decide (32 ≤ o) && decide (o + dur + 32 ≤ 512)

/-- A refresh, an RFM or a row refresh takes at most this long: tRFCpb of R206, in ns. -/
def upkeepNs : Nat := 400

/-- A bank pair is a bank and the one 8 above: REFpb closes the rows of both. -/
def Dev.refresh (d : Dev) (chan pair : Nat) (owed : Int) : Dev :=
  let d := (d.rowClose chan pair).rowClose chan (pair + 8)
  { d with mc := { d.mc with owed := tabPut d.mc.owed 0 (8 * chan + pair) owed } }

def Dev.owedOf (d : Dev) (chan pair : Nat) : Int := tabGet d.mc.owed 0 (8 * chan + pair)

/-- One refresh that is owed (R214). -/
def Dev.refreshOwed (d : Dev) (chan : Nat) : Dev :=
  match (upFrom 0 8).find? (fun p => decide (0 < d.owedOf chan p)) with
  | some p => d.refresh chan p (d.owedOf chan p - 1)
  | none => d

/-- One RFM of a bank whose activate count has reached the threshold (R215). -/
def Dev.rfm (d : Dev) (chan : Nat) : Dev :=
  match (upFrom 0 16).find? (fun b => decide (0 < d.mc.raaMax) &&
      decide (d.mc.raaMax ≤ tabGet d.mc.raa 0 (16 * chan + b))) with
  | some b =>
    let k := 16 * chan + b
    let d := d.rowClose chan b
    { d with mc := { d.mc with raa := tabPut d.mc.raa 0 k (tabGet d.mc.raa 0 k - d.mc.raaMax) } }
  | none => d

/-- The neighbours of a row within a radius that the bank has (R216). -/
def Dev.neighbours (d : Dev) (row radius : Nat) : List Nat :=
  ((upFrom 1 (1 + radius)).flatMap (fun k => (if k ≤ row then [row - k] else []) ++ [row + k])).filter
    (fun r => decide (r < 2 ^ d.rowBits))

/-- One neighbour refresh of a channel: each neighbour row is activated and precharged (R216, R217). -/
def Dev.neighbourRefresh (d : Dev) (chan : Nat) : Dev :=
  match d.mc.nrq.find? (fun x => x.1 == chan) with
  | some x =>
    let (_, bank, row, radius) := x
    let d : Dev := { d with mc := { d.mc with nrq := d.mc.nrq.erase x } }
    let d := (d.neighbours row radius).foldl (fun d r => (d.activate chan bank r).rowClose chan bank) (d.rowClose chan bank)
    d.add mcPid F.MC_NRCNT_COUNT
  | none => d

/-- A correction step of the WCK delay stops its channel for at most 100 ns (R207). -/
def Dev.wckStep (d : Dev) (c : Nat) : Dev :=
  match tabGet d.mc.wck none c with
  | some delay =>
    if d.boltClear 100 then
      ((({ d with mc := { d.mc with wck := tabPut d.mc.wck none c none } }).w phyPid F.PHY_WCK_DELAY delay c)).addSat
        phyPid F.PHY_CORR_COUNT 1 c
    else d
  | none => d

/-- A refresh of a bank pair without an open row is pulled in, up to 8 of them, where the channel has nothing else to do. -/
def Dev.pullIn (d : Dev) (chan : Nat) : Dev :=
  match (upFrom 0 8).find? (fun p => decide (-8 < d.owedOf chan p) && decide (d.owedOf chan p ≤ 0) &&
      tabGet d.mc.rows 0 (16 * chan + p) == 0 && tabGet d.mc.rows 0 (16 * chan + p + 8) == 0) with
  | some p => d.refresh chan p (d.owedOf chan p - 1)
  | none => d

/-- The maintenance that a channel's banks allow now (R213 to R217): a correction step, one refresh that is owed, one RFM,
one neighbour refresh, each clear of the Bolt slots. -/
def Dev.maintain (d : Dev) (chan : Nat) : Dev :=
  let d := d.wckStep chan
  if d.boltClear upkeepNs then ((d.refreshOwed chan).rfm chan).neighbourRefresh chan else d

/-- A command opportunity of a channel (R107): the request that the slot's owner order picks is issued; with none
pending, maintenance runs, and a refresh may be pulled in. -/
def Dev.opportunity (d : Dev) (chan : Nat) : Dev :=
  if !d.memService then d
  else
    match d.pick chan (d.slotOwner d.slotNow) (d.mc.reqs.filter (fun q => d.chanOf q.addr == chan)) with
    | some q => d.issue q
    | none =>
      let idle := (upFrom 0 8).all (fun p => decide (d.owedOf chan p ≤ 0))
      let d := d.maintain chan
      if idle && d.boltClear upkeepNs then d.pullIn chan else d

/-- A channel's oscillator is read when its interval has passed, and the correction step is made where the Bolt slots
allow it, else later. -/
def Dev.wckRead (d : Dev) (c : Nat) (drift : Bool) (delay : Nat) : Dev :=
  if d.memService && decide (tabGet d.mc.wckNext 0 c ≤ d.now) then
    let t := d.now + 1000000 * max 1 (d.r mcPid F.MC_RETRAIN_PERIOD)
    (({ d with mc := { d.mc with wckNext := tabPut d.mc.wckNext 0 c t } }).wckAsk c drift delay).wckStep c
  else d

/-- The hold time of a bank ends (R211): its row is closed if nothing is pending for it. -/
def Dev.holdExpiry (d : Dev) (chan bank : Nat) : Dev :=
  if d.pageMode = 2 && !d.bankBusy chan bank && decide (tabGet d.mc.hold 0 (16 * chan + bank) ≤ d.now) then
    d.rowClose chan bank
  else d

/-- A refresh of a bank pair falls due (R214); it is done now where the Bolt slots allow it, else later. At most 8 are
postponed: between two of one pair there is time clear of the Bolt slots, so with 8 owed the oldest has been done. -/
def Dev.refreshDue (d : Dev) (chan pair : Nat) : Dev :=
  if d.memService then
    let n := d.owedOf chan pair
    let d := if 8 ≤ n then d.refresh chan pair 8
      else { d with mc := { d.mc with owed := tabPut d.mc.owed 0 (8 * chan + pair) (n + 1) } }
    d.maintain chan
  else d

/-- MR4 of every channel is read when the poll interval has passed (R214). Above the limit the fault MEM_TEMP is open; it
closes once MR4 has reported within limits for 1 s (R474). -/
def Dev.mr4Poll (d : Dev) (rate : Nat) (hot : Bool) : Dev :=
  if !d.memService || decide (d.now < d.mc.mr4Next) then d
  else
    let t := d.now + 1000000 * max 1 (d.r mcPid F.MC_REF_POLL)
    let d := ({ d with mc := { d.mc with mr4Next := t } }).w mcPid F.MC_REF_RATE rate
    let now := d.now
    let openNow := d.flt.faults.filter (fun f => f.cause == 11 && f.pid == mcPid)
    if hot then
      let d := { d with mc := { d.mc with coolSince := none } }.err mcPid 10
      if openNow.isEmpty then d.openFault 11 3 mcPid rate else d
    else if openNow.isEmpty then d
    else match d.mc.coolSince with
      | none => { d with mc := { d.mc with coolSince := some now } }
      | some t =>
        if t + 1000000000 ≤ now then
          openNow.foldl (fun d f => d.closeFault f) { d with mc := { d.mc with coolSince := none } }
        else d

/-! ### Zones and scrubbing (R218, R219, R223, R226) -/

/-- The bounds that a snapshot gives a zone: base, size, check base, enabled. -/
def snapZone (snap : List (Nat × Nat)) (z : Nat) : Nat × Nat × Nat × Bool :=
  (2 ^ 24 * snapGet snap ezPid F.EZ_RANGE_BASE z, 2 ^ 24 * snapGet snap ezPid F.EZ_RANGE_SIZE z,
   2 ^ 21 * snapGet snap ezPid F.EZ_CHK_CBASE z, snapGet snap ezPid F.EZ_CHK_ENABLE z == 1)

/-- The ward carve-out in bytes: base and size (R139). -/
def Dev.wardBase (d : Dev) : Nat := 2 ^ 21 * d.hd 0x10
def Dev.wardSize (d : Dev) : Nat := 2 ^ 21 * d.hd 0x14

/-- A range lies wholly in another. -/
def within (a n b m : Nat) : Bool := decide (b ≤ a) && decide (a + n ≤ b + m)

/-- The zone page's check (R218, R233): RANGE, then CONSISTENCY. -/
def Dev.zoneCheck (d : Dev) (snap : List (Nat × Nat)) : Option Nat :=
  let zs := (upFrom 0 16).filter (fun z => (snapZone snap z).2.2.2)
  let b := fun z => (snapZone snap z).1
  let n := fun z => (snapZone snap z).2.1
  let c := fun z => (snapZone snap z).2.2.1
  if zs.any (fun z => n z == 0) then some 3
  else if zs.any (fun z => zs.any (fun y => z < y && (overlap (b z) (n z) (b y) (n y) ||
      overlap (c z) (n z / 8) (c y) (n y / 8))))
    || zs.any (fun z => zs.any (fun y => overlap (c z) (n z / 8) (b y) (n y)))
    || zs.any (fun z => !within (c z) (n z / 8) d.wardBase d.wardSize)
    || zs.any (fun z => decide (d.capacity < b z + n z) || decide (d.capacity < c z + n z / 8))
    || zs.any (fun z => d.a ezPid F.EZ_CHK_ENABLE z == 1 &&
        !(b z == d.zoneBase z && n z == d.zoneSize z && c z == d.zoneChk z)) then some 1
  else none

/-- A set of the zone page has been applied: a zone newly enabled is filled, one no longer enabled is OFF. -/
def Dev.zonesApplied (d : Dev) : Dev :=
  forAll (upFrom 0 16) (fun z d =>
    if d.a ezPid F.EZ_CHK_ENABLE z = 1 then
      if d.zoneState z = 0 then d.w ezPid F.EZ_STAT_STATE 1 z else d
    else d.w ezPid F.EZ_STAT_STATE 0 z) d

/-- Zeros and matching check bytes over words of a zone. -/
def Dev.zoneFill (d : Dev) (z a : Nat) : Nat → Dev
  | 0 => d
  | n + 1 => (d.storeWord z a 0 (checkByte 0 a)).zoneFill z (a + 8) n

/-- The fill of a zone completes (R219). -/
def Dev.zoneInitDone (d : Dev) (z : Nat) : Dev :=
  if d.zoneState z = 1 then
    (((d.unback (d.zoneBase z) (d.zoneSize z)).zoneFill z (d.zoneBase z) (d.zoneSize z / 8)).w ezPid F.EZ_STAT_STATE 2 z).err
      ezPid 11
  else d

/-- The oldest corrected word that waits is written back (R223). -/
def Dev.writeBack (d : Dev) : Dev :=
  match d.mc.wback with
  | [] => d
  | (a, w, c) :: rest =>
    let d := { d with mc := { d.mc with wback := rest } }
    match d.zoneAt 2 a with
    | some z => (d.burst 0 a).storeWord z a w c
    | none => d

/-- A scrub step (R226): the next line is requested as Bulk, before other Bulk (R213), unless a scrub read waits; and the
channel takes its opportunity. -/
def Dev.scrubStep (d : Dev) : Dev :=
  if !d.on ezPid F.EZ_SCRUB_EN || !d.memService then d
  else if d.mc.reqs.any (fun q => q.job == .scrub) || !d.scrubDue then d
  else match d.scrubLine d.scrubPos with
    | some l => (({ d with mc := { d.mc with scrub := some d.scrubPass } }).mcQueue {
        port := 0, owner := 0, addr := l, len := 64, data := none, since := d.now, job := .scrub }).opportunity (d.chanOf l)
    | none => match d.scrubLine 0 with
      | some l => d.scrubShow l
      | none => d

/-! ### Remapping (R227 to R229) -/

/-- What a set of the remap page gives an entry: valid, bank, source row, target row. -/
def snapRemap (snap : List (Nat × Nat)) (e : Nat) : Bool × Nat × Nat × Nat :=
  (snapGet snap rmpPid F.RMP_SRC_VALID e == 1, snapGet snap rmpPid F.RMP_SRC_BANK e, snapGet snap rmpPid F.RMP_SRC_ROW e,
   snapGet snap rmpPid F.RMP_DST_ROW e)

def Dev.activeRemap (d : Dev) (e : Nat) : Bool × Nat × Nat × Nat :=
  (d.a rmpPid F.RMP_SRC_VALID e == 1, d.a rmpPid F.RMP_SRC_BANK e, d.a rmpPid F.RMP_SRC_ROW e,
   d.a rmpPid F.RMP_DST_ROW e)

/-- Every DRAM address of a row of a bank lies in the ward carve-out. -/
def Dev.rowInWard (d : Dev) (chan bank row : Nat) : Bool :=
  (upFrom 0 rowBursts).all (fun col => within (d.rowAddr chan bank row (col * 64)) 64 d.wardBase d.wardSize)

/-- Two valid entries of one channel conflict: one source, one target, or one row used as both. -/
def remapClash (x y : Bool × Nat × Nat × Nat) : Bool :=
  x.1 && y.1 && x.2.1 == y.2.1 &&
  (x.2.2.1 == y.2.2.1 || x.2.2.2 == y.2.2.2 || x.2.2.1 == y.2.2.2 || x.2.2.2 == y.2.2.1)

/-- The remap page's check (R227). -/
def Dev.remapCheck (d : Dev) (snap : List (Nat × Nat)) : Option Nat :=
  let s := snapRemap snap
  let changed := fun e => !(s e == d.activeRemap e)
  let es := upFrom 0 32
  if es.any (fun e => (s e).1 && decide (2 ^ d.rowBits ≤ (s e).2.2.2))
    || es.any (fun e => es.any (fun g => e < g && e / 4 == g / 4 && remapClash (s e) (s g)))
    || (upFrom 0 8).any (fun c => decide (1 < ((upFrom (4 * c) 4).filter changed).length))
    || es.any (fun e => changed e && (d.r rmpPid F.RMP_DST_STATE e == 1 || d.r rmpPid F.RMP_DST_STATE e == 3))
    || es.any (fun e => (s e).1 && !d.rowInWard (e / 4) (s e).2.1 (s e).2.2.2) then some 1
  else none

/-- An entry starts to copy: its bursts run as Bulk requests of the channel. -/
def Dev.remapStart (d : Dev) (e state : Nat) (m : Nat × Nat × Nat) : Dev :=
  let d : Dev := { d with mc := { d.mc with remap := tabPut d.mc.remap (0, 0, 0) e m, copied := tabPut d.mc.copied 0 e 0,
                                            reqs := d.mc.reqs.filter (fun q => !(q.job == .copy e)) } }
  (d.w rmpPid F.RMP_DST_STATE state e).mcQueue
    { port := 0, owner := 0, addr := d.rowAddr (e / 4) m.1 m.2.1 0, len := 64, data := none,
      since := d.now, job := .copy e }

/-- A set of the remap page has been applied (R228): `old` gives the entries before it. -/
def Dev.remapApplied (d : Dev) (old : Nat → Bool × Nat × Nat × Nat) : Dev :=
  forAll (upFrom 0 32) (fun e d =>
    let n := d.activeRemap e
    if n == old e then d
    else if n.1 then d.remapStart e 1 n.2
    else if (old e).1 then d.remapStart e 3 (tabGet d.mc.remap (0, 0, 0) e)
    else d) d

/-- The bursts of a copy that are left, at most `n`. -/
def Dev.copyRest (d : Dev) (e : Nat) : Nat → Dev
  | 0 => d
  | n + 1 => if tabGet d.mc.copied 0 e < rowBursts then (d.copyBurst e).copyRest e n else d

/-- The last burst of a copy is done (R228): the target row serves, or the source row again. -/
def Dev.remapDone (d : Dev) (e : Nat) : Dev :=
  let st := d.r rmpPid F.RMP_DST_STATE e
  if st = 1 ∨ st = 3 then
    let d := d.copyRest e rowBursts
    let d : Dev := { d with mc := { d.mc with copied := tabDel d.mc.copied e,
                                              reqs := d.mc.reqs.filter (fun q => !(q.job == .copy e)),
                                              remap := if st = 3 then tabDel d.mc.remap e else d.mc.remap } }
    (d.w rmpPid F.RMP_DST_STATE (if st = 1 then 2 else 0) e).err rmpPid 10
  else d

/-- An entry of the SRAM repair page in effect: valid, and its row. The fuses fix an entry that they hold (R229, R235). -/
def spareEntry (get : FD → Nat → Nat) (e : Nat) : Bool × Nat :=
  match Config.fusedRow e with
  | some row => (true, row.toNat)
  | none => (get F.SR_ENT_VALID e == 1, get F.SR_ENT_ROW e)

/-- The SRAM repair page's check (R229): two valid entries of one SRAM name one row. -/
def srCheck (snap : List (Nat × Nat)) : Option Nat :=
  let x := spareEntry (fun f e => snapGet snap srPid f e)
  if (upFrom 0 48).any (fun e => (upFrom 0 48).any (fun g =>
      e < g && e / 8 == g / 8 && (x e).1 && (x g).1 && (x e).2 == (x g).2)) then some 1
  else none

/-- A set of the SRAM repair page has been applied: each new entry copies its row. -/
def Dev.srApplied (d : Dev) (old : Nat → Nat × Nat) : Dev :=
  forAll (upFrom 0 48) (fun e d =>
    if (Config.fusedRow e).isNone && d.a srPid F.SR_ENT_VALID e = 1 && !(old e == (1, d.a srPid F.SR_ENT_ROW e)) &&
        !d.mc.srCopy.contains e then
      { d with mc := { d.mc with srCopy := d.mc.srCopy ++ [e] } } else d) d

/-- The row of a new entry has been copied to its spare. -/
def Dev.srDone (d : Dev) (e : Nat) : Dev := { d with mc := { d.mc with srCopy := d.mc.srCopy.erase e } }

/-! ### The diagnostic mode (R230) -/

/-- The word that the diagnostic page names. -/
def Dev.dgAddr (d : Dev) : Nat := d.r64 dgPid F.DG_ADDR_LO_ADDR F.DG_ADDR_HI_ADDR * 8

/-- One operation. A word that is not both in the ward carve-out and in an ON zone gives RESULT 1. -/
def Dev.diag (d : Dev) (op : Nat) : Dev :=
  let a := d.dgAddr
  let fin := fun (d : Dev) r => (d.w dgPid F.DG_STAT_DONE 1).w dgPid F.DG_STAT_RESULT r
  if op = 0 ∨ 4 < op then d
  else match d.zoneAt 2 a with
    | none => fin d 1
    | some z =>
      if !within a 8 d.wardBase d.wardSize then fin d 1
      else
        let w := d.r64 dgPid F.DG_DATA_LO_DATA F.DG_DATA_HI_DATA
        let c := d.r dgPid F.DG_CHECK_CHECK
        let b := d.unback a 8
        if op = 1 then
          let d := (d.w dgPid F.DG_STAT_SYNDROME (d.syndrome z a)).w dgPid F.DG_STAT_RAWCHECK (d.storedCheck z a)
          fin (d.w64 dgPid F.DG_RDATA_LO_DATA F.DG_RDATA_HI_DATA (d.storedWord a)) 0
        else if op = 2 then fin (b.dramWrN a (bytesLE 8 w)) 0
        else if op = 3 then fin (b.dramWr (d.checkAddr z a) c) 0
        else fin (b.storeWord z a w c) 0

end Sys2Proof.Machine
end

