-- ==== Sys2Proof/Machine/Layers.lean ====
section
/-! DEFINITION. Layer pipes: formats and geometry, the sets that admission counts, admission and the line pool, flips,
late warp, and the layer boundary (R22 to R25, R275 to R280, R284 to R296). -/

namespace Sys2Proof.Machine

open Sys2Proof

def hcPid (h : Nat) : Nat := 0x200 + h
def stkPid (h : Nat) : Nat := 0x210 + h
def hdPid (h : Nat) : Nat := 0x280 + h
def crPid (h : Nat) : Nat := 0x290 + h
def psPid (p : Nat) : Nat := 0x220 + p
def scPid : Nat := 0x218

/-! ### Sets -/

/-- How the fields of a set are read: the value of index `i` of a field of a page. -/
abbrev SetRd : Type := Nat → FD → Nat → Nat

/-- The active set, and the most recent set accepted (R289): held or pending, else active. -/
def Dev.actRd (d : Dev) : SetRd := fun pid f i => d.a pid f i
def Dev.cntRd (d : Dev) : SetRd := fun pid f i =>
  match (d.ctl pid).pend with
  | some p => snapGet p.snap pid f i
  | none => d.a pid f i

/-- The most recent sets accepted, with a snapshot in place of one page's. -/
def Dev.withSnap (d : Dev) (page : Nat) (snap : List (Nat × Nat)) : SetRd := fun pid f i =>
  if pid = page then snapGet snap pid f i else d.cntRd pid f i

/-- A layer as its block's class S fields give it (R310). -/
structure Layer where
  enable : Bool
  best : Bool
  alpha : Nat
  warp : Bool
  wmax : Nat
  zpos : Nat
  aspace : Nat
  csc : Nat
  lalpha : Nat
  fmt : Nat
  bank : Nat
  width : Nat
  height : Nat
  pitch : Nat
  cx : Nat
  cy : Nat
  cw : Nat
  ch : Nat
  dx : Nat
  dy : Nat
  dw : Nat
  dh : Nat
  fill : Nat
  ten : Bool
  touch : Nat
  deriving DecidableEq, Repr

def readLayer (rd : SetRd) (pid p : Nat) : Layer :=
  let g := fun f => rd pid f p
  { enable := g F.LP_CTRL_ENABLE == 1, best := g F.LP_CTRL_MODE == 1, alpha := g F.LP_CTRL_ALPHA,
    warp := g F.LP_CTRL_WARP == 1, wmax := g F.LP_CTRL_WMAX, zpos := g F.LP_CTRL_ZPOS, aspace := g F.LP_CTRL_ASPACE,
    csc := g F.LP_CTRL_CSC, lalpha := g F.LP_CTRL_LALPHA, fmt := g F.LP_FMT_FORMAT, bank := g F.LP_FMT_BANK,
    width := g F.LP_BUF_WIDTH, height := g F.LP_BUF_HEIGHT, pitch := g F.LP_PITCH_PITCH, cx := g F.LP_CROP_XY_CX,
    cy := g F.LP_CROP_XY_CY, cw := g F.LP_CROP_WH_CW, ch := g F.LP_CROP_WH_CH, dx := g F.LP_DST_XY_DX,
    dy := g F.LP_DST_XY_DY, dw := g F.LP_DST_WH_DW, dh := g F.LP_DST_WH_DH, fill := g F.LP_FILL_ARGB,
    ten := g F.LP_WSRC_TEN == 1, touch := g F.LP_WSRC_TOUCH }

/-- The page of a pipe's layer block, and of its flip block. -/
def Dev.lpPage (d : Dev) (p : Nat) : Nat := layerPage (d.pipeOwner p)
def Dev.flPage (d : Dev) (p : Nat) : Nat := flipPage (d.pipeOwner p)

/-- The layer of a pipe in a set. -/
def Dev.layer (d : Dev) (rd : SetRd) (p : Nat) : Layer := readLayer rd (d.lpPage p) p

/-- A pipe that can be shown: assigned, and not the ward world's (R275). -/
def Dev.pipeUsable (d : Dev) (p : Nat) : Bool := d.pipeAssigned p && !(d.pipeOwner p % 4 == 0)

/-- The pipes of a head that can be shown, and those enabled in a set. -/
def Dev.headPipes (d : Dev) (h : Nat) : List Nat := (upFrom 0 48).filter (fun p => d.pipeUsable p && d.pipeHead p == h)
def Dev.enabledPipes (d : Dev) (rd : SetRd) (h : Nat) : List Nat :=
  (d.headPipes h).filter (fun p => (d.layer rd p).enable)

/-- The block of pipe `p` lies on the page (R276). -/
def Dev.pipeOn (d : Dev) (pid p : Nat) : Bool := !(d.pipeOwner p % 4 == 0) && (d.lpPage p == pid || d.flPage p == pid)

/-! ### Formats and demand (R22, R277, R284) -/

def fmtOk (f : Nat) : Bool := [0, 1, 2, 3, 4, 16, 17, 18].contains f

/-- Twice the rowbytes per pixel of a format (R277). -/
def rowBytes2 (f : Nat) : Nat := if f = 2 ∨ f = 18 then 4 else if f = 4 then 16 else if f = 16 then 3
  else if f = 17 then 6 else 8

/-- Bytes per pixel of the first plane. -/
def lumaBytes (f : Nat) : Nat := if f = 16 then 1 else if f = 2 ∨ f = 17 ∨ f = 18 then 2 else if f = 4 then 8 else 4

def round64 (n : Nat) : Nat := (n + 63) / 64 * 64

/-- Bytes fetched per source line, a multiple of 64. -/
def Layer.rowbytes (l : Layer) : Nat := round64 (ceilDiv (l.cw * rowBytes2 l.fmt) 2)

/-- The line-pool requirement of a layer (R284). -/
def Layer.pool (l : Layer) : Nat := l.rowbytes * (ceilDiv (16 * l.ch) l.dh + l.wmax + 3) * 2

/-- A fraction as numerator and denominator. -/
def addFrac (x y : Nat × Nat) : Nat × Nat := (x.1 * y.2 + y.1 * x.2, x.2 * y.2)

/-- The timing of a head in a set: active, totals, pixel clock in kHz (R315, R344). -/
structure Timing where
  hact : Nat
  htot : Nat
  vact : Nat
  vtot : Nat
  khz : Nat
  bpc : Nat
  deriving DecidableEq, Repr

def readTiming (rd : SetRd) (h : Nat) : Timing :=
  let g := fun f => rd (hdPid h) f 0
  { hact := g F.HD_HACT_ACTIVE,
    htot := g F.HD_HACT_ACTIVE + g F.HD_HBLANK_FRONT + g F.HD_HBLANK_SYNC + g F.HD_HBLANK_BACK,
    vact := g F.HD_VACT_ACTIVE,
    vtot := g F.HD_VACT_ACTIVE + g F.HD_VBLANK_FRONT + g F.HD_VBLANK_SYNC + g F.HD_VBLANK_BACK,
    khz := g F.HD_PCLK_KHZ, bpc := 6 + 2 * g F.HD_FMT_BPC }

/-- The bytes of a buffer (R286): its first plane and, for formats 16 and 17, its chroma plane. -/
def Buf.ranges (b : Buf) : List (Nat × Nat) :=
  (b.addr, b.pitch * b.height) ::
    (if b.fmt = 16 ∨ b.fmt = 17 then [(b.addr + b.chroma, b.pitch * b.height / 2)] else [])

/-- Where an owner's pipes may read in DRAM: the port's window, or the open carve-out (R286). -/
def Dev.ownerRegion (d : Dev) (code : Nat) : Nat × Nat :=
  if code % 4 = 1 then (2 ^ 21 * d.hd 0x18, 2 ^ 21 * d.hd 0x1C)
  else (d.winBase (code / 4 % 4), d.winSize (code / 4 % 4))

/-- A DRAM range touches a zone that the set of the zone page enables. -/
def zoneHit (rd : SetRd) (a n : Nat) : Bool :=
  (upFrom 0 16).any (fun z => rd ezPid F.EZ_CHK_ENABLE z == 1 &&
    overlap a n (2 ^ 24 * rd ezPid F.EZ_RANGE_BASE z) (2 ^ 24 * rd ezPid F.EZ_RANGE_SIZE z))

/-- The layer's source lies in an ECC zone (R22). Its source is its current buffer, else that of its queued flip; with
neither, it may be anywhere in its owner's region (DESIGN CHOICE, log entry 88). -/
def Dev.inZone (d : Dev) (rd : SetRd) (p : Nat) : Bool :=
  let x := d.pipe p
  let reg := d.ownerRegion (d.pipeOwner p)
  match x.cur <|> x.flip.map (·.buf) with
  | none => zoneHit rd reg.1 reg.2
  | some b =>
    if d.pipeOwner p % 4 = 3 then b.map.any (fun e => e.tgt == 1 && zoneHit rd (reg.1 + e.out) (2 ^ e.size))
    else b.ranges.any (fun r => zoneHit rd (reg.1 + r.1) r.2)

/-- D of R22 in bytes per second. -/
def Dev.demandOf (d : Dev) (rd : SetRd) (t : Timing) (p : Nat) : Nat × Nat :=
  let l := d.layer rd p
  let w := if l.warp then l.wmax else 0
  let e := if d.inZone rd p then (9, 8) else (1, 1)
  (l.rowbytes * l.ch * (1000 * t.khz) * (16 + w) * e.1, l.dh * t.htot * 16 * e.2)

/-- The admitted demand of a head in a set: the sum over its enabled Latch layers. -/
def Dev.headDemand (d : Dev) (rd : SetRd) (h : Nat) : Nat × Nat :=
  ((d.enabledPipes rd h).filter (fun p => !(d.layer rd p).best)).foldl
    (fun s p => addFrac s (d.demandOf rd (readTiming rd h) p)) (0, 1)

/-- A demand in MB/s, rounded up. -/
def mbUp (x : Nat × Nat) : Nat := ceilDiv x.1 (1000000 * x.2)

/-- The excess of a head's demand over its reservation in MB/s rounded up: none when it is admitted (R22, R24). -/
def Dev.deficit (d : Dev) (rd : SetRd) (h : Nat) : Option Nat :=
  let x := d.headDemand rd h
  let lim := 2000000000 * d.headSlots h
  if x.1 ≤ lim * x.2 then none else some (ceilDiv (x.1 - lim * x.2) (1000000 * x.2))

/-- What admission says of some heads (R23, R24): the first head above its reservation, with its excess. -/
def Dev.admission (d : Dev) (rd : SetRd) (hs : List Nat) : Option (Nat × Nat) :=
  hs.findSome? (fun h => (d.deficit rd h).map (fun x => (h, x)))

/-- Record the outcome of a request that ran admission (R24, R25, R33). -/
def Dev.showAdm (d : Dev) (hs : List Nat) (bad : Option (Nat × Nat)) : Dev :=
  match bad with
  | some (h, x) =>
    (((d.w clsPid F.CLS_ADM_RESULT 2).w clsPid F.CLS_ADM_HEAD h).w clsPid F.CLS_ADM_DEFICIT (sat 65535 x)).add clsPid
      F.CLS_ADM_CNT_REFUSED
  | none => match hs.getLast? with
    | none => d
    | some h => ((d.w clsPid F.CLS_ADM_RESULT 1).w clsPid F.CLS_ADM_HEAD h).add clsPid F.CLS_ADM_CNT_ADMITTED

/-- The line-pool requirement of a head in a set. -/
def Dev.poolUsed (d : Dev) (rd : SetRd) (h : Nat) : Nat :=
  (d.enabledPipes rd h).foldl (fun s p => s + (d.layer rd p).pool) 0

/-! ### The check of a layer set (R288) -/

/-- FORMAT, CSC, ALPHA, WMAX, scale factors and sizes in range. -/
def Layer.rangeOk (l : Layer) : Bool :=
  fmtOk l.fmt && decide (l.csc ≤ 4) && decide (l.alpha ≤ 2) && decide (l.wmax ≤ 16) && decide (l.zpos ≤ 11) &&
  decide (0 < l.cw) && decide (0 < l.ch) && decide (0 < l.dw) && decide (0 < l.dh) && decide (0 < l.width) &&
  decide (0 < l.height) && decide (l.width ≤ 8192) && decide (l.ch ≤ 8192) &&
  decide (l.cw ≤ (if l.fmt = 4 then 2048 else 4096)) &&
  decide (l.dw ≤ 8 * l.cw) && decide (l.cw ≤ 4 * l.dw) && decide (l.dh ≤ 8 * l.ch) && decide (l.ch ≤ 2 * l.dh)

/-- Crop inside the buffer, destination inside the active area, a fitting PITCH, even chroma coordinates. -/
def Layer.geomOk (l : Layer) (t : Timing) : Bool :=
  decide (l.cx + l.cw ≤ l.width) && decide (l.cy + l.ch ≤ l.height) &&
  decide (l.dx + l.dw ≤ t.hact) && decide (l.dy + l.dh ≤ t.vact) &&
  decide (l.width * lumaBytes l.fmt ≤ l.pitch) && l.pitch % 64 == 0 &&
  (if l.fmt = 16 ∨ l.fmt = 17 then l.cx % 2 == 0 && l.cy % 2 == 0 && l.cw % 2 == 0 && l.ch % 2 == 0
   else if l.fmt = 18 then l.cx % 2 == 0 && l.cw % 2 == 0 else true)

/-- The heads whose pipes a set of a layer page changes. -/
def Dev.touchedHeads (d : Dev) (pid : Nat) (snap : List (Nat × Nat)) : List Nat :=
  let old := d.cntRd
  let new := d.withSnap pid snap
  (upFrom 0 8).filter (fun h => (d.headPipes h).any (fun p => d.lpPage p == pid &&
    !(readLayer old pid p == readLayer new pid p)))

/-- A term of R22 changes for a pipe of the head, so that admission runs (R23). -/
def termsOf (l : Layer) : List Nat :=
  [b2n l.enable, b2n l.best, l.fmt, l.width, l.height, l.cw, l.ch, l.dw, l.dh, b2n l.warp, l.wmax]

def Dev.admHeads (d : Dev) (pid : Nat) (snap : List (Nat × Nat)) : List Nat :=
  let new := d.withSnap pid snap
  (d.touchedHeads pid snap).filter (fun h => (d.headPipes h).any (fun p => d.lpPage p == pid &&
    !(termsOf (readLayer d.cntRd pid p) == termsOf (readLayer new pid p))))

/-- What a check answers: a reason, and for ADMISSION the head and deficit; or none with the heads that ran admission. -/
structure Verdict where
  reason : Option Nat
  heads : List Nat := []
  bad : Option (Nat × Nat) := none
  deriving DecidableEq, Repr

def verdict (r : Option Nat) : Verdict := { reason := r }

/-- The check of a layer control page (R288), over the enabled pipes of every head that the set touches. -/
def Dev.layerCheck (d : Dev) (pid : Nat) (snap : List (Nat × Nat)) : Verdict :=
  let rd := d.withSnap pid snap
  let hs := d.touchedHeads pid snap
  let ps := hs.flatMap (d.enabledPipes rd)
  let l := d.layer rd
  let tm := fun h => readTiming d.cntRd h
  let latchBad := ps.find? (fun p => !(l p).best && !d.pipeLatchOk p)
  if ps.any (fun p => !(l p).rangeOk) then verdict (some 3)
  else if ps.any (fun p => (l p).warp && !d.pipeWarpOk p) then verdict (some 7)
  else match latchBad with
  | some p => { reason := some 2, bad := some (d.pipeHead p, 0) }
  | none =>
    if ps.any (fun p => !(l p).geomOk (tm (d.pipeHead p)))
      || ps.any (fun p => ps.any (fun q => p < q && d.pipeHead p == d.pipeHead q && (l p).zpos == (l q).zpos))
      || ps.any (fun p => (l p).ten && (!(l p).warp || !(d.touchHead (l p).touch == d.pipeHead p)))
      || hs.any (fun h => decide (2097152 < d.poolUsed rd h)) then verdict (some 1)
    else
      let ah := d.admHeads pid snap
      match d.admission rd ah with
      | some b => { reason := some 2, heads := ah, bad := some b }
      | none => { reason := none, heads := ah }

/-! ### Coefficients (R280) -/

/-- A coefficient at reset: the bilinear set, as its 10-bit pattern. -/
def bilinear (i : Nat) : Nat :=
  if i < 512 then
    if i % 8 = 3 then 256 - 4 * (i / 8) else if i % 8 = 4 then 4 * (i / 8) else 0
  else
    let j := i - 512
    if j % 4 = 1 then 256 - 4 * (j / 4) else if j % 4 = 2 then 4 * (j / 4) else 0

def PipeSt.coefAt (x : PipeSt) (bank i : Nat) : Int := sx 10 (tabGet x.coef (bilinear i) (768 * bank + i))

def PipeSt.setCoef (x : PipeSt) (bank i v : Nat) : PipeSt :=
  { x with coef := tabPut x.coef (bilinear i) (768 * bank + i) (v % 1024) }

/-- The bank is selected by the pipe's active set or by a pending or held set, while the pipe is enabled on an enabled
head. -/
def Dev.bankInUse (d : Dev) (p bank : Nat) : Bool :=
  d.headRuns (d.pipeHead p) &&
  (((d.layer d.actRd p).enable && (d.layer d.actRd p).bank == bank) ||
   ((d.layer d.cntRd p).enable && (d.layer d.cntRd p).bank == bank))

/-- A write of `LP_COEF_DATA` that was not refused. -/
def Dev.coefWrite (d : Dev) (p c0 c1 : Nat) : Dev :=
  let pid := d.lpPage p
  let i := d.r pid F.LP_COEF_ADDR_INDEX p
  let b := d.r pid F.LP_COEF_ADDR_CBANK p
  if 768 ≤ i then d
  else if i = 767 then (d.setPipe p ((d.pipe p).setCoef b i c0)).w pid F.LP_COEF_ADDR_INDEX 0 p
  else (d.setPipe p (((d.pipe p).setCoef b i c0).setCoef b (i + 1) c1)).w pid F.LP_COEF_ADDR_INDEX ((i + 2) % 768) p

/-! ### Warp (R295, R296) -/

def Dev.warpT (d : Dev) (p : Nat) : Int × Int :=
  (sx 16 (d.r (d.lpPage p) F.LP_WARP_DX p), sx 16 (d.r (d.lpPage p) F.LP_WARP_DY p))
def Dev.warpA (d : Dev) (p : Nat) : Int × Int :=
  (sx 16 (d.r (d.lpPage p) F.LP_APPLIED_DX p), sx 16 (d.r (d.lpPage p) F.LP_APPLIED_DY p))

/-- Set T, clamped; 0 on a pipe that is not warpable. -/
def Dev.setT (d : Dev) (p : Nat) (x y : Int) : Dev :=
  let l := d.layer d.actRd p
  let x := if l.warp then clampI (-8192) 8191 x else 0
  let y := if l.warp then clampI (-(l.cy : Int)) ((l.height : Int) - l.ch - l.cy) y else 0
  (d.w (d.lpPage p) F.LP_WARP_DX (ux 16 x) p).w (d.lpPage p) F.LP_WARP_DY (ux 16 y) p

def Dev.setA (d : Dev) (p : Nat) (x y : Int) : Dev :=
  (d.w (d.lpPage p) F.LP_APPLIED_DX (ux 16 x) p).w (d.lpPage p) F.LP_APPLIED_DY (ux 16 y) p

/-- A touch delta of a port reaches a pipe (R296): the quotient is rounded to nearest, upward from a half, and its
remainder is kept. -/
def Dev.warpDelta (d : Dev) (touch p : Nat) (ddx ddy : Int) : Dev :=
  let l := d.layer d.actRd p
  if d.pipeUsable p && l.enable && l.warp && l.ten && l.touch == touch && decide (0 < l.dh) then
    let x := d.pipe p
    let n := ddy * l.ch + x.rem
    let q := (2 * n + l.dh) / (2 * l.dh)
    let d := d.setPipe p { x with rem := n - q * l.dh }
    let (tx, ty) := d.warpT p
    d.setT p (tx + ddx) (ty - q)
  else d

/-- The warp that a band's fetch takes (R295): A.x := T.x, and A.y moves toward T.y by at most WMAX lines. -/
def Dev.takeWarp (d : Dev) (p : Nat) : Dev :=
  let l := d.layer d.actRd p
  if l.warp then
    let (tx, ty) := d.warpT p
    let (_, ay) := d.warpA p
    d.setA p tx (ay + clampI (-(l.wmax : Int)) l.wmax (ty - ay))
  else d.setA p 0 0

/-! ### Flips (R286, R292, R293) -/

def flipUid (page p : Nat) : Nat := 2 ^ 32 + 64 * page + p

/-- A flip ends without being taken. -/
def Dev.flipEnd (d : Dev) (p result status : Nat) : Dev :=
  let pg := d.flPage p
  let d := d.setPipe p { d.pipe p with flip := none }
  let d := { d with rend := { d.rend with waiters := d.rend.waiters.filter (fun w => !(w.who == flipUid pg p)) } }
  let d := (d.w pg F.FL_STAT_STATE 0 p).w pg F.FL_STAT_RESULT result p
  let d := if result = 2 then d.w pg F.FL_STAT_FSTATUS status p else d
  let d := if [2, 3, 4, 6].contains result then d.err pg 10 else d
  d.evtFlip (d.pipeOwner p)

/-- Cancel a queued flip (R31, R292, R294). -/
def Dev.flipCancel (d : Dev) (p : Nat) : Dev := if (d.pipe p).flip.isSome then d.flipEnd p 5 0 else d

/-- The fence of a handle, when it is one of an owner's own fences (R262). -/
def Dev.ownFence (d : Dev) (code handle : Nat) : Option (Nat × Nat) :=
  match d.fenceOwner handle with
  | some c => if owns c code then fencePlace handle else none
  | none => none

/-- `FL_GO` is written (R292): a queued flip is replaced, the waiter registered, and the walk started. A handle that is
not of the owner's own fences ends the flip with FENCE and the status FAILED. -/
def Dev.flipGo (d : Dev) (p : Nat) : Dev :=
  let pg := d.flPage p
  let d := if (d.pipe p).flip.isSome then d.flipEnd p 1 0 else d
  let l := d.layer d.cntRd p
  let b : Buf := { fmt := l.fmt, width := l.width, height := l.height, pitch := l.pitch,
                   addr := 256 * d.r pg F.FL_ADDR_LO_ADDR p + 2 ^ 32 * d.r pg F.FL_ADDR_HI_ADDR p,
                   chroma := 256 * d.r pg F.FL_CHROMA_OFFSET p }
  let h := d.r pg F.FL_FENCE_HANDLE p
  let f : Flip := { buf := b, adjX := sx 16 (d.r pg F.FL_ADJ_DX p), adjY := sx 16 (d.r pg F.FL_ADJ_DY p),
                    fate := if h = noFence then some 0 else none }
  let d := (d.setPipe p { d.pipe p with flip := some f }).w pg F.FL_STAT_STATE 1 p
  if h = noFence then d
  else match d.ownFence (d.pipeOwner p) h with
    | some (pid, i) => d.fenceWait (flipUid pg p) pid i (d.r pg F.FL_TARGET_VALUE p)
    | none => d.flipEnd p 2 3

/-- Fence satisfied and walk complete: READY (R292). -/
def Dev.flipReady (d : Dev) (p : Nat) : Dev :=
  match (d.pipe p).flip with
  | some f => if f.walked && f.fate == some 0 then d.w (d.flPage p) F.FL_STAT_STATE 2 p else d
  | none => d

/-- Flips whose fence has been satisfied take its status (R265, R292). -/
def Dev.settleFlips (d : Dev) : Dev :=
  let done := d.rend.waiters.filter (fun w => w.got.isSome && decide (2 ^ 32 ≤ w.who))
  let d := { d with rend := { d.rend with waiters := d.rend.waiters.filter (fun w =>
    !(w.got.isSome && decide (2 ^ 32 ≤ w.who))) } }
  done.foldl (fun d w =>
    let p := w.who % 64
    match (d.pipe p).flip, w.got with
    | some f, some s =>
      if s = 0 then (d.setPipe p { d.pipe p with flip := some { f with fate := some 0 } }).flipReady p
      else d.flipEnd p 2 s
    | _, _ => d) d

/-- How a walk of a buffer goes on: entries, or how it ends the flip. -/
inductive MapRes where
  | entries (l : List TlbEntry)
  | full
  | fault (kind stage gpa addr : Nat)
  | host
  deriving DecidableEq, Repr

/-- Walk a byte range of an address space page by page (R286). `got` are the entries so far. -/
def Dev.mapWalk (d : Dev) (v asp : Nat) (latch : Bool) : Nat → Nat → Nat → List TlbEntry → Dev × MapRes
  | 0, _, _, got => (d, .entries got)
  | fuel + 1, a, stop, got =>
    if stop ≤ a then (d, .entries got)
    else match got.find? (fun e => e.base == a / 2 ^ e.size) with
      | some e => d.mapWalk v asp latch fuel ((e.base + 1) * 2 ^ e.size) stop got
      | none =>
        match d.walkBoth v asp a with
        | (d, .inr (.bad k s g)) => (d, .fault k s g a)
        | (d, .inr (.leaf ..)) => (d, .entries got)
        | (d, .inl e) =>
          if !(e.r1 && e.r2) then (d, .fault 2 (if e.r1 then 2 else 1) (e.gpa + a % 2 ^ e.size) a)
          else if latch && e.tgt == 0 then (d, .host)
          else
            let e := { e with size := min e.size 21, base := a / 2 ^ min e.size 21,
                              out := e.out + (a % 2 ^ e.size / 2 ^ min e.size 21) * 2 ^ min e.size 21,
                              gpa := e.gpa + (a % 2 ^ e.size / 2 ^ min e.size 21) * 2 ^ min e.size 21 }
            if 512 ≤ got.length then (d, .full)
            else d.mapWalk v asp latch fuel ((e.base + 1) * 2 ^ e.size) stop (got ++ [e])

/-- Walk every range of a buffer. -/
def Dev.bufWalk (d : Dev) (v asp : Nat) (latch : Bool) : List (Nat × Nat) → List TlbEntry → Dev × MapRes
  | [], got => (d, .entries got)
  | (a, n) :: rest, got =>
    match d.mapWalk v asp latch (n / 4096 + 2) a (a + n) got with
    | (d, .entries l) => d.bufWalk v asp latch rest l
    | r => r

/-- The walk of a queued flip ends (R286). A pipe of a PF or the open world reads byte offsets and needs no entry. -/
def Dev.flipWalkEnd (d : Dev) (p : Nat) : Dev :=
  match (d.pipe p).flip with
  | none => d
  | some f =>
    if f.walked then d
    else if !(d.pipeOwner p % 4 == 3) then
      (d.setPipe p { d.pipe p with flip := some { f with walked := true } }).flipReady p
    else
      let v := d.pipeOwner p / 16 % 64
      let l := d.layer d.cntRd p
      match d.bufWalk v l.aspace (!l.best) f.buf.ranges [] with
      | (d, .full) => d.flipEnd p 4 0
      | (d, .host) => d.flipEnd p 6 0
      | (d, .fault k s g a) => (d.xlatFault v l.aspace 0 a false k s g).flipEnd p 3 0
      | (d, .entries m) =>
        (d.setPipe p { d.pipe p with flip := some { f with walked := true, buf := { f.buf with map := m } } }).flipReady p

/-- A READY flip is taken at the layer boundary (R292, R293). A buffer whose geometry is not that of the set in force
was queued before that set's acceptance, and is not shown. -/
def Dev.flipTake (d : Dev) (p : Nat) : Dev :=
  match (d.pipe p).flip with
  | none => d
  | some f =>
    let pg := d.flPage p
    let l := d.layer d.actRd p
    let fits := f.buf.fmt == l.fmt && f.buf.width == l.width && f.buf.height == l.height && f.buf.pitch == l.pitch
    let d := d.setPipe p { d.pipe p with cur := if fits then some f.buf else none, flip := none }
    let d := ((d.w pg F.FL_STAT_STATE 0 p).w pg F.FL_STAT_RESULT 0 p).add pg F.FL_STAT_COUNT 1 p
    let d := (d.evtFlip (d.pipeOwner p)).perFinishNamed 2 p
    let (tx, ty) := d.warpT p
    let (ax, ay) := d.warpA p
    if l.warp then (d.setT p (tx - f.adjX) (ty - f.adjY)).setA p (ax - f.adjX) (ay - f.adjY) else d

/-! ### Applying layer sets (R287, R290 to R294) -/

def Dev.head (d : Dev) (h : Nat) : HeadSt := tabGet d.disp.heads {} h
def Dev.setHead (d : Dev) (h : Nat) (x : HeadSt) : Dev :=
  { d with disp := { d.disp with heads := tabPut d.disp.heads {} h x } }

/-- The timing generator runs: RUNNING, or STOPPING until the E that ends it (R322). -/
def Dev.scanning (d : Dev) (h : Nat) : Bool := d.r (hdPid h) F.HD_STAT_STATE == 2 || d.r (hdPid h) F.HD_STAT_STATE == 4

/-- The pages that hold layer blocks: those of the PFs and the open world, and the window pages of the VIs. -/
def Dev.layerPages (d : Dev) : List Nat := upFrom 0x260 5 ++ (upFrom 0 d.nVis).map (fun v => viPage v 7)

/-- What the application of a set means for the pipes of a head on a page: a disabled pipe's flip is cancelled, a buffer
of another geometry is released, and the warp is held to its new bounds. `old` gives the layers before. -/
def Dev.pipesApplied (d : Dev) (pid : Nat) (sel : Nat → Bool) (old : Nat → Layer) : Dev :=
  ((upFrom 0 48).filter (fun p => d.pipeUsable p && d.lpPage p == pid && sel (d.pipeHead p))).foldl (fun d p =>
    let n := d.layer d.actRd p
    let o := old p
    let d := if o.enable && !n.enable then d.flipCancel p else d
    let d := if o.fmt = n.fmt ∧ o.width = n.width ∧ o.height = n.height ∧ o.pitch = n.pitch then d
      else d.setPipe p { d.pipe p with cur := none }
    let (tx, ty) := d.warpT p
    let d := d.setT p tx ty
    if n.warp then d else d.setA p 0 0) d

/-- Apply the parts of a page's pending set for some heads. -/
def Dev.layerApply (d : Dev) (pid : Nat) (sel : Nat → Bool) : Dev :=
  let old := d.layer d.actRd
  (d.applyPend pid sel).pipesApplied pid sel old

/-- The heads that a page's pending set has still to reach, as `LC_PEND` shows them. -/
def Dev.partsLeft (d : Dev) (pid : Nat) : List Nat := match (d.ctl pid).pend with
  | some p => p.parts
  | none => []

def Dev.heldOn (d : Dev) (pid h : Nat) : Bool := match (d.ctl pid).pend with
  | some p => p.held.contains h
  | none => false

/-- Apply the held sets of a head (R291, R324). -/
def Dev.applyHeld (d : Dev) (h : Nat) : Dev :=
  d.layerPages.foldl (fun d pid => if d.heldOn pid h then d.layerApply pid (· == h) else d) d

/-- Apply the pending sets of a head that are not held and whose check ended in time. -/
def Dev.applyLayers (d : Dev) (h : Nat) (late : List Nat) : Dev :=
  d.layerPages.foldl (fun d pid =>
    if (d.partsLeft pid).contains h && !d.heldOn pid h && !late.contains pid then
      if d.blockFault pid then d.discardPend pid else d.layerApply pid (· == h)
    else d) d

/-- HOLD is cleared: the head's held sets are ordinary pending sets (R291). -/
def Dev.holdClear (d : Dev) (h : Nat) : Dev :=
  d.layerPages.foldl (fun d pid =>
    match (d.ctl pid).pend with
    | some p => d.setCtl pid { d.ctl pid with pend := some { p with held := p.held.filter (fun x => !(x == h)) } }
    | none => d) d

/-- The owner of pipes is reset or goes OFF (R294): no buffer, no band, the flip cancelled. The blocks themselves return
to reset values with their page. -/
def Dev.ownerGone (d : Dev) (code : Nat) : Dev :=
  ((upFrom 0 48).filter (fun p => d.pipeOwner p % 1024 == code % 1024)).foldl (fun d p =>
    (d.flipCancel p).setPipe p {}) d

end Sys2Proof.Machine
end

