-- ==== Sys2Proof/Machine/Pixels.lean ====
section
/-! DEFINITION. The arithmetic of a pixel: source formats, colour conversion, the scaler, blending, and the strike
windows (R277 to R281, R297, R298, R302, R305). A component is an integer in units of 2^-24, so 1 is 2^24. -/

namespace Sys2Proof.Machine

open Sys2Proof

/-- One, in the units of a component. -/
def one : Int := 16777216

/-- Division rounded to nearest, upward from a half. -/
def divNear (a b : Int) : Int := (2 * a + b) / (2 * b)

/-- A `w`-bit unsigned normalised value as a component. -/
def unorm (w v : Nat) : Int := divNear (v * one) (2 ^ w - 1)

/-- The product of two components. -/
def fmul (a b : Int) : Int := divNear (a * b) one

/-- A colour with alpha. -/
structure Rgba where
  r : Int
  g : Int
  b : Int
  a : Int
  deriving DecidableEq, Repr

def Rgba.mapRgb (c : Rgba) (f : Int → Int) : Rgba := { r := f c.r, g := f c.g, b := f c.b, a := c.a }

def clamp01 (x : Int) : Int := clampI 0 one x

/-- A half-precision number clamped to 0 to 1, exactly in units of 2^-24; a NaN gives 0. -/
def half (v : Nat) : Int :=
  let e := bits v 10 5
  let m := bits v 0 10
  if bit v 15 ∨ (e = 31 ∧ m ≠ 0) then 0
  else if e = 0 then m
  else if 15 ≤ e then one
  else ((1024 + m) * 2 ^ (e - 1) : Nat)

/-- A pixel of formats 0 to 4 from its bytes. -/
def rgbPixel (fmt : Nat) (bs : List Nat) : Rgba :=
  let w := ofBytesLE bs
  let u8 := fun i => unorm 8 (bits w (8 * i) 8)
  if fmt = 0 then { r := u8 0, g := u8 1, b := u8 2, a := u8 3 }
  else if fmt = 1 then { r := u8 2, g := u8 1, b := u8 0, a := u8 3 }
  else if fmt = 2 then { r := unorm 5 (bits w 0 5), g := unorm 6 (bits w 5 6), b := unorm 5 (bits w 11 5), a := one }
  else if fmt = 3 then
    { r := unorm 10 (bits w 0 10), g := unorm 10 (bits w 10 10), b := unorm 10 (bits w 20 10), a := unorm 2 (bits w 30 2) }
  else { r := half (bits w 0 16), g := half (bits w 16 16), b := half (bits w 32 16), a := clamp01 (half (bits w 48 16)) }

/-! ### YCbCr (R278) -/

/-- The luma weights of red and blue in 1/10,000 that CSC names: BT.709, BT.601, BT.2020. -/
def lumaWeights (csc : Nat) : Int × Int :=
  if csc ≤ 1 then (2126, 722) else if csc ≤ 3 then (2990, 1140) else (2627, 593)

def csFull (csc : Nat) : Bool := csc == 1 || csc == 3

/-- RGB from Y, Cb and Cr given as numbers over `2^24` of one code step each, of `n`-bit samples. -/
def yuvRgb (csc n : Nat) (y cb cr : Int) : Rgba :=
  let s : Int := 2 ^ (n - 8)
  let (kr, kb) := lumaWeights csc
  let kg := 10000 - kr - kb
  let full := csFull csc
  let y' := if full then divNear y (2 ^ n - 1) else divNear (y - 16 * s * one) (219 * s)
  let c' := fun c => if full then divNear (c - 128 * s * one) (2 ^ n - 1) else divNear (c - 128 * s * one) (224 * s)
  let b' := c' cb
  let r' := c' cr
  { r := clamp01 (y' + divNear (2 * (10000 - kr) * r') 10000),
    g := clamp01 (y' - divNear (2 * kb * (10000 - kb) * b') (10000 * kg) - divNear (2 * kr * (10000 - kr) * r') (10000 * kg)),
    b := clamp01 (y' + divNear (2 * (10000 - kb) * b') 10000), a := one }

/-- A little-endian sample of a row of bytes, `w` bytes wide, the `i`-th from its start. -/
def sampleAt (row : List Nat) (w i : Nat) : Nat := ofBytesLE ((row.drop (w * i)).take w)

/-- The chroma of a column, brought to full resolution: sited level with the left luma sample of each pair (R278).
`pair` gives the sample of a pair. -/
def chromaCol (pair : Nat → Int) (pairs x : Nat) : Int :=
  let i := x / 2
  if x % 2 = 0 then pair i * one else divNear ((pair i + pair (min (i + 1) (pairs - 1))) * one) 2

/-! ### Fetched lines -/

/-- A line of a fetched band within the crop, empty where it was not fetched. -/
def BandSrc.row (s : BandSrc) (y : Nat) : List Nat := tabGet s.rows [] y
def BandSrc.crow (s : BandSrc) (y : Nat) : List Nat := tabGet s.crows [] y

/-- The chroma lines that the crop of a band reaches: first and last. -/
def chromaSpan (top ch : Nat) : Nat × Nat := (top / 2, (top + ch - 1) / 2)

/-- A source pixel of a layer at crop column `x` and crop line `y`; `top` is the buffer line of crop line 0. -/
def srcPixel (l : Layer) (s : BandSrc) (top x y : Nat) : Rgba :=
  let row := s.row (top + y)
  if l.fmt = 16 ∨ l.fmt = 17 then
    let n := if l.fmt = 16 then 8 else 10
    let w := if l.fmt = 16 then 1 else 2
    let cut := fun v => if l.fmt = 17 then v / 64 else v
    let (c0, c1) := chromaSpan top l.ch
    let line := top + y
    let near := line / 2
    let far := if line % 2 = 0 then max c0 (near - 1) else min c1 (near + 1)
    let comp := fun k =>
      let at_ := fun cl => chromaCol (fun i => (cut (sampleAt (s.crow cl) w (2 * i + k)) : Nat)) (l.cw / 2) x
      divNear (3 * at_ near + at_ far) 4
    yuvRgb l.csc n ((cut (sampleAt row w x) : Nat) * one) (comp 0) (comp 1)
  else if l.fmt = 18 then
    let comp := fun k => chromaCol (fun i => (sampleAt row 1 (4 * i + k) : Nat)) (l.cw / 2) x
    yuvRgb l.csc 8 ((sampleAt row 1 (2 * x) : Nat) * one) (comp 1) (comp 3)
  else rgbPixel l.fmt ((row.drop (lumaBytes l.fmt * x)).take (lumaBytes l.fmt))

/-! ### The scaler (R279) -/

/-- The source position and the phase of destination index `i`. -/
def scalePos (src dst i : Nat) : Int × Nat :=
  let step := 65536 * src / dst
  let pos : Int := i * step + (step / 2 : Nat) - 32768
  (pos / 65536, (pos / 1024 % 64).toNat)

/-- A sum of colours by weights of 1/256, clamped to 0 to 1. -/
def weigh (l : List (Int × Rgba)) : Rgba :=
  let f := fun (g : Rgba → Int) => clamp01 (divNear (l.foldl (fun t x => t + x.1 * g x.2) 0) 256)
  { r := f (·.r), g := f (·.g), b := f (·.b), a := f (·.a) }

/-- A crop coordinate held to the crop. -/
def edge (n : Nat) (i : Int) : Nat := (clampI 0 ((n : Int) - 1) i).toNat

/-- The layer's colour at destination column `i` and line `j`: 8 taps across, then 4 taps down. -/
def scaled (x : PipeSt) (l : Layer) (s : BandSrc) (top i j : Nat) : Rgba :=
  let (x0, px) := scalePos l.cw l.dw i
  let (y0, py) := scalePos l.ch l.dh j
  weigh ((upFrom 0 4).map (fun (t : Nat) =>
    let y := edge l.ch (y0 - 1 + t)
    (x.coefAt l.bank (512 + 4 * py + t),
     weigh ((upFrom 0 8).map (fun (u : Nat) =>
       (x.coefAt l.bank (8 * px + u), srcPixel l s top (edge l.cw (x0 - 3 + u)) y))))))

/-! ### Blending (R281, R298) -/

/-- A straight-alpha ARGB 8888 colour. -/
def argb (w : Nat) : Rgba :=
  { r := unorm 8 (bits w 16 8), g := unorm 8 (bits w 8 8), b := unorm 8 (bits w 0 8), a := unorm 8 (bits w 24 8) }

/-- Source × weight + background × (1 − a). -/
def mix (src weight a c : Int) : Int := fmul src weight + fmul c (one - a)

def blendWith (s : Rgba) (weight a : Int) (c : Rgba) : Rgba :=
  { r := mix s.r weight a c.r, g := mix s.g weight a c.g, b := mix s.b weight a c.b, a := one }

/-- A layer's pixel over what lies beneath. -/
def blendLayer (l : Layer) (s c : Rgba) : Rgba :=
  let al := unorm 8 l.lalpha
  let a := fmul s.a al
  if l.alpha = 0 then blendWith s al a c
  else if l.alpha = 1 then blendWith s a a c
  else blendWith s al al c

/-- The fill colour in place of a layer's pixel. -/
def blendFill (l : Layer) (c : Rgba) : Rgba :=
  let f := argb l.fill
  let a := fmul f.a (unorm 8 l.lalpha)
  blendWith f a a c

/-- A component as 10 bits, rounded to nearest. -/
def to10 (x : Int) : Nat := (clampI 0 1023 (divNear (1023 * x) one)).toNat

def Rgba.pix (c : Rgba) : Pix := { r := to10 c.r, g := to10 c.g, b := to10 c.b }

/-- A 10-bit colour in the layout of `HC_BG`. -/
def bgPix (w : Nat) : Pix := { r := bits w 20 10, g := bits w 10 10, b := bits w 0 10 }
def Pix.rgba (p : Pix) : Rgba := { r := unorm 10 p.r, g := unorm 10 p.g, b := unorm 10 p.b, a := one }

/-! ### Strike windows (R297, R302, R305) -/

/-- A strike window in the layout of `STK_POSw` to `STK_CFGw`. -/
structure Win where
  x : Nat
  y : Nat
  w : Nat
  h : Nat
  off : Nat
  en : Bool
  bpp8 : Bool
  scale : Nat
  palBase : Nat
  pitch : Nat
  deriving DecidableEq, Repr

/-- A window of a set of the strike page. -/
def readWin (rd : SetRd) (pid w : Nat) : Win :=
  let g := fun f => rd pid f w
  { x := g F.STK_POS_X, y := g F.STK_POS_Y, w := g F.STK_SIZE_W, h := g F.STK_SIZE_H, off := g F.STK_SRC_OFFSET * 64,
    en := g F.STK_CFG_EN == 1, bpp8 := g F.STK_CFG_BPP8 == 1, scale := g F.STK_CFG_SCALE + 1,
    palBase := g F.STK_CFG_PALBASE, pitch := g F.STK_CFG_PITCH * 64 }

/-- A window record of 16 bytes in strike SRAM. -/
def winAt (m : List Host.Cell) (a : Nat) : Win :=
  let pos := memRdLE m a 4
  let size := memRdLE m (a + 4) 4
  let src := memRdLE m (a + 8) 4
  let cfg := memRdLE m (a + 12) 4
  { x := bits pos 0 13, y := bits pos 16 13, w := bits size 0 13, h := bits size 16 13, off := bits src 6 17 * 64,
    en := bit cfg 0, bpp8 := bit cfg 1, scale := bits cfg 2 2 + 1, palBase := bits cfg 4 8, pitch := bits cfg 16 11 * 64 }

/-- The index of a window at a head position, none outside the window. -/
def Win.index (w : Win) (m : List Host.Cell) (x y : Nat) : Option Nat :=
  if w.en ∧ w.x ≤ x ∧ w.y ≤ y ∧ x < w.x + w.w * w.scale ∧ y < w.y + w.h * w.scale then
    let px := (x - w.x) / w.scale
    let row := w.off + (y - w.y) / w.scale * w.pitch
    some (if w.bpp8 then memRd m (row + px)
      else if px % 2 = 0 then memRd m (row + px / 2) % 16 else memRd m (row + px / 2) / 16)
  else none

/-- A window's pixel over what lies beneath; `pal` gives the palette word of an entry. -/
def blendWin (w : Win) (m : List Host.Cell) (pal : Nat → Nat) (x y : Nat) (c : Rgba) : Rgba :=
  match w.index m x y with
  | none => c
  | some i =>
    let p := argb (pal (w.palBase + i))
    blendWith p p.a p.a c

end Sys2Proof.Machine
end

