-- ==== Sys2Proof/Machine/Compose.lean ====
section
/-! DEFINITION. Inline band composition: band fetch, the fetch deadline, the composed band, the strike plane with its safe
screens and emergency window, and the layer and strike boundaries (R282 to R287, R297 to R303). -/

namespace Sys2Proof.Machine

open Sys2Proof

/-! ### Band fetch (R283, R286, R295) -/

/-- The entry of a pipe map for an address, walked again where an invalidation has removed it (R286). -/
def Dev.mapEntry (d : Dev) (p v asp a : Nat) : Dev × Option TlbEntry :=
  match (d.pipe p).cur with
  | none => (d, none)
  | some b =>
    match b.map.find? (fun e => e.base == a / 2 ^ e.size) with
    | some e => (d, some e)
    | none =>
      match d.walkBoth v asp a with
      | (d, .inl e) =>
        if e.r1 && e.r2 then
          (d.setPipe p { d.pipe p with cur := some { b with map := b.map ++ [e] } }, some e)
        else (d.xlatFault v asp 0 a false 2 (if e.r1 then 2 else 1) (e.gpa + a % 2 ^ e.size), none)
      | (d, .inr (.bad k s g)) => (d.xlatFault v asp 0 a false k s g, none)
      | (d, .inr (.leaf ..)) => (d, none)

/-- The wheel owner that a pipe's fetches are served as (R10, R11, R106): its head's, while its mode holds a deadline. -/
def Dev.pipeOwn (d : Dev) (p : Nat) : Nat := if d.layerLatch p then 2 + d.pipeHead p else 0

/-- Read the pieces of a VI's buffer that lie in one page each; false on a fault or an error response. -/
def Dev.mapRead (d : Dev) (p v asp : Nat) : List (Nat × Nat) → Dev × List Nat × Bool
  | [] => (d, [], true)
  | (a, n) :: rest =>
    match d.mapEntry p v asp a with
    | (d, none) => (d, [], false)
    | (d, some e) =>
      let (d, bs, ok) := d.placeRd (d.pipeOwn p) v e.tgt (e.out + a % 2 ^ e.size) n
      let (d, bs', ok') := d.mapRead p v asp rest
      (d, bs ++ bs', ok && ok')

/-- Read bytes of a pipe's source at its owner's address (R286). -/
def Dev.srcRead (d : Dev) (p a n : Nat) : Dev × List Nat × Bool :=
  let code := d.pipeOwner p
  if code % 4 = 3 then d.mapRead p (code / 16 % 64) (d.layer d.actRd p).aspace (pieces (n / 4096 + 2) a n)
  else
    let (b, m) := d.ownerRegion code
    if a + n ≤ m then d.mcRead (d.pipeOwn p) (b + a) n else (d, [], false)

/-- Read lines: `at_` gives the address of a line. -/
def Dev.readLines (d : Dev) (p n : Nat) (at_ : Nat → Nat) : List Nat → Dev × Tab (List Nat) × Bool
  | [] => (d, [], true)
  | y :: r =>
    let (d, bs, ok) := d.srcRead p (at_ y) n
    let (d, t, ok') := d.readLines p n at_ r
    (d, tabPut t [] y bs, ok && ok')

/-- The first buffer line of the crop with the applied warp (R295). -/
def cropTop (l : Layer) (ay : Int) : Nat := ((l.cy : Int) + ay).toNat

/-- The buffer lines that destination lines need (R279). -/
def linesFor (l : Layer) (top : Nat) (js : List Nat) : List Nat :=
  (js.flatMap (fun j =>
    let y0 := (scalePos l.ch l.dh j).1
    (upFrom 0 4).map (fun (t : Nat) => top + edge l.ch (y0 - 1 + t)))).eraseDups

/-- The destination lines of a layer that lie in a band. -/
def Layer.linesIn (l : Layer) (k vact : Nat) : List Nat :=
  ((upFrom (16 * k) 16).filter (fun y => decide (y < vact) && decide (l.dy ≤ y) && decide (y < l.dy + l.dh))).map
    (fun y => y - l.dy)

/-- Fetch a band of a pipe (R283): the warp offset is taken, and the lines are read. A layer with no buffer only takes the
offset, which its fill colour is shown with. -/
def Dev.fetchBand (d : Dev) (p k : Nat) : Dev :=
  let h := d.pipeHead p
  let d := d.takeWarp p
  let l := d.layer d.actRd p
  let (ax, ay) := d.warpA p
  match (d.pipe p).cur with
  | none =>
    let x := d.pipe p
    d.setPipe p { x with bands := x.bands.filter (fun e => !(e.band == k)) ++ [{ band := k, ax := ax, ay := ay, rows := [], crows := [], ok := false }] }
  | some b =>
    let top := cropTop l ay
    let ys := linesFor l top (l.linesIn k (readTiming d.actRd h).vact)
    let (d, rows, ok) := d.readLines p (l.cw * lumaBytes l.fmt)
      (fun y => b.addr + y * b.pitch + l.cx * lumaBytes l.fmt) ys
    let two := l.fmt == 16 || l.fmt == 17
    let (c0, c1) := chromaSpan top l.ch
    let cys := if two then (ys.flatMap (fun y =>
        [y / 2, if y % 2 = 0 then max c0 (y / 2 - 1) else min c1 (y / 2 + 1)])).eraseDups else []
    let (d, crows, ok') := d.readLines p (l.cw * lumaBytes l.fmt)
      (fun y => b.addr + b.chroma + y * b.pitch + l.cx * lumaBytes l.fmt) cys
    let x := d.pipe p
    let s : BandSrc := { band := k, ax := ax, ay := ay, rows := rows, crows := crows, ok := ok && ok' }
    let d := d.setPipe p { x with bands := x.bands.filter (fun e => !(e.band == k)) ++ [s] }
    let d := d.add (psPid p) F.PS_FETCH_BANDS
    if ok && ok' then d else d.addSat (psPid p) F.PS_ERR_COUNT

/-- Bands of a head in its active mode. -/
def Dev.bandsOf (d : Dev) (h : Nat) : Nat := ceilDiv (readTiming d.actRd h).vact 16

/-- A pipe starts to fetch a band after the first (R283): band k − 1 is fetched and band k − 2 composed. -/
def Dev.bandStart (d : Dev) (p k : Nat) : Dev :=
  let h := d.pipeHead p
  let hs := d.head h
  let prev := (d.pipe p).bands.any (fun s => s.band + 1 == k) || decide (k ≤ hs.composed) || (d.pipe p).cur.isNone
  if d.pipeUsable p && (d.layer d.actRd p).enable && d.scanning h && decide (1 ≤ k) &&
      decide (k < d.bandsOf h) && prev && decide (k ≤ hs.composed + 1) &&
      !((d.pipe p).bands.any (fun s => s.band == k)) && decide (hs.started ≤ k) then
    d.fetchBand p k
  else d

/-! ### The fetch deadline (R285) -/

/-- What keeps an admitted Latch layer's bands complete: S0, the lock, and no fault at die level or above. -/
def Dev.latchHolds (d : Dev) : Bool :=
  d.r 0x390 F.PM_STAT_STATE == 0 && d.locked && !(d.flt.faults.any (fun f => decide (4 ≤ f.level)))

/-- At S_k − 4L the bands that are not complete show the fill colour and are counted; composition of the band starts. -/
def Dev.bandDeadline (d : Dev) (h k : Nat) (incomplete : List Nat) : Dev :=
  let hs := d.head h
  if !d.scanning h || !(k == hs.started) || !decide (k < d.bandsOf h) then d
  else
    let vact := (readTiming d.actRd h).vact
    let ps := (d.enabledPipes d.actRd h).filter (fun p => !((d.layer d.actRd p).linesIn k vact).isEmpty)
    let full := fun p =>
      (d.pipe p).bands.any (fun s => s.band == k && s.ok) &&
      (!incomplete.contains p || (!(d.layer d.actRd p).best && d.latchHolds))
    let bad := ps.filter (fun p => !full p)
    let counted := bad.filter (fun p => (d.pipe p).cur.isSome)
    let d0 := d
    let d := counted.foldl (fun d p =>
      if (d0.layer d0.actRd p).best then
        (((d.addSat (d0.lpPage p) F.LP_STAT_DROPS 1 p).err (d0.lpPage p) 10).addSat (hcPid h) F.HC_BANDS_DROPS).err (hcPid h) 10
      else
        (((d.addSat (d0.lpPage p) F.LP_STAT_LATE 1 p).err (d0.lpPage p) errLate).addSat (hcPid h) F.HC_BANDS_LATE).err (hcPid h)
          errLate) d
    d.setHead h { hs with started := k + 1, fill := bad }

/-! ### The composed band (R281, R298 to R303) -/

/-- The safe screen is shown: SAFE of the active set, or forcing (R303, R340). -/
def Dev.safeShown (d : Dev) (h : Nat) : Bool := d.a (stkPid h) F.STK_CTRL_SAFE == 1 || (d.head h).forced

/-- The head's safe image in strike SRAM. -/
def Dev.safeBase (d : Dev) (h : Nat) : Nat := d.r (stkPid h) F.STK_SAFEBASE_OFFSET * 64

/-- The strike windows shown, in rising number, and the palette they use. -/
def Dev.shownWins (d : Dev) (h : Nat) : List Win :=
  if d.safeShown h then
    let b := d.safeBase h
    (upFrom 0 (memRd d.mems.strike (b + 5))).map (fun w => winAt d.mems.strike (b + 64 + 16 * w))
  else (upFrom 0 8).map (readWin d.actRd (stkPid h))

def Dev.palette (d : Dev) (h i : Nat) : Nat :=
  if 256 ≤ i then (Config.paletteBeyond h i).toNat
  else if d.safeShown h then
    let b := d.safeBase h
    memRdLE d.mems.strike (b + 64 + 16 * memRd d.mems.strike (b + 5) + 4 * i) 4
  else d.a (stkPid h) F.STK_PAL_ARGB i

/-- The emergency window of a message on a head (R301, R305). -/
def Dev.emgBase (d : Dev) : Nat := d.r scPid F.SC_EMGBASE_OFFSET * 64
def Dev.emgWin (d : Dev) (h m : Nat) : Win := winAt d.mems.strike (d.emgBase + 64 + 128 * m + 16 * h)

/-- Entries 240 to 255 of a message's palette block. The blocks follow the window records, one message after another. -/
def Dev.emgPalette (d : Dev) (m : Nat) : List Nat :=
  let b := d.emgBase + 64 + 128 * memRd d.mems.strike (d.emgBase + 4) + 1024 * m
  (upFrom 240 16).map (fun i => memRdLE d.mems.strike (b + 4 * i) 4)

/-- The background colour. -/
def Dev.background (d : Dev) (h : Nat) : Pix :=
  if d.safeShown h then bgPix (memRdLE d.mems.strike (d.safeBase h + 8) 4)
  else { r := d.a (hcPid h) F.HC_BG_R, g := d.a (hcPid h) F.HC_BG_G, b := d.a (hcPid h) F.HC_BG_B }

/-- A layer ready to be blended: its settings, its pipe, its horizontal warp, and its fetched band, none where it shows
its fill colour. -/
abbrev Shown : Type := Layer × PipeSt × Int × Option BandSrc

/-- The layers of a band in rising ZPOS. -/
def Dev.shownLayers (d : Dev) (h k : Nat) : List Shown :=
  let hs := d.head h
  let ps := d.enabledPipes d.actRd h
  (upFrom 0 16).flatMap (fun z => (ps.filter (fun p => (d.layer d.actRd p).zpos == z)).map (fun p =>
    let s := (d.pipe p).bands.find? (fun s => s.band == k)
    (d.layer d.actRd p, d.pipe p, (s.map (·.ax)).getD 0, if hs.fill.contains p then none else s.filter (·.ok))))

/-- One layer at a head position. A horizontal warp moves the destination rectangle. -/
def layerAt (x y : Nat) (s : Shown) (c : Rgba) : Rgba :=
  let (l, ps, ax, src) := s
  let i : Int := (x : Int) - l.dx - ax
  if 0 ≤ i ∧ i < l.dw ∧ l.dy ≤ y ∧ y < l.dy + l.dh then
    match src with
    | some b => blendLayer l (scaled ps l b (cropTop l b.ay) i.toNat (y - l.dy)) c
    | none => blendFill l c
  else c

/-- A pixel of a head: background, layers, strike windows, emergency window. -/
def Dev.pixelAt (d : Dev) (h : Nat) (layers : List Shown) (x y : Nat) : Pix :=
  let c := (d.background h).rgba
  let c := if d.safeShown h then c else layers.foldl (fun c s => layerAt x y s c) c
  let c := (d.shownWins h).foldl (fun c w => blendWin w d.mems.strike (d.palette h) x y c) c
  let hs := d.head h
  let c := match hs.emg with
    | some m =>
      blendWin { d.emgWin h m with palBase := 0 } d.mems.strike (fun i => hs.emgPal.getD i 0) x y c
    | none => c
  c.pix

/-- The lines of a band as composed. -/
def Dev.composeBand (d : Dev) (h k : Nat) : List (List Pix) :=
  let t := readTiming d.actRd h
  let ls := d.shownLayers h k
  ((upFrom (16 * k) 16).filter (fun y => decide (y < t.vact))).map (fun y =>
    (upFrom 0 t.hact).map (fun x => d.pixelAt h ls x y))

/-- The words of strike SRAM that a window's lines of a band lie in. -/
def Win.words (w : Win) (k vact : Nat) : List Nat :=
  if !w.en then []
  else
    (((upFrom (16 * k) 16).filter (fun y => decide (y < vact) && decide (w.y ≤ y) && decide (y < w.y + w.h * w.scale))).map
      (fun y => (y - w.y) / w.scale)).eraseDups.flatMap
      (fun r => wordRange (w.off + r * w.pitch) (if w.bpp8 then w.w else ceilDiv w.w 2))

/-- The words of strike SRAM that composition of a band reads: its windows' rows, and on the safe screen the image's header,
windows and palette. -/
def Dev.strikeUse (d : Dev) (h k : Nat) : List Nat :=
  let vact := (readTiming d.actRd h).vact
  let b := d.safeBase h
  let image := if d.safeShown h then wordRange b (64 + 16 * memRd d.mems.strike (b + 5) + 1024) else []
  let emg := match (d.head h).emg with
    | some m => wordRange (d.emgBase + 64 + 128 * m + 16 * h) 16 ++ (d.emgWin h m).words k vact
    | none => []
  (image ++ (d.shownWins h).flatMap (fun w => w.words k vact) ++ emg).eraseDups

/-- Composition of a band ends (R300). `mismatch`: the two strike results differ. The band then leaves in the alarm colour
and a fault opens on the compositor pair; so it does where strike SRAM gives an uncorrectable error. -/
def Dev.composeEnd (d : Dev) (h k : Nat) (mismatch : Bool) : Dev :=
  let hs := d.head h
  if !(k == hs.composed) || !decide (k < hs.started) then d
  else
    let (d, sound) := d.strikeWords (d.strikeUse h k)
    let bad := mismatch || hs.inject || !sound
    let good := d.composeBand h k
    let rows := if bad then good.map (fun l => l.map (fun _ => bgPix (d.a (stkPid h) F.STK_ALARM_RGB))) else good
    let d := d.setHead h { hs with composed := k + 1, inject := false, rows := tabPut hs.rows [] k rows }
    let d := (d.headPipes h).foldl (fun d p =>
      let x := d.pipe p
      d.setPipe p { x with bands := x.bands.filter (fun s => decide (k < s.band)) }) d
    if bad then
      let d := ((d.addSat (stkPid h) F.STK_STAT_MISMATCH).addSat scPid F.SC_MISM_COUNT).w scPid F.SC_MISM_HEAD h
      (d.err scPid 10).openFault 2 1 (stkPid h) h
    else d

/-! ### The strike check (R297) and the CRC check (R339) -/

def winInArea (w : Win) (t : Timing) : Bool :=
  decide (w.x + w.w * w.scale ≤ t.hact) && decide (w.y + w.h * w.scale ≤ t.vact)

/-- The check of a strike set, for a timing. -/
def Dev.strikeCheck (d : Dev) (h : Nat) (snap : List (Nat × Nat)) : Option Nat :=
  let rd : SetRd := fun pid f i => snapGet snap pid f i
  let ws := ((upFrom 0 8).map (readWin rd (stkPid h))).filter (·.en)
  if ws.any (fun w => (!w.bpp8 && !(w.palBase % 16 == 0)) || w.pitch == 0) then some 3
  else if ws.any (fun w => !winInArea w (readTiming d.cntRd h) ||
      decide (w.pitch < (if w.bpp8 then w.w else ceilDiv w.w 2)) || decide (2 ^ 23 < w.off + w.h * w.pitch)) then some 1
  else none

/-- A CRC rectangle of a set: x, y, w, h, enabled. -/
def readRect (rd : SetRd) (pid r : Nat) : Nat × Nat × Nat × Nat × Bool :=
  (rd pid F.CR_POS_X r, rd pid F.CR_POS_Y r, rd pid F.CR_SIZE_W r, rd pid F.CR_SIZE_H r, rd pid F.CR_CFG_EN r == 1)

def rectInArea (r : Nat × Nat × Nat × Nat × Bool) (t : Timing) : Bool :=
  decide (r.1 + r.2.2.1 ≤ t.hact) && decide (r.2.1 + r.2.2.2.1 ≤ t.vact)

def Dev.crcCheck (d : Dev) (h : Nat) (snap : List (Nat × Nat)) : Option Nat :=
  let rd : SetRd := fun pid f i => snapGet snap pid f i
  let rs := (upFrom 0 16).filter (fun r => rd (crPid h) F.CR_CFG_EN r == 1)
  if rs.any (fun r => rd (crPid h) F.CR_SIZE_W r == 0 || rd (crPid h) F.CR_SIZE_H r == 0 ||
      rd (crPid h) F.CR_CFG_ACTION r == 3) then some 3
  else if rs.any (fun r => !rectInArea (readRect rd (crPid h) r) (readTiming d.cntRd h)) then some 1
  else none

/-! ### Boundaries (R287, R291, R301, R324, R339, R340) -/

/-- Apply the pending set of a page with one part, or discard it where a fault is open on the page. -/
def Dev.boundaryApply (d : Dev) (pid : Nat) (inTime : Bool) : Dev :=
  if inTime && (d.ctl pid).pend.isSome then
    if d.blockFault pid then d.discardPend pid else d.applyPend pid (fun _ => true)
  else d

/-- The compose page's pending set applies with every held set of the head (R291). -/
def Dev.composeApply (d : Dev) (h : Nat) (inTime : Bool) : Dev :=
  if inTime && (d.ctl (hcPid h)).pend.isSome && !d.blockFault (hcPid h) then
    (d.applyPend (hcPid h) (fun _ => true)).applyHeld h
  else d.boundaryApply (hcPid h) inTime

/-- The layer boundary of a head, F − 22L (R287): held sets first after a change of the active area, then the compose
page's set with the held sets and the layer sets, then the READY flips; then band 0's fetch begins. `lateSets` and
`lateFlips` became ready after the cut-off. -/
def Dev.layerBoundary (d : Dev) (h : Nat) (lateSets lateFlips : List Nat) : Dev :=
  if !d.scanning h then d
  else
    let d := if (d.head h).newMode then d.applyHeld h else d
    let d := d.composeApply h (!lateSets.contains (hcPid h))
    let d := d.applyLayers h lateSets
    let taken := (d.enabledPipes d.actRd h).filter (fun p =>
      d.r (d.flPage p) F.FL_STAT_STATE p == 2 && !lateFlips.contains p)
    let d := taken.foldl (fun d p => d.flipTake p) d
    let (t, d) := d.stamp (hdPid h)
    let hs := d.head h
    let hs := { hs with newMode := false, started := 0, composed := 0, fill := [] }
    let hs := if taken.isEmpty then hs else
      { hs with flipT := t, flipF := (d.r (hdPid h) F.HD_FRAME_COUNT + 1) % 2 ^ 32, flipP := taken }
    let d := d.setHead h hs
    (d.enabledPipes d.actRd h).foldl (fun d p => (d.setPipe p { d.pipe p with bands := [] }).fetchBand p 0) d

/-- The strike page applies a set; a CRC set that is linked to it applies with it (R339). -/
def Dev.strikeApply (d : Dev) (h : Nat) : Dev :=
  let since := match (d.ctl (stkPid h)).pend with
    | some p => some p.since
    | none => none
  let d := d.applyPend (stkPid h) (fun _ => true)
  let d := d.setHead h { d.head h with strikeSince := since }
  match (d.ctl (crPid h)).pend with
  | some p => if p.linked then d.boundaryApply (crPid h) true else d
  | none => d

/-- The CRC page's own set, unless it waits for the strike page. -/
def Dev.crcApply (d : Dev) (h : Nat) (inTime : Bool) : Dev :=
  match (d.ctl (crPid h)).pend with
  | some p => if p.linked then d else d.boundaryApply (crPid h) inTime
  | none => d

/-- `HC_STAT.SAFE` shows whether the safe screen is shown, or will be because of forcing. -/
def Dev.showSafe (d : Dev) (h : Nat) : Dev :=
  d.w (hcPid h) F.HC_STAT_SAFE (b2n (d.safeShown h || d.on (crPid h) F.CR_STAT_FORCED))

/-- The emergency window is shown or removed as `SC_EMG` says (R301, R305). A message that the section does not hold
shows nothing. -/
def Dev.emgApply (d : Dev) (h : Nat) : Dev :=
  let m := d.r scPid F.SC_EMG_MSG
  let hs := d.head h
  if d.on scPid F.SC_EMG_ON && decide (m < memRd d.mems.strike (d.emgBase + 4)) then
    let hs' := if hs.emg == some m then hs
      else { hs with emg := some m, emgPal := d.emgPalette m, emgSince := d.disp.emgFrame }
    (d.setHead h hs').w (stkPid h) F.STK_STAT_EMG 1
  else (d.setHead h { hs with emg := none }).w (stkPid h) F.STK_STAT_EMG 0

/-- The strike boundary of a head, F − 4L (R287): strike and CRC sets, the emergency window, and forcing. -/
def Dev.strikeBoundary (d : Dev) (h : Nat) (strikeIn crcIn : Bool) : Dev :=
  if !d.scanning h then d
  else
    let d := if strikeIn && (d.ctl (stkPid h)).pend.isSome then
        if d.blockFault (stkPid h) then d.discardPend (stkPid h) else d.strikeApply h
      else d
    let d := (d.crcApply h crcIn).emgApply h
    let hs := d.head h
    let d := if hs.release then
        (d.setHead h { hs with forced := false, release := false }).w (crPid h) F.CR_STAT_FORCED 0
      else if d.on (crPid h) F.CR_STAT_FORCED then d.setHead h { hs with forced := true } else d
    d.showSafe h

/-- A GO on `SC_INJECT`. -/
def Dev.inject (d : Dev) (h : Nat) : Dev := d.setHead h { d.head h with inject := true }

end Sys2Proof.Machine
end

