-- ==== Sys2Proof/Machine/Heads.lean ====
section
/-! DEFINITION. Heads: timing, the timing generator, frames and time-stamps, the DisplayPort links, AUX, panel outputs and
the CRC rectangles (R315 to R346). -/

namespace Sys2Proof.Machine

open Sys2Proof

def dpPid (h : Nat) : Nat := 0x500 + h

/-! ### Timing checks (R317, R318) -/

/-- The active pixel rate of a timing in pixels per second. -/
def Timing.rate (t : Timing) : Nat × Nat := (t.hact * t.vact * (1000 * t.khz), t.htot * t.vtot)

/-- The aggregate of R318 over the heads whose HEAD entry is enabled. -/
def Dev.aggregate (d : Dev) (rd : SetRd) : Nat × Nat :=
  ((upFrom 0 8).filter d.headEn).foldl (fun s h => addFrac s (readTiming rd h).rate) (0, 1)

/-- A rate in Mpx/s, rounded up. -/
def mpxUp (x : Nat × Nat) : Nat := ceilDiv x.1 (1000000 * x.2)

/-- The fields of the head control page that change the mode, and those of `HD_QUIET`. -/
def modeFields : List FD :=
  [F.HD_HACT_ACTIVE, F.HD_HBLANK_FRONT, F.HD_HBLANK_SYNC, F.HD_HBLANK_BACK, F.HD_HBLANK_SPOL, F.HD_VACT_ACTIVE,
   F.HD_VBLANK_FRONT, F.HD_VBLANK_SYNC, F.HD_VBLANK_BACK, F.HD_VBLANK_SPOL, F.HD_PCLK_KHZ, F.HD_FMT_BPC]

/-- A set gives a mode field another value than another set. -/
def modeDiffers (a b : SetRd) (h : Nat) : Bool := modeFields.any (fun f => !(a (hdPid h) f 0 == b (hdPid h) f 0))

/-- Every field of the head control page in its range (R344). -/
def timingRange (rd : SetRd) (h : Nat) : Bool :=
  let g := fun f => rd (hdPid h) f 0
  let within_ := fun f lo hi => decide (lo ≤ g f) && decide (g f ≤ hi)
  within_ F.HD_HACT_ACTIVE 640 4096 && g F.HD_HACT_ACTIVE % 2 == 0 && within_ F.HD_HBLANK_FRONT 8 1023 &&
  within_ F.HD_HBLANK_SYNC 8 1023 && within_ F.HD_HBLANK_BACK 8 1023 && within_ F.HD_VACT_ACTIVE 480 2400 &&
  within_ F.HD_VBLANK_FRONT 1 255 && within_ F.HD_VBLANK_SYNC 1 255 && within_ F.HD_VBLANK_BACK 1 255 &&
  within_ F.HD_PCLK_KHZ 25000 600000 && decide (g F.HD_FMT_BPC ≤ 2)

/-- The quiet windows of a set lie in the blanking (R328). -/
def quietOk (rd : SetRd) (h : Nat) : Bool :=
  let t := readTiming rd h
  let g := fun f => rd (hdPid h) f 0
  decide (t.vact + g F.HD_QUIET_VQ_START + g F.HD_QUIET_VQ_LEN ≤ t.vtot) &&
  decide (t.vact + g F.HD_QUIET_VQ_START < t.vtot) && decide (2 * g F.HD_QUIET_HQ_GUARD < t.htot - t.hact)

/-- The most recent accepted layers, strike windows and CRC rectangles of the head fit an active area. -/
def Dev.fitsArea (d : Dev) (h : Nat) (t : Timing) : Bool :=
  (d.enabledPipes d.cntRd h).all (fun p =>
    let l := d.layer d.cntRd p
    decide (l.dx + l.dw ≤ t.hact) && decide (l.dy + l.dh ≤ t.vact)) &&
  ((upFrom 0 8).map (readWin d.cntRd (stkPid h))).all (fun w => !w.en || winInArea w t) &&
  ((upFrom 0 16).map (readRect d.cntRd (crPid h))).all (fun r => !r.2.2.2.2 || rectInArea r t)

def Dev.guarded (d : Dev) (h : Nat) : Bool := d.on (crPid h) F.CR_CTRL_GUARD

/-- The check of a head control set (R317). -/
def Dev.headCheck (d : Dev) (h : Nat) (snap : List (Nat × Nat)) : Verdict :=
  let rd := d.withSnap (hdPid h) snap
  let t := readTiming rd h
  let t0 := readTiming d.cntRd h
  if !timingRange rd h then verdict (some 3)
  else if decide (t.htot - t.hact < 80) || decide (t.vtot - t.vact < 24)
    || decide (2 * t.khz * 1000 < 47 * (t.htot * t.vtot)) || decide (121 * (t.htot * t.vtot) < 1000 * t.khz)
    || (let a := d.aggregate rd; decide (4000000000 * a.2 < a.1))
    || !quietOk rd h || !d.fitsArea h t || (d.guarded h && modeDiffers rd d.cntRd h) then verdict (some 1)
  else
    let ah := if t.khz * t0.htot = t0.khz * t.htot then [] else [h]
    match d.admission rd ah with
    | some b => { reason := some 2, heads := ah, bad := some b }
    | none => { reason := none, heads := ah }

/-! ### Links (R330 to R333) -/

/-- The rates of the codes of R346 in kbit/s. -/
def rateKbps (c : Nat) : Nat :=
  [1620000, 2160000, 2430000, 2700000, 3240000, 4320000, 5400000, 8100000].getD c 0

/-- A link carries a mode (R330). -/
def carries (t : Timing) (rate lanes : Nat) : Bool := decide (t.khz * 3 * t.bpc * 1000 ≤ 776 * lanes * rateKbps rate)

def Dev.linkState (d : Dev) (h : Nat) : Nat := d.r (dpPid h) F.DP_STAT_STATE
def Dev.linkIsUp (d : Dev) (h : Nat) : Bool := d.linkState h == 2

def Dev.sinkOf (d : Dev) (h : Nat) : SinkCaps :=
  (d.head h).sink.getD { maxRate := 0, maxLanes := 1, listed := [], downspread := false }

/-- The rate codes that training of a head may use, highest first. -/
def Dev.rates (d : Dev) (h : Nat) : List Nat :=
  let s := d.sinkOf h
  [7, 6, 5, 4, 3, 2, 1, 0].filter (fun c => decide (c ≤ d.r (dpPid h) F.DP_CTRL_MAXRATE) && decide (c ≤ s.maxRate.val) &&
    ([0, 3, 6, 7].contains c || (d.headEdp h && s.listed.any (fun x => x.val == c))))

/-- The widest lane count that training may use. -/
def Dev.lanes (d : Dev) (h : Nat) : Nat :=
  let m := d.r (dpPid h) F.DP_CTRL_MAXLANES
  let m := if m = 1 ∨ m = 2 then m else 4
  ([4, 2, 1].find? (fun n => decide (n ≤ m) && decide (n ≤ (d.sinkOf h).maxLanes.val))).getD 1

/-- The link leaves UP: no video. -/
def Dev.noVideo (d : Dev) (h : Nat) : Dev := d.setHead h { d.head h with video := false, sent := none }

/-- Training starts with the highest rate and the widest lane count. -/
def Dev.trainLink (d : Dev) (h : Nat) : Dev :=
  let p := dpPid h
  let d := d.noVideo h
  ((d.w p F.DP_STAT_STATE 1).w p F.DP_STAT_RATE ((d.rates h).headD 0)).w p F.DP_STAT_LANES (d.lanes h)

/-- The fallback after a failure: the next lower rate with the same lanes, then half the lanes at the highest rate. -/
def Dev.fallback (d : Dev) (h : Nat) : Option (Nat × Nat) :=
  let p := dpPid h
  let lanes := d.r p F.DP_STAT_LANES
  match (d.rates h).find? (fun c => decide (c < d.r p F.DP_STAT_RATE)) with
  | some c => some (c, lanes)
  | none => if 1 < lanes then some ((d.rates h).headD 0, lanes / 2) else none

/-- A training attempt ends (R331). -/
def Dev.attemptEnd (d : Dev) (h : Nat) (o : TrainOutcome) (ms : Nat) : Dev :=
  let p := dpPid h
  if !(d.linkState h == 1) then d
  else
    let t := readTiming d.actRd h
    let d := (d.add p F.DP_TRAIN_COUNT).w p F.DP_TRAIN_MS (sat 65535 ms)
    let d := d.setHead h { d.head h with tries := (d.head h).tries + 1 }
    let failed := fun (d : Dev) c => (d.w p F.DP_STAT_STATE 3).w p F.DP_STAT_CAUSE c
    let fall := fun c => match d.fallback h with
      | some (r, l) =>
        if carries t r l then (d.w p F.DP_STAT_RATE r).w p F.DP_STAT_LANES l else (failed d c).err p 12
      | none => (failed d c).err p 12
    match o with
    | .success =>
      if carries t (d.r p F.DP_STAT_RATE) (d.r p F.DP_STAT_LANES) then
        ((d.w p F.DP_STAT_STATE 2).w p F.DP_STAT_CAUSE 0).w p F.DP_STAT_SSC
          (b2n ((d.sinkOf h).downspread && d.on p F.DP_CTRL_SSC))
      else failed d 3
    | .crFail => fall 1
    | .eqFail => fall 2
    | .noAux => (failed d 4).err p 12

/-- A plug (R333). It trains the link when AUTO = 1 and the link is not training or up. -/
def Dev.plugIn (d : Dev) (h : Nat) (s : SinkCaps) : Dev :=
  let p := dpPid h
  if d.on p F.DP_STAT_HPD then d
  else
    let hs := d.head h
    let d := d.setHead h { hs with sink := some s,
                                   early := hs.early || (hs.safeDue && decide (d.now ≤ d.disp.bootAt + 250000000)) }
    let d := ((d.w p F.DP_STAT_HPD 1).addSat p F.DP_EVENTS_PLUG).err p 10
    if d.on p F.DP_CTRL_AUTO && (d.linkState h == 0 || d.linkState h == 3) then d.trainLink h else d

/-- An unplug. -/
def Dev.plugOut (d : Dev) (h : Nat) : Dev :=
  let p := dpPid h
  if !d.on p F.DP_STAT_HPD then d
  else
    let d := ((d.w p F.DP_STAT_HPD 0).addSat p F.DP_EVENTS_UNPLUG).err p 10
    let d := if d.linkState h = 1 then d.w p F.DP_STAT_CAUSE 5 else d
    let d := (d.w p F.DP_STAT_STATE 0).noVideo h
    d.setHead h { d.head h with sink := none }

/-- A short HPD pulse while UP: the link retrains at the same rate and lanes first, or the event is the owner's. -/
def Dev.irqHpd (d : Dev) (h : Nat) (good : Bool) : Dev :=
  let p := dpPid h
  if !d.linkIsUp h then d
  else if good then (d.addSat p F.DP_EVENTS_IRQ).err p 10
  else (((d.addSat p F.DP_EVENTS_LOST).err p 11).w p F.DP_STAT_STATE 1).noVideo h

/-- `DP_CTRL.RETRAIN`: the link trains now, but while it trains already. -/
def Dev.retrain (d : Dev) (h : Nat) : Dev := if d.linkState h = 1 then d else d.trainLink h

/-! ### AUX (R334) and panel outputs (R336) -/

/-- The bytes of the AUX data registers. -/
def Dev.auxBytes (d : Dev) (h n : Nat) : List Nat :=
  ((upFrom 0 4).flatMap (fun k => bytesLE 4 (d.r (dpPid h) F.DP_AUX_DATA_DATA k))).take n

/-- A native write to the DPCD addresses that the device alone configures. -/
def auxRefused (type addr n : Nat) : Bool :=
  type == 0 && (overlap addr n 0x100 0x20 || overlap addr n 0x600 1)

/-- A GO: queued behind the device's own transactions, or refused. While a transaction is queued or running it has no
effect. -/
def Dev.auxGo (d : Dev) (h : Nat) : Dev :=
  let p := dpPid h
  let n := d.r p F.DP_AUX_CMD_LEN + 1
  let ty := d.r p F.DP_AUX_CMD_TYPE
  let addr := d.r p F.DP_AUX_CMD_ADDR
  if d.on p F.DP_AUX_STAT_BUSY then d
  else if auxRefused ty addr n then (d.w p F.DP_AUX_STAT_RESULT 4).err p 13
  else
    let d := (d.setHead h { d.head h with aux := some (ty, n) }).w p F.DP_AUX_STAT_BUSY 1
    d.emit (.aux h (ty + 4 * d.r p F.DP_AUX_CMD_MOT) addr (if ty % 2 = 0 then d.auxBytes h n else []))

/-- A transaction ends. -/
def Dev.auxEnd (d : Dev) (h : Nat) (o : AuxOutcome) : Dev :=
  let p := dpPid h
  match (d.head h).aux with
  | none => d
  | some (ty, n) =>
    let d := ((d.setHead h { d.head h with aux := none }).w p F.DP_AUX_STAT_BUSY 0).err p 13
    match o with
    | .ack bs acked =>
      let d := (d.w p F.DP_AUX_STAT_RESULT 0).w p F.DP_AUX_STAT_ACKED acked.val
      if ty % 2 = 1 then
        let m := takePad 0 16 (bs.take n ++ (d.auxBytes h 16).drop (min n bs.length))
        forAll (upFrom 0 4) (fun k d => d.w p F.DP_AUX_DATA_DATA (ofBytesLE ((m.drop (4 * k)).take 4)) k) d
      else d
    | .nack => d.w p F.DP_AUX_STAT_RESULT 1
    | .defer => d.w p F.DP_AUX_STAT_RESULT 2
    | .timeout => d.w p F.DP_AUX_STAT_RESULT 3

/-- What BLEN needs beside the delay. -/
def Dev.blenMay (d : Dev) (h : Nat) : Bool :=
  d.headEdp h && d.on (dpPid h) F.DP_PANEL_BL && d.linkIsUp h && d.r (hdPid h) F.HD_STAT_STATE == 2

/-- BLDELAY ms have passed since the first frame on the link. -/
def Dev.blDelayed (d : Dev) (h : Nat) : Bool :=
  match (d.head h).sent with
  | some t => decide (t + 1000000 * d.r (dpPid h) F.DP_PANEL_BLDELAY ≤ d.now)
  | none => false

/-- BLEN rises when all that it needs is there. -/
def Dev.blDelay (d : Dev) (h : Nat) : Dev :=
  if d.blenMay h && d.blDelayed h then d.setHead h { d.head h with blen := true } else d

/-- BLEN falls at once when what it needs is gone. -/
def Dev.blFall (d : Dev) (h : Nat) : Dev :=
  if (d.head h).blen && !d.blenMay h then d.setHead h { d.head h with blen := false } else d

/-- The panel outputs of a head: VDDEN, BLEN, and BLPWM as its frequency in Hz and its high time in 1/1,023 of a period. On a
DisplayPort head they stay low. -/
def Dev.panel (d : Dev) (h : Nat) : Bool × Bool × Nat × Nat :=
  let p := dpPid h
  if d.headEdp h then
    (d.on p F.DP_PANEL_VDD, (d.head h).blen, min 50000 (max 200 (d.r p F.DP_PWM_FREQ)), d.r p F.DP_PWM_DUTY)
  else (false, false, 200, 0)

/-! ### The timing generator (R322 to R329) -/

/-- Apply every pending set of the head's pages at the stop event (R56, R290). -/
def Dev.stopApply (d : Dev) (h : Nat) : Dev :=
  let d := if (d.ctl (hdPid h)).pend.isSome then d.applyPend (hdPid h) (fun _ => true) else d
  let d := if (d.ctl (hcPid h)).pend.isSome then (d.applyPend (hcPid h) (fun _ => true)).applyHeld h else d
  let d := if (d.ctl (stkPid h)).pend.isSome then d.strikeApply h else d
  let d := d.crcApply h true
  (d.applyLayers h []).showSafe h

/-- The timing generator stops. -/
def Dev.headStop (d : Dev) (h : Nat) : Dev :=
  let d := (d.stopApply h).w (hdPid h) F.HD_STAT_STATE 0
  d.setHead h { d.head h with video := false }

/-- `HD_CTRL.EN` is set (R322). A set while STOPPING takes the place of the clear. -/
def Dev.headStart (d : Dev) (h : Nat) : Dev :=
  match d.r (hdPid h) F.HD_STAT_STATE with
  | 0 => if d.headEn h then d.w (hdPid h) F.HD_STAT_STATE 1 else d
  | 4 => d.w (hdPid h) F.HD_STAT_STATE 2
  | _ => d

/-- `HD_CTRL.EN` is cleared on a head that is not guarded. -/
def Dev.headClear (d : Dev) (h : Nat) : Dev :=
  match d.r (hdPid h) F.HD_STAT_STATE with
  | 1 | 3 => d.headStop h
  | 2 => d.w (hdPid h) F.HD_STAT_STATE 4
  | _ => d

def Dev.pllLock (d : Dev) (h : Nat) : Dev :=
  if d.r (hdPid h) F.HD_STAT_STATE = 1 then d.w (hdPid h) F.HD_STAT_STATE 2 else d

/-- E (R322, R324, R325). -/
def Dev.endOfActive (d : Dev) (h : Nat) (inTime : Bool) : Dev :=
  let p := hdPid h
  if d.r p F.HD_STAT_STATE = 4 then d.headStop h
  else if d.r p F.HD_STAT_STATE = 2 && inTime && (d.ctl p).pend.isSome then
    if d.blockFault p then d.discardPend p
    else
      let retime := modeDiffers d.cntRd d.actRd h
      let area := !(d.cntRd p F.HD_HACT_ACTIVE 0 == d.a p F.HD_HACT_ACTIVE) ||
        !(d.cntRd p F.HD_VACT_ACTIVE 0 == d.a p F.HD_VACT_ACTIVE)
      let d := d.applyPend p (fun _ => true)
      let d := if area then d.setHead h { d.head h with newMode := true } else d
      if retime then
        let d := (d.w p F.HD_STAT_STATE 3).setHead h { d.head h with video := false }
        if d.linkIsUp h && !carries (readTiming d.actRd h) (d.r (dpPid h) F.DP_STAT_RATE) (d.r (dpPid h) F.DP_STAT_LANES) then
          d.trainLink h
        else d
      else d
  else d

/-- The sequence of R325 is complete. -/
def Dev.retimed (d : Dev) (h : Nat) : Dev :=
  if d.r (hdPid h) F.HD_STAT_STATE = 3 && !(d.linkState h == 1) then
    ((d.w (hdPid h) F.HD_STAT_STATE 2).addSat (hdPid h) F.HD_RETIME_COUNT).err (hdPid h) 11
  else d

/-- The length of `n` lines of the active mode in ns, rounded up. -/
def Dev.linesNs (d : Dev) (h n : Nat) : Nat :=
  let t := readTiming d.actRd h
  ceilDiv (n * t.htot * 1000000) t.khz

/-- The units on the way from the strike plane to the transmitter. -/
def Dev.scanPath (h : Nat) : List Nat := [stkPid h, hcPid h, hdPid h, 0x701, dpPid h]

/-- The Bolt paths that end with the first pixel of this frame: 0, 1 and 7 of R13. -/
def Dev.frameMeasures (d : Dev) (h t : Nat) : Dev :=
  let hs := d.head h
  let vt := (readTiming d.actRd h).vtot
  let on_ := d.r (hdPid h) F.HD_STAT_STATE == 2 && d.linkIsUp h
  let d := match hs.strikeSince with
    | some a =>
      if on_ then d.measure 0 (t - a) (d.linesNs h (vt + 16)) (dpPid h) (d.boltHolds (strikePath h)) else d
    | none => d
  let d := match hs.emgSince with
    | some a =>
      if on_ then d.measure 1 (t - a) (d.linesNs h (2 * vt) + 1000000) (dpPid h) (d.boltHolds (emergencyPath h)) else d
    | none => d
  let d := if hs.safeDue && hs.video && d.safeShown h then
      let d : Dev := if d.disp.safeSent then d
        else { d.w 0x401 F.BOOT_SAFE_US (sat (2 ^ 20 - 1) ((t - d.disp.bootAt) / 1000)) with
                 disp := { d.disp with safeSent := true } }
      if hs.early && hs.tries ≤ 1 then
        d.measure 7 (t - d.disp.bootAt) 400000000 (dpPid h) (d.pathSound (Dev.scanPath h))
      else d
    else d
  d.setHead h { d.head h with strikeSince := none, emgSince := none,
                              safeDue := hs.safeDue && !(hs.video && d.safeShown h) }

/-- F (R326): the frame is counted and timed, its strobe is sent, and video leaves if the link is UP. -/
def Dev.frameStart (d : Dev) (h : Nat) : Dev :=
  if !d.scanning h then d
  else
    let (t, d) := d.stamp (hdPid h)
    let d := (d.add (hdPid h) F.HD_FRAME_COUNT).err (hdPid h) 10
    let up := d.linkIsUp h
    let hs := d.head h
    let d := d.setHead h { hs with ftime := t, video := up, sent := if up then hs.sent <|> some t else hs.sent }
    (d.emit (.event 326 [h, d.r (hdPid h) F.HD_FRAME_COUNT])).frameMeasures h t

/-- The head is stopped or locking, in S0 or S1: it sends strobes without frames (R329). -/
def Dev.strobesStopped (d : Dev) (h : Nat) : Bool :=
  decide (d.r (hdPid h) F.HD_STAT_STATE ≤ 1) && decide (d.r 0x390 F.PM_STAT_STATE ≤ 1)

/-- The strobe of a head without frames comes every 16,666,667 ns. -/
def Dev.strobeDue (d : Dev) (h : Nat) : Bool :=
  d.strobesStopped h && decide ((d.head h).strobeAt + 16666667 ≤ d.now)

/-- It carries the frame count unchanged. -/
def Dev.stoppedStrobe (d : Dev) (h : Nat) : Dev :=
  (d.setHead h { d.head h with strobeAt := d.now }).emit (.event 326 [h, d.r (hdPid h) F.HD_FRAME_COUNT])

/-- A read of `HD_FRAME` loads the time latch (R326). -/
def Dev.latchFrame (d : Dev) (h : Nat) : Dev := d.w64 (hdPid h) F.HD_FTIME_LO_TIME F.HD_FTIME_HI_TIME (d.head h).ftime

/-- A read of `HD_FLIPT_LO` latches the record of the latest flips (R327). -/
def Dev.latchFlip (d : Dev) (h : Nat) : Dev :=
  let hs := d.head h
  let p := hdPid h
  let m := hs.flipP.foldl (fun m x => m + 2 ^ x) 0
  let d := (d.w64 p F.HD_FLIPT_LO_TIME F.HD_FLIPT_HI_TIME hs.flipT).w p F.HD_FLIPF_FRAME hs.flipF
  (d.w p F.HD_FLIPP_LO_PIPES m).w p F.HD_FLIPP_HI_PIPES (m / 2 ^ 32)

/-- The line that passes the transmitter input, from the time since F (R344). -/
def Dev.lineNow (d : Dev) (h : Nat) : Nat :=
  let t := readTiming d.actRd h
  if d.scanning h then (d.now - (d.head h).ftime) * t.khz / (1000000 * t.htot) % t.vtot else 0

/-! ### CRC rectangles (R337 to R340) -/

/-- A component reduced to `b` bits (R320), rounded to nearest, ties away from zero. -/
def reduce (b v : Nat) : Nat := (2 * v * (2 ^ b - 1) + 1023) / 2046

/-- The 4 bytes that a pixel adds at a comparison point. -/
def pixBytes (point bpc : Nat) (p : Pix) : List Nat :=
  let f := fun v => if point = 1 then reduce bpc v else v
  bytesLE 4 (f p.b + 2 ^ 10 * f p.g + 2 ^ 20 * f p.r)

/-- The pixels of a rectangle of the frame in work, none where a line of it has not been composed. -/
def HeadSt.rectPixels (hs : HeadSt) (x y w h : Nat) : Option (List Pix) :=
  let ls := (upFrom y h).map (fun l => ((tabFind hs.rows (l / 16)).bind (fun b => b[l % 16]?)))
  if ls.all (·.isSome) then some (ls.flatMap (fun l => ((l.getD []).drop x).take w)) else none

/-- The CRC of a rectangle as the pixels leave (R337). -/
def Dev.rectCrc (d : Dev) (h r : Nat) : Option Nat :=
  let (x, y, w, n, _) := readRect d.actRd (crPid h) r
  ((d.head h).rectPixels x y w n).map (fun ps =>
    crc32c (ps.flatMap (pixBytes (d.a (crPid h) F.CR_CFG_POINT r) (readTiming d.actRd h).bpc)))

/-- Count a frame once as compared, or once as skipped. -/
def Dev.crcCount (d : Dev) (h : Nat) (skip : Bool) : Dev :=
  let hs := d.head h
  let n := d.r (hdPid h) F.HD_FRAME_COUNT
  if skip then
    if hs.skipped = some n then d
    else (d.setHead h { hs with skipped := some n }).add (crPid h) F.CR_COUNT_SKIPPED
  else if hs.compared = some n then d
  else (d.setHead h { hs with compared := some n }).add (crPid h) F.CR_COUNT_COMPARED

/-- The ACTION of a rectangle fires (R340). -/
def Dev.crcAction (d : Dev) (h r : Nat) : Dev :=
  let p := crPid h
  let a := d.a p F.CR_CFG_ACTION r
  if a = 0 then d
  else
    let d := (d.err p 10).w p F.CR_FFRAME_FRAME (d.r (hdPid h) F.HD_FRAME_COUNT)
    if a = 2 then ((d.w p F.CR_STAT_FORCED 1).err p 11).w (hcPid h) F.HC_STAT_SAFE 1 else d

/-- A rectangle's CRC is final and is compared (R338, R340). `observed` is the CRC at the comparison point where the
hardware has changed the pixels; otherwise they leave as composed. -/
def Dev.crcFinal (d : Dev) (h r : Nat) (observed : Option Nat) : Dev :=
  let p := crPid h
  if !(d.a p F.CR_CFG_EN r == 1) || !d.scanning h then d
  else if !(d.head h).video then d.crcCount h true
  else match observed <|> d.rectCrc h r with
  | none => d
  | some c =>
    let bad := !(c == d.a p F.CR_EXP_CRC r)
    let run0 := d.r p F.CR_RSTAT_RUN r
    let run := if bad then sat 15 (run0 + 1) else 0
    let d := d.crcCount h false
    let d := ((d.w p F.CR_LAST_CRC c r).w p F.CR_RSTAT_MATCH (b2n (!bad)) r).w p F.CR_RSTAT_RUN run r
    let m := d.r p F.CR_STAT_FAILMASK
    let d := d.w p F.CR_STAT_FAILMASK (if bad then m ||| 2 ^ r else m - (if bit m r then 2 ^ r else 0))
    let d := if bad then d.addSat p F.CR_RSTAT_MISM 1 r else d
    let th := max 1 (d.a p F.CR_CFG_THRESH r)
    if bad && run == th && decide (run0 < th) then d.crcAction h r else d

/-- `CR_CTRL.RELEASE` is written: forcing ends at the next strike boundary. -/
def Dev.crcRelease (d : Dev) (h : Nat) : Dev := d.setHead h { d.head h with release := true }

end Sys2Proof.Machine
end

