-- ==== Sys2Proof/Machine/Touch.lean ====
section
/-! DEFINITION. Touch sensing: scan frames, baselines, contacts and tracks, Bolt regions and the ward touch mailbox, the
direct paths, report queues, and the wake gestures (R347 to R375). -/

namespace Sys2Proof.Machine

open Sys2Proof

def tsPid (t : Nat) : Nat := 0x580 + 16 * t
def tbPid (t : Nat) : Nat := 0x581 + 16 * t

def Dev.touch (d : Dev) (t : Nat) : TouchSt := tabGet d.tch {} t
def Dev.setTouch (d : Dev) (t : Nat) (x : TouchSt) : Dev := { d with tch := tabPut d.tch {} t x }

/-- The page that holds a port's report block: the VI's window page 0x9000, else the port's own report page (R375). -/
def Dev.trPage (d : Dev) (t : Nat) : Nat :=
  let o := d.touchOwner t
  if o % 4 = 3 then viPage (o / 16 % 64) 9 else 0x582 + 16 * t

def Dev.touchState (d : Dev) (t : Nat) : Nat := d.r (tsPid t) F.TS_STAT_STATE
def Dev.drive (d : Dev) (t : Nat) : Nat := d.r (tsPid t) F.TS_GEOM_DRIVE
def Dev.sense (d : Dev) (t : Nat) : Nat := d.r (tsPid t) F.TS_GEOM_SENSE
def Dev.nodeCount (d : Dev) (t : Nat) : Nat := d.drive t * d.sense t

/-! ### Nodes, blobs and candidates (R348, R357) -/

/-- The neighbours of a node in a panel of `D` by `S` lines that share a line with it, and all 8 of them. -/
def nb4 (D S n : Nat) : List Nat :=
  (if S ≤ n then [n - S] else []) ++ (if 0 < n % S then [n - 1] else []) ++
  (if n % S + 1 < S then [n + 1] else []) ++ (if n / S + 1 < D then [n + S] else [])

def nb8 (D S n : Nat) : List Nat :=
  nb4 D S n ++ (nb4 D S n).flatMap (fun m =>
    if m % S = n % S then
      (if 0 < m % S then [m - 1] else []) ++ (if m % S + 1 < S then [m + 1] else [])
    else [])

/-- The 4-connected set of nodes of a kind that a frontier reaches. -/
def flood (D S : Nat) (ok : Nat → Bool) : Nat → List Nat → List Nat → List Nat
  | 0, _, seen => seen
  | _ + 1, [], seen => seen
  | f + 1, n :: rest, seen =>
    let new := (nb4 D S n).filter (fun m => ok m && !seen.contains m)
    flood D S ok f (rest ++ new) (seen ++ new)

/-- The 4-connected sets of nodes of a kind, in the order of their lowest node. -/
def blobs (D S : Nat) (ok : Nat → Bool) : List (List Nat) :=
  (upFrom 0 (D * S)).foldl (fun bs n =>
    if ok n && !(bs.any (fun b => b.contains n)) then bs ++ [flood D S ok (D * S + 1) [n] [n]] else bs) []

/-- A candidate: position, peak delta, and the blob it lies in. -/
structure Cand where
  x : Nat
  y : Nat
  peak : Nat
  blob : List Nat
  deriving DecidableEq, Repr

/-- A node is a candidate of its blob: above its 8 neighbours, the lowest of equal ones counting as the larger. -/
def isPeak (D S : Nat) (dl : Nat → Int) (n : Nat) : Bool :=
  (nb8 D S n).all (fun m => decide (dl m < dl n) || (dl m == dl n && decide (n < m)))

/-- An index num / den on an axis in 1/16 head pixel, rounded to nearest and clamped. -/
def axisPos (num den lines offset gain : Nat) (flip : Bool) : Nat :=
  let i : Int := if flip then ((lines : Int) - 1) * den - num else num
  let p : Int := 16 * sx 16 offset + (2 * i * gain + 16 * den) / (32 * den)
  (clampI 0 65535 p).toNat

/-- A point of the panel, as drive and sense indices over a common denominator, in head pixels (R357 step 5). -/
def Dev.mapPoint (d : Dev) (t : Nat) (dn sn den : Nat) : Nat × Nat :=
  let p := tsPid t
  let (xi, xl, yi, yl) := if d.on p F.TS_GEOM_SWAP then (dn, d.drive t, sn, d.sense t) else (sn, d.sense t, dn, d.drive t)
  (axisPos xi den xl (d.r p F.TS_MAPX_OFFSET) (d.r p F.TS_MAPX_GAIN) (d.on p F.TS_GEOM_FLIPX),
   axisPos yi den yl (d.r p F.TS_MAPY_OFFSET) (d.r p F.TS_MAPY_GAIN) (d.on p F.TS_GEOM_FLIPY))

/-- The centroid of the 3 × 3 nodes around a candidate, weighted by max(0, delta − TOUCH / 2), mapped. A candidate whose
weights are all 0 is where its node is. -/
def Dev.candPos (d : Dev) (t touch : Nat) (dl : Nat → Int) (n : Nat) : Nat × Nat :=
  let S := d.sense t
  let ns := n :: nb8 (d.drive t) S n
  let w := fun m => (2 * dl m - touch).toNat
  let den := ns.foldl (fun a m => a + w m) 0
  if den = 0 then d.mapPoint t (n / S) (n % S) 1
  else d.mapPoint t (ns.foldl (fun a m => a + w m * (m / S)) 0) (ns.foldl (fun a m => a + w m * (m % S)) 0) den

/-- The candidates of the blobs that are not large objects. -/
def Dev.candidates (d : Dev) (t touch : Nat) (dl : Nat → Int) (bs : List (List Nat)) : List Cand :=
  bs.flatMap (fun b =>
    ((upFrom 0 (d.nodeCount t)).filter (fun n => b.contains n && isPeak (d.drive t) (d.sense t) dl n)).map (fun n =>
      let (x, y) := d.candPos t touch dl n
      { x := x, y := y, peak := (dl n).toNat, blob := b }))

/-! ### Baselines (R353 to R356) -/

/-- Baseline tracking: toward the raw value by a fraction, truncated toward zero (R354). -/
def trackNode (k b raw : Nat) : Nat := if b ≤ raw then b + (raw - b) / 2 ^ k else b - (b - raw) / 2 ^ k

/-- The nodes that anti-touch re-baselines, one set for each group (R355). -/
def antiSets (D S anti : Nat) (dl : Nat → Int) (prev : List Nat) : List (List Nat) :=
  (upFrom 0 (D * S)).foldl (fun bs n =>
    if prev.contains n && decide (dl n ≤ -(anti : Int)) && !(bs.any (fun b => b.contains n)) then
      bs ++ [flood D S (fun m => decide (2 * dl m ≤ -(anti : Int))) (D * S + 1) [n] [n]]
    else bs) []

/-- Put the raw values of some nodes in the place of their baselines. -/
def rebase (base raw nodes : List Nat) : List Nat :=
  (upFrom 0 base.length).map (fun n => if nodes.contains n then raw.getD n 0 else base.getD n 0)

/-- A blob with the ring of nodes around it. -/
def ringOf (D S : Nat) (b : List Nat) : List Nat := (b ++ b.flatMap (nb8 D S)).eraseDups

/-! ### Records (R368) -/

/-- A record on its way: its type, ID, and the 16 bytes. -/
structure TRec where
  type : Nat
  id : Nat
  bytes : List Nat
  deriving DecidableEq, Repr

def mkRec (type id x y signal area reason flags region scan time : Nat) : TRec :=
  { type := type, id := id,
    bytes := [type, id] ++ bytesLE 2 x ++ bytesLE 2 y ++
      [sat 255 signal, sat 255 area, reason, flags, region, scan % 256] ++ bytesLE 4 time }

/-- The order of the records of one scan frame: UP, MOVE, DOWN, each in ascending ID. -/
def sortRecs (l : List TRec) : List TRec :=
  [2, 1, 0].flatMap (fun ty => (upFrom 1 255).flatMap (fun i => l.filter (fun r => r.type == ty && r.id == i)))

/-! ### Bolt regions (R359 to R363) -/

/-- The region that a position lies in, of the active set: the lowest enabled one. -/
def Dev.regionAt (d : Dev) (t x y : Nat) : Option Nat :=
  let p := tbPid t
  (upFrom 0 64).find? (fun r => d.a p F.TB_CFG_EN r == 1 &&
    decide (d.a p F.TB_POS_X r ≤ x / 16) && decide (x / 16 < d.a p F.TB_POS_X r + d.a p F.TB_SIZE_W r) &&
    decide (d.a p F.TB_POS_Y r ≤ y / 16) && decide (y / 16 < d.a p F.TB_POS_Y r + d.a p F.TB_SIZE_H r))

/-- The check of a Bolt region set (R360). -/
def Dev.regionCheck (d : Dev) (t : Nat) (snap : List (Nat × Nat)) : Option Nat :=
  let g := fun f r => snapGet snap (tbPid t) f r
  let on_ := (upFrom 0 64).filter (fun r => g F.TB_CFG_EN r == 1)
  let tm := readTiming d.cntRd (d.touchHead t)
  if on_.any (fun r => g F.TB_SIZE_W r == 0 || g F.TB_SIZE_H r == 0 ||
      (g F.TB_CFG_HAP r == 1 && decide (63 < g F.TB_CFG_EFFECT r))) then some 3
  else if on_.any (fun r => decide (tm.hact < g F.TB_POS_X r + g F.TB_SIZE_W r) ||
      decide (tm.vact < g F.TB_POS_Y r + g F.TB_SIZE_H r)) then some 1
  else if on_.any (fun r => g F.TB_CFG_HAP r == 1) && (d.touchHap t).isNone then some 7
  else none

/-- The contacts reported to the queue and not ended. -/
def TouchSt.queued (x : TouchSt) : List Track := x.tracks.filter (fun k => k.kind == 1 && k.fed)

/-- Show the counts that `TS_STAT`, `TB_STAT` and `TR_STAT` hold. -/
def Dev.touchShow (d : Dev) (t : Nat) : Dev :=
  let x := d.touch t
  let p := tbPid t
  let d := d.w (tsPid t) F.TS_STAT_TRACKS x.tracks.length
  let d := d.w p F.TB_STAT_ARMED ((upFrom 0 64).filter (fun r => d.a p F.TB_CFG_EN r == 1)).length
  let d := (d.w p F.TB_STAT_BOLT (x.tracks.filter (fun k => k.kind == 2)).length).w p F.TB_STAT_FILL x.mbox.length
  d.w (d.trPage t) F.TR_STAT_TRACKS x.queued.length t

/-- Write records to the ward touch mailbox (R362), or discard them during a ward restart (R363). `ns` is the time since
the end of the scan frame, which path 2 of R13 measures at a DOWN. -/
def Dev.wardRecords (d : Dev) (t ns : Nat) (rs : List TRec) : Dev :=
  let p := tbPid t
  if d.wardRestarting then d.addSat p F.TB_LOST_RESTART rs.length
  else rs.foldl (fun d r =>
    let x := d.touch t
    if 32 ≤ x.mbox.length then (d.addSat p F.TB_LOST_FULL).err p 10
    else
      let d := (d.setTouch t { x with mbox := x.mbox ++ [r.bytes] }).add p F.TB_COUNT_RECORDS
      let few := decide (((d.touch t).tracks.filter (fun k => k.kind == 1 || k.kind == 2)).length ≤ 10)
      if r.type = 0 then d.measure 2 ns 1000000 (tsPid t) (d.boltHolds (touchPath t) && d.touchState t == 2 && few) else d) d

/-- Ward firmware reads records from the mailbox, oldest first. -/
def Dev.wardTouchRead (d : Dev) (t n : Nat) : Dev :=
  let x := d.touch t
  let d := (x.mbox.take n).foldl (fun d r => d.emit (.message (16 + t) r)) d
  (d.setTouch t { x with mbox := x.mbox.drop n }).touchShow t

/-! ### Report queues (R367 to R369) -/

/-- Where a record of a port's ring goes: a DRAM address, or the error that stops the queue. -/
def Dev.ringPlace (d : Dev) (t a : Nat) : Dev × (Nat ⊕ Nat) :=
  let o := d.touchOwner t
  if o % 4 = 3 then
    let v := o / 16 % 64
    match d.translate v (d.gen v) (d.r (d.trPage t) F.TR_CTRL_ASPACE t) 0 a true with
    | (d, some (tgt, out)) => (d, if tgt = 1 then .inl (d.winBase (d.viPort v) + out) else .inr 2)
    | (d, none) => (d, .inr 1)
  else if o % 4 = 0 then (d, .inr 1)
  else
    let (b, m) := d.ownerRegion o
    (d, if a + 16 ≤ m then .inl (b + a) else .inr 1)

def Dev.ringCount (d : Dev) (t : Nat) : Nat := 2 ^ d.r (d.trPage t) F.TR_RING_HI_LOG2 t

/-- The records that the ring still takes: it is full when HEAD + 1 equals TAIL. -/
def Dev.ringRoom (d : Dev) (t : Nat) : Nat :=
  let n := d.ringCount t
  let p := d.trPage t
  (d.r p F.TR_TAIL_INDEX t % n + n - 1 - d.r p F.TR_HEAD_INDEX t % n) % n

/-- Write one record to the queue: lost at a full ring, and an error stops the queue. -/
def Dev.queueWrite (d : Dev) (t : Nat) (r : TRec) : Dev :=
  let p := d.trPage t
  if !(d.r p F.TR_STAT_ERR t == 0) then d
  else if d.ringRoom t = 0 then
    let d := d.setTouch t { d.touch t with lossy := true }
    ((d.add p F.TR_LOST_COUNT 1 t).w p F.TR_STAT_OVERFLOW 1 t).err p 10
  else
    let h := d.r p F.TR_HEAD_INDEX t % d.ringCount t
    let base := d.r p F.TR_RING_LO_BASE t * 64 + 2 ^ 32 * d.r p F.TR_RING_HI_BASE t
    let stop := fun (d : Dev) e => (d.w p F.TR_STAT_ERR e t).err p 11
    match d.ringPlace t (base + 16 * h) with
    | (d, .inr e) => stop d e
    | (d, .inl a) =>
      match d.mcWrite 11 a r.bytes with
      | (d, false) => stop d 1
      | (d, true) => (d.w p F.TR_HEAD_INDEX ((h + 1) % d.ringCount t) t).add p F.TR_COUNT_RECORDS 1 t

/-- Write the batch of a scan frame: after a loss, a RESYNC and the contacts reported before it as soon as the ring has
room for 12 records; the records; and a FRAME record. -/
def Dev.queueBatch (d : Dev) (t : Nat) (before : List Track) (rs : List TRec) (frame : Bool) (scan time : Nat) : Dev :=
  let x := d.touch t
  let p := d.trPage t
  if !x.en || !(d.r p F.TR_STAT_ERR t == 0) then d
  else
    let n0 := d.r p F.TR_COUNT_RECORDS t
    let again := x.lossy && decide (12 ≤ d.ringRoom t)
    let snap := if again then
        mkRec 4 0 0 0 0 0 0 0 0 scan time ::
          before.map (fun k => mkRec 0 k.id k.recX k.recY (k.peak / 16) k.area 0 1 0 scan time)
      else []
    let d := if again then d.setTouch t { x with lossy := false } else d
    let fr := if frame && d.on p F.TR_CTRL_FRAME t then
        [mkRec 3 0 0 0 0 0 (d.touch t).queued.length 0 0 scan time] else []
    let d := (snap ++ sortRecs rs ++ fr).foldl (fun d r => d.queueWrite t r) d
    if !(d.r p F.TR_COUNT_RECORDS t == n0) && d.on p F.TR_CTRL_IRQ t then d.evtTouch (d.touchOwner t) t else d

/-! ### Click regions and drags (R365, R366) -/

/-- The fields of click region k of a report block: X, Y, W, H, EN, EFFECT. -/
def clickFields : List (FD × FD × FD × FD × FD × FD) :=
  [(F.TR_CLK0_A_X, F.TR_CLK0_A_Y, F.TR_CLK0_B_W, F.TR_CLK0_B_H, F.TR_CLK0_B_EN, F.TR_CLK0_A_EFFECT),
   (F.TR_CLK1_A_X, F.TR_CLK1_A_Y, F.TR_CLK1_B_W, F.TR_CLK1_B_H, F.TR_CLK1_B_EN, F.TR_CLK1_A_EFFECT),
   (F.TR_CLK2_A_X, F.TR_CLK2_A_Y, F.TR_CLK2_B_W, F.TR_CLK2_B_H, F.TR_CLK2_B_EN, F.TR_CLK2_A_EFFECT),
   (F.TR_CLK3_A_X, F.TR_CLK3_A_Y, F.TR_CLK3_B_W, F.TR_CLK3_B_H, F.TR_CLK3_B_EN, F.TR_CLK3_A_EFFECT)]

/-- The EFFECT of the lowest enabled click region that a position lies in. -/
def Dev.clickAt (d : Dev) (t x y : Nat) : Option Nat :=
  let g := fun f => d.a (d.trPage t) f t
  (clickFields.find? (fun c => g c.2.2.2.2.1 == 1 && decide (g c.1 ≤ x / 16) && decide (x / 16 < g c.1 + g c.2.2.1) &&
    decide (g c.2.1 ≤ y / 16) && decide (y / 16 < g c.2.1 + g c.2.2.2.1))).map (fun c => g c.2.2.2.2.2)

/-- The check of a report page's set (R365). -/
def Dev.reportCheck (d : Dev) (pid : Nat) (snap : List (Nat × Nat)) : Option Nat :=
  let ts := (upFrom 0 8).filter (fun t => d.trPage t == pid)
  let on_ := ts.flatMap (fun t => (clickFields.filter (fun c => snapGet snap pid c.2.2.2.2.1 t == 1)).map (fun c => (t, c)))
  if on_.any (fun e => match d.touchHap e.1 with
      | none => true
      | some h => !(d.hapOwner h == d.touchOwner e.1)) then some 7
  else if on_.any (fun e =>
      let g := fun f => snapGet snap pid f e.1
      let tm := readTiming d.cntRd (d.touchHead e.1)
      decide (tm.hact < g e.2.1 + g e.2.2.2.1) || decide (tm.vact < g e.2.2.1 + g e.2.2.2.2.1)) then some 1
  else none

/-- The pipes that take drag deltas of a port. -/
def Dev.dragPipes (d : Dev) (t : Nat) : List Nat :=
  (upFrom 0 48).filter (fun p =>
    let l := d.layer d.actRd p
    d.pipeUsable p && l.ten && l.touch == t && d.pipeOwner p % 1024 == d.touchOwner t % 1024)

/-- Those whose destination rectangle holds a position. -/
def Dev.pipesAt (d : Dev) (t x y : Nat) : List Nat :=
  (d.dragPipes t).filter (fun p =>
    let l := d.layer d.actRd p
    decide (l.dx ≤ x / 16) && decide (x / 16 < l.dx + l.dw) && decide (l.dy ≤ y / 16) && decide (y / 16 < l.dy + l.dh))

/-- A contact's drags in a scan frame: new ones after more than 8 pixels from its DOWN, and the whole pixels that each
pipe is owed. `held` are the pipes that have an older drag contact. -/
def Dev.dragStep (d : Dev) (t : Nat) (held : List Nat) (k : Track) : Track × List (Nat × Int × Int) :=
  let live := d.dragPipes t
  let far := decide (128 ^ 2 < ((k.x : Int) - k.downX) ^ 2 + ((k.y : Int) - k.downY) ^ 2)
  let old := k.drags.filter (fun r => live.contains r.1)
  let new : List (Nat × Int × Int) := if far then
      (k.under.filter (fun p => live.contains p && !held.contains p && !(old.any (fun r => r.1 == p)))).map
        (fun p => (p, (k.downX : Int), (k.downY : Int)))
    else []
  let rs := old ++ new
  let step := fun (r : Nat × Int × Int) => (((k.x : Int) - r.2.1).tdiv 16, ((k.y : Int) - r.2.2).tdiv 16)
  ({ k with drags := rs.map (fun r => (r.1, r.2.1 + 16 * (step r).1, r.2.2 + 16 * (step r).2)) },
   (rs.map (fun r => (r.1, (step r).1, (step r).2))).filter (fun x => !(x.2.1 == 0 && x.2.2 == 0)))

/-! ### Destinations of one scan frame (R359, R364 to R368) -/

/-- What has become of a track in a scan frame. -/
inductive TrackEvent where
  | none | down | move
  | up (reason : Nat)
  deriving DecidableEq, Repr

/-- What a scan frame has gathered so far: tracks kept, records of each destination, deltas and triggers. -/
structure Gather where
  keep : List Track := []
  ward : List TRec := []
  queue : List TRec := []
  deltas : List (Nat × Int × Int) := []
  bolt : Option Nat := Option.none
  click : Option Nat := Option.none
  tone : Option Nat := Option.none
  deriving DecidableEq, Repr

/-- The position that a queue record may carry: never one inside an enabled region (R359). -/
def Dev.outside (d : Dev) (t : Nat) (k : Track) : Nat × Nat :=
  if (d.regionAt t k.x k.y).isNone then (k.x, k.y)
  else if (d.regionAt t k.recX k.recY).isNone then (k.recX, k.recY) else (0, 0)

/-- Add a contact's record to its destination; the track keeps the position that it carried. -/
def Dev.addRec (d : Dev) (t scan time : Nat) (g : Gather) (k : Track) (type reason flags : Nat) : Gather × Track :=
  if k.kind = 2 then
    ({ g with ward := g.ward ++ [mkRec type k.id k.x k.y (k.peak / 16) k.area reason flags k.region scan time] },
     { k with recX := k.x, recY := k.y })
  else
    let (x, y) := d.outside t k
    (if k.fed then
        { g with queue := g.queue ++ [mkRec type k.id x y (k.peak / 16) k.area reason flags 0 scan time] } else g,
     { k with recX := x, recY := y })

/-- A track goes DOWN: its destination is decided (R359), and the direct paths trigger (R364, R365). -/
def Dev.trackDown (d : Dev) (t scan time : Nat) (g : Gather) (k : Track) : Gather :=
  let p := tbPid t
  let k := { k with downAt := d.now, downX := k.x, downY := k.y }
  match d.regionAt t k.x k.y with
  | some r =>
    let quiet := d.wardRestarting || d.a p F.TB_CFG_MASK r == 1
    let g := if !quiet && d.a p F.TB_CFG_HAP r == 1 && g.bolt.isNone then
        { g with bolt := some (d.a p F.TB_CFG_EFFECT r) } else g
    let g := if !quiet && d.a p F.TB_CFG_TONE_EN r == 1 && g.tone.isNone then
        { g with tone := some (d.a p F.TB_CFG_TONE r) } else g
    let (g, k) := d.addRec t scan time g { k with kind := 2, region := r } 0 0 0
    { g with keep := g.keep ++ [k] }
  | none =>
    let k := { k with kind := 1, fed := (d.touch t).en, under := d.pipesAt t k.x k.y }
    let c := d.clickAt t k.x k.y
    let g := if g.click.isNone then { g with click := c } else g
    let (g, k) := d.addRec t scan time g k 0 0 (if c.isSome then 4 else 0)
    { g with keep := g.keep ++ [k] }

/-- A ghost of a contact: nothing it does is reported. -/
def Track.ghost (k : Track) (stay : Bool) : Track :=
  { k with kind := 3, stay := stay, misses := 0, fed := false, under := [], drags := [] }

/-- A reported contact that goes on: masked where it has entered a region (R359), else its drag and its MOVE. -/
def Dev.trackMove (d : Dev) (t scan time : Nat) (g : Gather) (k : Track) (matched : Bool) : Gather × Bool :=
  if k.kind = 1 && (d.regionAt t k.x k.y).isSome then
    let (g, k) := d.addRec t scan time g k 2 4 0
    ({ g with keep := g.keep ++ [k.ghost false] }, true)
  else
    let held := g.keep.flatMap (fun j => j.drags.map (·.1)) ++
      ((d.touch t).tracks.filter (fun j => !(j.id == k.id))).flatMap (fun j => j.drags.map (·.1))
    let (k, ds) := if k.kind = 1 then d.dragStep t held k else (k, [])
    let g := { g with deltas := g.deltas ++ ds }
    let q := d.r (d.trPage t) F.TR_CTRL_MOVE_Q t
    let far := fun a b => decide ((q : Int) ≤ (a : Int) - b) || decide ((q : Int) ≤ (b : Int) - a)
    if matched && (q == 0 || far k.x k.recX || far k.y k.recY) then
      let (g, k) := d.addRec t scan time g k 1 0 (if k.drags.isEmpty then 0 else 2)
      ({ g with keep := g.keep ++ [k] }, false)
    else ({ g with keep := g.keep ++ [k] }, false)

/-- Send what a scan frame has gathered: the ward records, the queue's batch, the deltas and the triggers. -/
def Dev.touchDeliver (d : Dev) (t ns : Nat) (before : List Track) (g : Gather) (frame : Bool) (scan time : Nat) : Dev :=
  let x := d.touch t
  let trigs := (match g.bolt with | some e => [TouchTrig.bolt e] | Option.none => []) ++
    (match g.click with | some e => [TouchTrig.click e] | Option.none => []) ++
    (match g.tone with | some n => [TouchTrig.tone n (d.a (tbPid t) F.TB_CTRL_SPEAKER)] | Option.none => [])
  let trigs := if (d.touchHap t).isSome then trigs
    else trigs.filter (fun e => match e with | .tone .. => true | _ => false)
  let d := d.setTouch t { x with tracks := g.keep, deltas := x.deltas ++ g.deltas,
                                 trigs := x.trigs ++ trigs.map (fun e => (e, time)) }
  ((d.wardRecords t ns (sortRecs g.ward)).queueBatch t before g.queue frame scan (time % 2 ^ 32)).touchShow t

/-! ### Tracks (R358) -/

/-- The closest pair of a free track and a free candidate within reach, by distance, then track, then candidate. -/
def bestPair (reach : Nat) (ks : List (Nat × Track)) (cs : List (Nat × Cand)) : Option (Nat × Nat × Int) :=
  (ks.flatMap (fun k => cs.map (fun c =>
      (k.1, c.1, ((k.2.x : Int) - c.2.x) ^ 2 + ((k.2.y : Int) - c.2.y) ^ 2)))).foldl
    (fun b e => if (reach : Int) ^ 2 < e.2.2 then b else match b with
      | none => some e
      | some f => if e.2.2 < f.2.2 then some e else some f) none

/-- Match tracks and candidates in ascending distance: pairs of track and candidate numbers. -/
def matchUp (reach : Nat) : Nat → List (Nat × Track) → List (Nat × Cand) → List (Nat × Nat)
  | 0, _, _ => []
  | n + 1, ks, cs =>
    match bestPair reach ks cs with
    | none => []
    | some (i, j, _) =>
      (i, j) :: matchUp reach n (ks.filter (fun k => !(k.1 == i))) (cs.filter (fun c => !(c.1 == j)))

/-- The next ID not in use, after the one given last (R358). -/
def nextTrackId (last : Nat) (used : List Nat) : Nat :=
  (((upFrom 1 255).map (fun j => (last + j - 1) % 255 + 1)).find? (fun i => !used.contains i)).getD 1

/-- The unmatched candidates in descending order of peak delta. -/
def byPeak (cs : List Cand) : List Cand :=
  let top := cs.foldl (fun m c => max m c.peak) 0
  (upFrom 0 (top + 1)).reverse.flatMap (fun v => cs.filter (fun c => c.peak == v))

/-- A track takes a candidate. -/
def Track.follow (k : Track) (c : Cand) : Track :=
  { k with x := c.x, y := c.y, peak := c.peak, area := c.blob.length, nodes := c.blob, hits := k.hits + 1, misses := 0,
           stay := false }

/-- What becomes of one track: its candidate, or none; `reb` are the nodes re-baselined for anti-touch. -/
def trackStep (cfg : TouchCfg) (reb : List Nat) (k : Track) (c : Option Cand) : Option Track × TrackEvent :=
  match c with
  | some c =>
    let k := k.follow c
    if k.kind = 0 then (some k, if cfg.downFr ≤ k.hits then .down else .none)
    else (some k, if k.kind = 3 then .none else .move)
  | Option.none =>
    if k.kind = 0 then (Option.none, .none)
    else if k.kind = 3 && k.stay then (if k.nodes.any (fun n => reb.contains n) then Option.none else some k, .none)
    else
      let k := { k with misses := k.misses + 1 }
      if cfg.upFr ≤ k.misses then
        if k.kind = 3 then (Option.none, .none) else (some k, .up 0)
      else (some k, .none)

/-- A track lies in a large object: within half a node pitch of one of its nodes. -/
def Dev.inLarge (d : Dev) (t : Nat) (large : List (List Nat)) (k : Track) : Bool :=
  let S := d.sense t
  let near := fun (a b g : Nat) => decide (32 * ((a : Int) - b) ≤ g) && decide (32 * ((b : Int) - a) ≤ g)
  large.any (fun b => b.any (fun n =>
    let (x, y) := d.mapPoint t (n / S) (n % S) 1
    near k.x x (d.r (tsPid t) F.TS_MAPX_GAIN) && near k.y y (d.r (tsPid t) F.TS_MAPY_GAIN)))

/-- Start tracks for candidates left over, while fewer than 10 exist; the rest are counted. -/
def Dev.newTracks (d : Dev) (t : Nat) (cfg : TouchCfg) : List Cand → List (Track × TrackEvent) →
    Dev × List (Track × TrackEvent)
  | [], ks => (d, ks)
  | c :: cs, ks =>
    let live := (ks.filter (fun e => match e.2 with | .up _ => false | _ => true)).length
    if 10 ≤ live then (d.addSat (tsPid t) F.TS_EVENTS_FULL).newTracks t cfg cs ks
    else
      let x := d.touch t
      let i := nextTrackId x.lastId (ks.map (fun e => e.1.id))
      let k : Track := { id := i, x := c.x, y := c.y, peak := c.peak, area := c.blob.length, nodes := c.blob }
      (d.setTouch t { x with lastId := i }).newTracks t cfg cs
        (ks ++ [(k, if cfg.downFr ≤ 1 then .down else .none)])

/-- The tracks of a scan frame, each with what has become of it. -/
def Dev.trackAll (d : Dev) (t : Nat) (cfg : TouchCfg) (large : List (List Nat)) (covered : Bool) (reb : List Nat)
    (cs : List Cand) : Dev × List (Track × TrackEvent) :=
  let ks := (d.touch t).tracks
  if covered then (d, (ks.filter (fun k => k.kind == 1 || k.kind == 2)).map (fun k => (k, .up 3)))
  else
    let palms := ks.filter (d.inLarge t large)
    let rest := ks.filter (fun k => !d.inLarge t large k)
    let nk := (upFrom 0 rest.length).zip rest
    let nc := (upFrom 0 cs.length).zip cs
    let ms := matchUp (16 * cfg.maxMove) rest.length nk nc
    let out := nk.filterMap (fun k =>
      let c := (ms.find? (fun m => m.1 == k.1)).bind (fun m => cs[m.2]?)
      let (r, e) := trackStep cfg reb k.2 c
      r.map (fun k => (k, e)))
    let free := (nc.filter (fun c => !(ms.any (fun m => m.2 == c.1)))).map (·.2)
    let (d, out) := d.newTracks t cfg (byPeak free) out
    (d, (palms.filter (fun k => k.kind == 1 || k.kind == 2)).map (fun k => (k, .up 2)) ++ out)

/-- Tracks in ascending ID. -/
def byId (l : List (Track × TrackEvent)) : List (Track × TrackEvent) :=
  (upFrom 1 255).flatMap (fun i => l.filter (fun e => e.1.id == i))

/-- Carry a track's event to its destination. -/
def Dev.trackOut (d : Dev) (t scan time : Nat) (s : Dev × Gather) (e : Track × TrackEvent) : Dev × Gather :=
  let (dd, g) := s
  match e.2 with
  | .down => (dd, d.trackDown t scan time g e.1)
  | .up r => (dd, (d.addRec t scan time g e.1 2 r 0).1)
  | ev =>
    if e.1.kind = 1 ∨ e.1.kind = 2 then
      let (g, masked) := d.trackMove t scan time g e.1 (ev == .move)
      (if masked then (dd.addSat (tbPid t) F.TB_MASKED_COUNT).err (tbPid t) 11 else dd, g)
    else (dd, { g with keep := g.keep ++ [e.1] })

/-! ### Scan frames (R349 to R356) -/

/-- A scan frame in RUN (R354 to R358). `ns` is the time from its end to the writing of its ward records. -/
def Dev.runFrame (d : Dev) (t : Nat) (raw : List Nat) (ns time : Nat) : Dev :=
  let x := d.touch t
  let cfg := x.cfg
  let p := tsPid t
  let D := d.drive t
  let S := d.sense t
  let all_ := upFrom 0 (D * S)
  let dl := fun n => (x.base.getD n 0 : Int) - raw.getD n 0
  let touched := all_.filter (fun n => decide ((cfg.touch : Int) ≤ dl n))
  let bs := blobs D S (fun n => decide ((cfg.touch : Int) ≤ dl n))
  let large := bs.filter (fun b => decide (cfg.palm ≤ b.length))
  let small := bs.filter (fun b => decide (b.length < cfg.palm))
  let sets := antiSets D S cfg.anti dl x.anti
  let reb := sets.flatMap id
  let covered := decide (cfg.cover ≤ touched.length)
  let base := all_.map (fun n =>
    if reb.contains n then raw.getD n 0
    else if touched.contains n then x.base.getD n 0
    else trackNode cfg.track (x.base.getD n 0) (raw.getD n 0))
  let anti := all_.filter (fun n => decide (dl n ≤ -(cfg.anti : Int)) && !reb.contains n)
  let cs := d.candidates t cfg.touch dl small
  let before := x.queued
  let d := d.setTouch t { x with base := base, anti := anti }
  let d := if sets.isEmpty then d else (d.addSat p F.TS_EVENTS_ANTI sets.length).err p 11
  let d := (d.w p F.TS_STAT_LARGE (b2n (!large.isEmpty))).w p F.TS_STAT_COVERED (b2n covered)
  let (d, evs) := d.trackAll t cfg large covered reb cs
  let scan := d.r p F.TS_SCANCNT_COUNT
  let (d, g) := (byId evs).foldl (d.trackOut t scan (time % 2 ^ 32)) (d, {})
  d.touchDeliver t ns before g true scan time

/-- A scan frame in CAPTURE (R353): after BASE_FR of them the baselines are their means, rounded down. -/
def Dev.captureFrame (d : Dev) (t : Nat) (raw : List Nat) : Dev :=
  let x := d.touch t
  let acc := (upFrom 0 (d.nodeCount t)).map (fun n => x.acc.getD n 0 + raw.getD n 0)
  let k := x.capN + 1
  if k < x.need then d.setTouch t { x with acc := acc, capN := k }
  else (d.setTouch t { x with acc := [], capN := 0, base := acc.map (· / k), anti := [] }).w (tsPid t) F.TS_STAT_STATE 2

/-- The wake request of a gesture (R370). -/
def Dev.wakeGesture (d : Dev) (t gesture x y : Nat) : Dev :=
  let p := tsPid t
  let d := ((d.addSat p F.TS_WAKE_COUNT).w p F.TS_WAKE_GESTURE gesture).err p 13
  let d := (d.w p F.TS_WAKEPOS_X x).w p F.TS_WAKEPOS_Y y
  { d with wakes := d.wakes ++ [3] }

/-- One contact followed in STANDBY: the candidate of this scan frame that it takes, or none. -/
def Gesture.step (g : Gesture) (maxMove upFr now : Nat) (c : Option Cand) : Gesture × Bool :=
  let near := fun (x0 y0 x y : Nat) =>
    decide (((x0 : Int) - x) ^ 2 + ((y0 : Int) - y) ^ 2 ≤ (16 * (maxMove : Int)) ^ 2)
  match g.start, c with
  | none, none => (g, false)
  | none, some c => ({ g with start := some (now, c.x, c.y), x := c.x, y := c.y, moved := false, known := false,
                              misses := 0 }, false)
  | some (t0, x0, y0), some c =>
    let g := { g with x := c.x, y := c.y, misses := 0, moved := g.moved || !near x0 y0 c.x c.y }
    if g.gesture == 1 && !g.moved && !g.known && decide (t0 + 1000000000 ≤ now) then ({ g with known := true }, true)
    else (g, false)
  | some (t0, x0, y0), none =>
    if g.misses + 1 < upFr then ({ g with misses := g.misses + 1 }, false)
    else
      let short := decide (now ≤ t0 + 1000000 * g.tapMs)
      let second := match g.tap with
        | some (t1, x1, y1) => decide (t0 ≤ t1 + 1000000 * g.gapMs) && near x1 y1 x0 y0
        | none => false
      let g' := { g with start := none, misses := 0 }
      if g.gesture == 1 || !short then ({ g' with tap := none }, false)
      else if second then ({ g' with tap := none }, true)
      else ({ g' with tap := some (now, g.x, g.y) }, false)

/-- A scan frame in STANDBY: baselines track, and one contact is followed (R370). -/
def Dev.standbyFrame (d : Dev) (t : Nat) (raw : List Nat) (time : Nat) : Dev :=
  let x := d.touch t
  let cfg := x.cfg
  let D := d.drive t
  let S := d.sense t
  let all_ := upFrom 0 (D * S)
  let dl := fun n => (x.base.getD n 0 : Int) - raw.getD n 0
  let isT := fun n => decide ((cfg.touch : Int) ≤ dl n)
  let small := (blobs D S isT).filter (fun b => decide (b.length < cfg.palm))
  let sets := antiSets D S cfg.anti dl x.anti
  let reb := sets.flatMap id
  let cs := d.candidates t cfg.touch dl small
  let g := x.gest
  let pick := match g.start with
    | none => (byPeak cs).head?
    | some _ => cs.find? (fun c => decide (((g.x : Int) - c.x) ^ 2 + ((g.y : Int) - c.y) ^ 2 ≤ (16 * (cfg.maxMove : Int)) ^ 2))
  let (g', hit) := g.step cfg.maxMove cfg.upFr time pick
  let base := all_.map (fun n =>
    if reb.contains n then raw.getD n 0
    else if isT n then x.base.getD n 0
    else trackNode cfg.track (x.base.getD n 0) (raw.getD n 0))
  let d := d.setTouch t { x with base := base, gest := g',
                                 anti := all_.filter (fun n => decide (dl n ≤ -(cfg.anti : Int)) && !reb.contains n) }
  let d := if sets.isEmpty then d else (d.addSat (tsPid t) F.TS_EVENTS_ANTI sets.length).err (tsPid t) 11
  if hit then d.wakeGesture t (if g.gesture = 1 then 1 else 0) g'.x g'.y else d

/-- End every reported track with a reason, with its records; they go, or become ghosts where `stay` is set. -/
def Dev.endTracks (d : Dev) (t reason : Nat) (ghosts : Bool) : Dev :=
  let x := d.touch t
  let p := tsPid t
  let scan := d.r p F.TS_SCANCNT_COUNT
  let time := d.r64 p F.TS_SCANT_LO_TIME F.TS_SCANT_HI_TIME
  let rep := x.tracks.filter (fun k => k.kind == 1 || k.kind == 2)
  let g := rep.foldl (fun g k => (d.addRec t scan (time % 2 ^ 32) g k 2 reason 0).1) ({} : Gather)
  let keep := if ghosts then x.tracks.filterMap (fun k =>
      if k.kind = 1 ∨ k.kind = 2 then some (({ k with nodes := ringOf (d.drive t) (d.sense t) k.nodes }).ghost true)
      else if k.kind = 3 then some k else Option.none)
    else []
  if rep.isEmpty then (d.setTouch t { x with tracks := keep }).touchShow t
  else d.touchDeliver t 0 x.queued { g with keep := keep } false scan time

/-- The linked head exports the windows of the port's SYNC mode. -/
def Dev.windows (d : Dev) (t : Nat) : Bool :=
  let h := d.touchHead t
  let s := d.r (tsPid t) F.TS_SCAN_SYNC
  d.scanning h && (s == 1 || (s == 2 && d.a (hdPid h) F.HD_QUIET_HQ_EN == 1))

/-- Enter CAPTURE: BASE_FR is taken. -/
def Dev.enterCapture (d : Dev) (t : Nat) : Dev :=
  let b := d.r (tsPid t) F.TS_TRACK_BASE_FR
  (d.setTouch t { d.touch t with acc := [], capN := 0, need := max 1 b, anti := [] }).w (tsPid t) F.TS_STAT_STATE 1

/-- What R353 asks of a start. -/
def Dev.touchStartOk (d : Dev) (t : Nat) : Bool :=
  let p := tsPid t
  let g := fun f => d.r p f
  d.touchEn t && decide (4 ≤ g F.TS_GEOM_DRIVE) && decide (g F.TS_GEOM_DRIVE ≤ 32) && decide (4 ≤ g F.TS_GEOM_SENSE) &&
  decide (g F.TS_GEOM_SENSE ≤ 56) && decide (g F.TS_SCAN_SYNC ≤ 2) && decide (g F.TS_SCAN_SCANS ≤ 2) &&
  decide (4 ≤ g F.TS_SCAN_PULSES) && decide (100 ≤ g F.TS_SCAN_TX_KHZ) && decide (g F.TS_SCAN_TX_KHZ ≤ 500) &&
  !(g F.TS_SCAN_SYNC == 1 && !(g F.TS_SCAN_SCANS == 0)) && decide (d.r 0x390 F.PM_STAT_STATE ≤ 1)

/-- EN is set on a port that is OFF and may start. -/
def Dev.touchStart (d : Dev) (t : Nat) : Dev :=
  if d.touchState t = 0 then
    let ok := d.windows t
    let m := d.touch t
    let d := d.setTouch t { mbox := m.mbox, lossy := m.lossy, lastId := m.lastId, whole := ok, strobeAt := m.strobeAt }
    (d.w (tsPid t) F.TS_STAT_SYNCED (b2n ok)).enterCapture t
  else d

/-- The region page's and the report block's sets wait for a scan frame no longer: the port has stopped (R56, R372). -/
def Dev.touchSets (d : Dev) (t : Nat) : Dev :=
  let d := if (d.ctl (tbPid t)).pend.isSome then d.applyPend (tbPid t) (fun _ => true) else d
  let p := d.trPage t
  match (d.ctl p).pend with
  | some s => if s.parts.contains t then d.applyPend p (· == t) else d
  | none => d

/-- The port leaves CAPTURE, RUN or STANDBY: for OFF with the state 0, for STANDBY with 3. -/
def Dev.touchLeave (d : Dev) (t st : Nat) : Dev :=
  let d := d.endTracks t 5 false
  let p := tsPid t
  let x := d.touch t
  let b : TouchSt := { mbox := x.mbox, lossy := x.lossy, lastId := x.lastId, en := x.en, deltas := x.deltas, trigs := x.trigs,
                       base := x.base, strobeAt := x.strobeAt }
  let d := d.setTouch t b
  let d := (((d.w p F.TS_STAT_STATE st).w p F.TS_STAT_SYNCED 0).w p F.TS_STAT_LARGE 0).w p F.TS_STAT_COVERED 0
  (d.touchSets t).touchShow t

/-- EN is cleared. -/
def Dev.touchStop (d : Dev) (t : Nat) : Dev := if d.touchState t = 0 then d else d.touchLeave t 0

/-- S2 entry, and the return to S0 or S1 (R353). -/
def Dev.touchSleep (d : Dev) (t : Nat) : Dev :=
  if d.touchState t = 1 ∨ d.touchState t = 2 then
    let p := tsPid t
    let d := d.touchLeave t 3
    let hz := d.r p F.TS_WAKE_CFG_HZ
    d.setTouch t { d.touch t with gest := { gesture := d.r p F.TS_WAKE_CFG_GESTURE, tapMs := 10 * d.r p F.TS_WAKE_CFG_TAP,
                                            gapMs := 10 * d.r p F.TS_WAKE_CFG_GAP,
                                            hz := if hz < 10 ∨ 60 < hz then 20 else hz } }
  else d

def Dev.touchResume (d : Dev) (t : Nat) : Dev :=
  if d.touchState t = 3 then (d.w (tsPid t) F.TS_STAT_STATE 0).touchStart t else d

/-- The port's cluster is reset (R353): what its pages do not hold goes with them. -/
def Dev.touchGone (d : Dev) (t : Nat) : Dev := d.setTouch t {}

/-- Count a discarded scan frame. -/
def Dev.overrun (d : Dev) (t : Nat) : Dev :=
  let x := d.touch t
  if x.scanning then
    ((d.setTouch t { x with scanning := false }).addSat (tsPid t) F.TS_EVENTS_OVERRUN).err (tsPid t) 10
  else d

/-- The class L fields that a scan frame takes. -/
def Dev.touchCfg (d : Dev) (t : Nat) : TouchCfg :=
  let g := fun f => d.r (tsPid t) f
  { touch := g F.TS_THRESH_TOUCH, anti := g F.TS_THRESH_ANTI, track := g F.TS_TRACK_TRACK,
    downFr := max 1 (g F.TS_TRACK_DOWN_FR), upFr := max 1 (g F.TS_TRACK_UP_FR), maxMove := g F.TS_TRACK_MAXMOVE,
    palm := g F.TS_PALM_PALM, cover := g F.TS_PALM_COVER, holdS := max 1 (g F.TS_TRACK_HOLD_S) }

/-! ### When scan frames start and end (R349 to R351, R370) -/

/-- SCANS scan frames in a display frame, and the QH intervals of a frame of the linked head. -/
def Dev.scans (d : Dev) (t : Nat) : Nat := 2 ^ min 2 (d.r (tsPid t) F.TS_SCAN_SCANS)
def Dev.quietLines (d : Dev) (t : Nat) : Nat := (readTiming d.actRd (d.touchHead t)).vtot

/-- FREE scan frames come every 1 / (4 × FREE_HZ) s. DESIGN CHOICE (log 95): a FREE_HZ outside 1 to 60 acts as the nearer
limit. -/
def Dev.freeNs (d : Dev) (t : Nat) : Nat := 1000000000 / (4 * min 60 (max 1 (d.r (tsPid t) F.TS_SCAN_FREE_HZ)))

/-- The port's mode of the moment: 0 FREE, also where no strobe comes; 1 VQUIET; 2 HQUIET. -/
def Dev.syncMode (d : Dev) (t : Nat) : Nat := if (d.touch t).lost then 0 else d.r (tsPid t) F.TS_SCAN_SYNC

/-- The time has come for the port's next scan frame: in STANDBY at the wake rate; in FREE at the FREE rate; in VQUIET
once after each strobe; in HQUIET SCANS times after each strobe, at the lines of R350, or spread over the strobe interval
where the head exports no QH. -/
def Dev.scanDue (d : Dev) (t : Nat) : Bool :=
  let x := d.touch t
  let from_ := fun t0 n => decide (t0 + n ≤ d.now)
  if d.touchState t = 3 then from_ x.startAt (1000000000 / x.gest.hz)
  else match d.syncMode t with
    | 0 => from_ x.startAt (d.freeNs t)
    | 1 => x.since == 0
    | _ =>
      decide (x.since < d.scans t) && from_ x.strobeAt (if d.windows t then
        d.linesNs (d.touchHead t) (x.since * d.quietLines t / d.scans t)
      else 16666667 * x.since / d.scans t)

/-- The shortest time that the drive steps of a scan frame take. -/
def Dev.scanNs (d : Dev) (t : Nat) : Nat :=
  let n := d.r (tsPid t) F.TS_SCAN_PULSES
  if d.syncMode t = 2 ∧ d.windows t ∧ d.touchState t ≠ 3 then d.linesNs (d.touchHead t) (d.drive t * (2 * n + 2))
  else d.drive t * (2000000 * n / d.r (tsPid t) F.TS_SCAN_TX_KHZ + 4000)

/-- The sets of a port's pages apply at the start of its scan frame (R360, R372), or are discarded where a fault is
open on their page. -/
def Dev.touchBoundary (d : Dev) (t : Nat) : Dev :=
  let d := d.boundaryApply (tbPid t) true
  let p := d.trPage t
  match (d.ctl p).pend with
  | some s =>
    if s.parts.contains t then (if d.blockFault p then d.discardPend p else d.applyPend p (· == t)) else d
  | none => d

/-- A scan frame starts when it is due. One that still runs has overrun (R350). -/
def Dev.scanStart (d : Dev) (t : Nat) : Dev :=
  let st := d.touchState t
  if st = 0 ∨ (st = 3 ∧ !d.touchWake t) ∨ !d.scanDue t then d
  else
    let d := d.overrun t
    let d := if st = 3 then d else d.touchBoundary t
    let d := if (d.touch t).recal && st == 2 then (d.endTracks t 1 true).enterCapture t else d
    let x := d.touch t
    (d.setTouch t { x with scanning := true, recal := false, cfg := d.touchCfg t, startAt := d.now,
                           endAt := d.now + d.scanNs t, since := x.since + 1,
                           headAt := d.r (hdPid (d.touchHead t)) F.HD_STAT_STATE,
                           en := d.on (d.trPage t) F.TR_CTRL_EN t }).touchShow t

/-- The dump of R371: raw values, then baselines. -/
def Dev.touchDump (d : Dev) (t : Nat) (raw : List Nat) : Dev :=
  let x := d.touch t
  match x.dump with
  | none => d
  | some a =>
    let d := d.setTouch t { x with dump := none }
    let n := d.nodeCount t
    if 2 ^ 21 * d.hd 0x10 ≤ a ∧ a + 4 * n ≤ 2 ^ 21 * (d.hd 0x10 + d.hd 0x14) then
      (d.mcWrite 0 a ((takePad 0 n raw ++ takePad 0 n x.base).flatMap (bytesLE 2))).1
    else d.err (tsPid t) errAddress

/-- A scan frame ends, with the raw values of its nodes (R352), after all its drive steps. -/
def Dev.scanEnd (d : Dev) (t : Nat) (raw : List Nat) (ns : Nat) : Dev :=
  if !(d.touch t).scanning || decide (d.now < (d.touch t).endAt) then d
  else
    let raw := takePad 0 (d.nodeCount t) raw
    let p := tsPid t
    let (time, d) := d.stamp p
    let d := (d.w64 p F.TS_SCANT_LO_TIME F.TS_SCANT_HI_TIME time).add p F.TS_SCANCNT_COUNT
    let d := d.touchDump t raw
    let d := d.setTouch t { d.touch t with scanning := false, last := raw }
    match d.touchState t with
    | 1 => d.captureFrame t raw
    | 2 => d.runFrame t raw ns time
    | 3 => d.standbyFrame t raw time
    | _ => d

/-- HOLD_S seconds after its DOWN a contact is re-baselined and becomes a ghost (R356). -/
def Dev.forcedRecal (d : Dev) (t id : Nat) : Dev :=
  let x := d.touch t
  match x.tracks.find? (fun k => k.id == id && (k.kind == 1 || k.kind == 2)) with
  | Option.none => d
  | some k =>
    if !(d.touchState t == 2) || decide (d.now < k.downAt + 1000000000 * x.cfg.holdS) then d
    else
      let p := tsPid t
      let ring := ringOf (d.drive t) (d.sense t) k.nodes
      let scan := d.r p F.TS_SCANCNT_COUNT
      let time := d.r64 p F.TS_SCANT_LO_TIME F.TS_SCANT_HI_TIME
      let g := (d.addRec t scan (time % 2 ^ 32) {} k 2 1 0).1
      let keep := x.tracks.map (fun j => if j.id == id then ({ j with nodes := ring }).ghost true else j)
      let d := d.setTouch t { x with base := rebase x.base x.last ring }
      let d := (d.addSat p F.TS_EVENTS_RECAL).err p 12
      d.touchDeliver t 0 x.queued { g with keep := keep } false scan time

/-- A frame strobe of the linked head (R351): the port is in its SYNC mode again after a full display frame with windows. -/
def Dev.touchStrobe (d : Dev) (h : Nat) : Dev :=
  ((upFrom 0 8).filter (fun t => d.touchHead t == h && !(d.touchState t == 0))).foldl (fun d t =>
    let x := d.touch t
    let w := d.windows t
    let d := d.w (tsPid t) F.TS_STAT_SYNCED (b2n (w && x.whole))
    d.setTouch t { x with whole := w, lost := x.lost && w && !x.whole, strobeAt := d.now, since := 0 }) d

/-- The linked head exports no window any more: SYNCED falls (R351). -/
def Dev.unsync (d : Dev) (t : Nat) : Dev :=
  (d.setTouch t { d.touch t with whole := false }).w (tsPid t) F.TS_STAT_SYNCED 0

/-- No frame strobe for 50 ms: the port scans FREE (R351). -/
def Dev.strobeLoss (d : Dev) (t : Nat) : Dev :=
  if (d.touch t).strobeAt + 50000000 ≤ d.now then (d.setTouch t { d.touch t with lost := true }).unsync t else d

/-- The linked head has entered RETIMING or STOPPING during a scan frame: it has overrun (R350). -/
def Dev.scanCut (d : Dev) (t : Nat) : Dev :=
  let s := d.r (hdPid (d.touchHead t)) F.HD_STAT_STATE
  if (d.touch t).scanning && !(s == (d.touch t).headAt) && (s == 3 || s == 4) then d.overrun t else d

/-- A drag delta of a port reaches a pipe (R296, R352). -/
def Dev.deltaArrives (d : Dev) (t p : Nat) : Dev :=
  let x := d.touch t
  match x.deltas.find? (fun e => e.1 == p) with
  | none => d
  | some e => (d.setTouch t { x with deltas := x.deltas.erase e }).warpDelta t p e.2.1 e.2.2

end Sys2Proof.Machine
end

