-- ==== Sys2Proof/Machine/Haptic.lean ====
section
/-! DEFINITION. Haptic drive: the effect store and its loads, triggers, the channels' state machine, overdrive and braking,
and actuator faults (R376 to R391). -/

namespace Sys2Proof.Machine

open Sys2Proof

/-- A channel's page. Its block lies at offset 0x100 of it, index 0 of the block table. -/
def haPid (h : Nat) : Nat := 0x800 + h
def hbPid : Nat := 0x808

/-- The drive supervision unit, on which a SUPPLY fault opens (R474). -/
def supPid : Nat := 0x900

def Dev.chan (d : Dev) (h : Nat) : HapSt := tabGet d.hap.ch {} h
def Dev.setChan (d : Dev) (h : Nat) (x : HapSt) : Dev := { d with hap := { d.hap with ch := tabPut d.hap.ch {} h x } }
def Dev.hapState (d : Dev) (h : Nat) : Nat := d.r (haPid h) F.HA_STAT_STATE

/-- A haptic error bit of a channel: on its page, and on the window page of a VI that owns it (R389). -/
def Dev.hapErr (d : Dev) (h b : Nat) : Dev :=
  let c := d.hapOwner h
  if c % 4 = 3 then (d.err (haPid h) b).err (viPage (c / 16 % 64) 10) b else d.err (haPid h) b

def Dev.setHap (d : Dev) (h st : Nat) : Dev := d.w (haPid h) F.HA_STAT_STATE st

/-! ### The effect store (R377 to R379) -/

/-- The pool of an effect: none the ward pool, else the channel of its slot. -/
def poolOf (e : Nat) : Option Nat := if e < 64 then none else some ((e - 64) / 24)
def poolBase (e : Nat) : Nat := match poolOf e with | none => 0 | some h => 65536 + 24576 * h
def poolSize (e : Nat) : Nat := if e < 64 then 65536 else 24576

def Dev.effect (d : Dev) (e : Nat) : Option Effect := tabGet d.hap.dir none e

/-- Show residency in `HA_LD_STAT.VALID`, `HB_VALID` and `HB_BOLT`. -/
def Dev.hapShow (d : Dev) : Dev :=
  let mask := fun (f : Nat → Bool) n => (upFrom 0 n).foldl (fun m e => if f e then m + 2 ^ e else m) 0
  let d := d.w64 hbPid F.HB_VALID_LO_MASK F.HB_VALID_HI_MASK (mask (fun e => (d.effect e).isSome) 64)
  let d := d.w64 hbPid F.HB_BOLT_LO_MASK F.HB_BOLT_HI_MASK (mask (fun e => ((d.effect e).map (·.bolt)).getD false) 64)
  forAll (upFrom 0 8) (fun h d =>
    d.w (haPid h) F.HA_LD_STAT_VALID (mask (fun s => (d.effect (64 + 24 * h + s)).isSome) 24)) d

def Dev.setEffect (d : Dev) (e : Nat) (x : Option Effect) : Dev :=
  ({ d with hap := { d.hap with dir := tabPut d.hap.dir none e x } }).hapShow

/-- A sample of an effect, signed. -/
def Dev.sample (d : Dev) (e i : Nat) : Int :=
  match d.effect e with
  | some x => sx 16 (tabGet d.hap.store 0 (poolBase e + x.offset + i % x.length))
  | none => 0

/-- Put samples into the store. -/
def Dev.storeSamples (d : Dev) (a : Nat) : List Nat → Dev
  | lo :: hi :: r => { d with hap := { d.hap with store := tabPut d.hap.store 0 a (lo + 256 * hi) } }.storeSamples (a + 1) r
  | _ => d

/-- The effect is playing or pending on a channel (R378). -/
def Dev.effectBusy (d : Dev) (e : Nat) : Bool :=
  (upFrom 0 8).any (fun h =>
    let x := d.chan h
    ([3, 4].contains (d.hapState h) && d.r (haPid h) F.HA_STAT_EFFECT == e) ||
    (x.pend.map (·.1)) == some e || (x.held.map (·.1)) == some e)

/-- A load of the issuer runs. -/
def Dev.loadBusy (d : Dev) (issuer : Nat) : Bool :=
  (d.hap.load :: (upFrom 0 8).map (fun h => (d.chan h).load)).any (fun l => (l.map (·.issuer)) == some issuer)

/-- The effect that a GO names: a slot of the channel. -/
def slotEffect (h s : Nat) : Option Nat := if s < 24 then some (64 + 24 * h + s) else none

/-- A GO on a channel block (R378): VALID of the effect becomes 0 and the load runs. -/
def Dev.hapLoadGo (d : Dev) (h slot : Nat) (noBrake noOd : Bool) : Dev :=
  let p := haPid h
  let code := d.hapOwner h
  let l : HapLoad := { issuer := code, effect := slotEffect h slot, offset := d.r p F.HA_LD_GEOM_OFFSET,
                       length := d.r p F.HA_LD_GEOM_LENGTH, bolt := false, noBrake := noBrake, noOd := noOd,
                       addr := d.r p F.HA_LD_LO_ADDR * 64 + 2 ^ 32 * d.r p F.HA_LD_HI_ADDR,
                       asp := d.r p F.HA_CTRL_ASPACE, gen := d.gen (code / 16 % 64) }
  let d := match l.effect with
    | some e => d.setEffect e none
    | none => d
  (d.setChan h { d.chan h with load := some l }).w p F.HA_LD_STAT_BUSY 1

/-- A GO on the ward haptic page. -/
def Dev.wardLoadGo (d : Dev) (effect : Nat) (bolt noBrake noOd : Bool) : Dev :=
  let l : HapLoad := { issuer := codeWard, effect := some effect, offset := d.r hbPid F.HB_LD_GEOM_OFFSET,
                       length := d.r hbPid F.HB_LD_GEOM_LENGTH, bolt := bolt, noBrake := noBrake, noOd := noOd,
                       addr := d.r hbPid F.HB_LD_LO_ADDR * 64 + 2 ^ 32 * d.r hbPid F.HB_LD_HI_ADDR, asp := 0, gen := 0 }
  let d := d.setEffect effect none
  ({ d with hap := { d.hap with load := some l } }).w hbPid F.HB_LD_STAT_BUSY 1

/-- The source bytes of a load, by its issuer (R378); false where a read faults, leaves the issuer's region, or receives
an error response. -/
def Dev.loadBytes (d : Dev) (issuer asp gen addr n : Nat) : Dev × List Nat × Bool :=
  if issuer % 4 = 3 then
    match d.vmRead (issuer / 16 % 64) gen asp 0 addr n with
    | (d, st, bs) => (d, bs, st.isNone)
  else
    let (b, m) := if issuer % 4 = 0 then (2 ^ 21 * d.hd 0x10, 2 ^ 21 * d.hd 0x14) else d.ownerRegion issuer
    if issuer % 4 = 0 then
      if b ≤ addr ∧ addr + n ≤ b + m then d.mcRead 0 addr n else (d, [], false)
    else if addr + n ≤ m then d.mcRead 0 (b + addr) n else (d, [], false)

/-- The pool range overlaps another resident effect of the pool. -/
def Dev.poolClash (d : Dev) (e off len : Nat) : Bool :=
  (upFrom 0 256).any (fun x => poolOf x == poolOf e && !(x == e) && (match d.effect x with
    | some f => overlap off len f.offset f.length
    | none => false))

/-- Finish a load: its RESULT, and the device with the samples and the directory entry. -/
def Dev.loadFinish (d : Dev) (l : HapLoad) (readError : Bool) : Dev × Nat :=
  match l.effect with
  | none => (d, 1)
  | some e =>
    if l.length = 0 ∨ 16384 < l.length ∨ poolSize e < l.offset + l.length then (d, 1)
    else if d.poolClash e l.offset l.length then (d, 2)
    else match d.loadBytes l.issuer l.asp l.gen l.addr (2 * l.length) with
      | (d, bs, ok) =>
        if !ok || readError then (d, 3)
        else
          let d := d.storeSamples (poolBase e + l.offset) bs
          (d.setEffect e (some { offset := l.offset, length := l.length, bolt := l.bolt, noBrake := l.noBrake,
                                 noOd := l.noOd }), 0)

/-- A load ends: that of channel `who`, or the ward world's for 8. -/
def Dev.hapLoadEnd (d : Dev) (who : Nat) (readError : Bool) : Dev :=
  if who = 8 then
    match d.hap.load with
    | none => d
    | some l =>
      let d := { d with hap := { d.hap with load := none } }
      match d.loadFinish l readError with
      | (d, r) =>
        let d := (d.w hbPid F.HB_LD_STAT_BUSY 0).w hbPid F.HB_LD_STAT_RESULT r
        if r = 0 then d else d.err hbPid 11
  else
    match (d.chan who).load with
    | none => d
    | some l =>
      let d := d.setChan who { d.chan who with load := none }
      match d.loadFinish l readError with
      | (d, r) =>
        let p := haPid who
        let d := (d.w p F.HA_LD_STAT_BUSY 0).w p F.HA_LD_STAT_RESULT r
        if r = 0 then d else d.hapErr who 11

/-- An entry of the preload section: OFFSET, LENGTH, FLAGS, EFFECT, and whether the rest of it is 0. -/
def preEntry (bs : List Nat) (i : Nat) : Nat × Nat × Nat × Nat × Bool :=
  let e := (bs.drop (64 + 16 * i)).take 16
  (ofBytesLE (e.take 4), ofBytesLE ((e.drop 4).take 2), e.getD 6 0, e.getD 7 0, (e.drop 8).all (· == 0))

/-- Ward firmware accepts a section of type 0x000B (R379). -/
def preloadOk (bs : List Nat) : Bool :=
  let n := ofBytesLE ((bs.drop 4).take 2)
  let m := ofBytesLE ((bs.drop 8).take 4)
  let es := (upFrom 0 n).map (preEntry bs)
  let idx := (upFrom 0 n).zip es
  ofBytesLE (bs.take 4) == 0x48584249 && decide (1 ≤ n) && decide (n ≤ 64) && decide (1 ≤ m) && decide (m ≤ 65536) &&
  (bs.drop 6).take 2 == [0, 0] && ((bs.take 64).drop 12).all (· == 0) &&
  decide (64 + 16 * n + 2 * m ≤ bs.length) && decide (bs.length ≤ 132160) &&
  es.all (fun e => decide (1 ≤ e.2.1) && decide (e.2.1 ≤ 16384) && decide (e.1 + e.2.1 ≤ m) && decide (e.2.2.2.1 < 64) &&
    e.2.2.2.2) &&
  idx.all (fun a => idx.all (fun b => a.1 == b.1 ||
    (!(a.2.2.2.2.1 == b.2.2.2.2.1) && !overlap a.2.1 a.2.2.1 b.2.1 b.2.2.1)))

/-- Load the preload section: its samples from pool sample 0 on, and its directory entries. -/
def Dev.preload (d : Dev) (bs : List Nat) : Dev :=
  let n := ofBytesLE ((bs.drop 4).take 2)
  let m := ofBytesLE ((bs.drop 8).take 4)
  let d := d.storeSamples 0 ((bs.drop (64 + 16 * n)).take (2 * m))
  forAll (upFrom 0 n) (fun i d =>
    let (o, l, f, e, _) := preEntry bs i
    d.setEffect e (some { offset := o, length := l, bolt := bit f 0, noBrake := bit f 1, noOd := bit f 2 })) d

/-! ### Settings (R390) -/

/-- The check of a channel block's set. `rd` reads a field of the block. -/
def hapRangeOk (rd : FD → Nat) : Bool :=
  decide (10 ≤ rd F.HA_CFG_VFS) && decide (rd F.HA_CFG_VFS ≤ 108) && decide (16 ≤ rd F.HA_CFG_OD_X) &&
  decide (1 ≤ rd F.HA_BRK_BRK) && decide (1 ≤ rd F.HA_BRK_BRK_MS) && decide (1 ≤ rd F.HA_BRK_REF)

/-- The channels whose settings a page's set holds: the page's own, or those of the VI's window page (R389). -/
def Dev.hapOf (d : Dev) (pid : Nat) : List Nat :=
  match kindOf pid with
  | some (.hapticChannel, h) => [h]
  | some (.viHapticAudio, v) => (upFrom 0 8).filter (fun h => d.hapOwner h == codeVi (d.viPort v) v)
  | _ => []

def Dev.hapCheck (d : Dev) (pid : Nat) (snap : List (Nat × Nat)) : Option Nat :=
  if (d.hapOf pid).all (fun h => hapRangeOk (fun f => snapGet snap (haPid h) f)) then none else some 3

/-- A channel enters IDLE, OFF or FAULT: the pending set of its block applies (R390). -/
def Dev.hapBoundary (d : Dev) (h : Nat) : Dev :=
  let code := d.hapOwner h
  let ps := haPid h :: (if code % 4 = 3 then [viPage (code / 16 % 64) 10] else [])
  ps.foldl (fun d p => match (d.ctl p).pend with
    | some s => if s.parts.contains h then d.applyPend p (· == h) else d
    | none => d) d

def Dev.hapCfg (d : Dev) (h : Nat) : HapCfg :=
  let g := fun f => d.a (haPid h) f
  { vfs := g F.HA_CFG_VFS, ilim := g F.HA_CFG_ILIM, odMs := g F.HA_CFG_OD_MS, odX := g F.HA_CFG_OD_X, brk := g F.HA_BRK_BRK,
    brkMs := g F.HA_BRK_BRK_MS, thr := g F.HA_BRK_THR, ref := g F.HA_BRK_REF, stall := g F.HA_BRK_STALL }

/-! ### Drive, overdrive and braking (R382 to R384) -/

/-- k of R383 for a back-EMF in mV. -/
def HapCfg.overdrive (c : HapCfg) (emf : Int) : Nat :=
  let ref := 5 * c.ref
  16 + (c.odX - 16) * (ref - min emf.natAbs ref) / ref

/-- The drive of a sample in µV (R382), held to 0.95 of VHAP. -/
def HapCfg.volts (c : HapCfg) (sample : Int) (gain k vhap : Nat) : Int :=
  let v := (sample * c.vfs * 100000 * gain * k).tdiv (32768 * 255 * 16)
  clampI (-(950 * (vhap : Int))) (950 * (vhap : Int)) v

/-- The current at which the bridge cuts each cycle, in mA. -/
def HapCfg.limitMa (c : HapCfg) : Nat := 250 * (c.ilim + 1)

/-- The drive of the brake in µV: against the sign of the back-EMF. -/
def HapCfg.brakeVolts (c : HapCfg) (emf : Int) : Int := -(emf.sign) * ((c.brk * c.vfs * 100000 / 16 : Nat) : Int)

/-- Show PENDING. -/
def Dev.pendShow (d : Dev) (h : Nat) : Dev :=
  let x := d.chan h
  d.w (haPid h) F.HA_STAT_PENDING (b2n (x.pend.isSome || x.held.isSome))

def Dev.dropTrig (d : Dev) (h : Nat) (n : Nat := 1) : Dev := d.addSat (haPid h) F.HA_COUNT_DROPPED n

/-- An effect starts: the settings in force and k are taken; the first drive edge comes with the first sample. -/
def Dev.hapStart (d : Dev) (h e gain rep : Nat) (bolt : Bool) (since : Option (Nat × Nat)) : Dev :=
  let x := d.chan h
  let c := d.hapCfg h
  let moving := [3, 4, 5].contains (d.hapState h)
  match d.effect e with
  | none => d
  | some f =>
    let x := { x with cfg := c, gain := gain, total := f.length * (rep + 1), pos := 0, edge := false,
                      k := if f.noOd then 16 else c.overdrive (if moving then x.emf else 0),
                      emf := if moving then x.emf else 0, since := since, stallRun := 0 }
    ((d.setChan h x).setHap h (if bolt then 4 else 3)).w (haPid h) F.HA_STAT_EFFECT e

/-- The brake ends, or an effect that has none: a pending trigger starts, or the channel is IDLE. -/
def Dev.brakeDone (d : Dev) (h : Nat) : Dev :=
  let x := d.chan h
  match x.pend with
  | some (e, g, r) =>
    if (d.effect e).isSome then ((d.setChan h { x with pend := none }).hapStart h e g r false none).pendShow h
    else ((((d.setChan h { x with pend := none }).dropTrig h).setHap h 2).pendShow h).hapBoundary h
  | none => ((d.setChan h { x with emf := 0 }).setHap h 2).hapBoundary h

/-- The effect ends, by its last sample or a STOP (R384). -/
def Dev.effectEnd (d : Dev) (h : Nat) : Dev :=
  let x := d.chan h
  if ((d.effect (d.r (haPid h) F.HA_STAT_EFFECT)).map (·.noBrake)).getD false then d.brakeDone h
  else
    let d := (d.setChan h { x with braked := 0, below := 0 }).setHap h 5
    d.emit (.drive h (x.cfg.brakeVolts x.emf) x.cfg.limitMa)

/-- The brake's end condition: two measurements below THR, or BRK_MS. -/
def HapSt.brakeOver (x : HapSt) : Bool := decide (2 ≤ x.below) || decide (8 * x.cfg.brkMs ≤ x.braked)

/-! ### Faults (R388) -/

/-- Enter CHECK: the coil check runs. -/
def Dev.hapCheckStart (d : Dev) (h : Nat) : Dev := (d.setChan h { d.chan h with emf := 0, checkAt := d.now }).setHap h 1

/-- Triggers that wait are discarded. -/
def Dev.hapDiscard (d : Dev) (h : Nat) : Dev :=
  let x := d.chan h
  ((d.setChan h { x with pend := none, held := none }).dropTrig h (b2n x.pend.isSome + b2n x.held.isSome)).pendShow h

/-- A fault of R388 on a channel: the bridge is off, triggers that wait are discarded, and the fault opens. A SUPPLY
fault is opened once for all channels by its caller. -/
def Dev.hapFault (d : Dev) (h code : Nat) : Dev :=
  let st := d.hapState h
  if st = 0 ∨ st = 6 then d
  else
    let p := haPid h
    let d := d.hapDiscard h
    let x := d.chan h
    let recent := if code = 3 then x.stalls.filter (fun t => decide (d.now < t + 10000000000)) ++ [d.now] else x.stalls
    let latched := code == 1 || code == 2 || (code == 3 && decide (3 ≤ recent.length))
    let d := (d.setChan h { x with stalls := recent, latched := latched, stallRun := 0 }).setHap h 6
    let d := ((d.w p F.HA_STAT_FAULT code).hapErr h 10).emit (.drive h 0)
    let d := match code with
      | 1 => d.addSat p F.HA_FAULTS_SHORT
      | 2 => d.addSat p F.HA_FAULTS_MISSING
      | 3 => d.addSat p F.HA_FAULTS_STALL
      | _ => d.addSat p F.HA_FAULTS_OTHER
    let d := d.hapBoundary h
    if code = 5 then d else d.openFault 3 1 p (h + 256 * code) latched

/-- A coil check ends with the resistance in mΩ (R385, R388). -/
def Dev.checkEnd (d : Dev) (h mohm : Nat) : Dev :=
  if !(d.hapState h == 1) then d
  else
    let p := haPid h
    let d := d.w p F.HA_STAT_RES (sat 255 (mohm / 250))
    let d := d.closeCause 3 p
    if d.hap.supplyOut then d.hapFault h 5
    else if mohm < 2000 then d.hapFault h 1
    else if 32000 < mohm then d.hapFault h 2
    else
      let d := (d.setChan h { d.chan h with latched := false }).w p F.HA_STAT_FAULT 0
      let x := d.chan h
      match x.held with
      | some (e, g, s) =>
        let d := if x.pend.isSome then d.dropTrig h else d
        ((d.setChan h { x with held := none, pend := none }).hapStart h e g 0 true s).pendShow h
      | none => d.brakeDone h

/-- `HA_CTRL.CHECK` from IDLE, and `HA_CTRL.CLEAR` of a latched fault. -/
def Dev.hapCheckGo (d : Dev) (h : Nat) : Dev := if d.hapState h = 2 then d.hapCheckStart h else d
def Dev.hapClear (d : Dev) (h : Nat) : Dev :=
  if d.hapState h = 6 && (d.chan h).latched then d.hapCheckStart h else d

/-- 250 µs into a start the current stays below 20 mA. -/
def Dev.hapMissing (d : Dev) (h : Nat) : Dev := if [3, 4].contains (d.hapState h) then d.hapFault h 2 else d

/-- The recovery times of R388: 100 ms after a STALL, and below 130 °C. -/
def Dev.hapRecover (d : Dev) (h code : Nat) : Dev :=
  let x := d.chan h
  let due := !(code == 3) || x.stalls.all (fun t => decide (t + 100000000 ≤ d.now))
  if d.hapState h = 6 && d.r (haPid h) F.HA_STAT_FAULT == code && !x.latched && due then d.hapCheckStart h else d

/-- Show VHAP. -/
def Dev.showVhap (d : Dev) (mv : Nat) : Dev :=
  let d := d.w hbPid F.HB_VHAP_MV (sat 65535 mv)
  (d.w hbPid F.HB_VHAP_OK (b2n (decide (10800 ≤ mv) && decide (mv ≤ 13200)))).w hbPid F.HB_VHAP_DRIVE
    (b2n (decide (9500 ≤ mv) && decide (mv ≤ 14500)))

/-! ### Triggers (R380, R381, R385) -/

/-- A Latch trigger may name an effect: the channel's slots, and ward effects without BOLT. -/
def Dev.mayName (d : Dev) (h e : Nat) : Bool :=
  (decide (64 + 24 * h ≤ e) && decide (e < 88 + 24 * h)) || (decide (e < 64) && !((d.effect e).map (·.bolt)).getD false)

def gainOf (g : Nat) : Nat := if g = 0 then 255 else g

/-- A Latch trigger word reaches a channel. -/
def Dev.latchTrig (d : Dev) (h word : Nat) : Dev :=
  let p := haPid h
  let e := bits word 0 8
  let stop := bit word 24
  if !d.on p F.HA_CTRL_EN then d.dropTrig h
  else if bits word 20 4 ≠ 0 ∨ bits word 25 7 ≠ 0 ∨ (!stop ∧ !d.mayName h e) then (d.dropTrig h).hapErr h 12
  else if stop then
    if d.hapState h = 3 then d.effectEnd h else if d.hapState h = 4 then d.dropTrig h else d
  else if (d.effect e).isNone then d.dropTrig h
  else
    let g := gainOf (bits word 8 8)
    let r := bits word 16 4
    let x := d.chan h
    let wait := fun (d : Dev) => (d.setChan h { d.chan h with pend := some (e, g, r) }).pendShow h
    match d.hapState h with
    | 2 => d.hapStart h e g r false none
    | 3 => (wait d).effectEnd h
    | 1 | 5 => wait (if x.pend.isSome then d.dropTrig h else d)
    | _ => d.dropTrig h

/-- A Bolt trigger is lost (R381). -/
def Dev.boltLost (d : Dev) : Dev := (d.addSat hbPid F.HB_LOST_FAULTED).err hbPid 10

/-- A Bolt trigger reaches a channel: from touch, with the end of its scan frame, or from the ward world. During a ward
restart it is suppressed (R154). -/
def Dev.boltTrig (d : Dev) (h e gain : Nat) (since : Option (Nat × Nat)) : Dev :=
  let st := d.hapState h
  let x := d.chan h
  if d.wardRestarting then d
  else if st = 0 ∨ st = 6 ∨ (st = 1 ∧ x.checkAt + 1000000 < d.now) ∨ 64 ≤ e ∨ (d.effect e).isNone then d.boltLost
  else if st = 1 then (d.setChan h { x with held := some (e, gainOf gain, since) }).pendShow h
  else
    let d := if x.pend.isSome then ((d.setChan h { x with pend := none }).dropTrig h).pendShow h else d
    d.hapStart h e (gainOf gain) 0 true since

/-- A STOP from the ward world ends any effect. -/
def Dev.wardStop (d : Dev) (h : Nat) : Dev := if d.hapState h = 3 ∨ d.hapState h = 4 then d.effectEnd h else d

/-- A write of `HB_TRIG` that the page has accepted. -/
def Dev.wardTrig (d : Dev) (word : Nat) : Dev :=
  let h := bits word 0 3
  if bit word 24 then d.wardStop h else d.boltTrig h (bits word 8 8) (bits word 16 8) none

/-- The write exceeds the limit of R19: a Bolt effect runs on the channel. -/
def Dev.wardTrigOver (d : Dev) (word : Nat) : Bool := !bit word 24 && d.hapState (bits word 0 3) == 4

/-- Take the oldest trigger of a kind that a touch port has on its way. -/
def Dev.takeTrig (d : Dev) (t : Nat) (sel : TouchTrig → Bool) : Option (TouchTrig × Nat) × Dev :=
  let x := d.touch t
  match x.trigs.find? (fun e => sel e.1) with
  | none => (none, d)
  | some e => (some e, d.setTouch t { x with trigs := x.trigs.erase e })

/-- The touch port's click trigger arrives at the channel of its direct path. -/
def Dev.touchClick (d : Dev) (t : Nat) : Dev :=
  match d.takeTrig t (fun e => match e with | .click _ => true | _ => false), d.touchHap t with
  | (some (.click e, _), d), some h => d.latchTrig h e
  | (_, d), _ => d

/-- The touch port's Bolt trigger arrives. -/
def Dev.touchBolt (d : Dev) (t : Nat) : Dev :=
  match d.takeTrig t (fun e => match e with | .bolt _ => true | _ => false), d.touchHap t with
  | (some (.bolt e, s), d), some h => d.boltTrig h e 255 (some (s, t))
  | (_, d), _ => d

/-! ### The 8 kHz sample (R382, R388) -/

/-- The overdrive factor of a sample: k during the first OD_MS of the first play. -/
def Dev.kAt (d : Dev) (h i : Nat) : Nat :=
  let x := d.chan h
  match d.effect (d.r (haPid h) F.HA_STAT_EFFECT) with
  | some f => if !f.noOd && decide (i < 8 * x.cfg.odMs) && decide (i < f.length) then x.k else 16
  | none => 16

/-- A sample of an effect that plays. -/
def Dev.playSample (d : Dev) (h : Nat) (emf : Int) (vhap : Nat) : Dev :=
  let p := haPid h
  let x := d.chan h
  let e := d.r p F.HA_STAT_EFFECT
  if x.total ≤ x.pos then (d.setChan h { x with emf := emf }).effectEnd h
  else
    let k := d.kAt h x.pos
    let v := x.cfg.volts (d.sample e x.pos) x.gain k vhap
    let d := d.emit (.drive h v x.cfg.limitMa)
    let d := if x.edge then d else
      let d := d.add p F.HA_COUNT_STARTED
      let d := if d.hapState h = 4 then d.add hbPid F.HB_COUNT_STARTS else d
      match x.since with
      | some (t, touch) => d.measure 3 (d.now - t) 2000000 p (d.boltHolds (hapticPath touch h) && decide (10800 ≤ vhap) &&
          decide (vhap ≤ 13200))
      | none => d
    let od := match d.effect e with
      | some f => !f.noOd && decide (x.pos < 8 * x.cfg.odMs) && decide (x.pos < f.length)
      | none => false
    let run := if !od && decide (100000 * (x.cfg.vfs : Int) ≤ 2 * v.natAbs) && decide (emf.natAbs < 5 * x.cfg.stall) then
        x.stallRun + 1 else 0
    let d := d.setChan h { x with pos := x.pos + 1, edge := true, emf := emf, since := none, stallRun := run }
    if 8 ≤ run then d.hapFault h 3 else d

/-- A sample of the brake: the back-EMF is measured and its sign taken. -/
def Dev.brakeSample (d : Dev) (h : Nat) (emf : Int) : Dev :=
  let x := d.chan h
  let below := if emf.natAbs < 5 * x.cfg.thr then x.below + 1 else 0
  (d.setChan h { x with emf := emf, braked := x.braked + 1, below := below }).emit (.drive h (x.cfg.brakeVolts emf) x.cfg.limitMa)

/-- An 8 kHz sample of a channel, with the back-EMF measured in mV and VHAP in mV. -/
def Dev.hapTick (d : Dev) (h : Nat) (emf : Int) (vhap : Nat) : Dev :=
  let d := d.showVhap vhap
  match d.hapState h with
  | 3 | 4 => d.playSample h emf vhap
  | 5 => d.brakeSample h emf
  | _ => d

/-- The brake of a channel ends. -/
def Dev.brakeEnd (d : Dev) (h : Nat) : Dev :=
  if d.hapState h = 5 && (d.chan h).brakeOver then d.brakeDone h else d

/-! ### Restart, reset and sleep (R385, R387) -/

/-- A channel leaves OFF where its HAPTIC entry enables it. -/
def Dev.hapWake (d : Dev) (h : Nat) : Dev := if d.hapState h = 0 && d.hapEn h then d.hapCheckStart h else d

/-- S2 or deeper, or a reset: the bridge is off at once. -/
def Dev.hapOff (d : Dev) (h : Nat) : Dev :=
  if d.hapState h = 0 then d
  else
    let x := d.chan h
    let d := d.setChan h { load := x.load, stalls := x.stalls }
    (((d.setHap h 0).pendShow h).emit (.drive h 0)).hapBoundary h

/-- The owner is reset or gone (R387): a Latch effect brakes, what waits and loads is discarded, the slots are not
resident, and the block returns to reset values but for what the channel is doing. -/
def Dev.hapOwnerGone (d : Dev) (h : Nat) : Dev :=
  let p := haPid h
  let x := d.chan h
  let d := if x.pend.isSome then d.dropTrig h else d
  let d := d.setChan h { x with pend := none, load := none }
  let d := { d with hap := { d.hap with dir := d.hap.dir.filter (fun e => !(poolOf e.1 == some h)) } }
  let d := if d.hapState h = 3 then d.effectEnd h else d
  let live := [fieldKey p F.HA_STAT_STATE 0, fieldKey p F.HA_STAT_EFFECT 0, fieldKey p F.HA_STAT_FAULT 0,
               fieldKey p F.HA_STAT_RES 0, fieldKey p F.HA_STAT_PENDING 0]
  ((d.pageReset p (fun k => live.contains k || lockKey p k)).pendShow h).hapShow

/-- The store loses its contents (S3, S4, package recovery). -/
def Dev.hapStoreLost (d : Dev) : Dev := ({ d with hap := { d.hap with dir := [], store := [] } }).hapShow

/-- A reset of the channel: what its page does not hold goes with it. -/
def Dev.hapGone (d : Dev) (h : Nat) : Dev := d.setChan h {}

end Sys2Proof.Machine
end

