-- ==== Sys2Proof/Machine/Audio.lean ====
section
/-! DEFINITION. The audio engine: streams, the Tumbler program, routes, limiters, Bolt tones, speaker stages and TDM ports
(R392 to R418). -/

namespace Sys2Proof.Machine

open Sys2Proof

def aePid : Nat := 0x600
def tnPid : Nat := 0x630
def skPid (k : Nat) : Nat := 0x620 + k
def spPid (k : Nat) : Nat := 0x880 + k

/-! ### Numbers (R393) -/

/-- A quotient rounded to nearest, ties away from zero. -/
def rnd (n : Int) (den : Nat) : Int := n.sign * (((2 * n.natAbs + den) / (2 * den) : Nat) : Int)

def sat32 (x : Int) : Int := clampI (-(2 ^ 31)) (2 ^ 31 - 1) x

/-- A product with a gain or a coefficient over its unit. -/
def scaleBy (x g : Int) (unit : Nat) : Int := sat32 (rnd (x * g) unit)

/-- The largest r below 2 ^ n with r ^ e × m ≤ t. -/
def rootBits (e m t : Nat) : Nat → Nat → Nat
  | 0, r => r
  | n + 1, r => rootBits e m t n (if (r + 2 ^ n) ^ e * m ≤ t then r + 2 ^ n else r)

/-- 10 ^ (−q / 40) in units of 2 ^ −60, rounded down. -/
def tenDown (q : Nat) : Nat := rootBits 40 (10 ^ q) (2 ^ (60 * 40)) 61 0

/-- 10 ^ (r / 9600) in units of 2 ^ −60, rounded down. -/
def tenUp (r : Nat) : Nat := rootBits 9600 1 (10 ^ r * 2 ^ (60 * 9600)) 62 0

/-! ### Gains (R398) -/

/-- A gain at a sample: it steps where the sample is 0 or has changed sign. -/
def GainSt.step (g : GainSt) (reg : Nat) (x : Int) : GainSt :=
  match g.wait with
  | none => { g with prev := x }
  | some n =>
    if x = 0 ∨ (0 < x ∧ g.prev < 0) ∨ (x < 0 ∧ 0 < g.prev) then { now := reg, wait := none, prev := x }
    else { g with wait := some (n + 1), prev := x }

/-- A gain is written: the count runs from the first write that waits. -/
def GainSt.write (g : GainSt) : GainSt := { g with wait := some (g.wait.getD 0) }

/-- The 480th tick has come without a zero crossing. -/
def GainSt.timeout (g : GainSt) (reg : Nat) : GainSt :=
  match g.wait with
  | some n => if 480 ≤ n then { g with now := reg, wait := none } else g
  | none => g

/-! ### Streams (R394 to R399) -/

def Dev.stream (d : Dev) (s : Nat) : AStream := tabGet d.aud.streams {} s
def Dev.setStream (d : Dev) (s : Nat) (x : AStream) : Dev :=
  { d with aud := { d.aud with streams := tabPut d.aud.streams {} s x } }

/-- The owner of a stream. -/
def Dev.stOwner (d : Dev) (s : Nat) : Nat := d.a aePid F.AE_SOWN_OWNER s

/-- The page that holds the blocks of an owner's streams (R413). -/
def streamPage (code : Nat) : Nat :=
  if code % 4 = 3 then viPage (code / 16 % 64) 10 else if code % 4 = 2 then 0x610 + code / 4 % 4 else 0x614

def Dev.stPage (d : Dev) (s : Nat) : Nat := streamPage (d.stOwner s)
def Dev.stState (d : Dev) (s : Nat) : Nat := d.r (d.stPage s) F.ST_STAT_STATE s
def Dev.ringFrames (d : Dev) (s : Nat) : Nat := 16 * d.r (d.stPage s) F.ST_CTRL_SIZE s
def Dev.rblk (d : Dev) (s : Nat) : Nat := max 1 (d.r (d.stPage s) F.ST_RING_HI_RBLK s)

/-- The frames between RIDX and WIDX. -/
def Dev.avail (d : Dev) (s : Nat) : Nat :=
  let n := d.ringFrames s
  if n = 0 then 0 else ((d.stream s).widx + n - d.r (d.stPage s) F.ST_STAT_RIDX s % n) % n

/-- Where the bytes of a stream's ring at an address lie, or the ERR that stops the stream. -/
def Dev.streamPlace (d : Dev) (s a n : Nat) : Dev × (Nat ⊕ Nat) :=
  let o := d.stOwner s
  if o % 4 = 3 then
    let v := o / 16 % 64
    match d.translate v (d.gen v) (d.r (d.stPage s) F.ST_CTRL_ASPACE s) 0 a false with
    | (d, some (tgt, out)) => (d, if tgt = 1 then .inl (d.winBase (d.viPort v) + out) else .inr 2)
    | (d, none) => (d, .inr 1)
  else
    let (b, m) := d.ownerRegion o
    (d, if a + n ≤ m then .inl (b + a) else .inr 1)

/-- A frame's internal value (R394). -/
def frameValue (fmt v : Nat) : Int := if fmt = 0 then 256 * sx 16 v else sx 24 (v / 256)

/-- Read the 16 frames at RIDX and advance it: the block, or the ERR. -/
def Dev.fetchBlock (d : Dev) (s : Nat) : Dev × (List Int ⊕ Nat) :=
  let p := d.stPage s
  let fmt := d.r p F.ST_CTRL_FMT s
  let w := if fmt = 0 then 2 else 4
  let ridx := d.r p F.ST_STAT_RIDX s
  let base := d.r p F.ST_RING_LO_BASE s * 64 + 2 ^ 32 * d.r p F.ST_RING_HI_BASE s
  match d.streamPlace s (base + w * ridx) (16 * w) with
  | (d, .inr e) => (d, .inr e)
  | (d, .inl a) =>
    match d.mcRead 10 a (16 * w) with
    | (d, _, false) => (d, .inr 1)
    | (d, bs, true) =>
      (d.w p F.ST_STAT_RIDX ((ridx + 16) % d.ringFrames s) s,
       .inl ((upFrom 0 16).map (fun k => frameValue fmt (ofBytesLE ((bs.drop (w * k)).take w)))))

/-- The block in hand starts to play; it ramps out where no further block follows it. -/
def AStream.advance (x : AStream) (last : Bool) : AStream :=
  { x with play := x.hand.getD [], rampIn := x.handFirst, rampOut := last, hand := none, handFirst := false }

/-- A read error stops the stream. -/
def Dev.streamError (d : Dev) (s e : Nat) : Dev :=
  let p := d.stPage s
  (((d.setStream s ((d.stream s).advance true)).w p F.ST_STAT_ERR e s).w p F.ST_STAT_STATE 0 s).err p 14

/-- Take the next block of a stream into its hand; `first` where it follows a gap. -/
def Dev.takeBlock (d : Dev) (s : Nat) (first : Bool) : Dev :=
  match d.fetchBlock s with
  | (d, .inr e) => d.streamError s e
  | (d, .inl b) =>
    d.setStream s { (d.stream s).advance false with hand := some b, handFirst := first }

/-- A free stream at a block boundary (R396). -/
def Dev.freeBoundary (d : Dev) (s : Nat) : Dev :=
  let p := d.stPage s
  let st := d.stState s
  let x := d.stream s
  let gone := fun (d : Dev) => d.setStream s ((d.stream s).advance true)
  if !d.on p F.ST_CTRL_EN s then (gone d).w p F.ST_STAT_STATE 0 s
  else if 16 ≤ d.avail s then
    if st = 2 then d.takeBlock s false else (d.w p F.ST_STAT_STATE 2 s).takeBlock s true
  else if st = 2 then
    if x.eos then ((gone d).setStream s { (gone d).stream s with eos := false }).w p F.ST_STAT_STATE 1 s
    else (((gone d).w p F.ST_STAT_STATE 3 s).addSat p F.ST_STAT_UNDER 1 s).err p 13
  else gone d

/-- The first frame of a region. -/
def Dev.regionStart (d : Dev) (s k : Nat) : Nat :=
  let nreg := d.r (d.stPage s) F.ST_CTRL_SIZE s / d.rblk s
  if nreg = 0 then 0 else k % nreg * (16 * d.rblk s)

/-- d of R397 for a region. -/
def Dev.regionDist (d : Dev) (s k : Nat) : Nat :=
  let n := d.ringFrames s
  if n = 0 then 0 else ((d.stream s).widx + n - d.regionStart s k) % n

/-- The blocks at the start of a region that is not filled up to which the host has filled it. -/
def Dev.filledBlocks (d : Dev) (s k : Nat) : Nat :=
  let e := d.regionDist s k
  if e < 16 * d.rblk s then e / 16 else 0

/-- A paced stream at a block boundary: the next block of the region, or silence in its place where it was not filled in time
(R31) or the region has ended. -/
def Dev.pacedBoundary (d : Dev) (s k : Nat) : Dev :=
  let p := d.stPage s
  let x := d.stream s
  if !d.on p F.ST_CTRL_EN s then ((d.setStream s { x.advance true with pace := none })).w p F.ST_STAT_STATE 0 s
  else
    let n := min (if x.playFilled then d.rblk s else d.filledBlocks s k) (x.playCap.getD (d.rblk s))
    if x.block < n then
      (d.setStream s { x with block := x.block + 1 }).takeBlock s x.hand.isNone
    else
      let at_ := d.regionStart s k + 16 * min (x.block + 1) (d.rblk s)
      (d.setStream s { x.advance true with block := x.block + 1 }).w p F.ST_STAT_RIDX (at_ % d.ringFrames s) s

/-- The k-th boundary of the entry that paces the stream (R397). -/
def Dev.streamPeriod (d : Dev) (s : Nat) : Dev :=
  let p := d.stPage s
  let x := d.stream s
  if !d.on p F.ST_CTRL_EN s || !(d.r p F.ST_STAT_ERR s == 0) then d
  else
    let k := match x.pace with
      | some j => j + 1
      | none => 0
    let d := (d.w p F.ST_STAT_RIDX (d.regionStart s k) s).w p F.ST_STAT_STATE 2 s
    d.setStream s { x with pace := some k, block := 0, playFilled := x.workFilled, workFilled := false, playCap := x.workCap,
                           workCap := none }

/-- The period of a paced stream is dropped (R31): what is not filled by now is played as silence. -/
def Dev.streamDropped (d : Dev) (s : Nat) : Dev :=
  let x := d.stream s
  match x.pace with
  | some k => d.setStream s { x with workCap := some (if x.workFilled then d.rblk s else d.filledBlocks s (k + 1)) }
  | none => d

/-- The entry goes IDLE: the stream runs free. -/
def Dev.unpace (d : Dev) (s : Nat) : Dev := d.setStream s
  { d.stream s with pace := none, playFilled := false, workFilled := false, playCap := none, workCap := none }

/-- A pointer word (R395). -/
def Dev.pointer (d : Dev) (s word : Nat) : Dev :=
  let p := d.stPage s
  let w := word % 65536
  if bits word 16 15 ≠ 0 ∨ d.ringFrames s ≤ w then d.err p 14
  else
    let d := d.setStream s { d.stream s with widx := w, eos := bit word 31 }
    let x := d.stream s
    match x.pace with
    | none => d
    | some k =>
      let full := 16 * d.rblk s
      let work := x.workFilled || decide (full ≤ d.regionDist s (k + 1))
      let d := d.setStream s { x with workFilled := work,
                                      playFilled := x.playFilled || decide (full ≤ d.regionDist s k) }
      if work then d.perFinishNamed 3 s else d

/-- EN may be set (R396). -/
def Dev.streamOk (d : Dev) (s : Nat) : Bool :=
  let n := d.r (d.stPage s) F.ST_CTRL_SIZE s
  decide (2 ≤ n) && n % d.rblk s == 0

/-- EN is set: the stream waits for its first block. -/
def Dev.streamEnable (d : Dev) (s : Nat) : Dev :=
  let p := d.stPage s
  if d.stState s = 0 then ((d.w p F.ST_STAT_RIDX 0 s).w p F.ST_STAT_STATE 1 s).w p F.ST_STAT_ERR 0 s else d

/-- EN is cleared: at the next block boundary the stream ramps out and stops. -/
def Dev.streamDisable (d : Dev) (_s : Nat) : Dev := d

/-- A stream's gain is written. -/
def Dev.streamGain (d : Dev) (s : Nat) : Dev := let x := d.stream s; d.setStream s { x with gain := x.gain.write }

/-- A block of a stream returns to reset values, and the stream ramps out (R399). -/
def Dev.streamGone (d : Dev) (s : Nat) : Dev :=
  let p := d.stPage s
  let x := d.stream s
  let ks := [F.ST_CTRL_EN, F.ST_CTRL_FMT, F.ST_CTRL_ASPACE, F.ST_CTRL_SIZE, F.ST_RING_LO_BASE, F.ST_RING_HI_BASE,
    F.ST_RING_HI_RBLK, F.ST_GAIN_GAIN, F.ST_STAT_RIDX, F.ST_STAT_STATE, F.ST_STAT_ERR, F.ST_STAT_UNDER]
  let d := ks.foldl (fun d f => d.w p f (f.rstAt s) s) d
  let y := if x.hand.isSome then x.advance true else { x with rampOut := true }
  d.setStream s { y with widx := 0, eos := false, pace := none, gain := x.gain.write }

/-! ### The sample of a stream -/

/-- The ramp of a block at its sample j, over 16: in from 0, out to 0. -/
def AStream.ramp (x : AStream) (v : Int) (j : Nat) : Int :=
  let v := if x.rampIn then rnd (v * j) 16 else v
  if x.rampOut then rnd (v * ((16 : Int) - j)) 16 else v

/-- The sample of a stream at the tick j of a block. -/
def Dev.streamTick (d : Dev) (j s : Nat) : Dev :=
  let x := d.stream s
  let v := x.play.getD j 0
  let g := x.gain.step (d.r (d.stPage s) F.ST_GAIN_GAIN s) v
  d.setStream s { x with gain := g, out := x.ramp (scaleBy v g.now 32768) j }

/-! ### The Tumbler program (R400 to R403) -/

def Dev.tumBank (d : Dev) (b : Nat) : Bank := if b = 0 then d.aud.bank0 else d.aud.bank1
def Dev.setBank (d : Dev) (b : Nat) (x : Bank) : Dev :=
  { d with aud := if b = 0 then { d.aud with bank0 := x } else { d.aud with bank1 := x } }

def tumReg (x : Bank) (i : Nat) : Int := tabGet x.regs 0 i

/-- One operation: the bank, the live gains, the outputs. -/
structure TumSt where
  bank : Bank
  live : Tab GainSt
  outs : Tab Int := []
  deriving DecidableEq, Repr

def Dev.tumOp (d : Dev) (t : TumSt) (o : TumOp) : TumSt :=
  let x := t.bank
  let a := tumReg x o.a
  let b := tumReg x o.b
  let c := x.coef.getD o.k 0
  let put := fun (v : Int) => { t with bank := { x with regs := tabPut x.regs 0 o.d v } }
  match o.op with
  | 1 => put (d.stream o.k).out
  | 2 => put (sat32 (a + b))
  | 3 => put (sat32 (a - b))
  | 4 => put (scaleBy a c (2 ^ 28))
  | 5 => put (sat32 (b + scaleBy a c (2 ^ 28)))
  | 6 => put (scaleBy a b (2 ^ 23))
  | 7 =>
    let g := (tabGet t.live {} o.k).step (d.r aePid F.AE_LG_GAIN o.k) a
    { put (scaleBy a g.now 32768) with live := tabPut t.live {} o.k g }
  | 8 =>
    let q := x.biq.getD o.k []
    let (x1, x2, y1, y2) := tabGet x.bst (0, 0, 0, 0) o.k
    let m := fun i v => scaleBy v (q.getD i 0) (2 ^ 28)
    let y := sat32 (sat32 (sat32 (sat32 (m 0 a + m 1 x1) + m 2 x2) - m 3 y1) - m 4 y2)
    { t with bank := { x with regs := tabPut x.regs 0 o.d y, bst := tabPut x.bst (0, 0, 0, 0) o.k (a, x1, y, y1) } }
  | 9 =>
    let key := fun n => 32768 * o.k + n % 16385
    let len := x.dly.getD o.k 1
    let mem := tabPut x.mem 0 (key x.tick) a
    { t with bank := { x with mem := mem, regs := tabPut x.regs 0 o.d (tabGet mem 0 (key (x.tick + 16385 - len))) } }
  | 10 =>
    let m := rnd (2 ^ 23 * (c.natAbs : Int)) (2 ^ 28)
    put (clampI (-m) m a)
  | 11 => { t with outs := tabPut t.outs 0 o.k a }
  | _ => t

/-- A bank at a tick: the bank after it, the live gains, and its 64 outputs. -/
def Dev.tumRun (d : Dev) (x : Bank) (live : Tab GainSt) : TumSt :=
  let t := x.ops.foldl d.tumOp { bank := x, live := live }
  { t with bank := { t.bank with tick := x.tick + 1 } }

/-- Clear a bank's registers, biquad states and delay memory. -/
def Bank.clear (x : Bank) : Bank := { x with regs := [], bst := [], mem := [], tick := 0 }

def Dev.activeBank (d : Dev) : Nat := d.r aePid F.TP_BANK_ACTIVE
def Dev.idleBank (d : Dev) : Nat := 1 - d.activeBank
def Dev.bankValid (d : Dev) (b : Nat) : Bool := bit (d.r aePid F.TP_BANK_VALID) b
def Dev.setValid (d : Dev) (b : Nat) (v : Bool) : Dev :=
  d.w aePid F.TP_BANK_VALID (setBits (d.r aePid F.TP_BANK_VALID) b 1 (b2n v))
def Dev.fading (d : Dev) : Bool := d.on aePid F.TP_BANK_XFADE

/-- The program outputs of this tick, mixed during a crossfade (R403), and the device after it. -/
def Dev.programs (d : Dev) : Dev × List Int :=
  let act := d.activeBank
  let run := fun b (live : Tab GainSt) => if d.bankValid b then d.tumRun (d.tumBank b) live
    else { bank := d.tumBank b, live := live }
  let t := run act d.aud.live
  let outs := (upFrom 0 64).map (fun j => tabGet t.outs 0 j)
  let ops := if d.bankValid act then t.bank.ops.length else 0
  if d.fading then
    let u := run d.idleBank t.live
    let n : Int := min d.aud.fade 128
    let mix := (upFrom 0 64).map (fun j =>
      sat32 (rnd (tabGet t.outs 0 j * (128 - n) + tabGet u.outs 0 j * n) 128))
    let d1 := ((d.setBank act t.bank).setBank d.idleBank u.bank).w aePid F.AE_STAT_OPS (ops + u.bank.ops.length)
    ({ d1 with aud := { d1.aud with live := u.live, fade := d.aud.fade + 1 } }, mix)
  else
    let d1 := (d.setBank act t.bank).w aePid F.AE_STAT_OPS ops
    ({ d1 with aud := { d1.aud with live := t.live } }, outs)

/-- The 128th tick of the crossfade has come: the incoming bank is active. -/
def Dev.fadeEnd (d : Dev) : Dev :=
  if d.fading && decide (128 ≤ d.aud.fade) then
    (({ d with aud := { d.aud with fade := 0 } }).w aePid F.TP_BANK_ACTIVE d.idleBank).w aePid F.TP_BANK_XFADE 0
  else d

/-- A SWAP is accepted, and a GO (R403). -/
def Dev.swapOk (d : Dev) : Bool := !d.fading && d.bankValid d.idleBank && d.aud.load.isNone
def Dev.tumGoOk (d : Dev) : Bool := !d.fading && d.aud.load.isNone
def Dev.swapGo (d : Dev) : Dev := { d with aud := { d.aud with swap := true } }

/-- A waiting SWAP at a block boundary: the incoming bank's state is cleared and both banks run. -/
def Dev.swapBoundary (d : Dev) : Dev :=
  if !d.aud.swap then d
  else
    let b := d.idleBank
    let d := { d with aud := { d.aud with swap := false } }
    if d.bankValid b && !d.fading then
      let d := d.setBank b (d.tumBank b).clear
      ({ d with aud := { d.aud with fade := 0 } }).w aePid F.TP_BANK_XFADE 1
    else d

/-- The sections of an image. -/
def imgNum (bs : List Nat) (o n : Nat) : Nat := ofBytesLE ((bs.drop o).take n)
def imgSizes (bs : List Nat) : Nat × Nat × Nat × Nat := (imgNum bs 6 2, imgNum bs 8 2, imgNum bs 10 2, imgNum bs 12 2)
def imgLength (n : Nat × Nat × Nat × Nat) : Nat := 64 + 8 * n.1 + 4 * n.2.1 + 20 * n.2.2.1 + 4 * n.2.2.2

def imgBank (bs : List Nat) : Bank :=
  let n := imgSizes bs
  let c := 64 + 8 * n.1
  let q := c + 4 * n.2.1
  let l := q + 20 * n.2.2.1
  { ops := (upFrom 0 n.1).map (fun i =>
      let w := imgNum bs (64 + 8 * i) 8
      { op := bits w 0 8, d := bits w 8 10, a := bits w 18 10, b := bits w 28 10, k := bits w 38 12 }),
    coef := (upFrom 0 n.2.1).map (fun i => sx 32 (imgNum bs (c + 4 * i) 4)),
    biq := (upFrom 0 n.2.2.1).map (fun i => (upFrom 0 5).map (fun j => sx 32 (imgNum bs (q + 20 * i + 4 * j) 4))),
    dly := (upFrom 0 n.2.2.2).map (fun i => imgNum bs (l + 4 * i) 4) }

/-- An operation's K is in range for its OP (R401, R402). -/
def opOk (n : Nat × Nat × Nat × Nat) (o : TumOp) : Bool :=
  decide (o.op ≤ 11) &&
  (match o.op with
   | 1 => decide (o.k ≤ 95)
   | 4 | 5 | 10 => decide (o.k < n.2.1)
   | 7 => decide (o.k ≤ 31)
   | 8 => decide (o.k < n.2.2.1)
   | 9 => decide (o.k < n.2.2.2)
   | 11 => decide (o.k ≤ 63)
   | _ => true)

/-- The RESULT of an image of `len` bytes (R402). -/
def imgResult (bs : List Nat) (len : Nat) : Nat :=
  let n := imgSizes bs
  let x := imgBank bs
  if !(imgNum bs 0 4 == 0x41584249) || !(imgNum bs 4 2 == 1) || n.1 == 0 || decide (2048 < n.1) || decide (1024 < n.2.1) ||
      decide (256 < n.2.2.1) || decide (64 < n.2.2.2) || !(((bs.drop 14).take 46).all (· == 0)) ||
      !(len == imgLength n) || !(crc32c (bs.drop 64) == imgNum bs 60 4) ||
      (upFrom 0 n.1).any (fun i => !(imgNum bs (64 + 8 * i) 8 / 2 ^ 50 == 0)) || x.dly.any (· == 0) then 1
  else if !(x.ops.all (opOk n)) then 2
  else if 16384 < x.dly.foldl (· + ·) 0 then 3
  else 0

/-- Put an image that has passed its checks into a bank. -/
def Dev.bankLoad (d : Dev) (b : Nat) (bs : List Nat) : Dev := (d.setBank b (imgBank bs)).setValid b true

/-- A GO on `TP_LD_CTRL`: the idle bank's VALID becomes 0. -/
def Dev.tumGo (d : Dev) (bytes : Nat) : Dev :=
  let b := d.idleBank
  let a := d.r aePid F.TP_LD_LO_ADDR * 64 + 2 ^ 32 * d.r aePid F.TP_LD_HI_ADDR
  (({ d with aud := { d.aud with load := some (b, a, bytes) } }).setValid b false).w aePid F.TP_LD_STAT_BUSY 1

/-- A program load ends. -/
def Dev.tumEnd (d : Dev) (readError : Bool) : Dev :=
  match d.aud.load with
  | none => d
  | some (b, a, n) =>
    let d := { d with aud := { d.aud with load := none } }
    let (c, m) := d.ownerRegion codeOpen
    let done := fun (d : Dev) r =>
      let d := (d.w aePid F.TP_LD_STAT_BUSY 0).w aePid F.TP_LD_STAT_RESULT r
      if r = 0 then d else d.err aePid 10
    if 25920 < n then done d 1
    else if m < a + n ∨ readError then done d 4
    else match d.mcRead 0 (c + a) n with
      | (d, _, false) => done d 4
      | (d, bs, true) =>
        let r := imgResult bs n
        if r = 0 then done (d.bankLoad b bs) 0 else done d r

/-! ### Bolt tones (R407 to R409) -/

def Dev.tone (d : Dev) (t : Nat) : Option Tone := tabGet d.aud.tones none t

def Dev.toneShow (d : Dev) : Dev :=
  d.w64 tnPid F.TN_VALID_LO_MASK F.TN_VALID_HI_MASK
    ((upFrom 0 64).foldl (fun m t => if (d.tone t).isSome then m + 2 ^ t else m) 0)

def Dev.setTone (d : Dev) (t : Nat) (x : Option Tone) : Dev :=
  ({ d with aud := { d.aud with tones := tabPut d.aud.tones none t x } }).toneShow

def Dev.speaker (d : Dev) (k : Nat) : Spk := tabGet d.aud.spk {} k
def Dev.setSpk (d : Dev) (k : Nat) (x : Spk) : Dev := { d with aud := { d.aud with spk := tabPut d.aud.spk {} k x } }

/-- The tone plays on a speaker. -/
def Dev.tonePlays (d : Dev) (t : Nat) : Bool :=
  (upFrom 0 8).any (fun k => (d.speaker k).tone.isSome && (d.speaker k).toneId == t)

def Dev.poolSamples (d : Dev) (a : Nat) : List Nat → Dev
  | lo :: hi :: r => { d with aud := { d.aud with pool := tabPut d.aud.pool 0 a (lo + 256 * hi) } }.poolSamples (a + 1) r
  | _ => d

def tonePool : Nat := 153056

/-- A GO whose LENGTH is above the limit of a Bolt tone (R19). -/
def toneLong (v : Nat) : Bool := decide (2400 < 16 * bits v 24 8)

/-- A GO on `TN_LD_CTRL`: the tone is not resident until the load has ended. -/
def Dev.toneGo (d : Dev) (tone level len16 : Nat) : Dev :=
  let a := d.r tnPid F.TN_LD_LO_ADDR * 64 + 2 ^ 32 * d.r tnPid F.TN_LD_HI_ADDR
  let l := (tone, level, 16 * len16, d.r tnPid F.TN_LD_GEOM_OFFSET, a)
  (({ d with aud := { d.aud with toneLoad := some l } }).setTone tone none).w tnPid F.TN_LD_STAT_BUSY 1

/-- The tone load ends with its RESULT. -/
def Dev.toneEnd (d : Dev) (readError : Bool) : Dev :=
  match d.aud.toneLoad with
  | none => d
  | some (t, level, len, off, a) =>
    let d := { d with aud := { d.aud with toneLoad := none } }
    let done := fun (d : Dev) r =>
      let d := (d.w tnPid F.TN_LD_STAT_BUSY 0).w tnPid F.TN_LD_STAT_RESULT r
      if r = 0 then d else d.err tnPid 11
    if len = 0 ∨ 2400 < len ∨ tonePool < off + len then done d 1
    else if (upFrom 0 64).any (fun u => !(u == t) && (match d.tone u with
        | some x => overlap off len x.offset x.length
        | none => false)) then done d 2
    else match d.loadBytes codeWard 0 0 a (2 * len) with
      | (d, bs, ok) =>
        if !ok || readError then done d 4
        else done ((d.poolSamples off bs).setTone t (some { offset := off, length := len, level := level })) 0

/-- An entry of section 0x0008: OFFSET, LENGTH, TONE, LEVEL, and whether the rest of it is 0. -/
def toneEntry (bs : List Nat) (i : Nat) : Nat × Nat × Nat × Nat × Bool :=
  let e := (bs.drop (64 + 16 * i)).take 16
  (ofBytesLE (e.take 4), ofBytesLE ((e.drop 4).take 2), e.getD 6 0, e.getD 7 0, (e.drop 8).all (· == 0))

/-- Ward firmware accepts section 0x0008 (R407). -/
def toneSectionOk (bs : List Nat) : Bool :=
  let n := imgNum bs 4 2
  let m := imgNum bs 8 4
  let es := (upFrom 0 n).map (toneEntry bs)
  let idx := (upFrom 0 n).zip es
  imgNum bs 0 4 == 0x4F584249 && decide (1 ≤ n) && decide (n ≤ 64) && decide (1 ≤ m) && decide (m ≤ tonePool) &&
  (bs.drop 6).take 2 == [0, 0] && ((bs.take 64).drop 12).all (· == 0) && decide (64 + 16 * n + 2 * m ≤ bs.length) &&
  es.all (fun e => decide (1 ≤ e.2.1) && decide (e.2.1 ≤ 2400) && decide (e.1 + e.2.1 ≤ m) && decide (e.2.2.1 < 64) &&
    e.2.2.2.2) &&
  idx.all (fun a => idx.all (fun b => a.1 == b.1 ||
    (!(a.2.2.2.1 == b.2.2.2.1) && !overlap a.2.1 a.2.2.1 b.2.1 b.2.2.1)))

def Dev.toneSection (d : Dev) (bs : List Nat) : Dev :=
  let n := imgNum bs 4 2
  let d := d.poolSamples 0 ((bs.drop (64 + 16 * n)).take (2 * imgNum bs 8 4))
  forAll (upFrom 0 n) (fun i d =>
    let (o, l, t, v, _) := toneEntry bs i
    d.setTone t (some { offset := o, length := l, level := v })) d

def Dev.duckReg (d : Dev) (k : Nat) : Nat :=
  bits (d.r tnPid F.TN_DUCK_DUCK0 + 16 * d.r tnPid F.TN_DUCK_DUCK1 + 256 * d.r tnPid F.TN_DUCK_DUCK2 +
    4096 * d.r tnPid F.TN_DUCK_DUCK3 + 65536 * d.r tnPid F.TN_DUCK_DUCK4 + 1048576 * d.r tnPid F.TN_DUCK_DUCK5 +
    16777216 * d.r tnPid F.TN_DUCK_DUCK6 + 268435456 * d.r tnPid F.TN_DUCK_DUCK7) (4 * k) 4

/-- A trigger that reaches the engine (R408), of a touch port or of the ward world; a ward trigger for a speaker that
plays a tone is refused before. During a ward restart it is suppressed (R154). -/
def Dev.toneTrig (d : Dev) (k t : Nat) (touch : Option Nat) : Dev :=
  if d.wardRestarting then d
  else match d.tone t with
  | some x =>
    if d.r (spPid k) F.SP_STAT_STATE = 2 ∧ d.sinkEn k then
      let s := d.speaker k
      let s := { s with tone := some (x, 0), toneId := t, duck := d.duckReg k, since := some (d.now, touch) }
      ((d.setSpk k s).add tnPid F.TN_COUNT_STARTS).w (spPid k) F.SP_STAT_TONE 1
    else (d.addSat tnPid F.TN_LOST_FAULTED).err tnPid 10
  | none => (d.addSat tnPid F.TN_LOST_FAULTED).err tnPid 10

/-- The touch port's tone trigger arrives. -/
def Dev.touchTone (d : Dev) (t : Nat) : Dev :=
  match d.takeTrig t (fun e => match e with | .tone .. => true | _ => false) with
  | (some (.tone n k, _), d) => d.toneTrig k n (some t)
  | (_, d) => d

/-- The tone's sample at this tick, scaled by its LEVEL. -/
def Dev.toneSample (d : Dev) (x : Tone) (i : Nat) : Int :=
  scaleBy (256 * sx 16 (tabGet d.aud.pool 0 (x.offset + i))) (if x.level = 0 then 255 else x.level) 255

/-- The ducking factor in units of 2 ^ −60 at step n of 16. -/
def duckFactor (duck n : Nat) : Nat :=
  let f := if duck = 15 then 0 else tenDown (12 * duck)
  2 ^ 60 - (2 ^ 60 - f) * min n 16 / 16

/-! ### Sink channels (R404 to R406) -/

def Dev.sinkCh (d : Dev) (c : Nat) : SinkCh := tabGet d.aud.sinks {} c
def Dev.setSink (d : Dev) (c : Nat) (x : SinkCh) : Dev := { d with aud := { d.aud with sinks := tabPut d.aud.sinks {} c x } }

/-- The 40 sink channels. -/
def sinkChannels : List Nat := (upFrom 0 8).map (8 * ·) ++ upFrom 64 32

/-- A source may be written to a sink (R405). -/
def Dev.sourceOk (d : Dev) (k src : Nat) : Bool :=
  decide (src ≤ 160) && (decide (src ≤ 64) || d.stOwner (src - 65) == d.sinkOwner k)

/-- A source write is accepted (R404). -/
def Dev.sourceWrite (d : Dev) (c src : Nat) : Dev :=
  let x := d.sinkCh c
  match x.ramp with
  | 0 => d.setSink c { x with due := some src }
  | 1 => d.setSink c { x with target := src }
  | _ => d.setSink c { x with held := some src }

/-- At a block boundary a waiting source write starts its ramp. -/
def Dev.sourceBoundary (d : Dev) (c : Nat) : Dev :=
  let x := d.sinkCh c
  match x.due with
  | some s => d.setSink c { x with due := none, ramp := 1, n := 0, target := s }
  | none => d

/-- After 64 ticks out, the switch; after 64 ticks in, the end (R404). -/
def Dev.routeSwitch (d : Dev) (c : Nat) : Dev :=
  let x := d.sinkCh c
  if x.ramp = 1 ∧ 64 ≤ x.n then d.setSink c { x with src := x.target, ramp := 2, n := 0 } else d

def Dev.routeEnd (d : Dev) (c : Nat) : Dev :=
  let x := d.sinkCh c
  if x.ramp = 2 ∧ 64 ≤ x.n then
    match x.held with
    | some s => d.setSink c { x with ramp := 1, n := 0, target := s, held := none }
    | none => d.setSink c { x with ramp := 0, n := 0 }
  else d

def Dev.sinkGain (d : Dev) (c : Nat) : Dev := let x := d.sinkCh c; d.setSink c { x with gain := x.gain.write }

/-- The limiter (R406): its gain after a sum, the output, and whether the clamp changed it. -/
def limit (en : Bool) (th rel g : Nat) (s : Int) : Nat × Int × Bool :=
  let t := 2 ^ 23 * tenDown th
  let g := if !en then 2 ^ 60
    else if t < s.natAbs * g then t / s.natAbs
    else min (2 ^ 60) (g * tenUp (max 1 rel) / 2 ^ 60)
  let o := rnd (s * g) (2 ^ 60)
  let c := clampI (-(2 ^ 23)) (2 ^ 23 - 1) o
  (g, c, !(c == o))

/-- The multiplexer output of a channel at this tick: the source, the gain, the route ramp. -/
def Dev.muxTick (d : Dev) (c : Nat) (prog : List Int) : Dev × Int :=
  let x := d.sinkCh c
  let raw := if x.src = 0 then 0 else if x.src ≤ 64 then prog.getD (x.src - 1) 0 else (d.stream (x.src - 65)).out
  let g := x.gain.step (d.r (skPid (c / 8)) F.SK_SRC_GAIN (c % 8)) raw
  let v := scaleBy raw g.now 32768
  let n : Int := min x.n 64
  let v := match x.ramp with
    | 1 => rnd (v * (64 - n)) 64
    | 2 => rnd (v * n) 64
    | _ => v
  (d.setSink c { x with gain := g, n := if x.ramp = 0 then 0 else x.n + 1 }, v)

/-- The tone of a speaker at this tick: its ducked multiplexer output with the tone added (R408). `delay` is the time from
the tick to the stage's output, for path 4 of R13. -/
def Dev.toneTick (d : Dev) (k delay : Nat) (v : Int) : Dev × Int :=
  let s := d.speaker k
  match s.tone with
  | none =>
    let f := duckFactor s.duck s.duckN
    (if s.duckN = 0 then d else d.setSpk k { s with duckN := s.duckN - 1 }, scaleBy v f (2 ^ 60))
  | some (x, i) =>
    let f := duckFactor s.duck s.duckN
    let out := sat32 (scaleBy v f (2 ^ 60) + d.toneSample x i)
    let d := match s.since with
      | some (t, touch) => d.measure 4 (d.now - t + delay) 250000 (spPid k) (d.boltHolds (tonePath touch k))
      | none => d
    let done := decide (x.length ≤ i + 1)
    let d := d.setSpk k { s with tone := if done then none else some (x, i + 1), since := none, duckN := min 16 (s.duckN + 1) }
    (if done then d.w (spPid k) F.SP_STAT_TONE 0 else d, out)

/-- A speaker stage's output in µV: its gain ramp up in RAMP, down after EN is cleared (R410). -/
def Dev.stageTick (d : Dev) (k : Nat) (o : Int) : Dev :=
  let p := spPid k
  let s := d.speaker k
  let v := (o * d.r p F.SP_CFG_VFS * 100000).tdiv (2 ^ 23)
  match d.r p F.SP_STAT_STATE with
  | 1 => (d.setSpk k { s with up := s.up + 1 }).emit (.drive (16 + k) ((v * (min s.up 480 : Nat)).tdiv 480))
  | 2 => d.emit (.drive (16 + k) v)
  | _ => if s.fall = 0 then d
    else (d.setSpk k { s with fall := s.fall - 1 }).emit (.drive (16 + k) ((v * (s.fall : Int)).tdiv 48))

/-- One sink channel at a tick: multiplexer, tone, limiter. -/
def Dev.channelTick (d : Dev) (prog : List Int) (delay c : Nat) : Dev × Int :=
  let p := skPid (c / 8)
  let i := c % 8
  match d.muxTick c prog with
  | (d, v) =>
    match (if c < 64 then d.toneTick (c / 8) delay v else (d, v)) with
    | (d, s) =>
      let x := d.sinkCh c
      let (g, o, clip) := limit (d.on p F.SK_LIM_LIM_EN i) (d.r p F.SK_LIM_TH i) (d.r p F.SK_LIM_REL i) x.lim s
      let d := d.setSink c { x with lim := g }
      let d := if g < 2 ^ 60 then d.addSat p F.SK_STAT_LIMITED 1 i else d
      (if clip then d.addSat p F.SK_STAT_CLIPS 1 i else d, o)

/-- The frame of a TDM port (R412): its DELAY, and eight slots; one in high impedance is written 2 ^ 32. -/
def Dev.tdmFrame (d : Dev) (k : Nat) (outs : List Int) : List Nat :=
  let p := skPid k
  d.r p F.TDM_CFG_DELAY :: (upFrom 0 8).map (fun c =>
    if bit (d.r p F.TDM_CFG_SLOTS) c then 256 * ux 24 (outs.getD c 0) else if d.on p F.TDM_CFG_HIZ then 2 ^ 32 else 0)

/-- The outputs of a tick: speaker stages, then TDM ports. -/
def Dev.sinkTick (d : Dev) (prog : List Int) (delay k : Nat) : Dev :=
  if k < 8 then
    match d.channelTick prog delay (8 * k) with
    | (d, o) => d.stageTick k o
  else
    match (upFrom 0 8).foldl (fun (s : Dev × List Int) c =>
        let (d, o) := s.1.channelTick prog delay (8 * k + c)
        (d, s.2 ++ [o])) (d, []) with
    | (d, os) => if d.on (skPid k) F.TDM_CFG_EN then d.emit (.event 412 (k :: d.tdmFrame k os)) else d

/-- The engine runs in S0 and S1 only (R392). -/
def Dev.audioRuns (d : Dev) : Bool := decide (d.r 0x390 F.PM_STAT_STATE ≤ 1)

/-- One 48 kHz tick (R392 to R406). -/
def Dev.audioTick (d : Dev) (delay : Nat) : Dev :=
  if !d.audioRuns then d
  else
    let j := d.aud.tick % 16
    let d := forAll (upFrom 0 96) (fun s d => d.streamTick j s) d
    match d.programs with
    | (d, outs) =>
      let prog := d.aud.delayed.getD 15 []
      let d := { d with aud := { d.aud with delayed := (outs :: d.aud.delayed).take 16 } }
      let d := forAll (upFrom 0 12) (fun k d => d.sinkTick prog delay k) d
      { d with aud := { d.aud with tick := d.aud.tick + 1, blockDue := (d.aud.tick + 1) % 16 == 0 } }

/-- A block boundary (R396, R403, R404). -/
def Dev.audioBoundary (d : Dev) : Dev :=
  if !d.aud.blockDue || !d.audioRuns then d
  else
    let d := { d with aud := { d.aud with blockDue := false } }
    let d := forAll (upFrom 0 96) (fun s d =>
      if d.stState s = 0 then
        let x := d.stream s
        if x.play.isEmpty && x.hand.isNone then d else d.setStream s (x.advance true)
      else match (d.stream s).pace with
        | some k => d.pacedBoundary s k
        | none => d.freeBoundary s) d
    let d := d.w aePid F.AE_STAT_PLAYING ((upFrom 0 96).filter (fun s => d.stState s == 2)).length
    forAll sinkChannels (fun c d => d.sourceBoundary c) d.swapBoundary

/-! ### Owners (R399, R405, R414) -/

/-- The check of the engine page's set. -/
def Dev.ownersCheck (d : Dev) (snap : List (Nat × Nat)) : Option Nat :=
  let cs := ((upFrom 0 96).map (fun s => snapGet snap aePid F.AE_SOWN_OWNER s)).filter (fun c => !bit c 15)
  if cs.any (fun c => c % 4 == 0) then some 3
  else if cs.any (fun c => c % 4 == 3 && (decide (d.nVis ≤ c / 16 % 64) || !(d.viPort (c / 16 % 64) == c / 4 % 4))) then some 7
  else none

/-- The engine page's set applies: a stream whose owner changes is reset with the old owner, and a channel whose source it is
is switched to silence. -/
def Dev.ownersApply (d : Dev) (apply : Dev → Dev) : Dev :=
  let old := d.stOwner
  let d1 := apply d
  let ch := (upFrom 0 96).filter (fun s => !(old s == d1.stOwner s))
  let gone := forAll ch (fun s d => d.streamGone s) d
  let d2 := apply gone
  forAll sinkChannels (fun c d =>
    if ch.any (fun s => d.r (skPid (c / 8)) F.SK_SRC_SRC (c % 8) == 65 + s) then
      (d.sourceWrite c 0).w (skPid (c / 8)) F.SK_SRC_SRC 0 (c % 8) else d) d2

/-! ### Speaker stages (R410, R411) -/

def Dev.stageState (d : Dev) (k : Nat) : Nat := d.r (spPid k) F.SP_STAT_STATE

def Dev.stageRamp (d : Dev) (k : Nat) : Dev :=
  (d.setSpk k { d.speaker k with up := 0, fall := 0, latched := false, rampAt := d.now }).w (spPid k) F.SP_STAT_STATE 1

/-- The tone of a stage that leaves RAMP or RUN ends. -/
def Dev.stageSilent (d : Dev) (k : Nat) (fall : Nat) : Dev :=
  (d.setSpk k { d.speaker k with tone := none, fall := fall, since := none }).w (spPid k) F.SP_STAT_TONE 0

def Dev.stageDisable (d : Dev) (k : Nat) : Dev :=
  let st := d.stageState k
  if st = 0 then d
  else (d.stageSilent k (if st = 3 then 0 else 48)).w (spPid k) F.SP_STAT_STATE 0

/-- 10 ms after its start the ramp ends. -/
def Dev.stageRampEnd (d : Dev) (k : Nat) : Dev :=
  if d.stageState k = 1 ∧ (d.speaker k).rampAt + 10000000 ≤ d.now then d.w (spPid k) F.SP_STAT_STATE 2 else d

/-- S2 or deeper, or a reset: the bridge is off at once. -/
def Dev.stageOff (d : Dev) (k : Nat) : Dev :=
  if d.stageState k = 0 then d else (d.stageSilent k 0).w (spPid k) F.SP_STAT_STATE 0

/-- A fault of R411. A SUPPLY fault is opened once for all by its caller. -/
def Dev.stageFault (d : Dev) (k code : Nat) : Dev :=
  let st := d.stageState k
  if !(st == 1 || st == 2) then d
  else
    let p := spPid k
    let latched := code == 1 || code == 2
    let d := (d.stageSilent k 0).w p F.SP_STAT_STATE 3
    let d := (d.setSpk k { d.speaker k with latched := latched }).emit (.drive (16 + k) 0)
    let d := (d.w p F.SP_STAT_FAULT code).err p 10
    let d := match code with
      | 1 => d.addSat p F.SP_FAULTS_SHORT
      | 2 => d.addSat p F.SP_FAULTS_DC
      | 3 => d.addSat p F.SP_FAULTS_OVERTEMP
      | _ => d.addSat p F.SP_FAULTS_SUPPLY
    if code = 4 then d else d.openFault 4 1 p (k + 256 * code) latched

/-- A stage starts: it ramps up, and meets the SUPPLY fault at once where VHAP is out of range. -/
def Dev.stageStart (d : Dev) (k : Nat) : Dev :=
  if d.hap.supplyOut then (d.stageRamp k).stageFault k 4 else d.stageRamp k

/-- EN is set. -/
def Dev.stageEnable (d : Dev) (k : Nat) : Dev :=
  if d.stageState k = 0 ∧ d.audioRuns ∧ d.sinkEn k then d.stageStart k else d

/-- A recovery of R411: the fault is cleared, and an enabled stage ramps up. -/
def Dev.stageRecover (d : Dev) (k : Nat) : Dev :=
  let p := spPid k
  let d := ((d.setSpk k { d.speaker k with latched := false }).w p F.SP_STAT_FAULT 0).closeCause 4 p
  if d.on p F.SP_CTRL_EN ∧ d.audioRuns ∧ d.sinkEn k then d.stageStart k else d.w p F.SP_STAT_STATE 0

def Dev.stageClear (d : Dev) (k : Nat) : Dev :=
  if d.stageState k = 3 && (d.speaker k).latched then d.stageRecover k else d

/-! ### The bridges together (R388, R411) -/

/-- A bridge junction above 150 °C, and below 130 °C again: units 0 to 7 are haptic channels, 8 to 15 speaker stages. -/
def Dev.bridgeHot (d : Dev) (u : Nat) : Dev := if u < 8 then d.hapFault u 4 else d.stageFault (u - 8) 3
def Dev.bridgeCool (d : Dev) (u : Nat) : Dev :=
  if u < 8 then d.hapRecover u 4
  else if d.stageState (u - 8) = 3 ∧ d.r (spPid (u - 8)) F.SP_STAT_FAULT = 3 then d.stageRecover (u - 8) else d

/-- VHAP leaves 9.5 to 14.5 V: every bridge is off, with one region fault on the drive supervision unit. -/
def Dev.vhapOut (d : Dev) (mv : Nat) : Dev :=
  let d := d.showVhap mv
  if d.hap.supplyOut || (decide (9500 ≤ mv) && decide (mv ≤ 14500)) then d
  else
    let d := { d with hap := { d.hap with supplyOut := true } }
    let d := d.openFault 3 3 supPid (256 * 5)
    forAll (upFrom 0 8) (fun k d => (d.hapFault k 5).stageFault k 4) d

/-- VHAP has been back in range for 10 ms. -/
def Dev.vhapBack (d : Dev) (mv : Nat) : Dev :=
  let d := d.showVhap mv
  if !d.hap.supplyOut || mv < 9500 || 14500 < mv then d
  else
    let d := { d with hap := { d.hap with supplyOut := false } }
    let d := (d.flt.faults.filter (fun f => f.cause == 3 && f.pid == supPid)).foldl (fun d f => d.closeFault f) d
    forAll (upFrom 0 8) (fun k d =>
      let d := d.hapRecover k 5
      if d.stageState k = 3 ∧ d.r (spPid k) F.SP_STAT_FAULT = 4 then d.stageRecover k else d) d

/-! ### Sleep and reset -/

/-- Entry to S2 or deeper (R392): every stream stops as if EN were cleared, and every stage goes OFF. -/
def Dev.audioSleep (d : Dev) : Dev :=
  let d := forAll (upFrom 0 96) (fun s d =>
    if d.stState s = 0 then d
    else (d.setStream s { (d.stream s).advance true with pace := none }).w (d.stPage s) F.ST_STAT_STATE 0 s) d
  forAll (upFrom 0 8) (fun k d => d.stageOff k) d

/-- The engine's region is reset (R479): banks and tones lose VALID; what its pages do not hold goes. -/
def Dev.audioGone (d : Dev) : Dev := { d with aud := {} }

end Sys2Proof.Machine
end

