-- ==== Sys2Proof/Machine/Ring.lean ====
section
/-! DEFINITION. The Tabyr Ring: its ports, frames, forwarding and acceptance, emergency frames, time synchronisation, the
by-pass hold, and the transmit and receive registers (R460 to R467). -/

namespace Sys2Proof.Machine

open Sys2Proof

def rgPid : Nat := 0x410

def Dev.port (d : Dev) (p : Nat) : RingPort := if p = 0 then d.ring.port0 else d.ring.port1
def Dev.setPort (d : Dev) (p : Nat) (x : RingPort) : Dev :=
  if p = 0 then { d with ring := { d.ring with port0 := x } } else { d with ring := { d.ring with port1 := x } }

def Dev.portState (d : Dev) (p : Nat) : Nat := d.r rgPid F.RP_STAT_STATE p
def Dev.held? (d : Dev) : Bool := d.on rgPid F.RB_STAT_HOLD
def Dev.node (d : Dev) : Nat := d.r rgPid F.RB_CTRL_NODE

/-- This node is the time master: TMASTER says so, and TNODE names it. DEDUCED (log 96). -/
def Dev.timeMaster (d : Dev) : Bool := d.on rgPid F.RB_CTRL_TMASTER && d.r rgPid F.RB_CTRL_TNODE == d.node

/-! ### Frames (R461, R462) -/

/-- Bytes of a frame replaced from an offset on. -/
def putBytes (f : List Nat) (off : Nat) (bs : List Nat) : List Nat := f.take off ++ bs ++ f.drop (off + bs.length)

def frType (f : List Nat) : Nat := le f 0 1 % 16

/-- The 32 bytes of a key slot. -/
def Dev.ringKey (d : Dev) (s : Nat) : List Nat := (upFrom (8 * s) 8).flatMap (fun k => bytesLE 4 (d.r rgPid F.RB_KEY_KEY k))

/-- The MAC of a frame under its key slot: CORR counts as 0 in a TIME frame. -/
def Dev.frMac (d : Dev) (f : List Nat) : List Nat :=
  let f' := if frType f = 2 then putBytes f 14 [0, 0, 0, 0] else f
  (hmac384 (d.ringKey (bits (le f 0 1) 4 1)) (f'.take 3 ++ (f'.drop 4).take 16)).take 8

/-- A frame with its CRC. -/
def frCrc (f : List Nat) : List Nat := putBytes f 28 (bytesLE 4 (crc32c (f.take 28)))

/-- The lowest key slot in use, the one that signs the frames the device makes itself (DESIGN CHOICE, log entry 113). -/
def Dev.ownSlot (d : Dev) : Nat := if bit (d.r rgPid F.RB_CTRL_KEYEN) 0 then 0 else if bit (d.r rgPid F.RB_CTRL_KEYEN) 1 then 1 else 0

/-- A frame of this node, without T, MAC and CRC, which it gets as it leaves. The counter of its TYPE advances. -/
def Dev.frMake (d : Dev) (slot type dst : Nat) (payload : List Nat) : List Nat × Dev :=
  let n := (tabGet d.ring.alive 0 type + 1) % 65536
  let f := [type + 16 * slot, d.node, dst, if type = 3 then 1 else 32] ++ bytesLE 2 n ++ takePad 0 14 payload ++
    List.replicate 12 0
  (f, { d with ring := { d.ring with alive := tabPut d.ring.alive 0 type n } })

/-! ### A port's line (R463) -/

/-- The output order: emergency frames, then TIME and LINK_DELAY, then the rest. -/
def frPrio (f : List Nat) : Nat := match frType f with
  | 4 | 5 => 0
  | 2 | 3 => 1
  | _ => 2

/-- The frame that leaves next: the first of the best class. -/
def frNext (l : List OutFrame) : Option OutFrame :=
  [0, 1, 2].findSome? (fun c => l.find? (fun o => frPrio o.bytes == c))

/-- What a frame becomes as its first byte leaves at a time: T of a TIME frame of this node, CORR of one forwarded, TURN
of a response (R465), then MAC and CRC. -/
def Dev.frLeave (d : Dev) (o : OutFrame) (t : Nat) : List Nat :=
  match o.follows with
  | none =>
    let f := if frType o.bytes = 2 then putBytes o.bytes 6 (bytesLE 8 t) else o.bytes
    frCrc (putBytes f 20 (d.frMac f))
  | some (arrived, p) =>
    if le o.bytes 1 1 = d.node then
      let f := putBytes o.bytes 8 (bytesLE 4 (t - arrived))
      frCrc (putBytes f 20 (d.frMac f))
    else if frType o.bytes = 2 then
      frCrc (putBytes o.bytes 14 (bytesLE 4 (le o.bytes 14 4 + (t - arrived) + d.r rgPid F.RP_DLY_NS p)))
    else frCrc o.bytes

/-- Start the next frame on an idle line. -/
def Dev.lineStart (d : Dev) (p t : Nat) : Dev :=
  let x := d.port p
  match x.line, frNext x.queue with
  | none, some o =>
    let f := d.frLeave o t
    let x := { x with line := some o, queue := x.queue.erase o,
                      asked := if frType f = 3 && o.follows.isNone then t else x.asked }
    (d.setPort p x).emit (.ringFrame p f)
  | _, _ => d

/-- Put a frame before a port; only a port that is UP sends. -/
def Dev.portSend (d : Dev) (p t : Nat) (o : OutFrame) : Dev :=
  if d.portState p = 2 then (d.setPort p { d.port p with queue := (d.port p).queue ++ [o] }).lineStart p t else d

def Dev.sendBoth (d : Dev) (o : OutFrame) : Dev := (d.portSend 0 d.now o).portSend 1 d.now o

/-- A port's frames that meet a condition. -/
def RingPort.has (x : RingPort) (f : OutFrame → Bool) : Bool :=
  x.queue.any f || (match x.line with | some o => f o | none => false)

/-- BUSY and the hold output follow the frames that wait or are on a line: BUSY while `RB_TX`'s has not left both ports,
and the hold falls once the ALERT of its release has left. -/
def Dev.ringShow (d : Dev) : Dev :=
  let waits := fun (f : OutFrame → Bool) => d.ring.port0.has f || d.ring.port1.has f
  d.w rgPid F.RB_TX_BUSY (b2n (waits (·.tx)))

/-- The hold output falls and both ports go DOWN with their transmitters off (R460, R466). -/
def Dev.holdFall (d : Dev) : Dev :=
  let d := { d with ring := { d.ring with port0 := { delays := d.ring.port0.delays },
                                          port1 := { delays := d.ring.port1.delays } } }
  (((d.w rgPid F.RB_STAT_HOLD 0).w rgPid F.RP_STAT_STATE 0 0).w rgPid F.RP_STAT_STATE 0 1).ringShow

def Dev.releasing (d : Dev) : Bool := d.ring.port0.has (·.release) || d.ring.port1.has (·.release)

/-- The frame on a port's line has left. -/
def Dev.frameSent (d : Dev) (p : Nat) : Dev :=
  match (d.port p).line with
  | none => d
  | some o =>
    let d := (d.setPort p { d.port p with line := none }).lineStart p d.now
    if o.release && !d.releasing then d.holdFall else d.ringShow

/-! ### The port state machine (R460) -/

/-- The hold has been asserted for 3 ms: the port transmits idle. -/
def Dev.portSeek (d : Dev) (p : Nat) : Dev :=
  if d.held? && d.portState p == 0 && decide (d.ring.holdAt + 3000000 ≤ d.now) then
    (d.w rgPid F.RP_STAT_STATE 1 p).emit (.event 460 [p])
  else d

def Dev.portUp (d : Dev) (p : Nat) : Dev := if d.portState p = 1 then d.w rgPid F.RP_STAT_STATE 2 p else d

/-- Code errors, or silence: back to SEEK; what waited there is gone. -/
def Dev.portDown (d : Dev) (p codeErrors : Nat) : Dev :=
  let d := d.addSat rgPid F.RP_ERR_CODE codeErrors p
  if d.portState p = 2 then
    let rel := d.releasing
    let d := (d.setPort p { delays := (d.port p).delays }).w rgPid F.RP_STAT_STATE 1 p |>.err rgPid 12
    if rel && !d.releasing then d.holdFall else d.ringShow
  else d

/-! ### The by-pass hold (R466) -/

/-- Send an ALERT on both ports. -/
def Dev.alert (d : Dev) (code : Nat) (release : Bool) : Dev :=
  let (f, d) := d.frMake d.ownSlot 6 0xFF [code]
  (d.sendBoth { bytes := f, release := release }).ringShow

/-- The hold is to be released: the ALERT is sent first, and the output falls once it has left, at once where no port can
send. -/
def Dev.holdRelease (d : Dev) (code : Nat) : Dev :=
  if d.held? then
    let d := d.alert code true
    if d.releasing then d else d.holdFall
  else d

/-- The hold is released by a fault, by power-good or by S4: HOLD reads 0. -/
def Dev.holdDrop (d : Dev) (code : Nat) : Dev := (d.holdRelease code).w rgPid F.RB_CTRL_HOLD 0

/-- A write of HOLD. A new 1 before a released output has fallen keeps it high. -/
def Dev.holdWrite (d : Dev) (on_ : Bool) : Dev :=
  if on_ then
    if d.ring.nodeSet then
      let keep := fun (x : RingPort) =>
        { x with queue := x.queue.map (fun o => { o with release := false }),
                 line := x.line.map (fun o => { o with release := false }) }
      let t := if d.held? then d.ring.holdAt else d.now
      { d with ring := { d.ring with port0 := keep d.ring.port0, port1 := keep d.ring.port1, holdAt := t } }.w rgPid
        F.RB_STAT_HOLD 1
    else d
  else if d.releasing then d else d.holdRelease 3

/-! ### Reception (R463) -/

/-- The ALIVE last accepted for a frame's SRC and TYPE. -/
def Dev.lastAlive (d : Dev) (f : List Nat) : Option Nat := tabFind d.ring.seen (16 * le f 1 1 + frType f)

/-- Forward a frame out of the other port. `resid` ns after its arrival at `t0` the first byte leaves an idle line. -/
def Dev.frForward (d : Dev) (p t0 resid : Nat) (f : List Nat) : Dev :=
  if d.held? && !(le f 1 1 == d.node) && decide (1 < le f 3 1) then
    let q := 1 - p
    let f' := putBytes f 3 [le f 3 1 - 1]
    (d.portSend q (t0 + resid) { bytes := f', follows := some (t0, p) }).add rgPid F.RP_FWD_COUNT 1 q
  else d

/-- The acceptance test: address, MAC under a slot in use, and a fresh ALIVE. A frame of this node itself is not accepted. -/
def Dev.frAccept (d : Dev) (p t0 : Nat) (f : List Nat) : Dev :=
  let ty := frType f
  let dst := le f 2 1
  if ty < 1 ∨ 7 < ty ∨ !(dst == 0xFF || dst == d.node) ∨ le f 1 1 = d.node then d
  else if !(bit (d.r rgPid F.RB_CTRL_KEYEN) (bits (le f 0 1) 4 1) && (f.drop 20).take 8 == d.frMac f) then
    (d.addSat rgPid F.RB_AUTH_FAIL).err rgPid 10
  else
    let prior := d.lastAlive f
    let n := le f 4 2
    if prior = some n then d
    else
      let a : InFrame := { port := p, arrived := t0, ended := d.now, bytes := f, prior := prior }
      { d with ring := { d.ring with seen := tabIns d.ring.seen (16 * le f 1 1 + ty) n,
                                     accepted := d.ring.accepted ++ [a] } }

/-- A frame has been received whose byte 0 arrived `since` ns ago: checked, forwarded, tested for acceptance. -/
def Dev.frReceive (d : Dev) (p : Nat) (bs : List Nat) (since resid : Nat) : Dev :=
  if d.portState p = 2 then
    let f := takePad 0 32 (bs.map (· % 256))
    if le f 28 4 = crc32c (f.take 28) then
      let t0 := d.now - since
      (d.frForward p t0 resid f).frAccept p t0 f |>.ringShow
    else d.addSat rgPid F.RP_ERR_CRC 1 p
  else d

/-- The oldest accepted frame of a TYPE, taken off. -/
def Dev.takeFrame (d : Dev) (ty : Nat) : Option (InFrame × Dev) :=
  match d.ring.accepted.find? (fun a => frType a.bytes == ty) with
  | none => none
  | some a => some (a, { d with ring := { d.ring with accepted := d.ring.accepted.erase a } })

/-! ### What accepted frames do -/

/-- BEACON: nothing more follows from one. -/
def Dev.beaconIn (d : Dev) : Dev := match d.takeFrame 1 with
  | none => d
  | some (_, d) => d

/-- TIME (R465). -/
def Dev.timeIn (d : Dev) : Dev := match d.takeFrame 2 with
  | none => d
  | some (a, d) =>
    let sent := le a.bytes 6 8 + le a.bytes 14 4 + d.r rgPid F.RP_DLY_NS a.port
    let ofs : Int := (a.arrived : Int) - (sent : Nat)
    let d := d.w rgPid F.RB_TOFS_NS (ux 32 ofs)
    let d := if d.fab.auto && !d.on rgPid F.RB_CTRL_TMASTER then
        let g := d.ring.integ + 2 * ofs
        { d with ring := { d.ring with integ := g } }.w dtPid F.DT_SYNCTRIM_PPB
          (ux 19 (clampI (-200000) 200000 (-(50 * ofs) - g)))
      else d
    let near := if -1000 ≤ ofs ∧ ofs ≤ 1000 then d.ring.near + 1 else 0
    let d := { d with ring := { d.ring with near := sat 16 near, timeAt := a.ended } }
    if 16 ≤ near then d.w dtPid F.DT_STAT_SYNC 1
    else if ofs < -10000 ∨ 10000 < ofs then d.w dtPid F.DT_STAT_SYNC 0 else d

/-- LINK_DELAY (R465): a request is answered on its port; a response gives one value of the link delay. -/
def Dev.linkDelayIn (d : Dev) : Dev := match d.takeFrame 3 with
  | none => d
  | some (a, d) =>
    if le a.bytes 6 1 = 0 then
      let (f, d) := d.frMake d.ownSlot 3 0xFF [1]
      d.portSend a.port d.now { bytes := f, follows := some (a.arrived, a.port) }
    else
      let x := d.port a.port
      let v := ((a.arrived - x.asked) - le a.bytes 8 4) / 2
      let l := (v :: x.delays).take 8
      (d.setPort a.port { x with delays := l }).w rgPid F.RP_DLY_NS (l.sum / l.length) a.port

/-- The freshness of an emergency frame (R464). -/
def Dev.emgFresh (d : Dev) (a : InFrame) : Bool :=
  if d.on dtPid F.DT_STAT_SYNC then
    let t := 1000 * le a.bytes 6 6
    decide (t ≤ a.ended + 1000000000) && decide (a.ended ≤ t + 1000000000)
  else match a.prior with
    | none => true
    | some n => decide (1 ≤ (le a.bytes 4 2 + 65536 - n) % 65536) && decide ((le a.bytes 4 2 + 65536 - n) % 65536 ≤ 1024)

/-- EMERGENCY and EMERGENCY_CLEAR (R464): an authenticated frame is held, stamped and raised to the ward world. -/
def Dev.emergencyIn (d : Dev) (ty : Nat) : Dev := match d.takeFrame ty with
  | none => d
  | some (a, d) =>
    let src := le a.bytes 1 1
    if !bit (d.r rgPid F.RB_EMGSRC_MASK) src then d
    else if !d.emgFresh a then d.addSat rgPid F.RB_AUTH_STALE
    else
      let d := forAll (upFrom 0 8) (fun k d => d.w rgPid F.RB_EMG_WORD (le a.bytes (4 * k) 4) k) d
      let d := d.w64 rgPid F.RB_EMGT_LO_TIME F.RB_EMGT_HI_TIME a.ended
      let d := ((d.w rgPid F.RB_EMGSTAT_HELD 1).w rgPid F.RB_EMGSTAT_SRC src).add rgPid F.RB_EMGSTAT_COUNT
      let d := (d.err rgPid 13)
      let d : Dev := { d with disp := { d.disp with emgFrame := if ty = 4 then some a.ended else none } }
      let st : Nat := d.r 0x390 F.PM_STAT_STATE
      let entry : Bool := match d.pm.run with | some c => decide (0 < c.target) | none => false
      if (1 ≤ st ∧ st ≤ 3) ∨ entry then { d with wakes := d.wakes ++ [4] } else d

/-- Show the head of the receive queue (R467). -/
def Dev.rxShow (d : Dev) : Dev :=
  let h := d.ring.rx.headD []
  let d := forAll (upFrom 0 8) (fun k d => d.w rgPid F.RB_RX_WORD (le h (4 * k) 4) k) d
  d.w rgPid F.RB_RX_COUNT d.ring.rx.length

/-- ALERT and SERVICE enter the receive queue; full, and in S2 and S3, they are dropped and counted. -/
def Dev.queueIn (d : Dev) (ty : Nat) : Dev := match d.takeFrame ty with
  | none => d
  | some (a, d) =>
    if 16 ≤ d.ring.rx.length ∨ 2 ≤ d.r 0x390 F.PM_STAT_STATE then (d.addSat rgPid F.RB_RX_LOST).err rgPid 11
    else { d with ring := { d.ring with rx := d.ring.rx ++ [a.bytes] } }.rxShow

def Dev.rxPop (d : Dev) : Dev := { d with ring := { d.ring with rx := d.ring.rx.drop 1 } }.rxShow

/-! ### What the node sends (R462, R465, R467) -/

def Dev.beaconOut (d : Dev) : Dev :=
  let fl := b2n d.timeMaster + 2 * b2n d.held?
  let (f, d) := d.frMake d.ownSlot 1 0xFF [d.r 0x390 F.PM_STAT_STATE, fl]
  (d.sendBoth { bytes := f }).ringShow

def Dev.timeOut (d : Dev) : Dev :=
  if d.timeMaster then
    let (f, d) := d.frMake d.ownSlot 2 0xFF []
    (d.sendBoth { bytes := f }).ringShow
  else d

def Dev.linkDelayOut (d : Dev) (p : Nat) : Dev :=
  if d.portState p = 2 then
    let (f, d) := d.frMake d.ownSlot 3 0xFF [0]
    (d.portSend p d.now { bytes := f }).ringShow
  else d

/-- 64 ms have passed without an accepted TIME frame. -/
def Dev.syncTimeout (d : Dev) : Dev :=
  if d.ring.timeAt + 64000000 ≤ d.now then { d with ring := { d.ring with near := 0 } }.w dtPid F.DT_STAT_SYNC 0 else d

/-- The frame in the transmit registers. -/
def Dev.txBytes (d : Dev) : List Nat := (upFrom 0 8).flatMap (fun k => bytesLE 4 (d.r rgPid F.RB_TX_WORD k))

/-- A GO is allowed (R467). TYPE 2 and 3 need the time master, TYPE 4 a node named in `RB_EMGSRC`. -/
def Dev.txGoOk (d : Dev) : Bool :=
  let ty := frType d.txBytes
  !d.on rgPid F.RB_TX_BUSY && !(([2, 3].contains ty && !d.timeMaster) ||
    (ty == 4 && !bit (d.r rgPid F.RB_EMGSRC_MASK) d.node))

def Dev.txGo (d : Dev) : Dev :=
  let b := d.txBytes
  let (f, d) := d.frMake (bits (le b 0 1) 4 1) (frType b) (le b 2 1) ((b.drop 6).take 14)
  (d.sendBoth { bytes := f, tx := true }).ringShow

/-- A write of a key word is refused while its slot is in use (R472). -/
def Dev.keyWriteOk (d : Dev) (word : Nat) : Bool := !bit (d.r rgPid F.RB_CTRL_KEYEN) (word / 8)

/-- The hinge domain loses power or is reset: the ring starts over. -/
def Dev.ringGone (d : Dev) : Dev := { d with ring := {} }

end Sys2Proof.Machine
end

