-- ==== Sys2Proof/Machine/Periods.lean ====
section
/-! DEFINITION. The period scheduler: arming, boundaries, completion and deadlines of its 256 entries (R26 to R35). -/

namespace Sys2Proof.Machine

open Sys2Proof

def schPid : Nat := 0x321

/-- A field of an entry (R35). -/
def Dev.pe (d : Dev) (e : Nat) (f : FD) : Nat := d.r (perPage e) f (e % 64)
def Dev.setPe (d : Dev) (e : Nat) (f : FD) (v : Nat) : Dev := d.w (perPage e) f v (e % 64)

def Dev.per? (d : Dev) (e : Nat) : PerEntry := tabGet d.per {} e
def Dev.setPer (d : Dev) (e : Nat) (x : PerEntry) : Dev := { d with per := tabPut d.per {} e x }

/-- The VI that owns an entry; none for entries 0 to 63 and for one beyond the last VI's share (R26). -/
def Dev.perVi (d : Dev) (e : Nat) : Option Nat :=
  if e < 64 then none
  else if (e - 64) / (192 / d.nVis) < d.nVis then some ((e - 64) / (192 / d.nVis)) else none

/-- The owner code of an entry. -/
def Dev.perCode (d : Dev) (e : Nat) : Nat := match d.perVi e with
  | some v => codeVi (d.viPort v) v
  | none => codeWard

/-- How an entry names itself among those that owe a fence a signal. -/
def perUid (e : Nat) : Nat := 2 ^ 33 + e

/-- A set of ARMED with the KIND written beside it passes R28. -/
def Dev.armOk (d : Dev) (e kind : Nat) : Bool :=
  let per := d.pe e F.PE_PERIOD_PERIOD
  let dl := d.pe e F.PE_DEADLINE_DEADLINE
  let h := d.pe e F.PE_TARGET_HANDLE
  let code := d.perCode e
  let f := d.pe e F.PE_FENCE_FENCE
  let owned := match kind with
    | 0 | 1 => (d.perVi e).isSome && decide (h < 16)
    | 2 => decide (h < 48) && d.pipeAssigned h && d.pipeOwner h % 1024 == code
    | 3 => decide (h < 96) && !bit (d.stOwner h) 15 && d.stOwner h % 1024 == code
    | _ => false
  let slice := match d.perVi e with
    | some v => 1000 * d.a (viPage v 4) F.RQ_JOB_CFG_SLICE_MS h
    | none => 0
  decide (100 ≤ per) && decide (per ≤ 10000000) && decide (50 ≤ dl) && decide (dl ≤ per) && owned &&
  !(kind == 1 && decide (per < dl + slice)) && (f == noFence || (d.ownFence code f).isSome)

/-- ARMED is set (R29): an entry in IDLE waits for its first boundary, the next one at START plus whole periods. A
START that is the time of arming itself counts as in the past: the first boundary is the one after it (DESIGN CHOICE, log
entry 87). -/
def Dev.perArm (d : Dev) (e : Nat) : Dev :=
  if d.perState e = 0 then
    let start := d.r64 (perPage e) F.PE_START_LO_START F.PE_START_HI_START (e % 64)
    let per := 1000 * d.pe e F.PE_PERIOD_PERIOD
    let k := if d.now < start then 0 else (d.now - start) / per + 1
    let d := d.setPer e { d.per? e with next := k }
    let d := d.setPe e F.PE_CTRL_GEN (match d.perVi e with | some v => d.gen v | none => 0)
    d.setPe e F.PE_CTRL_STATE 1
  else d

/-- Show a dropped period (R34, R35). -/
def Dev.perDropShow (d : Dev) (e : Nat) : Dev :=
  let d := d.setPe e F.PE_COUNT_DROPPED (d.pe e F.PE_COUNT_DROPPED + 1)
  let d := (d.add schPid F.PS_DROPS_TOTAL).w schPid F.PS_LASTDROP_ENTRY e
  let d := d.w schPid F.PS_LASTDROP_KIND (d.pe e F.PE_CTRL_KIND)
  let d := (d.err schPid errLate).err schPid 10
  match d.perVi e with
  | some v => (d.err (viPage v 6) errLate).err (viPage v 6) 10
  | none => if e < 64 then (d.err 0x322 errLate).err 0x322 10 else d

/-- Pay the signal that an entry owes its fence. -/
def Dev.perPay (d : Dev) (e status : Nat) : Dev :=
  if (d.per? e).owes then
    let d := d.setPer e { d.per? e with owes := false }
    match fencePlace (d.pe e F.PE_FENCE_FENCE) with
    | some (pid, i) => d.paySignal (perUid e) pid i status
    | none => d
  else d

/-- The work of an open period is done in time: DONE (R29). -/
def Dev.perDone (d : Dev) (e : Nat) : Dev :=
  if d.perState e = 2 then
    match (d.per? e).fin with
    | none => d
    | some st =>
      let d := d.setPer e { d.per? e with fin := none, noSig := false }
      let d := (d.setPe e F.PE_CTRL_STATE 3).setPe e F.PE_COUNT_DONE (d.pe e F.PE_COUNT_DONE + 1)
      (d.perPay e st).settleWaits
  else d

/-- Discard the unfinished work of a period by its kind (R31). -/
def Dev.perDiscard (d : Dev) (e : Nat) : Dev :=
  match d.pe e F.PE_CTRL_KIND with
  | 0 | 1 =>
    let d := { d with rend := { d.rend with releases := d.rend.releases.erase e } }
    let d := { d with rend := { d.rend with cmds := d.rend.cmds.map (fun (x : Cmd) =>
      if x.period == some e then
        { x with period := Option.none, status := some (x.status.getD 1),
                 job := x.job.map (fun (j : Job) => { j with lists := [], todo := [] }) } else x) } }
    match d.perVi e with
    | some v => d.add (viPage v 4) F.RQ_DROPS_COUNT
    | none => d
  | 2 => d.flipCancel (d.pe e F.PE_TARGET_HANDLE)
  | 3 => d.streamDropped (d.pe e F.PE_TARGET_HANDLE)
  | _ => d

/-- A period is dropped: at its deadline, or at its release where its fence owes 255 signals (R29, R263). -/
def Dev.perDrop (d : Dev) (e : Nat) : Dev :=
  let d := d.perDiscard e
  let d := d.setPer e { d.per? e with fin := none, noSig := true }
  ((d.setPe e F.PE_CTRL_STATE 3).perDropShow e).perPay e 1 |>.settleWaits

/-- The device time of an entry's next boundary (R29), and that of the deadline of its open period. -/
def Dev.perNextAt (d : Dev) (e : Nat) : Nat :=
  d.r64 (perPage e) F.PE_START_LO_START F.PE_START_HI_START (e % 64) + (d.per? e).next * (1000 * d.pe e F.PE_PERIOD_PERIOD)
def Dev.perLateAt (d : Dev) (e : Nat) : Nat := (d.per? e).opened + 1000 * d.pe e F.PE_DEADLINE_DEADLINE

/-- The deadline of an open period has been reached. Work whose completion was stamped before it counts as done (R30). -/
def Dev.perDeadline (d : Dev) (e : Nat) : Dev :=
  if d.perState e = 2 ∧ d.perLateAt e ≤ d.now then (if (d.per? e).fin.isSome then d.perDone e else d.perDrop e) else d

/-- Release the work of a period by its kind. -/
def Dev.perRelease (d : Dev) (e : Nat) : Dev :=
  let h := d.pe e F.PE_TARGET_HANDLE
  match d.pe e F.PE_CTRL_KIND with
  | 0 | 1 => d.releaseJob e
  | 3 =>
    let d := d.streamPeriod h
    let x := d.stream h
    match x.pace with
    | some k =>
      if 16 * d.rblk h ≤ d.regionDist h (k + 1) then (d.setStream h { x with workFilled := true }).perFinish e 0 else d
    | none => d
  | _ => d

/-- A period opens: its fence is owed a signal, and its work is released. -/
def Dev.perOpen (d : Dev) (e : Nat) : Dev :=
  let x := d.per? e
  let d := d.setPer e { x with next := x.next + 1, opened := d.perNextAt e, fin := none, owes := false }
  let d := d.setPe e F.PE_CTRL_STATE 2
  match fencePlace (d.pe e F.PE_FENCE_FENCE) with
  | some (pid, i) =>
    if 255 ≤ (d.owed pid i).length then d.perDrop e
    else (((d.setPer e { d.per? e with owes := true }).oweSignal (perUid e) pid i)).perRelease e
  | none => d.perRelease e

/-- An entry goes IDLE; a stream that it paced runs free from its read index (R397). -/
def Dev.perIdle (d : Dev) (e : Nat) : Dev :=
  let d := if d.pe e F.PE_CTRL_KIND = 3 then d.unpace (d.pe e F.PE_TARGET_HANDLE) else d
  (d.setPer e { noSig := (d.per? e).noSig }).setPe e F.PE_CTRL_STATE 0

/-- A period boundary has been reached (R29). A period whose work is done closes before it; one still open has met its
deadline at this tick. -/
def Dev.perBoundary (d : Dev) (e : Nat) : Dev :=
  let st := d.perState e
  let armed := d.pe e F.PE_CTRL_ARMED == 1
  if st = 0 ∨ d.now < d.perNextAt e then d
  else
    let d := if st = 2 then d.perDeadline e else d
    if armed then d.perOpen e else d.perIdle e

/-- The owner of a VI's entries is reset or gone (R29): IDLE, ARMED and the entry's counts 0, no fence signalled. -/
def Dev.perOwnerGone (d : Dev) (v : Nat) : Dev :=
  forAll (upFrom (d.perFirst v) d.perCount) (fun e d =>
    let d := match (d.per? e).owes, fencePlace (d.pe e F.PE_FENCE_FENCE) with
      | true, some (pid, i) => d.dropOwed (perUid e) pid i
      | _, _ => d
    let d := { d with rend := { d.rend with releases := d.rend.releases.erase e } }
    let d := if d.perState e = 0 then d else d.perIdle e
    let d := (d.setPer e {}).setPe e F.PE_CTRL_ARMED 0
    (d.setPe e F.PE_COUNT_DONE 0).setPe e F.PE_COUNT_DROPPED 0) d

end Sys2Proof.Machine
end

