-- ==== Sys2Proof/Machine/Tenancy.lean ====
section
/-! DEFINITION. The life of a virtual instance, and what resets of functions and ports do to its owner's work (R163, R164,
R169 to R174, R424, R429, R504). -/

namespace Sys2Proof.Machine

open Sys2Proof

def hpPid (p : Nat) : Nat := 0x080 + p

/-- The VIs of a port, in the order of its VF numbers (R164). -/
def Dev.portVis (d : Dev) (p : Nat) : List Nat := (upFrom 0 d.nVis).filter (fun v => d.viPort v == p)

/-- The VF of a VI is present: its number among its port's VFs is within NumVFs. -/
def Dev.vfPresent (d : Dev) (v : Nat) : Bool :=
  let p := d.viPort v
  decide ((d.portVis p).idxOf v < tabGet d.hst.sriov 0 p) && (d.portVis p).contains v

/-- Work of an owner ends as its owner is reset or goes (R294, R387, R399): its pipes, its haptic channels, its streams. -/
def Dev.workGone (d : Dev) (code : Nat) : Dev :=
  let d := d.ownerGone code
  let d := forAll ((upFrom 0 8).filter (fun h => d.hapOwner h == code)) (fun h d => d.hapOwnerGone h) d
  forAll ((upFrom 0 96).filter (fun s => d.stOwner s == code)) (fun s d => d.streamGone s) d

/-- Every window page of a VI returns to reset values (R56, R171). -/
def Dev.windowReset (d : Dev) (v : Nat) : Dev := forAll (upFrom 0 12) (fun w d => d.pageReset (viPage v w)) d

/-- The next generation: never 0 (R170). -/
def nextGen (g : Nat) : Nat := if g = 255 then 1 else g + 1

/-- The actions of R171. Commands in flight go on in hardware with their generation; what their signals owed to the
VI's own fences is forgotten with those fences. -/
def Dev.viActions (d : Dev) (v : Nat) : Dev :=
  let d := d.targetReset (4 + v)
  let d := d.perOwnerGone v
  let d := d.workGone (codeVi (d.viPort v) v)
  let mine := fun (k : Nat) => k / 64 == v
  let d := { d with hst := { d.hst with resident := d.hst.resident.filter (fun k => !mine k),
                                        waitRes := d.hst.waitRes.filter (fun k => !mine k),
                                        ctx := d.hst.ctx.filter (fun e => !mine e.1) } }
  let d := { d with rend := { d.rend with fences := d.rend.fences.filter (fun e => !(e.1 / 256 == viPage v 5)),
                                          resMaps := d.rend.resMaps.filter (fun m => !(m.1 == v)) } }
  let d := d.setVi v { d.vi v with inv1 := none }
  d.windowReset v

/-- The generation advances. -/
def Dev.genAdvance (d : Dev) (v : Nat) : Dev := d.w (vihPid v) F.VIH_STAT_GEN (nextGen (d.gen v))

def Dev.setViState (d : Dev) (v st : Nat) : Dev := d.w (vihPid v) F.VIH_STAT_STATE st

/-- RESETTING (R169). -/
def Dev.viReset (d : Dev) (v : Nat) (restart : Bool) : Dev :=
  let d := ((d.viActions v).genAdvance v).setViState v 4
  d.setVi v { d.vi v with restart := restart }

/-- Show the oldest CREATE that waits (R174). -/
def Dev.reqShow (d : Dev) : Dev :=
  let n := d.hst.creates.length
  let d := (d.w 0x084 F.PP_REQ_PENDING (b2n (decide (0 < n)))).w 0x084 F.PP_REQ_COUNT n
  match d.hst.creates with
  | [] => d
  | (v, _) :: _ => ((d.w 0x084 F.PP_REQ_VI v).w 0x084 F.PP_REQ_PORT (d.viPort v)).err 0x084 10

def Dev.dropCreate (d : Dev) (v : Nat) : Dev :=
  { d with hst := { d.hst with creates := d.hst.creates.filter (fun x => !(x.1 == v)) } }.reqShow

/-- OFF (R169): the VI host page returns to reset values except GEN. -/
def Dev.viOff (d : Dev) (v : Nat) : Dev :=
  let st := d.viState v
  if st = 0 then d
  else
    let d := if 3 ≤ st then (d.viActions v).genAdvance v else d.dropCreate v
    let d := d.setVi v { epochs := (d.vi v).epochs }
    d.pageReset (vihPid v) (fun k => k == fieldKey (vihPid v) F.VIH_STAT_GEN 0 || lockKey (vihPid v) k)

/-- VF Enable and NumVFs have changed: VFs now present go to STOPPED, those no longer present to OFF. -/
def Dev.vfsChange (d : Dev) (p n : Nat) : Dev :=
  let d := { d with hst := { d.hst with sriov := tabPut d.hst.sriov 0 p n } }.w (hpPid p) F.HP_VFS_NUM n
  (d.portVis p).foldl (fun d v =>
    if d.vfPresent v then
      if d.viState v = 0 && d.locked then (d.windowReset v).setViState v 1 else d
    else d.viOff v) d

/-- FLR of a VF: its VI, and the function's own configuration. -/
def Dev.vfFlr (d : Dev) (v : Nat) : Dev :=
  let d := { d with fn := tabPut d.fn {} (4 + v) {} }
  let st := d.viState v
  if st = 3 ∨ st = 5 ∨ st = 6 then d.viReset v true
  else if st = 1 ∨ st = 2 then d.windowReset v
  else d

/-- FLR of a PF, and DL_Down of its port: every VI goes OFF, SR-IOV returns to reset values, and the PF's own work ends. -/
def Dev.pfReset (d : Dev) (p : Nat) : Dev :=
  let d := d.vfsChange p 0
  let d := { d with fn := tabPut d.fn {} p {} }
  let d := d.targetReset (68 + p)
  let d := { d with doeWaiting := d.doeWaiting.filter (fun x => !(x == p)) }
  let page := fun pid (d : Dev) => d.pageReset pid (lockKey pid)
  page (flipPage (codePf p)) (page (layerPage (codePf p)) (d.workGone (codePf p)))

/-- The data link of a port goes down. -/
def Dev.dlDown (d : Dev) (p : Nat) : Dev :=
  let d := ((d.w (hpPid p) F.HP_LINK_DLUP 0).w (hpPid p) F.HP_LINK_SPEED 0).w (hpPid p) F.HP_LINK_WIDTH 0
  d.pfReset p

/-- The lanes of a port (R162). -/
def portLanes (p : Nat) : Nat := if p < 2 then 4 else 2

/-- What a port may train to (R162): the rates up to 32 GT/s, and the widths down to ×1. -/
def linkOk (p speed width : Nat) : Bool :=
  decide (1 ≤ speed) && decide (speed ≤ 5) && [1, 2, 4].contains width && decide (width ≤ portLanes p)

/-- The data link comes up at a rate and a width that the port has (R162, R423). -/
def Dev.dlUp (d : Dev) (p speed width : Nat) : Dev :=
  if linkOk p speed width then
    ((d.w (hpPid p) F.HP_LINK_DLUP 1).w (hpPid p) F.HP_LINK_SPEED speed).w (hpPid p) F.HP_LINK_WIDTH width
  else d

/-- A stage-2 root of TARGET 1 lies in the port's DRAM window (R173). -/
def Dev.rootOk (d : Dev) (v : Nat) : Bool :=
  let h := vihPid v
  !d.on h F.VIH_S2_LO_TARGET ||
    decide (4096 * (d.r h F.VIH_S2_LO_BASE + 2 ^ 20 * d.r h F.VIH_S2_HI_BASE + 1) ≤ d.winSize (d.viPort v))

/-- A request is refused with a reason. -/
def Dev.viRefuse (d : Dev) (v reason : Nat) : Dev :=
  (d.w (vihPid v) F.VIH_STAT_REFUSE reason).err (hpPid (d.viPort v)) 11

/-- A request on `VIH_CTRL`, in the order of R173: KEY, REQUEST, STATE, and for a CREATE ROOT. REQ: 1 CREATE, 2 RESET,
3 REMOVE, 4 QUIESCE, 5 RESUME. -/
def Dev.viRequest (d : Dev) (v req key : Nat) : Dev :=
  let st := d.viState v
  let live := st = 3 ∨ st = 5 ∨ st = 6
  if !(key == 0xA5C3) then d.viRefuse v 5
  else match req with
    | 1 =>
      if !(st == 1) then d.viRefuse v 1
      else if !d.rootOk v then d.viRefuse v 2
      else { d.setViState v 2 with hst := { d.hst with creates := d.hst.creates ++ [(v, d.now)] } }.reqShow
    | 2 => if live then d.viReset v true else d.viRefuse v 1
    | 3 => if live then d.viReset v false else d.viRefuse v 1
    | 4 => if st = 3 then (d.setViState v 5).quiesced v else d.viRefuse v 1
    | 5 => if st = 5 ∨ st = 6 then d.setViState v 3 else d.viRefuse v 1
    | _ => d.viRefuse v 6

/-- The open world decides the oldest request that waits (R174). -/
def Dev.decide? (d : Dev) (accept : Bool) : Dev :=
  match d.hst.creates with
  | [] => d
  | (v, _) :: _ =>
    let d := d.dropCreate v
    if accept then (d.setViState v 3).add 0x084 F.PP_CREATED_COUNT
    else (d.setViState v 1).viRefuse v 3

/-- A decision is allowed (R174): not both bits, and a request waits. -/
def Dev.decideOk (d : Dev) (accept refuse : Bool) : Bool := !(accept && refuse) && !d.hst.creates.isEmpty

/-- The oldest request has waited 100 ms without a decision: it is over (R169). -/
def Dev.createTimeout (d : Dev) : Dev :=
  match d.hst.creates with
  | [] => d
  | (v, since) :: _ =>
    if d.now < since + 100000000 then d else ((d.dropCreate v).setViState v 1).viRefuse v 4

/-- Work of the present generation is in flight while the VI is RESETTING: what `VIH_STAT.OLDWORK` shows (R170). -/
def Dev.oldWork (d : Dev) (v : Nat) : Bool := d.viState v == 4 && !d.viQuiet v

/-- RESETTING ends (R169, R170): not while work of the present generation is in flight. -/
def Dev.viResetEnd (d : Dev) (v : Nat) : Dev :=
  if d.viState v = 4 ∧ d.viQuiet v then d.setViState v (if (d.vi v).restart then 3 else 1) else d

end Sys2Proof.Machine
end

