-- ==== Sys2Proof/Machine/Dies.lean ====
section
/-! DEFINITION. What a reset of a die, of a region's pages or of the hinge domain takes away without a ledger record, and
what the hinge domain keeps (R456, R459, R477, R478, R505). -/

namespace Sys2Proof.Machine

open Sys2Proof

def htPid : Nat := 0x400
def bootPid : Nat := 0x401
def wdgPid : Nat := 0x402
def mbPid (c : Nat) : Nat := 0x404 + c
def wkPid : Nat := 0x409
def rlPid : Nat := 0x391

/-- Every field of the pages that `sel` names returns to its reset value, but for the keys that `keep` names. -/
def Dev.wipe (d : Dev) (sel : Nat → Bool) (keep : Nat → Bool := fun _ => false) : Dev :=
  { d with regs := d.regs.filter (fun e => !sel (keyPage e.1) || keep e.1),
           act := d.act.filter (fun e => !sel (keyPage e.1) || keep e.1),
           pages := d.pages.filter (fun e => !sel e.1), errEn := d.errEn.filter (fun e => !sel e.1),
           latch := d.latch.filter (fun e => !sel (e.1 / 4096)) }

/-- The pages of the Core die; a VI's window pages are among them. -/
def onCore (pid : Nat) : Bool := pid < 0x400 || viBase ≤ pid

/-- What outlives the Core die of its own registers: the copy of the package fault record and the count of package faults
since hinge power, which the hinge domain keeps (R493). -/
def hingeKept (k : Nat) : Bool :=
  (upFrom 0 8).any (fun i => k == fieldKey ftPid F.FT_PKG_WORD i) || k == fieldKey ftPid F.FT_CNT2_PACKAGE 0

/-- The contents of DRAM are lost: a byte that nothing writes again reads as a free value (R478). -/
def Dev.dramLost (d : Dev) : Dev := { d with mems := { d.mems with dram := [], lost := d.mems.lost + 1 } }

/-- The Core die is reset, or has lost its power: its pages and all that its blocks remember are gone, strike SRAM and ward
SRAM with them. `keep` names registers that the reset leaves. Every render quad is powered at P2 again (R445). -/
def Dev.coreGone (d : Dev) (keep : Nat → Bool := fun _ => false) : Dev :=
  let d := d.wipe onCore (fun k => hingeKept k || keep k)
  let f : Fabric := { count := d.fab.count, carry := d.fab.carry, stepNs := d.fab.stepNs, hingeOn := d.fab.hingeOn,
                      bus := d.fab.bus, strobe := d.fab.strobe, auto := d.fab.auto, lane := d.fab.lane,
                      stamped := d.fab.stamped }
  { d with held := [], led := {}, fab := f, per := [], irq := {}, fn := [], hst := {}, rend := {}, mc := {},
           disp := { emgFrame := d.disp.emgFrame }, doeWaiting := [], mboxUnread := [],
           flt := { d.flt with log := [] }, mems := { d.mems with strike := [], ward := [] } }

/-- What the blocks of a Port-die region hold beside their pages. -/
def Dev.portBlocks (d : Dev) (r : Nat) : Dev :=
  match r with
  | 2 => { d with disp := { d.disp with heads := d.disp.heads.map (fun e =>
      (e.1, { e.2 with video := false, sent := none, sink := none, aux := none, blen := false })) } }
  | 3 => { d with tch := [] }
  | 4 => d.audioGone
  | 6 => { d with fab := { d.fab with links := [] } }
  | _ => d

/-- A Port-die region is reset or has lost its power; region 0, the hinge domain, is not among them. -/
def Dev.portGone (d : Dev) (r : Nat) : Dev := (d.wipe (fun p => p / 128 == 8 + r)).portBlocks r

/-- The Drive die is reset: channels and stages are OFF with their pages at reset values. The effect store lies in the Port
die and keeps its contents (R229, R377). -/
def Dev.driveGone (d : Dev) : Dev :=
  let d := d.wipe (fun p => decide (0x800 ≤ p) && decide (p < 0xC00))
  ({ d with hap := { dir := d.hap.dir, store := d.hap.store }, aud := { d.aud with spk := [] } }).hapShow

/-- The pages that the boot finds at reset values in the hinge domain: the hinge table, the boot status, the watchdog and
the mailboxes. The others keep device time, the RTC and the ring through a recovery (R478). -/
def bootPage (pid : Nat) : Bool := pid == htPid || pid == bootPid || pid == wdgPid || (decide (0x404 ≤ pid) && decide (pid ≤ 0x408))

/-- The hinge domain is reset: device time, the RTC and the ring start again and the held emergency frame is lost (R459,
R477). -/
def Dev.hingeGone (d : Dev) : Dev :=
  let d := d.wipe (fun p => p / 128 == 8)
  let f : Fabric := { d.fab with count := 0, carry := 0, stepNs := 0, bus := 0, strobe := false, auto := false, lane := [],
                                 stamped := [] }
  { d with fab := f, ring := {}, rtc := {}, mbox := [], hinge := [], mboxUnread := [],
           disp := { d.disp with emgFrame := none } }

/-- The Core die, the Port die but for the hinge domain, and the Drive die are reset together, DRAM contents with them. -/
def Dev.diesGone (d : Dev) (dram : Bool) (keep : Nat → Bool := fun _ => false) : Dev :=
  let d := forAll (upFrom 1 7) (fun r d => d.portGone r) ((d.coreGone keep).driveGone)
  let d := d.hapStoreLost
  if dram then d.dramLost else d

/-- An output of the hinge domain changes: 1 MAIN_EN, 2 FAULT_N (driven low while 1). -/
def Dev.pin (d : Dev) (which v : Nat) : Dev := d.emit (.event 496 [which, v])

def Dev.setMainEn (d : Dev) (on_ : Bool) : Dev := ({ d with boot := { d.boot with mainEn := on_ } }).pin 1 (b2n on_)
def Dev.setFaultN (d : Dev) (on_ : Bool) : Dev :=
  if d.boot.faultN == on_ then d else ({ d with boot := { d.boot with faultN := on_ } }).pin 2 (b2n on_)

/-- The RTC's count now: it runs at its crystal's nominal rate while the crystal does (R458). -/
def Dev.rtcCount (d : Dev) : Nat :=
  if d.on wkPid F.RTC_CTRL_OSC_OK then d.rtc.count + 32768 * (d.now - d.rtc.since) / 1000000000 else d.rtc.count

/-- The crystal stops, and starts. -/
def Dev.rtcStop (d : Dev) : Dev :=
  ({ d with rtc := { count := d.rtcCount, since := d.now } }).w wkPid F.RTC_CTRL_OSC_OK 0
def Dev.rtcStart (d : Dev) : Dev :=
  ({ d with rtc := { count := d.rtcCount, since := d.now } }).w wkPid F.RTC_CTRL_OSC_OK 1

/-- The counter equals the alarm (R458). -/
def Dev.rtcAlarm (d : Dev) : Dev :=
  if d.on wkPid F.RTC_CTRL_ALM_EN && d.on wkPid F.RTC_CTRL_OSC_OK then
    let n := d.r64 wkPid F.RTC_ALM_LO_COUNT F.RTC_ALM_HI_COUNT
    let d : Dev := { d with rtc := { count := n, since := d.now }, wakes := d.wakes ++ [2] }
    (d.w wkPid F.RTC_CTRL_ALM_FIRED 1).err wkPid 10
  else d

/-- The I2C wake target sees its address (R457): it acknowledges, counts and raises a wake event. -/
def Dev.i2cMatch (d : Dev) (addr : Nat) : Dev :=
  if d.on wkPid F.WK_I2C_EN && d.r wkPid F.WK_I2C_ADDR == addr then
    ({ d with wakes := d.wakes ++ [1] }).addSat wkPid F.WK_STAT_MATCHES
  else d

end Sys2Proof.Machine
end

