-- ==== Sys2Proof/Machine/Image.lean ====
section
/-! DEFINITION. The boot flash and its configuration image: the descriptor, the slot choice, the header, the section table,
the formats that the boot ROM checks, and the identity that it derives (R125 to R133, R142, R302, R304, R305, R321, R522). -/

namespace Sys2Proof.Machine

open Sys2Proof

/-- `n` bytes of flash, and a number of `n` bytes. -/
def Dev.fl (d : Dev) (a n : Nat) : List Nat := memRdN d.mems.flash a n
def Dev.fn? (d : Dev) (a n : Nat) : Nat := memRdLE d.mems.flash a n

/-! ### Descriptor and choice (R125) -/

/-- The descriptor is valid for a strap: quad or octal. -/
def Dev.descOk (d : Dev) (quad : Bool) : Bool :=
  let clk := d.fn? 7 1
  let s0 := d.fn? 12 4
  let s1 := d.fn? 16 4
  let n := d.fn? 20 4
  d.fn? 0 4 == 0x46584249 && d.fn? 4 2 == 1 && d.fn? 6 1 == b2n quad && decide (25 ≤ clk) &&
  decide (clk ≤ if quad then 100 else 200) && d.fn? 10 2 == 0 && (d.fl 24 36).all (· == 0) &&
  s0 % 65536 == 0 && s1 % 65536 == 0 && n % 65536 == 0 && decide (n ≤ 2 ^ 25) && d.fn? 60 4 == crc32c (d.fl 0 60)

/-- The COUNT and CHOICE of a valid copy of the boot choice record. -/
def Dev.choice (d : Dev) (a : Nat) : Option (Nat × Nat) :=
  if d.fn? a 4 == 0x43434249 && decide (d.fn? (a + 4) 1 ≤ 1) && (d.fl (a + 5) 3).all (· == 0) &&
     d.fn? (a + 12) 4 == crc32c (d.fl a 12) then some (d.fn? (a + 8) 4, d.fn? (a + 4) 1) else none

/-- The first slot: the CHOICE of the valid copy with the higher COUNT; copy A decides between equals. -/
def Dev.firstSlot (d : Dev) : Nat :=
  match d.choice 0x1000, d.choice 0x2000 with
  | some a, some b => if a.1 < b.1 then b.2 else a.2
  | some a, none => a.2
  | none, some b => b.2
  | none, none => 0

def Dev.slotBase (d : Dev) (s : Nat) : Nat := d.fn? (12 + 4 * s) 4
def Dev.slotSize (d : Dev) : Nat := d.fn? 20 4

/-! ### Sections (R126, R128) -/

/-- A section table entry: type, head, offset, size, target offset, hash. -/
structure Section where
  type : Nat
  head : Nat
  off : Nat
  size : Nat
  load : Nat
  hash : List Nat
  deriving DecidableEq, Repr

def Dev.sectionAt (d : Dev) (base i : Nat) : Section :=
  let a := base + 256 + 80 * i
  { type := d.fn? a 2, head := d.fn? (a + 2) 2 % 8, off := d.fn? (a + 8) 4, size := d.fn? (a + 12) 4,
    load := d.fn? (a + 16) 8, hash := d.fl (a + 24) 48 }

/-- The section table of the image at a flash offset. -/
def Dev.sections (d : Dev) (base : Nat) : List Section := (upFrom 0 (d.fn? (base + 6) 2)).map (d.sectionAt base)

/-- The bytes of a section. -/
def Dev.sectionBytes (d : Dev) (base : Nat) (s : Section) : List Nat := d.fl (base + s.off) s.size

/-- The section of a type, for type 5 of a head. -/
def Dev.section? (d : Dev) (base type : Nat) (head : Nat := 0) : Option Section :=
  (d.sections base).find? (fun s => s.type == type && (!(type == 5) || s.head == head))

/-- A section matches its HASH. -/
def Dev.hashOk (d : Dev) (base : Nat) (s : Section) : Bool := sha384 (d.sectionBytes base s) == s.hash

/-- The largest size of a type (R128, R379, R402). -/
def sectionMax (t : Nat) : Nat :=
  match t with
  | 1 => 2 ^ 21 | 2 => 2 ^ 20 | 3 => 2 ^ 24 | 4 => 4096 | 5 => 2 ^ 20 | 6 => 2 ^ 22 | 7 => 2 ^ 20
  | 8 => 307200 | 9 => 25920 | 10 => 65536 | 11 => 132160 | _ => 0

/-- The types that the boot ROM loads. -/
def romLoaded (t : Nat) : Bool := [1, 4, 5, 6, 7].contains t

/-- A window record of a section in bytes: position, size, source and configuration words, all in the section. -/
def winInside (bs : List Nat) (rec_ load size : Nat) : Bool :=
  let wh := imgNum bs (rec_ + 4) 4
  let off := bits (imgNum bs (rec_ + 8) 4) 6 17 * 64
  let pitch := bits (imgNum bs (rec_ + 12) 4) 16 11 * 64
  decide (load ≤ off) && decide (off + bits wh 16 13 * pitch ≤ load + size)

/-- A safe screen passes its checks (R302). -/
def safeOk (bs : List Nat) (s : Section) : Bool :=
  let n := imgNum bs 5 1
  imgNum bs 0 4 == 0x57584249 && imgNum bs 4 1 == s.head && decide (1 ≤ n) && decide (n ≤ 8) && imgNum bs 6 2 == 0 &&
  zeros bs 12 52 && decide (64 + 16 * n + 1024 ≤ s.size) &&
  (upFrom 0 n).all (fun w => winInside bs (64 + 16 * w) s.load s.size)

/-- A template section passes its checks (R304). -/
def templatesOk (bs : List Nat) (size : Nat) : Bool :=
  let n := imgNum bs 4 2
  let e := fun i => (bs.drop (64 + 32 * i)).take 32
  imgNum bs 0 4 == 0x54584249 && decide (1 ≤ n) && decide (n ≤ 256) && zeros bs 6 58 && decide (64 + 32 * n ≤ size) &&
  ((upFrom 0 n).map (fun i => imgNum (e i) 0 2)).eraseDups.length == n &&
  (upFrom 0 n).all (fun i =>
    let t := e i
    imgNum t 8 4 % 64 == 0 && imgNum t 12 2 % 64 == 0 && decide (imgNum t 14 1 ≤ 32) && decide (1 ≤ imgNum t 15 1) &&
    decide (imgNum t 15 1 ≤ 32) && zeros t 24 8 &&
    decide (imgNum t 8 4 + imgNum t 6 2 * imgNum t 12 2 ≤ size) &&
    decide (imgNum t 16 4 + (if bit (imgNum t 2 2) 0 then 1024 else 64) ≤ size) &&
    decide (imgNum t 20 4 + 12 * imgNum t 14 1 ≤ size))

/-- An emergency section passes its checks (R305). -/
def emergencyOk (bs : List Nat) (s : Section) : Bool :=
  let n := imgNum bs 4 1
  imgNum bs 0 4 == 0x45584249 && decide (1 ≤ n) && decide (n ≤ 16) && zeros bs 5 59 &&
  decide (64 + 128 * n + 1024 * n ≤ s.size) &&
  (upFrom 0 (8 * n)).all (fun i =>
    let cfg := imgNum bs (64 + 16 * i + 12) 4
    winInside bs (64 + 16 * i) s.load s.size && !bit cfg 1 && bits cfg 4 8 == 240) &&
  (upFrom 0 n).all (fun m => zeros bs (64 + 128 * n + 1024 * m) 960)

/-- A ROM-loaded section passes its HASH and its format checks; the hinge table's are elsewhere. -/
def Dev.romOk (d : Dev) (base : Nat) (s : Section) : Bool :=
  let bs := d.sectionBytes base s
  d.hashOk base s &&
  (match s.type with
   | 5 => safeOk bs s
   | 6 => templatesOk bs s.size
   | 7 => emergencyOk bs s
   | _ => true)

/-- Sections 5 to 7 fit strike SRAM without overlap. -/
def strikeFit (l : List Section) : Bool :=
  let x := l.filter (fun s => decide (5 ≤ s.type) && decide (s.type ≤ 7))
  x.all (fun s => decide (s.load + s.size ≤ 2 ^ 23)) &&
  (List.range x.length).all (fun i => (List.range x.length).all (fun j =>
    match x[i]?, x[j]? with
    | some a, some b => i == j || !overlap a.load a.size b.load b.size
    | _, _ => true))

/-! ### The hinge table (R139 to R142, R21, R321) -/

/-- Bytes of a range are 0. -/
def zeroAt (t : List Host.Cell) (a n : Nat) : Bool := (memRdN t a n).all (· == 0)

/-- An owner code has no bit beyond R140's fields. -/
def codeForm (c : Nat) : Bool := c &&& 0x7400 == 0 && (bit c 15 || !(bit c 11 && !(c % 4 == 2)))

/-- A VI or PF owner agrees with VI_PORT. -/
def Dev.codeOk (d : Dev) (c : Nat) : Bool :=
  if bit c 15 then true
  else if c % 4 = 3 then decide (c / 16 % 64 < d.nVis) && d.viPort (c / 16 % 64) == c / 4 % 4 else true

/-- Every owner code of a table, PAGE entries aside. -/
def Dev.ownerCodes (d : Dev) : List Nat :=
  (upFrom 0 8).map d.headOwner ++ (upFrom 0 48).map d.pipeOwner ++ (upFrom 0 8).map d.touchOwner ++
  (upFrom 0 8).map d.hapOwner ++ (upFrom 0 12).map d.sinkOwner ++ (upFrom 0 512).map d.irqOwnerCode

/-- The page takes its owner from an entry of its own. -/
def ownedByEntry (pid : Nat) : Bool :=
  match kindOf pid with
  | some (.head, _) | some (.compose, _) | some (.displayPhy, _) | some (.touchReports, _) | some (.hapticChannel, _)
  | some (.sink, _) | some (.speaker, _) => true
  | _ => false

/-- The IRQ entry of a source holds the owner that R420 gives or is UNUSED, as that of a reserved source and of a VI that
does not exist must be (R421). -/
def Dev.irqEntryOk (d : Dev) (s : Nat) : Bool :=
  let c := d.irqOwnerCode s
  bit c 15 || (!srcReserved s && (decide (256 ≤ s) || decide (s / 4 < d.nVis)) && c == d.srcOwner s)

/-- The reservation rules of R21. -/
def Dev.reservationsOk (d : Dev) : Bool :=
  (upFrom 0 8).all (fun h => decide (d.headSlots h ≤ 8) &&
    (decide (1 ≤ d.headSlots h) ||
      !((upFrom 0 48).any (fun p => d.pipeAssigned p && d.pipeHead p == h && d.pipeLatchOk p)))) &&
  decide (1 ≤ d.hb 0x20) && decide (d.hb 0x20 ≤ 4) && decide (1 ≤ d.hb 0x21) && decide (d.hb 0x21 ≤ 2) && d.hb 0x22 == 1 &&
  decide (d.latchSum ≤ 32)

/-- The reserved bytes of the table are 0. -/
def reservedOk (t : List Host.Cell) : Bool :=
  zeroAt t 7 1 && zeroAt t 0xC 4 && zeroAt t 0x23 29 && zeroAt t 0x230 16 && zeroAt t 0x340 192 && zeroAt t 0xC00 1024 &&
  (upFrom 0 8).all (fun h => decide (memRd t (0x80 + 16 * h) < 4) && zeroAt t (0x83 + 16 * h) 1 && zeroAt t (0x86 + 16 * h) 10) &&
  (upFrom 0 48).all (fun p => decide (memRd t (0x102 + 4 * p) < 64) && zeroAt t (0x103 + 4 * p) 1) &&
  (upFrom 0 8).all (fun i => decide (memRd t (0x1C2 + 4 * i) < 32) && decide (memRd t (0x1C3 + 4 * i) < 16)) &&
  (upFrom 0 20).all (fun i => decide (memRd t (0x1E2 + 4 * i) < 2) && zeroAt t (0x1E3 + 4 * i) 1) &&
  (upFrom 0 4).all (fun p => decide (memRd t (0x240 + 64 * p + 52) < 2) && zeroAt t (0x240 + 64 * p + 53) 11)

/-- The checks of a hinge table, on a device that holds it. -/
def Dev.hingeOk (d : Dev) : Bool :=
  let n := d.nVis
  let wb := d.hd 0x10
  let ws := d.hd 0x14
  let ob := d.hd 0x18
  let os := d.hd 0x1C
  let claim := d.hd 8
  d.hd 0 == 0x54474E48 && d.hw 4 == 1 && decide (d.hb 6 ≤ 6) && reservedOk d.hinge && d.reservationsOk &&
  (upFrom 0 64).all (fun v => if v < n then decide (d.viPort v < 4) else d.viPort v == 0xFF) &&
  (upFrom 0 4).all (fun p => decide ((d.portVis p).length ≤ 32)) &&
  d.ownerCodes.all (fun c => codeForm c && d.codeOk c) && (upFrom 0 512).all d.irqEntryOk &&
  (upFrom 0 8).all (fun h => decide (((upFrom 0 48).filter (fun p => d.pipeAssigned p && d.pipeHead p == h)).length ≤ 12) &&
    decide (d.headSafe h < 6)) &&
  (upFrom 0 48).all (fun p => !d.pipeAssigned p || d.headEn (d.pipeHead p)) &&
  (upFrom 0 8).all (fun t => !d.touchEn t || d.headEn (d.touchHead t)) &&
  claim &&& 0x77D75 == 0x77D75 && claim ||| 0x77FFF == 0x77FFF &&
  decide (32 ≤ ws) && decide (16 ≤ os) && decide (wb + ws ≤ 4096) && decide (ob + os ≤ 4096) && !overlap wb ws ob os &&
  d.pageEntries.all (fun e =>
    let pid := e.1 % 4096
    d.implemented pid && !ownedByEntry pid && !(d.mapOwner pid == codeWard) && decide (e.1 < 8192) &&
    codeForm e.2 && d.codeOk e.2)

/-- The device with the hinge table of an image in its store. -/
def Dev.withHinge (d : Dev) (base : Nat) : Dev :=
  match d.section? base 4 with
  | some s => { d with hinge := memWrN [] 0 (d.sectionBytes base s) }
  | none => { d with hinge := [] }

/-! ### The checks of an image (R129, R522) -/

/-- Required sections are present, and no type twice. -/
def Dev.tableOk (d : Dev) (base : Nat) : Bool :=
  let l := d.sections base
  let h := d.withHinge base
  let keys := l.map (fun s => 8 * s.type + (if s.type = 5 then s.head else 0))
  sha384 (d.fl (base + 256) (80 * l.length)) == d.fl (base + 32) 48 &&
  [1, 2, 3, 4].all (fun t => l.any (fun s => s.type == t)) &&
  (upFrom 0 8).all (fun k => !h.headEn k || (d.section? base 5 k).isSome) &&
  keys.eraseDups.length == keys.length &&
  l.all (fun s => decide (1 ≤ s.type) && decide (s.type ≤ 11) && decide (s.off + s.size ≤ d.fn? (base + 8) 4) &&
    decide (s.size ≤ sectionMax s.type) && (!(s.type == 4) || s.size == 4096) && (!romLoaded s.type || d.romOk base s)) &&
  strikeFit l

/-- The FAILCODE of an image, none where it is accepted; the first of R522's table that applies. -/
def Dev.imageFail (d : Dev) (base : Nat) : Option Nat :=
  let n := d.fn? (base + 6) 2
  let len := d.fn? (base + 8) 4
  let key := d.fn? (base + 16) 4
  let known := key = 1 ∨ key = 2
  if !(d.fn? base 4 == 0x43584249) || !(d.fn? (base + 4) 2 == 1) || n == 0 || decide (48 < n) ||
     decide (d.slotSize < len) || decide (len < 256 + 80 * n) ||
     (decide known && !Config.sigOk key (d.fl base 256)) then some 2
  else if ¬ known ∨ (key = 2 ∧ Config.evaluationPart = false) then some 3
  else if d.fn? (base + 12) 4 < d.boot.svn then some 4
  else if !d.tableOk base then some 5
  else if !(d.withHinge base).hingeOk then some 6
  else none

/-! ### Identity (R131 to R133) -/

/-- The order of the P-384 group. -/
def p384Order : Nat := 0xFFFFFFFFFFFFFFFFFFFFFFFFFFFFFFFFFFFFFFFFFFFFFFFFC7634D81F4372DDF581A0DB248B0A77AECEC196ACCC52973

/-- "IBX8640 " and a label, in ASCII. -/
def labelBytes (l : String) : List Nat := ("IBX8640 " ++ l).toList.map (·.toNat)

/-- A private key from a secret and a label (R132). -/
def keyFrom (secret : List Nat) (l : String) : Nat :=
  let s := (hmac384 secret (labelBytes l ++ [1]) ++ hmac384 secret (labelBytes l ++ [2])).take 56
  ofBytesBE s % (p384Order - 1) + 1

/-- The 48 bytes of the UDS. -/
def udsBytes : List Nat := (upFrom 0 48).map (fun i => (Config.uds i).toNat)

/-- The 96 bytes of a public key. -/
def publicBytes (d : Nat) : List Nat := (bytesLE 96 (Config.publicKey d).toNat).reverse

/-- The device identity key pair (R132): its private and its public key. -/
def identityKey : Nat := keyFrom udsBytes "DEVID"
def identityPublic : List Nat := publicBytes identityKey

/-- The Device Serial Number: the first 8 bytes of the SHA-384 of the identity public key (R163). -/
def serialNumber : List Nat := (sha384 identityPublic).take 8

/-- The layer-1 compound device identifier (R133). -/
def cdiOf (m : List Nat) (svn keyId : Nat) : List Nat :=
  hmac384 udsBytes (labelBytes "CDI1" ++ m ++ bytesLE 4 svn ++ bytesLE 4 keyId)

/-- The alias certificate, signed with the identity key (R133). -/
def aliasCert (aliasKey : Nat) (m : List Nat) (svn keyId n : Nat) : List Nat :=
  let body := Config.aliasBody (publicBytes aliasKey) m svn "Horhaja" "IBX8640 ward" 1 keyId
  body ++ Config.signed identityKey body n

/-- The measurement M of the ward firmware section of an image. -/
def Dev.measureWard (d : Dev) (base : Nat) : List Nat :=
  match d.section? base 1 with
  | some s => sha384 (d.sectionBytes base s)
  | none => []

end Sys2Proof.Machine
end

