-- ==== Sys2Proof/Machine/Ward.lean ====
section
/-! DEFINITION. The hinge-table lock, the ward mailboxes, the ward watchdog and the ward restart, and a boot that fails
(R60, R130, R143, R148 to R155). -/

namespace Sys2Proof.Machine

open Sys2Proof

/-- Run a function for every number below a bound. -/
def Dev.upTo (d : Dev) (n : Nat) (f : Nat → Dev → Dev) : Dev := forAll (upFrom 0 n) f d

/-! ### A failed boot (R130) -/

def Dev.bootStage (d : Dev) : Nat := d.r bootPid F.BOOT_STAT_STAGE

/-- Report a failure (R522). -/
def Dev.failCode (d : Dev) (code : Nat) : Dev := d.w bootPid F.BOOT_STAT_FAILCODE code

/-- The boot fails: a package-level fault, the by-pass hold released, every head dark; the PFs enumerate and show the boot
status page alone. -/
def Dev.bootFail (d : Dev) (code : Nat) : Dev :=
  let d := ((d.failCode code).w bootPid F.BOOT_STAT_STAGE 15).openFault 16 5 bootPid code
  let d := d.upTo 8 (fun h d => (d.w (hdPid h) F.HD_STAT_STATE 0).setHead h {})
  d.holdDrop 1

/-! ### The lock (R60, R143) -/

/-- A correctly keyed lock is refused while the table is not loaded or the crossbar is in TEST (R143). -/
def Dev.lockOk (d : Dev) : Bool := d.on htPid F.HT_STAT_LOADED && !(d.r xbPid F.XB_MODE_MODE == 2)

/-- The pages that the hinge table names as locked, LOCK and HINGE set on each. -/
def Dev.lockPages (d : Dev) : Dev :=
  let l := d.pageEntries.filter (fun e => bit e.1 12)
  l.foldl (fun d e => (d.w (e.1 % 4096) F.PAGE_LOCK_LOCK 1).w (e.1 % 4096) F.PAGE_LOCK_HINGE 1) d

/-- The registers that the lock loads: the class reservations, the shares of the period scheduler, each port's VIs. -/
def Dev.lockLoads (d : Dev) : Dev :=
  let d := (d.w clsPid F.CLS_RESV_LATCH d.latchSum).w clsPid F.CLS_RESV_BULK (60 - d.latchSum)
  let d := d.upTo 8 (fun h d => d.w clsPid F.CLS_HEADRES_SLOTS (d.headSlots h) h)
  let d := d.w schPid F.PS_SHARE_VI_ENTRIES d.perCount
  d.upTo 4 (fun p d =>
    let m := (d.portVis p).foldl (fun m v => m + 2 ^ v) 0
    ((d.w (hpPid p) F.HP_VIMAP_LO_MAP m).w (hpPid p) F.HP_VIMAP_HI_MAP (m / 2 ^ 32)).w (hpPid p) F.HP_VFS_TOTAL
      (d.portVis p).length)

/-- The package-level recoveries, the hinge domain's among them, end with the lock (R477, R478). A failed boot's fault
stays. -/
def Dev.closePackage (d : Dev) : Dev :=
  (d.flt.faults.filter (fun f => (!f.consequent || f.cause == 15) && f.byPackage)).foldl (fun d f => d.closeFault f) d

/-- What R143 lists, and the LOCK record of R60; an exit from S2 does it again. -/
def Dev.lockActions (d : Dev) : Dev :=
  let t := d.r64 htPid F.HT_LOCKT_LO_TIME F.HT_LOCKT_HI_TIME
  let n := (d.pageEntries.filter (fun e => bit e.1 12)).length
  let d := d.lockPages.ledDevice 7 0xFFF 0 0 n originHw (some t)
  let d : Dev := { d with fab := { d.fab with drainTo := none } }
  let d := ((d.w xbPid F.XB_MODE_MODE 1).buildWheel).lockLoads
  d.w bootPid F.BOOT_STAT_STAGE 3

/-- What the lock does besides the ledger's WRITE record: once. The fused SVN counter rises to the image's SVN (R129). -/
def Dev.lockEffects (d : Dev) : Dev :=
  let d := (d.w htPid F.HT_STAT_LOCKED 1).w64 htPid F.HT_LOCKT_LO_TIME F.HT_LOCKT_HI_TIME d.now
  let d := d.lockActions
  { d with boot := { d.boot with svn := max d.boot.svn (d.r bootPid F.BOOT_SVN_SVN) } }

/-- The lock: on a table that is locked, and after a boot that has failed for good (R130), it changes nothing. -/
def Dev.lock (d : Dev) : Dev := if d.locked || d.bootStage == 15 then d else d.lockEffects.closePackage

/-! ### Mailboxes (R148 to R151) -/

def Dev.mbState (d : Dev) (c : Nat) : Nat := d.r (mbPid c) F.MB_STAT_STATE
def Dev.mbox? (d : Dev) (c : Nat) : Mbox := tabGet d.mbox {} c
def mbCode (c : Nat) : Nat := if c < 4 then codePf c else codeOpen

/-- The request record of a channel. -/
def Dev.mbReq (d : Dev) (c : Nat) : List Nat := (upFrom 0 16).flatMap (fun k => bytesLE 4 (d.r (mbPid c) F.MB_REQ_WORD k))

/-- The request in WAIT, or at GO, ends: the response record, DONE, and the owner's event (R148, R437). -/
def Dev.mbDone (d : Dev) (c status : Nat) (payload : List Nat) : Dev :=
  let q := d.mbReq c
  let b := bytesLE 2 (le q 0 2) ++ bytesLE 2 (le q 2 2) ++ bytesLE 2 status ++ bytesLE 2 payload.length ++
    bytesLE 8 d.now ++ takePad 0 48 payload
  let d := d.upTo 16 (fun k d => d.w (mbPid c) F.MB_RSP_WORD (le b (4 * k) 4) k)
  let d : Dev := { d with mboxUnread := d.mboxUnread.filter (fun x => !(x == c)) }
  (d.w (mbPid c) F.MB_STAT_STATE 2).evtMailbox (mbCode c)

/-- The record's DEADLINE and LEN are well formed. -/
def mbFormed (q : List Nat) : Bool :=
  let dl := le q 4 4
  (dl == 0 || (decide (100 ≤ dl) && decide (dl ≤ 1000000))) && decide (le q 8 2 ≤ 52)

/-- GO outside WAIT. DESIGN CHOICE (log 91): a malformed request during a ward restart is answered 4, not 1; R151 has a
row for each and no order. -/
def Dev.mbGo (d : Dev) (c : Nat) : Dev :=
  if d.mbState c = 1 then d
  else
    let q := d.mbReq c
    let x := d.mbox? c
    let d := d.w (mbPid c) F.MB_STAT_TAG (le q 2 2)
    let d : Dev := { d with mbox := tabPut d.mbox {} c { x with count := x.count + 1 } }
    if !mbFormed q then d.mbDone c 4 []
    else if d.wardRestarting then d.mbDone c 1 []
    else
      let us := if le q 4 4 = 0 then 10000 else le q 4 4
      let d : Dev := { d with mbox := tabPut d.mbox {} c { count := x.count + 1, deadline := d.now + 1000 * us },
                              mboxUnread := d.mboxUnread.filter (fun x => !(x == c)) ++ [c] }
      d.w (mbPid c) F.MB_STAT_STATE 1

/-- Ward firmware first reads the request in WAIT. -/
def Dev.mbRead (d : Dev) (c : Nat) : Dev :=
  if d.mboxUnread.contains c then
    ({ d with mboxUnread := d.mboxUnread.filter (fun x => !(x == c)) }).emit (.message c (d.mbReq c))
  else d

/-- The deadline has passed. -/
def Dev.mbDeadline (d : Dev) (c : Nat) : Dev :=
  if d.mbState c = 1 ∧ (d.mbox? c).deadline < d.now then d.mbDone c 2 [] else d

/-- The end of path 6 of R13: the first answer after a ward restart; `WR_DUR` shows its time. -/
def Dev.restartMeasure (d : Dev) : Dev :=
  if d.boot.answered then d
  else
    let ns := d.now - d.r64 bootPid F.WR_LAST_LO_TIME F.WR_LAST_HI_TIME
    let d : Dev := { d with boot := { d.boot with answered := true } }
    (d.w bootPid F.WR_DUR_US (sat (2 ^ 18 - 1) (ns / 1000))).measure 6 ns 150000000 wdgPid (d.boltHolds [wdgPid])

/-- Ward firmware answers a request by its number. -/
def Dev.mbRespond (d : Dev) (c number status : Nat) (payload : List Nat) : Dev :=
  let d := d.mbDeadline c
  if d.mbState c = 1 ∧ (d.mbox? c).count = number then (d.mbDone c status payload).restartMeasure
  else d.addSat (mbPid c) F.MB_LATE_COUNT

/-! ### The watchdog (R152, R159) -/

/-- The length of a countdown that starts now, in ms. -/
def Dev.wdgMs (d : Dev) : Nat :=
  let t := d.r wdgPid F.WDG_CTRL_TIMEOUT
  if 10 ≤ t ∧ t ≤ 100 then t else 100

/-- The countdown starts again. -/
def Dev.kick (d : Dev) : Dev := { d with boot := { d.boot with kicked := d.now, kickMs := d.wdgMs } }

/-- EN is set: the watchdog runs. -/
def Dev.wdgEnable (d : Dev) : Dev := (d.w wdgPid F.WDG_CTRL_EN 1).kick

/-- The ms left before expiry, rounded up; 0 while the watchdog does not run. -/
def Dev.wdgRemain (d : Dev) : Nat :=
  if d.on wdgPid F.WDG_CTRL_EN then ceilDiv (d.boot.kicked + 1000000 * d.boot.kickMs - d.now) 1000000 else 0

/-! ### The ward restart (R152 to R155) -/

/-- Step 1. A first event while a restart runs starts no second one. DESIGN CHOICE (log 92): beside its sessions each
port's SPDM connection ends, so a requester begins again at GET_VERSION; R154 names the sessions alone. -/
def Dev.restartBegin (d : Dev) (cause : Nat) : Dev :=
  if d.boot.restart.isSome then d
  else
    let d := d.openFault 10 3 wdgPid cause
    let d := d.upTo 5 (fun c d => if d.mbState c = 1 then d.mbDone c 1 [] else d)
    let d := (d.pages.filter (fun e => decide (e.1 < 0x80))).foldl (fun d e => d.discardPend e.1) d
    let d := ((d.w bootPid F.WR_STAT_STATE 1).w bootPid F.WR_STAT_CAUSE cause).addSat bootPid F.WR_STAT_COUNT
    let d := d.w64 bootPid F.WR_LAST_LO_TIME F.WR_LAST_HI_TIME d.now
    let d := d.targetReset 0
    let d : Dev := { d with spdm := d.spdm.map (fun e => (e.1, { e.2 with sessions := [], phase := 0 })) }
    { d with boot := { d.boot with restart := some d.now, wrStep := 1, answered := false } }

/-- Step 2: cluster 0 is reset and ward SRAM cleared. -/
def Dev.restartClear (d : Dev) : Dev :=
  let d := d.w bootPid F.WR_STAT_STATE 2
  { d with mems := { d.mems with ward := [] }, boot := { d.boot with wrStep := 2 } }

/-- `BOOT_MEASk` as bytes. -/
def Dev.bootMeas (d : Dev) : List Nat := (upFrom 0 12).flatMap (fun k => bytesLE 4 (d.r bootPid F.BOOT_MEAS_HASH k))

/-- Place the ward firmware section in ward SRAM. -/
def Dev.wardLoad (d : Dev) : Dev :=
  match d.section? d.boot.base 1 with
  | some s => { d with mems := { d.mems with ward := memWrN d.mems.ward s.load (d.sectionBytes d.boot.base s) } }
  | none => d

/-- Step 3: the section is measured again. A mismatch opens WARD_MEASURE (R155). -/
def Dev.restartMeasureFw (d : Dev) : Dev :=
  let d : Dev := { d with boot := { d.boot with wrStep := 3 } }
  if d.measureWard d.boot.base == d.bootMeas then d.wardLoad else d.openFault 15 5 wdgPid 0

/-- Step 4: isolation ends and the firmware starts. -/
def Dev.restartStart (d : Dev) : Dev :=
  let d : Dev := { d with boot := { d.boot with wrStep := 4 } }
  (d.w bootPid F.WR_STAT_STATE 3).wdgEnable

/-- One step of a restart, when its time has come or when the restart's end, which follows it, has. -/
def Dev.restartStep (d : Dev) (force : Bool) : Dev :=
  match d.boot.restart with
  | none => d
  | some t0 =>
    let past := fun (ms : Nat) => force || decide (t0 + 1000000 * ms ≤ d.now)
    match d.boot.wrStep with
    | 1 => if past 1 then d.restartClear else d
    | 2 => if past 60 then d.restartMeasureFw else d
    | 3 => if past 70 && !(d.flt.faults.any (fun f => f.cause == 15)) then d.restartStart else d
    | _ => d

def Dev.restartSteps (d : Dev) (force : Bool) : Dev := ((d.restartStep force).restartStep force).restartStep force

end Sys2Proof.Machine
end

