-- ==== Sys2Proof/Machine/Power.lean ====
section
/-! DEFINITION. The power manager: levels and rails, PMBus, a change and its phases, sleep entry and exit, wake events, the
thermal cap and the gates (R442 to R456). -/

namespace Sys2Proof.Machine

open Sys2Proof

/-! ### Levels (R443, R444) -/

/-- The level fields: Core regions 0 to 7, then Port regions 1 to 6. -/
def lvlFields : List FD :=
  [F.PM_LVL0_LVL0, F.PM_LVL0_LVL1, F.PM_LVL0_LVL2, F.PM_LVL0_LVL3, F.PM_LVL0_LVL4, F.PM_LVL0_LVL5, F.PM_LVL0_LVL6,
   F.PM_LVL0_LVL7, F.PM_LVL1_LVL1, F.PM_LVL1_LVL2, F.PM_LVL1_LVL3, F.PM_LVL1_LVL4, F.PM_LVL1_LVL5, F.PM_LVL1_LVL6]

def actLevels : List FD :=
  [F.PM_ACT0_LVL0, F.PM_ACT0_LVL1, F.PM_ACT0_LVL2, F.PM_ACT0_LVL3, F.PM_ACT0_LVL4, F.PM_ACT0_LVL5, F.PM_ACT0_LVL6,
   F.PM_ACT0_LVL7, F.PM_ACT1_LVL1, F.PM_ACT1_LVL2, F.PM_ACT1_LVL3, F.PM_ACT1_LVL4, F.PM_ACT1_LVL5, F.PM_ACT1_LVL6]

/-- The region behind a place in the lists: 8 × die + region. -/
def lvlRegion (i : Nat) : Nat := if i < 8 then i else i + 1

def railField (r : Nat) : FD := if r = 0 then F.PM_RAIL_CORE else if r = 1 then F.PM_RAIL_GFX else F.PM_RAIL_PORT

/-- The level of the active set, and the level in force. -/
def Dev.setLevels (d : Dev) : List Nat := lvlFields.map (fun f => d.a pmPid f)
def Dev.levelsNow (d : Dev) : List Nat := actLevels.map (fun f => d.r pmPid f)

/-- The rail of a place in the lists (R442). -/
def railOf (i : Nat) : Nat := if i = 3 then 1 else if i < 8 then 0 else 2

/-- The level that a rail runs at for some region levels: the lowest number among the regions it supplies. -/
def railLevel (ls : List Nat) (r : Nat) : Nat :=
  ((upFrom 0 14).filter (fun i => railOf i == r)).foldl (fun m i => min m (ls.getD i 5)) 5

/-- The voltage of a rail at a level, in mV (R444). -/
def railMv (r lv : Nat) : Nat :=
  (if r = 0 then [900, 850, 800, 750, 700, 650] else if r = 1 then [950, 850, 780, 720, 660, 600]
   else [800, 790, 780, 760, 740, 720]).getD lv 0

/-- Render quads at a level, and the target frequency of a region at a level in MHz (R444). -/
def quadsAt (lv : Nat) : Nat := [4, 4, 3, 2, 2, 1].getD lv 1
def freqAt (region lv : Nat) : Nat :=
  if region = 1 then [1000, 900, 800, 600, 500, 400].getD lv 400
  else if region = 3 then [1000, 850, 700, 550, 400, 300].getD lv 300
  else if region = 7 then [1600, 1400, 1200, 1000, 800, 600].getD lv 600
  else if region < 8 then 800 else 400

/-- The clusters of a region: those that hold an implemented page. -/
def Dev.clustersOf (d : Dev) (region : Nat) : List Nat :=
  (upFrom (8 * region) 8).filter (fun c => (upFrom (16 * c) 16).any d.implemented)

/-- The target frequency of a cluster: its region's level's. DESIGN CHOICE (log 93): the Drive die and the hinge domain, for
which the spec gives no frequency, run at 400 MHz, and a code that names no cluster shows its region's. -/
def Dev.clusterTarget (d : Dev) (c : Nat) : Nat :=
  let r := c / 8
  let i := if r < 8 then r else r - 1
  if r = 8 ∨ 15 ≤ r then 400 else freqAt r (d.levelsNow.getD i 2)

/-- The frequency that a cluster runs at: the lower of old and new target until its generator has settled (R78). -/
def Dev.clusterMhz (d : Dev) (c : Nat) : Nat := min (d.clusterTarget c) (tabGet d.fab.settling (d.clusterTarget c) c)

/-- The frequency of a cluster's clock now: 0 without power or clock. -/
def Dev.clockMhz (d : Dev) (c : Nat) : Nat := if d.dark (c / 8) then 0 else d.clusterMhz c

/-- The changes of a list of times and frequencies, newest first, that the last 1 ms rests on: those within it and the last
before it. -/
def recentSpeeds (now : Nat) : List (Nat × Nat) → List (Nat × Nat)
  | [] => []
  | x :: rest => if now < x.1 + 1000000 then x :: recentSpeeds now rest else [x]

/-- The frequencies of the clusters are noted where they have changed (R120). -/
def Dev.clockSample (d : Dev) : Dev :=
  let t := (upFrom 0 192).foldl (fun t c =>
    let l := tabGet t [] c
    if (l.head?.map (·.2)).getD 0 == d.clockMhz c then t
    else tabPut t [] c ((d.now, d.clockMhz c) :: recentSpeeds d.now l)) d.fab.speeds
  { d with fab := { d.fab with speeds := t } }

/-- The cycles of a list of times and frequencies, newest first, from a time to an end, in ns × MHz. -/
def cyclesFrom (from_ : Nat) : Nat → List (Nat × Nat) → Nat
  | _, [] => 0
  | until_, x :: rest =>
    if x.1 ≤ from_ then (until_ - from_) * x.2 else (until_ - x.1) * x.2 + cyclesFrom from_ x.1 rest

/-- The mean frequency of a cluster over the last 1 ms in MHz: the cycles of the frequencies it ran at, less those that
lengthening by droops took (R78, R120). -/
def Dev.clusterMean (d : Dev) (c : Nat) : Nat :=
  let n := cyclesFrom (d.now - 1000000) d.now (tabGet d.fab.speeds [] c)
  let lost := ((tabGet d.fab.droops [] c).filter (fun x => decide (d.now < x.1 + 1000000))).foldl (fun n x => n + x.2) 0
  min 4095 ((1000 * n - lost) / 1000000000)

/-! ### Conditions -/

def Dev.pmState (d : Dev) : Nat := d.r pmPid F.PM_STAT_STATE

/-- Bolt work is armed (R453). -/
def Dev.boltArmed (d : Dev) : Bool :=
  (upFrom 0 8).any (fun i => !(d.r (tbPid i) F.TB_STAT_ARMED == 0) ||
    ((upFrom 0 8).any (fun w => d.a (stkPid i) F.STK_CFG_EN w == 1) && d.a (stkPid i) F.STK_CTRL_SAFE == 0) ||
    d.on (stkPid i) F.STK_STAT_EMG || d.on (spPid i) F.SP_STAT_TONE)

/-- Some port's link is up with its PF not in D3hot (R453). -/
def Dev.portsActive (d : Dev) : Bool :=
  (upFrom 0 4).any (fun p => d.on (hpPid p) F.HP_LINK_DLUP && !((tabGet d.fn {} p).dstate == 3))

/-- The thermal cap acts: THERM, or an open MEM_TEMP fault (R451, R474). -/
def Dev.capOn (d : Dev) : Bool := d.on pmPid F.PM_THERM_ACTIVE || d.flt.faults.any (fun f => f.cause == 11)

/-- Levels under the cap: regions 3 and 7 of the Core die take the lower performance. -/
def Dev.capped (d : Dev) (ls : List Nat) : List Nat :=
  if d.capOn then
    let cap := d.r pmPid F.PM_THERM_CAP
    (List.range ls.length).map (fun i => if i = 3 ∨ i = 7 then max (ls.getD i 0) cap else ls.getD i 0)
  else ls

/-- A ward request for S2 or deeper runs or waits. -/
def Dev.wardSleep (d : Dev) : Bool :=
  (match d.pm.wardPend with | some t => decide (2 ≤ t) | none => false) ||
  (match d.pm.run with | some c => c.ward && decide (2 ≤ c.target) | none => false)

/-- The checks of a set of the power page (R453, R469): RANGE, then CONSISTENCY. -/
def Dev.powerCheck (d : Dev) (snap : List (Nat × Nat)) : Option Nat :=
  let t := snapGet snap pmPid F.PM_SLEEP_TARGET
  if lvlFields.any (fun f => decide (5 < snapGet snap pmPid f)) || decide (4 < t) then some 3
  else if (t == 1 && d.boltArmed) || d.wardSleep then some 1
  else none

/-! ### Ends (R446, R448, R455) -/

/-- Log an event of the power manager. -/
def Dev.pmLog (d : Dev) (kind detail : Nat) : Dev :=
  let (t, d) := d.stamp pmPid
  ((d.w64 pmPid F.PM_LOG_LO_TIME F.PM_LOG_HI_TIME t).w pmPid F.PM_LOG_KIND kind).w pmPid F.PM_LOG_DETAIL detail

/-- A change ends with a RESULT. -/
def Dev.pmEnd (d : Dev) (result detail : Nat) : Dev :=
  let d : Dev := { d with pm := { d.pm with run := none } }
  let d := ((d.w pmPid F.PM_STAT_PHASE 0).w pmPid F.PM_STAT_RESULT result).w pmPid F.PM_EVT_DONE 1
  match result with
  | 0 => (d.add pmPid F.PM_COUNT_CHANGES).pmLog 1 0
  | 1 => (d.err pmPid 10).pmLog 2 1
  | 2 => ((d.addSat pmPid F.PM_COUNT_RACES).err pmPid 11).pmLog 3 detail
  | r => (d.err pmPid 10).pmLog 1 r

def Dev.setPhase (d : Dev) (ph : Nat) : Dev := d.w pmPid F.PM_STAT_PHASE ph
def Dev.setRun (d : Dev) (c : Change) : Dev := { d with pm := { d.pm with run := some c } }
def Dev.enterState (d : Dev) (st : Nat) : Dev := (d.w pmPid F.PM_STAT_STATE st).pmLog 4 st

/-! ### PMBus and the rails (R447, R448) -/

/-- A transaction leaves for its rail's address. -/
def Dev.busEmit (d : Dev) (o : BusOp) : Dev := d.emit (.pmbus o.rail (d.r rlPid F.RG_CFG_ADDR o.rail) o.code o.value)

/-- A transaction is sent first: its time runs. -/
def Dev.busSend (d : Dev) (o : BusOp) : Dev :=
  ({ d with pm := { d.pm with busAt := (d.now, 1000000 * max 1 (d.r rlPid F.RG_TMO_BUS)) } }).busEmit o

/-- Put a transaction on the bus, behind those under way; the first one is sent. -/
def Dev.busPut (d : Dev) (o : BusOp) : Dev :=
  let d := if d.pm.bus.isEmpty then d.busSend o else d
  { d with pm := { d.pm with bus := d.pm.bus ++ [o] } }

/-- A transaction to a rail, with the write of PAGE before it. -/
def Dev.busOp (d : Dev) (r code value : Nat) (forChange : Bool) : Dev :=
  let pg := d.r rlPid F.RG_CFG_PAGE r
  let d := if pg = 0xFF then d else d.busPut { rail := r, code := 0, value := pg, forChange := forChange }
  d.busPut { rail := r, code := code, value := value, forChange := forChange }

/-- The VOUT_COMMAND word of a voltage in mV for an exponent: round(V × 2^−N). -/
def voutWord (mv : Nat) (n : Int) : Nat :=
  if n ≤ 0 then (2 * mv * 2 ^ n.natAbs + 1000) / 2000 else (2 * mv + 1000 * 2 ^ n.natAbs) / (2000 * 2 ^ n.natAbs)

/-- Begin the write of a rail's new voltage: VOUT_MODE first, once. -/
def Dev.railWrite (d : Dev) (r lv : Nat) : Dev :=
  match tabGet d.pm.mode none r with
  | none => d.busOp r 0x20 0 true
  | some n => d.busOp r 0x21 (voutWord (railMv r lv) n) true

/-- The level that the running change wants of a rail. -/
def Dev.wantLevel (d : Dev) (r : Nat) : Nat := match d.pm.run with
  | some c => railLevel c.levels r
  | none => d.r pmPid (railField r)

/-- A change fails on a rail (R448). Every region stays at the lower performance of its old and new level. -/
def Dev.railFail (d : Dev) (r : Nat) : Dev :=
  let d := d.w rlPid F.RG_STAT_UNSURE 1 r
  let n := d.r rlPid F.RG_STAT_FAILS r
  let d := (d.w rlPid F.RG_STAT_FAILS (sat 15 (n + 1)) r).err rlPid errTimeout
  let d : Dev := { d with pm := { d.pm with ack := none } }
  let d := match d.pm.run with
    | some c => d.upTo 14 (fun i d =>
        d.w pmPid (actLevels.getD i F.PM_ACT0_LVL0) (max (c.old.getD i 0) (d.r pmPid (actLevels.getD i F.PM_ACT0_LVL0))))
    | none => d
  let d := d.pmEnd 1 0
  if n + 1 = 3 then d.openFault 13 4 rlPid r else d

/-- The transaction on the bus has ended; the next one is sent, of those that `keep` leaves. -/
def Dev.busNext (d : Dev) (keep : BusOp → Bool := fun _ => true) : Dev :=
  let d : Dev := { d with pm := { d.pm with bus := (d.pm.bus.drop 1).filter keep } }
  match d.pm.bus with
  | o :: _ => d.busSend o
  | [] => d

/-- The transaction on the bus fails: counted, CLEAR_FAULTS sent, and the change that waits for it ends. -/
def Dev.busFail (d : Dev) : Dev :=
  match d.pm.bus with
  | [] => d
  | o :: _ =>
    let d := (d.addSat rlPid F.RG_ERR_BUS 1 o.rail).busNext (fun x => !(o.forChange && x.forChange))
    let d := if o.code = 3 then d else d.busOp o.rail 3 0 false
    if o.forChange then d.railFail o.rail else d

/-- A transaction has not completed in its time (R447). -/
def Dev.busTimeout (d : Dev) : Dev := if d.pm.busAt.1 + d.pm.busAt.2 ≤ d.now then d.busFail else d

/-- The acknowledgement of a rail's output is awaited: for 50 µs the input is ignored, then `RG_TMO.ACK` × 100 µs pass
(R448). -/
def Dev.ackAwait (d : Dev) (r lv mv : Nat) : Dev :=
  let n := 50000 + 100000 * max 1 (d.r rlPid F.RG_TMO_ACK)
  ({ d with pm := { d.pm with ack := some (r, lv, mv), ackAt := (d.now, n) } }).w rlPid F.RG_STAT_ACK 0 r

/-- A PMBus transaction completes, with the word read where it reads one. -/
def Dev.busDone (d : Dev) (data : Nat) : Dev :=
  match d.pm.bus with
  | [] => d
  | o :: _ =>
    let d := d.busNext
    match o.code with
    | 0x20 =>
      if data / 32 % 8 = 0 then
        let d : Dev := { d with pm := { d.pm with mode := tabPut d.pm.mode none o.rail (some (sx 5 data)) } }
        if o.forChange then d.railWrite o.rail (d.wantLevel o.rail) else d
      else if o.forChange then d.railFail o.rail else d
    | 0x21 =>
      let lv := d.wantLevel o.rail
      d.ackAwait o.rail lv (railMv o.rail lv)
    | 0x01 =>
      let lv := d.r pmPid (railField o.rail)
      d.ackAwait o.rail lv (if o.value = 0 then 0 else railMv o.rail lv)
    | 0x79 => d.w rlPid F.RG_SW_STATUS data o.rail
    | _ => d

/-- A transaction is NAKed, fails PEC or loses arbitration: repeated up to twice. -/
def Dev.busNak (d : Dev) : Dev :=
  match d.pm.bus with
  | [] => d
  | o :: rest =>
    if o.tries + 1 < 3 then
      ({ d with pm := { d.pm with bus := { o with tries := o.tries + 1 } :: rest } }).busEmit o
    else d.busFail

/-- The acknowledge input of a rail reaches the level that the command asks for. -/
def Dev.ackUp (d : Dev) (r : Nat) : Dev :=
  match d.pm.ack with
  | some (r', lv, mv) =>
    if r' = r ∧ d.pm.ackAt.1 + 50000 ≤ d.now then
      let d : Dev := { d with pm := { d.pm with ack := none } }
      let d := (((d.w rlPid F.RG_STAT_ACK 1 r).w rlPid F.RG_STAT_MV mv r).w rlPid F.RG_STAT_UNSURE 0 r).w rlPid F.RG_STAT_FAILS 0 r
      d.w pmPid (railField r) lv
    else d
  | none => d

/-- The acknowledgement wait expires. -/
def Dev.ackTimeout (d : Dev) : Dev :=
  match d.pm.ack with
  | some (r, _, _) =>
    if d.pm.ackAt.1 + d.pm.ackAt.2 ≤ d.now then ((d.addSat rlPid F.RG_ERR_ACK 1 r).busOp r 0x79 0 false).railFail r else d
  | none => d

/-! ### Sleep entry (R454) -/

/-- The render region's quads at its level, unless it is gated or asleep. -/
def Dev.renderUp (d : Dev) : Dev :=
  if d.on pmPid F.PM_GATE_OFF 3 then d else d.setQuads (quadsAt (d.levelsNow.getD 3 2))

/-- What an entry has stopped starts again: heads, touch ports, haptic channels (R455, R456). -/
def Dev.restartHeads (d : Dev) : Dev := d.upTo 8 (fun h d => if d.on (hdPid h) F.HD_CTRL_EN then d.headStart h else d)
def Dev.undoEntry (d : Dev) (c : Change) : Dev :=
  let d := if 3 ≤ c.step ∧ c.step < 10 then
      d.upTo 8 (fun i d =>
        let d := (d.touchResume i).hapWake i
        if d.on (spPid i) F.SP_CTRL_EN then d.stageEnable i else d)
    else d
  let d := if 10 ≤ c.step then d.renderUp else d
  if 1 ≤ c.step then d.restartHeads else d

/-- The registers that the power manager keeps of the Core die in a sleep: its own and the regulators', until the exit; for
S3 and S4 the state and the wake source alone. -/
def pmKept (deep : Bool) (k : Nat) : Bool :=
  if deep then [F.PM_STAT_STATE, F.PM_STAT_PHASE, F.PM_STAT_WAKESRC, F.PM_WAKE_EN_I2C, F.PM_WAKE_EN_RTC, F.PM_WAKE_EN_RING].any (fun f =>
    k == fieldKey pmPid f 0)
  else keyPage k == pmPid || keyPage k == rlPid

/-- Step 5: the Core and Drive dies are isolated and held in reset; from here an entry is not undone. S2 also takes the power
of Port regions 1, 2 and 6, S3 and S4 that of everything but the hinge domain. -/
def Dev.pointOfNoReturn (d : Dev) (target : Nat) : Dev :=
  if target = 2 then (((d.coreGone (pmKept false)).driveGone.portGone 1).portGone 2).portGone 6
  else
    let d := d.diesGone true (pmKept true)
    { d with boot := { d.boot with down := true } }

/-- S4 holds the hinge domain in reset. -/
def Dev.enterS4 (d : Dev) : Dev :=
  let d := ((d.holdDrop 2).holdFall).hingeGone
  { d with fab := { d.fab with hingeOn := false } }

/-- One step of an entry. -/
def Dev.entryStep (d : Dev) (c : Change) : Dev :=
  let goTo := fun (n : Nat) (d : Dev) => d.setRun { c with step := n }
  let waits := !d.pm.bus.isEmpty || d.pm.ack.isSome
  match c.step with
  | 0 => goTo 1 (d.upTo 8 (fun h d => d.headClear h))
  | 1 => if (upFrom 0 8).all (fun h => !d.headRuns h) then goTo (if c.target = 1 then 10 else 2) d else d
  | 2 => ((d.upTo 8 (fun i d => (d.touchSleep i).hapOff i)).audioSleep).setRun { c with step := 3, since := d.now }
  | 3 => if d.led.fill = 0 ∧ d.led.waiting.isEmpty then goTo 4 d else d
  | 4 => goTo 5 (d.pointOfNoReturn c.target)
  | 5 => if c.target = 2 then goTo 6 (d.busOp 1 1 0 true)
         else
           let d := ((d.setMainEn false).w pmPid F.PM_STAT_STATE c.target).setPhase 0
           let d := if c.target = 4 then d.enterS4 else d
           { d with pm := { woken := d.pm.woken, wakeEn := d.pm.wakeEn } }
  | 6 => if waits then d else goTo 7 (d.busOp 0 1 0 true)
  | 7 => if waits then d else (d.enterState 2).pmEnd 0 0
  | 10 => goTo 11 (d.setQuads 0)
  | 11 => if d.r rndPid F.RND_STAT_DRAINING = 0 then (d.enterState 1).pmEnd 0 0 else d
  | _ => d

/-- One step of an exit (R456). An exit from S2 ends with the boot, which `boot.due` asks for. -/
def Dev.exitStep (d : Dev) (c : Change) : Dev :=
  let goTo := fun (n : Nat) (d : Dev) => d.setRun { c with step := n }
  let waits := !d.pm.bus.isEmpty || d.pm.ack.isSome
  match c.step with
  | 0 =>
    if d.pmState = 1 then
      let d := (d.renderUp.restartHeads).enterState 0
      match c.race with
      | some s => d.pmEnd 2 s
      | none => d.pmEnd 0 0
    else if d.pmState = 2 then goTo 1 (d.busOp 0 1 0x80 true)
    else { (d.setMainEn true).setPhase 0 with pm := {} }
  | 1 => if waits then d else goTo 2 (d.busOp 1 1 0x80 true)
  | 2 => if waits then d else { goTo 3 d with boot := { d.boot with due := 1 } }
  | _ => d

/-! ### A change (R446) -/

/-- The rails that a change writes before the clocks move, and after: those that rise, with the UNSURE ones that keep their
voltage, and those that fall. -/
def Dev.railsUp (d : Dev) (ls : List Nat) : List Nat :=
  (upFrom 0 3).filter (fun r => let n := railLevel ls r
    let o := d.r pmPid (railField r)
    decide (n < o) || (n == o && d.on rlPid F.RG_STAT_UNSURE r))
def Dev.railsDown (d : Dev) (ls : List Nat) : List Nat :=
  (upFrom 0 3).filter (fun r => decide (d.r pmPid (railField r) < railLevel ls r))

/-- The clocks move: the levels are in force, and every cluster whose target changes has to settle. -/
def Dev.moveClocks (d : Dev) (c : Change) : Dev :=
  let moved := ((upFrom 0 14).filter (fun i =>
    !(freqAt (lvlRegion i) (c.old.getD i 2) == freqAt (lvlRegion i) (c.levels.getD i 2)))).flatMap (fun i =>
      (d.clustersOf (lvlRegion i)).map (fun k => (k, freqAt (lvlRegion i) (c.old.getD i 2))))
  let d := d.upTo 14 (fun i d => d.w pmPid (actLevels.getD i F.PM_ACT0_LVL0) (c.levels.getD i 2))
  { d with fab := { d.fab with settling := moved.foldl (fun t e => tabIns t e.1 e.2) d.fab.settling } }

/-- The end of the level part: the sleep part follows, or the exit from S1 that a target S0 asks for. -/
def Dev.afterLevels (d : Dev) (c : Change) : Dev :=
  let st := d.pmState
  match c.race with
  | some s => if st = 1 then (d.setPhase 6).setRun { c with step := 0 } else d.pmEnd 2 s
  | none =>
    if st = c.target then d.pmEnd 0 0
    else if c.target = 0 then (d.setPhase 6).setRun { c with step := 0 }
    else if c.target < st then d.pmEnd 0 0
    else (d.setPhase 5).setRun { c with step := 0 }

/-- Advance the running change by one step, where nothing holds it up. -/
def Dev.pmStep (d : Dev) : Dev :=
  match d.pm.run with
  | none => d
  | some c =>
    let waits := !d.pm.bus.isEmpty || d.pm.ack.isSome
    match d.r pmPid F.PM_STAT_PHASE with
    | 1 => if waits then d else (match c.rails with
        | r :: rest => (d.setRun { c with rails := rest }).railWrite r (railLevel c.levels r)
        | [] =>
          let d := if d.on pmPid F.PM_GATE_OFF 3 || d.pmState = 1 then d else d.setQuads (quadsAt (c.levels.getD 3 2))
          d.setPhase 2)
    | 2 => if d.r rndPid F.RND_STAT_DRAINING = 0 then (d.moveClocks c).setPhase 3 else d
    | 3 => if d.fab.settling.isEmpty then (d.setRun { c with rails := d.railsDown c.levels }).setPhase 4 else d
    | 4 => if waits then d else (match c.rails with
        | r :: rest => (d.setRun { c with rails := rest }).railWrite r (railLevel c.levels r)
        | [] => d.afterLevels c)
    | 5 => d.entryStep c
    | 6 => d.exitStep c
    | _ => d

/-- Start a change with a set of levels and a target. The check that applies to it is made again (R453). -/
def Dev.changeStart (d : Dev) (levels : List Nat) (target : Nat) (ward : Bool) : Dev :=
  let ls := d.capped levels
  if target = 1 ∧ !ward ∧ d.boltArmed then d.pmEnd 3 0
  else if 2 ≤ target ∧ ward ∧ d.portsActive then d.pmEnd 4 0
  else
    (d.setRun { levels := ls, old := d.levelsNow, target := target, ward := ward, rails := d.railsUp ls }).setPhase 1

/-- The set of the power page that has just been applied starts as a change (R449). -/
def Dev.changeOfSet (d : Dev) : Dev := d.changeStart d.setLevels (d.a pmPid F.PM_SLEEP_TARGET) false

/-- What waits starts while no change runs: a ward request, then a pending set, then the change of R451. -/
def Dev.changeNext (d : Dev) : Dev :=
  if d.pm.run.isSome ∨ d.boot.down ∨ 2 ≤ d.pmState then d
  else match d.pm.wardPend with
    | some t => ({ d with pm := { d.pm with wardPend := none, thermPend := false } }).changeStart d.setLevels t true
    | none =>
      if (d.ctl pmPid).pend.isSome then
        (({ d with pm := { d.pm with thermPend := false } }).applyPend pmPid (fun _ => true)).changeOfSet
      else if d.pm.thermPend then
        ({ d with pm := { d.pm with thermPend := false } }).changeStart d.setLevels d.pmState false
      else d

/-- The wake sources that are enabled, bit s - 1 for source s; a sleep request takes them (R469). -/
def Dev.wakeMask (d : Dev) : Nat :=
  d.r pmPid F.PM_WAKE_EN_I2C + 2 * d.r pmPid F.PM_WAKE_EN_RTC + 4 * d.r pmPid F.PM_WAKE_EN_GESTURE +
    8 * d.r pmPid F.PM_WAKE_EN_RING
def Dev.takeWakes (d : Dev) : Dev := { d with pm := { d.pm with wakeEn := d.wakeMask } }

/-- The ward world's request (R453): it replaces a pending set, and ends at once where a port is active. -/
def Dev.wardRequest (d : Dev) (target : Nat) : Dev :=
  if 2 ≤ target ∧ d.portsActive then
    (((d.w pmPid F.PM_STAT_RESULT 4).w pmPid F.PM_EVT_DONE 1).err pmPid 10).pmLog 1 4
  else
    let d := if target = 0 then d else d.takeWakes
    (({ d with pm := { d.pm with wardPend := some target } }).supersede pmPid).changeNext

/-! ### The cap (R451) -/

/-- The highest Core-die sensor reads a temperature. -/
def Dev.thermalSample (d : Dev) (t : Int) : Dev := d.w pmPid F.PM_THERM_TEMP (ux 8 t)

def Dev.thermalLimit (d : Dev) (t : Int) : Dev :=
  let d := d.thermalSample t
  if d.on pmPid F.PM_THERM_ACTIVE ∨ t < (d.r pmPid F.PM_THERM_LIMIT : Nat) then d
  else
    let d := (((d.w pmPid F.PM_THERM_ACTIVE 1).w pmPid F.PM_EVT_THERM 1).err pmPid 12).pmLog 6 0
    ({ d with pm := { d.pm with thermPend := (d.ctl pmPid).pend.isNone } }).changeNext

def Dev.thermalClear (d : Dev) (t : Int) : Dev :=
  let d := d.thermalSample t
  if t ≤ (d.r pmPid F.PM_THERM_LIMIT : Nat) - 5 then d.w pmPid F.PM_THERM_ACTIVE 0 else d

/-! ### Wake (R455) -/

/-- The entry of a running change has passed its point of no return. -/
def Dev.committed (d : Dev) : Bool := match d.pm.run with
  | some c => d.r pmPid F.PM_STAT_PHASE == 5 && decide (5 ≤ c.step) && decide (c.step < 10)
  | none => false

/-- The device leaves a sleep state. -/
def Dev.exitBegin (d : Dev) (s : Nat) : Dev :=
  let d := (d.w pmPid F.PM_STAT_WAKESRC s).pmLog 5 s
  (d.setRun { levels := d.levelsNow, old := d.levelsNow, target := 0, ward := false, rails := [] }).setPhase 6

/-- The wake event wins against a request that has not passed its point of no return. -/
def Dev.wakeRace (d : Dev) (s : Nat) : Dev :=
  let d := d.w pmPid F.PM_STAT_WAKESRC s
  match d.pm.run with
  | some c =>
    if d.r pmPid F.PM_STAT_PHASE = 5 then
      let d := d.undoEntry c
      if d.pmState = 1 then (d.setRun { c with step := 0, race := some s }).setPhase 6 else d.pmEnd 2 s
    else d.setRun { c with target := 0, race := some s }
  | none => (({ d with pm := { d.pm with wardPend := none } }).supersede pmPid).pmEnd 2 s

/-- A sleep request is accepted and has not completed: one that runs, the ward world's, or a pending set. -/
def Dev.sleepAsked (d : Dev) : Bool :=
  (match d.pm.run with | some c => decide (d.pmState < c.target) && c.race.isNone | none => false) ||
  (match d.pm.wardPend with | some t => decide (0 < t) | none => false) ||
  (match (d.ctl pmPid).pend with | some p => decide (0 < snapGet p.snap pmPid F.PM_SLEEP_TARGET) | none => false)

/-- The power manager takes the oldest wake event that has been raised. -/
def Dev.wakeTake (d : Dev) : Dev :=
  match d.wakes with
  | [] => d
  | s :: rest =>
    let d : Dev := { d with wakes := rest }
    let st := d.pmState
    if !bit d.pm.wakeEn (s - 1) || st = 4 then d
    else if d.committed then { d with pm := { d.pm with woken := some (d.pm.woken.getD s) } }
    else if d.sleepAsked then d.wakeRace s
    else if st = 0 then (d.w pmPid F.PM_EVT_WAKE 1).pmLog 5 s
    else match d.pm.run with
      | some c => if c.target = 0 then d else d.setRun { c with target := 0 }
      | none => d.exitBegin s

/-- An entry that has completed after a wake event exits at once. -/
def Dev.wokenExit (d : Dev) : Dev :=
  match d.pm.woken, d.pm.run with
  | some s, none =>
    if 2 ≤ d.pmState ∧ d.pmState ≤ 3 then ({ d with pm := { d.pm with woken := none } }).exitBegin s else d
  | _, _ => d

/-- Step 3 of an entry has waited 100 ms for the ledger. -/
def Dev.sleepTimeout (d : Dev) : Dev :=
  match d.pm.run with
  | some c =>
    if d.r pmPid F.PM_STAT_PHASE = 5 ∧ c.step = 3 ∧ c.since + 100000000 ≤ d.now then (d.undoEntry c).pmEnd 5 0 else d
  | none => d

end Sys2Proof.Machine
end

