-- ==== Sys2Proof/Machine/Sections.lean ====
section
/-! DEFINITION. The image sections that ward firmware loads, and the release of the open pilots (R123 step 12, R127, R161,
R378, R402, R407). -/

namespace Sys2Proof.Machine

open Sys2Proof

def opPid : Nat := 0x380

/-- The first byte and the size of the open carve-out (R139). -/
def Dev.openBase (d : Dev) : Nat := 2 ^ 21 * d.hd 0x18
def Dev.openSize (d : Dev) : Nat := 2 ^ 21 * d.hd 0x1C

/-- A section of the booted image that ward firmware loads: refused with FAILCODE 5 where its hash or its format fails
(R127). -/
def Dev.wardSection (d : Dev) (type : Nat) (ok : List Nat → Bool) (load : Dev → List Nat → Dev) : Dev :=
  match d.section? d.boot.base type with
  | none => d
  | some s =>
    let bs := d.sectionBytes d.boot.base s
    if d.hashOk d.boot.base s && ok bs then load d bs else d.failCode 5

/-- The tones, and the initial program into bank 0. -/
def Dev.loadTones (d : Dev) : Dev := d.wardSection 8 toneSectionOk (fun d bs => d.toneSection bs)
def Dev.loadProgram (d : Dev) : Dev :=
  d.wardSection 9 (fun bs => imgResult bs bs.length == 0) (fun d bs => d.bankLoad 0 bs)

/-- The preloaded effects. -/
def Dev.loadEffects (d : Dev) : Dev := d.wardSection 11 preloadOk (fun d bs => d.preload bs)

/-- The touch panel parameters, to the touch engine: the spec gives their section no layout, so its hash is all that is
checked. -/
def Dev.loadPanel (d : Dev) : Dev :=
  d.wardSection 10 (fun _ => true) (fun d bs => { d with boot := { d.boot with panel := bs } })

/-- A section of the open world is written to the open carve-out. -/
def Dev.loadOpen (d : Dev) (type : Nat) : Dev :=
  d.wardSection type (fun _ => true) (fun d bs =>
    match d.section? d.boot.base type with
    | some s => d.dramWrN (d.openBase + s.load) bs
    | none => d)

/-- A section of the open carve-out matches its hash. -/
def Dev.openOk (d : Dev) (type : Nat) : Bool :=
  match d.section? d.boot.base type with
  | some s => sha384 (d.dramRdN (d.openBase + s.load) s.size) == s.hash
  | none => false

/-- Ward firmware releases the open pilots, once both sections are good. -/
def Dev.openStart (d : Dev) : Dev :=
  if d.openOk 2 && d.openOk 3 then
    let d := ((d.w opPid F.OP_STAT_RUN 7).w opPid F.OP_STAT_HYP 1).w opPid F.OP_STAT_FW 1
    { d with boot := { d.boot with fwStopped := [] } }
  else d.failCode 5

/-- Step 12 of R123 up to the lock. -/
def Dev.loadSections (d : Dev) : Dev :=
  let d := d.loadTones.loadProgram.loadPanel.loadEffects
  let d := ((d.loadOpen 2).loadOpen 3).openStart
  { d with boot := { d.boot with toLoad := false } }

end Sys2Proof.Machine
end

