-- ==== Sys2Proof/Machine/Recover.lean ====
section
/-! DEFINITION. Containment and recovery of faults (R475 to R480, R486), and the gates that take a region's power (R450). -/

namespace Sys2Proof.Machine

open Sys2Proof

/-! ### A reset of blocks (R479) -/

/-- What a block loses beside its page when it is reset, before the page is. -/
def Dev.blockStop (d : Dev) (pid : Nat) : Dev :=
  match kindOf pid with
  | some (.viHost, v) =>
    let d := if d.viState v = 2 then d.dropCreate v else d
    let d := if 2 ≤ d.viState v then (d.viActions v).genAdvance v else d.windowReset v
    d.setVi v { epochs := (d.vi v).epochs }
  | some (.rendCluster, k) =>
    match d.itemOn k with
    | none => d
    | some i =>
      let d := (d.chargeItem k).setItem k none
      match d.cmdOf i.uid with
      | some x => d.setCmd { x with running := x.running - 1, status := some (x.status.getD 17) }
      | none => d
  | some (.pipeStatus, p) => (d.flipCancel p).setPipe p {}
  | some (.head, h) =>
    let d := d.headStop h
    let x := d.head h
    d.setHead h { sink := x.sink, aux := x.aux, blen := x.blen, safeDue := x.safeDue, early := x.early, tries := x.tries,
                  flipT := x.flipT, flipF := x.flipF, flipP := x.flipP, ftime := x.ftime }
  | some (.crc, h) => d.setHead h { d.head h with forced := false, release := false }
  | some (.displayPhy, h) => (d.noVideo h).setHead h { (d.noVideo h).head h with sink := none, aux := none, blen := false }
  | some (.touchCtl, t) => d.touchGone t
  | some (.audioEngine, _) => { d with aud := { spk := d.aud.spk, tones := d.aud.tones, pool := d.aud.pool } }
  | some (.streams, i) =>
    forAll ((upFrom 0 96).filter (fun s => d.stPage s == 0x610 + i)) (fun s d => d.streamGone s) d
  | some (.sink, k) => { d with aud := { d.aud with sinks := d.aud.sinks.filter (fun e => !(e.1 / 8 == k)) } }
  | some (.tones, _) => { d with aud := { d.aud with tones := [], pool := [], toneLoad := none } }
  | some (.hapticChannel, h) => (d.hapOff h).hapGone h
  | some (.speaker, k) => (d.stageOff k).setSpk k {}
  | _ => d

/-- The fields of a page that its reset leaves: a VI's generation, the places of the sections in strike SRAM, and what a
host port's link and SR-IOV capability show. -/
def resetKeeps (pid k : Nat) : Bool :=
  [F.VIH_STAT_GEN, F.STK_SAFEBASE_OFFSET, F.SC_EMGBASE_OFFSET, F.SC_TPLBASE_OFFSET, F.HP_LINK_DLUP, F.HP_LINK_SPEED,
   F.HP_LINK_WIDTH, F.HP_VFS_NUM, F.HP_VFS_TOTAL, F.HP_VIMAP_LO_MAP, F.HP_VIMAP_HI_MAP].any (fun f =>
    k == fieldKey pid f 0) &&
  (match kindOf pid with
   | some (.viHost, _) | some (.strike, _) | some (.strikeCtl, _) | some (.portCtl, _) => true
   | _ => false)

/-- The pages of a block beside its own: the blocks of VI window pages that lie with the composition region, the touch
region and the audio region. -/
def Dev.blockWindows (d : Dev) (pid : Nat) : List Nat :=
  let each := fun (ws : List Nat) => (upFrom 0 d.nVis).flatMap (fun v => ws.map (viPage v))
  match kindOf pid with
  | some (.layerCtl, 0) => each [7]
  | some (.flips, 0) => each [8]
  | some (.touchCtl, 0) => each [9]
  | _ => []

/-- What a block does when its reset has ended; work that a block in RSTHOLD would start waits until the hold is released. -/
def Dev.blockStart (d : Dev) (pid : Nat) (was : Nat) : Dev :=
  match kindOf pid with
  | some (.rendCluster, k) =>
    let q := k / 4
    let d : Dev := { d with rend := { d.rend with busyRem := tabPut d.rend.busyRem 0 k 0 } }
    (d.w pid F.RC_STAT_STATE (if !(d.r rndPid F.RND_STAT_POWERED).testBit q then 0
      else if (d.r rndPid F.RND_STAT_DRAINING).testBit q then 3 else 1)).rndShow
  | some (.viHost, v) => if was = 0 then d else d.setViState v 1
  | some (.portPart, _) => d.reqShow
  | some (.strike, h) => d.showSafe h
  | some (.openPilot, _) => if d.stopped pid then d else d.openStart
  | some (.hapticChannel, h) => if d.stopped pid then d.hapShow else d.hapShow.hapWake h
  | some (.wardHaptic, _) => d.hapShow
  | some (.audioEngine, _) => if d.stopped pid then d else d.loadProgram
  | some (.tones, _) => if d.stopped pid then d else d.loadTones
  | _ => d

/-- Reset the blocks of a list of pages: their state, their pages with a RESET record each, and their start. A reset below
region level leaves the locks of the pages (R59). -/
def Dev.blocksReset (d : Dev) (ps : List Nat) (locks : Bool := false) : Dev :=
  let was := ps.map (fun p => (p, match kindOf p with | some (.viHost, v) => d.viState v | _ => 0))
  let d := forAll ps (fun p d => d.blockStop p) d
  let d := forAll (ps ++ ps.flatMap d.blockWindows) (fun p d => d.pageReset p (fun k => resetKeeps p k || (locks && lockKey p k))) d
  forAll was (fun e d => d.blockStart e.1 e.2) d

/-- The pages of the element at a level that contains a unit; the power manager's cluster is not reset (R477). -/
def Dev.elementPages (d : Dev) (level unit : Nat) : List Nat :=
  let u := unitOf unit
  let n := if level = 1 then 1 else if level = 2 then 16 else if level = 3 then 128 else 1024
  (d.pagesIn (u / n * n) n).filter (fun p => !(p / 16 == 0x39) || level ≤ 2)

/-- Every stream of the audio region goes OFF, those of the VIs' windows too. -/
def Dev.streamsOff (d : Dev) : Dev := d.upTo 96 (fun s d => d.streamGone s)

/-- A region of the Core die or the Port die is reset (R479). -/
def Dev.regionReset (d : Dev) (r : Nat) : Dev :=
  let d := if r = 12 then d.streamsOff else d
  let d := if r = 9 then d.upTo 4 (fun p d => d.dlDown p) else d
  let d := d.blocksReset (d.elementPages 3 (128 * r))
  if r = 3 then d.setQuads (quadsAt (d.levelsNow.getD 3 2)) else d

/-- A unit, a cluster or a region is reset. -/
def Dev.elementReset (d : Dev) (level unit : Nat) : Dev :=
  if level = 3 then d.regionReset (unitOf unit / 128) else d.blocksReset (d.elementPages level unit) (decide (level ≤ 2))

/-- The Drive die is reset and link 3 trains again (R477). -/
def Dev.driveReset (d : Dev) : Dev := (d.blocksReset (d.elementPages 4 0x800)).linkTrain 3

/-! ### The gates of a region (R450) -/

/-- The power of the render region goes once no quad is powered. -/
def Dev.renderOff (d : Dev) : Dev :=
  if d.on pmPid F.PM_GATE_OFF 3 && d.r rndPid F.RND_STAT_POWERED == 0 then (d.blocksReset (d.elementPages 3 0x180)).rndShow
  else d

/-- OFF is set: the region's blocks lose what they hold, and its pages show reset values when power returns. The render
region's quads drain first. -/
def Dev.regionOff (d : Dev) (r : Nat) : Dev := if r = 3 then (d.setQuads 0).renderOff else d.regionReset r

/-- A draining quad is idle and powers down (R268, R450). -/
def Dev.quadOff (d : Dev) (q : Nat) : Dev :=
  if (d.r rndPid F.RND_STAT_DRAINING).testBit q then (d.quadDrained q).renderOff else d

/-- The blocks of pages that were without power or held in reset start what they start with. -/
def Dev.startHeld (d : Dev) (ps : List Nat) : Dev := ps.foldl (fun d p =>
  match kindOf p with
  | some (.openPilot, _) | some (.hapticChannel, _) | some (.audioEngine, _) | some (.tones, _) => d.blockStart p 0
  | _ => d) d

/-- OFF is cleared: the render region powers up at its level, and the blocks of the others start. -/
def Dev.regionOn (d : Dev) (r : Nat) : Dev :=
  if r = 3 then d.setQuads (quadsAt (d.levelsNow.getD 3 2)) else d.startHeld (d.elementPages 3 (128 * r))

/-- A cluster of a region is released from RSTHOLD: what its blocks start with begins now (R161: RUN rises again). -/
def Dev.clusterFree (d : Dev) (r c : Nat) : Dev := d.startHeld (d.elementPages 2 (128 * r + 16 * c))

/-- A cluster of a region is put in reset. -/
def Dev.clusterHold (d : Dev) (r c : Nat) : Dev := d.blocksReset (d.elementPages 2 (128 * r + 16 * c)) true

/-! ### Package-level and system-level recovery (R477, R478, R480) -/

/-- What a reset of every die takes of the state that no page holds. -/
def Dev.outerGone (d : Dev) : Dev :=
  { d with pm := {}, wakes := [], spdm := [], prompts := [], emgTest := none, mbox := [], hinge := [],
           boot := { d.boot with hot := false, hotDrive := false, restart := none, wrStep := 0, answered := true, cdi := [],
                                 idKey := 0, aliasKey := 0, aliasCert := [], panel := [] } }

/-- The words of a fault's record are copied to `FT_PKGk` (R493). -/
def Dev.pkgRecord (d : Dev) (rec_ : List Nat) : Dev := d.upTo 8 (fun k d => d.w ftPid F.FT_PKG_WORD (rec_.getD k 0) k)

/-- Only the fault that began the recovery stays open. -/
def Dev.onlyFault (d : Dev) (f : OpenFault) : Dev := { d with flt := { d.flt with faults := [f] } }

/-- The part of a package-level recovery that a fault in the hinge domain adds: device time starts again from 0, from which
the windows run on. -/
def Dev.hingeRecovery (d : Dev) : Dev :=
  let t := d.now
  let ws := (d.openWindows t).map (fun w => { w with ends := w.ends - t })
  let d := d.hingeGone
  { d with flt := { d.flt with windows := ws, faults := d.flt.faults.map (fun f => { f with opened := 0, since := 0 }) } }

/-- The dies are isolated and held in reset (R478 steps 1 to 4). -/
def Dev.holdDies (d : Dev) : Dev :=
  let d := (d.holdDrop 1).diesGone true
  let d := (d.wipe bootPage).outerGone
  { d with boot := { d.boot with down := true } }

/-- A package-level recovery begins. The boot of its step 5 follows, for THERMAL once the sensors allow it. -/
def Dev.packageBegin (d : Dev) (f : OpenFault) (rec_ : List Nat) : Dev :=
  let d := ((d.pkgRecord rec_).holdDies).onlyFault f
  let d := if unitOf f.unit / 128 = 8 then d.hingeRecovery else d
  if f.cause = 14 then { d with boot := { d.boot with hot := true } } else { d with boot := { d.boot with due := 2 } }

/-- A system-level fault: the dies stay in reset. -/
def Dev.systemBegin (d : Dev) (f : OpenFault) (rec_ : List Nat) : Dev :=
  (((d.pkgRecord rec_).holdDies).onlyFault f).setFaultN true

/-! ### Containment (R476) -/

/-- Each PF logs an Uncorrectable Internal Error and sends ERR_NONFATAL where it can (R486). -/
def Dev.hostErrors (d : Dev) : Dev :=
  d.upTo 4 (fun p d =>
    let c := tabGet d.fn {} p
    let d := { d with fn := tabPut d.fn {} p { c with uie := true } }
    if c.uieOn && d.on (hpPid p) F.HP_LINK_DLUP then d.emit (.event 486 [p]) else d)

/-- MEM_TEMP caps the levels at once, by a change as THERM does (R451, R474). -/
def Dev.memTempCap (d : Dev) (f : OpenFault) : Dev :=
  if f.cause = 11 then ({ d with pm := { d.pm with thermPend := (d.ctl pmPid).pend.isNone } }).changeNext else d

/-- A fault that has just opened is contained. -/
def Dev.contain (d : Dev) (x : OpenFault × List Nat) : Dev :=
  let f := x.1
  let d := d.memTempCap f
  if !d.flt.faults.contains f then d
  else if f.level = 6 then d.systemBegin f x.2
  else if f.byPackage then d.packageBegin f x.2
  else
    let d := if decide (3 ≤ f.level) && decide (f.level ≤ 4) then d.hostErrors else d
    if f.level = 4 then
      let d := (d.elementPages 4 f.unit).foldl (fun d p => d.discardPend p) d
      let d := (d.upTo 8 (fun h d => (d.hapOff h).stageOff h)).linkTrain 3
      if f.cause = 14 then { d with boot := { d.boot with hotDrive := true } } else d
    else if f.cause = 10 || decide (4 < f.level) then d
    else
      let ps := d.elementPages f.level f.unit
      let ws := ps.flatMap (fun p => match kindOf p with
        | some (.viHost, v) => (upFrom 0 12).map (viPage v)
        | _ => [])
      let hw := if f.level = 3 then (ps.flatMap d.blockWindows) else []
      (ps ++ ws ++ hw).foldl (fun d p => d.discardPend p) d

/-- Contain every fault of the command, the oldest first. -/
def Dev.containAll (d : Dev) : Dev :=
  let due := d.flt.due
  due.foldl (fun d x => d.contain x) { d with flt := { d.flt with due := [] } }

/-! ### Ends of recoveries -/

/-- Step 5 of the ward restart: the fault closes (R153). -/
def Dev.restartFinish (d : Dev) : Dev :=
  let d := d.w bootPid F.WR_STAT_STATE 0
  { d with boot := { d.boot with restart := none, wrStep := 0 } }

/-- The recovery of a fault ends (R476 to R479). Recoveries that a rule of their own ends, those that end with the lock and
those that end not at all are left. -/
def Dev.recoverEnd (d : Dev) (seq : Nat) : Dev :=
  match d.flt.faults.find? (fun f => f.seq == seq && !f.consequent && !f.latched) with
  | none => d
  | some f =>
    if f.byPackage || decide (5 ≤ f.level) then d
    else if f.ownRecovery then
      if f.cause = 10 then
        let d := d.restartSteps true
        if d.boot.wrStep = 4 then d.restartFinish.closeFault f else d
      else if f.cause = 1 then
        let q := (f.unit - 0x190) / 16
        let d := (d.w f.unit F.RC_STAT_STATE (if !(d.r rndPid F.RND_STAT_POWERED).testBit q then 0
          else if (d.r rndPid F.RND_STAT_DRAINING).testBit q then 3 else 1)).rndShow
        d.closeFault f
      else if f.cause = 2 then d.closeFault f
      else d
    else if f.level = 4 then
      if d.boot.hotDrive then d else d.driveReset.closeFault f
    else (if unitOf f.unit / 128 = 18 then d.driveReset
          else d.elementReset f.level f.unit).closeFault f

/-- The bound of a fault's recovery in ns, where it has one (R475, R476). DEDUCED (log 97): a fault that package-level
recovery recovers has the bound of that level, whatever its own. -/
def Dev.recoveryBound (d : Dev) (f : OpenFault) : Option Nat :=
  if f.ownRecovery then
    match f.cause with
    | 1 => some 50000
    | 2 => some (d.linesNs (f.unit % 8) 16)
    | 6 => some 20000
    | 10 => some 150000000
    | _ => none
  else if f.byPackage then some 500000000
  else [none, some 100000, some 1000000, some 10000000, some 20000000].getD f.level none

/-- The recovery of a fault has not ended within its bound: a package-level one counts from the release of reset, and time in
reset for a temperature does not count (R475). -/
def Dev.recoveryOver (d : Dev) (f : OpenFault) : Bool :=
  !(d.boot.hot || (f.level == 4 && d.boot.hotDrive)) && !(f.byPackage && d.boot.down) &&
    (match d.recoveryBound f with
     | some b => decide ((if f.byPackage then d.boot.goodAt else f.since) + b ≤ d.now)
     | none => false)

/-- A recovery overruns its bound (R475). -/
def Dev.recoverTimeout (d : Dev) (seq : Nat) : Dev :=
  match d.flt.faults.find? (fun f => f.seq == seq && !f.consequent && !f.latched) with
  | none => d
  | some f =>
    if d.recoveryOver f then d.openFault 17 (f.level + 1) f.pid (seq % 65536) false false (some f.unit) else d

/-- A die's junction sensor reaches 125 °C (R474): 0 Core, 1 Port, 2 Drive. -/
def Dev.junctionHot (d : Dev) (die : Nat) (temp : Int) : Dev :=
  let page := if die = 0 then pmPid else if die = 1 then 0x701 else 0x703
  let unit := if die = 0 then pmPid else if die = 1 then 0x701 else supPid
  if temp < 125 ∨ d.boot.down ∨ d.flt.faults.any (fun f => f.cause == 14 && unitOf f.unit / 1024 == unit / 1024) then d
  else d.openFault 14 4 page (ux 8 temp) false false (some unit)

/-- The sensors of the dies read temperatures while a THERMAL hold lasts (R477, R478). -/
def Dev.thermalRelease (d : Dev) (core port drive : Int) : Dev :=
  let d : Dev := if d.boot.hotDrive ∧ drive < 105 then
      { d with boot := { d.boot with hotDrive := false }, flt := { d.flt with faults := d.flt.faults.map (fun f =>
          if f.level = 4 ∧ unitOf f.unit / 1024 = 2 then { f with since := d.now } else f) } }
    else d
  if d.boot.hot ∧ core < 100 ∧ port < 100 ∧ drive < 100 then
    { d with boot := { d.boot with hot := false, due := 2 } }
  else d

end Sys2Proof.Machine
end

