-- ==== Sys2Proof/Machine/LoopBack.lean ====
section
/-! DEFINITION. Loop-back tests (R487 to R490, R494). -/

namespace Sys2Proof.Machine

open Sys2Proof

def lbPid : Nat := 0x710

def Dev.lbIface (d : Dev) : Nat := d.r lbPid F.LB_CTRL_IFACE
def Dev.lbInst (d : Dev) : Nat := d.r lbPid F.LB_CTRL_INST
def Dev.lbDepth (d : Dev) : Nat := d.r lbPid F.LB_CTRL_DEPTH
def Dev.lbBusy (d : Dev) : Bool := d.on lbPid F.LB_STAT_BUSY

/-- The instances of an interface, as one more than the highest, and its depths (R488). -/
def lbInstances (iface : Nat) : Nat := [4, 8, 9, 4, 8, 8, 8, 4, 2].getD iface 0
def lbDepths (iface : Nat) : List Nat :=
  match iface with
  | 0 | 1 => [0, 1, 2, 3]
  | 2 | 5 | 6 => [1, 2, 3]
  | 3 => [2]
  | 4 | 8 => [2, 3]
  | 7 => [0, 2]
  | _ => []

/-- IFACE, INST and DEPTH are not reserved (R494). At depth 3 of the ring INST is ignored. -/
def Dev.lbNamed (d : Dev) : Bool :=
  (lbDepths d.lbIface).contains d.lbDepth &&
    (decide (d.lbInst < lbInstances d.lbIface) || (d.lbIface == 8 && d.lbDepth == 3))

/-- The memory that a depth-3 test of DRAM uses lies in the ward carve-out. -/
def Dev.lbMemory (d : Dev) : Bool :=
  let a := d.r lbPid F.LB_ADDR_LO_ADDR * 64 + 2 ^ 32 * d.r lbPid F.LB_ADDR_HI_ADDR
  within a (2 ^ 20 * max 1 (d.r lbPid F.LB_SIZE_MIB)) d.wardBase d.wardSize

/-- The condition of the last column of R488 holds for an instance. -/
def Dev.lbIdle (d : Dev) (iface inst depth : Nat) : Bool :=
  match iface with
  | 0 => decide (depth ≤ 2) && !d.on (hpPid inst) F.HP_LINK_DLUP
  | 1 => !d.headRuns inst && (d.linkState inst == 0 || d.linkState inst == 3)
  | 2 => depth == 3 || d.r mcPid F.MC_TRAIN_STATE == 0 || d.r mcPid F.MC_TRAIN_STATE == 3
  | 3 => decide (0 < d.freeSpares inst)
  | 4 => d.touchState inst == 0
  | 5 => d.hapState inst == 0 || d.hapState inst == 6
  | 6 => d.stageState inst == 0 || d.stageState inst == 3
  | 7 => !d.on (skPid (8 + inst)) F.TDM_CFG_EN
  | 8 => depth == 2 && !d.held?
  | _ => false

/-- A GO is allowed (R489): never on a reserved code, after the lock only in the condition of R488. -/
def Dev.lbOk (d : Dev) : Bool :=
  d.lbNamed && (!(d.lbIface == 2 && d.lbDepth == 3) || d.lbMemory) &&
    (!d.locked || d.lbIdle d.lbIface d.lbInst d.lbDepth)

/-- Before the lock the instance is first stopped. -/
def Dev.lbStop (d : Dev) : Dev :=
  let i := d.lbInst
  match d.lbIface with
  | 1 => if d.headRuns i then d.headStop i else d
  | 4 => d.touchStop i
  | 5 => d.hapOff i
  | 6 => d.stageOff i
  | 7 => d.w (skPid (8 + i)) F.TDM_CFG_EN 0
  | _ => d

/-- What a test runs with, beside its instance and depth: the pattern, the rate code, the lane groups, the length, and the
start and the size of a memory test (R488, R494). -/
def Dev.lbSetting (d : Dev) : List Nat :=
  [d.r lbPid F.LB_CTRL_PATTERN, d.r lbPid F.LB_RATE_RATE, d.r lbPid F.LB_RATE_LANES, max 1 (d.r lbPid F.LB_LEN_MBIT),
   d.r lbPid F.LB_ADDR_LO_ADDR * 64 + 2 ^ 32 * d.r lbPid F.LB_ADDR_HI_ADDR, max 1 (d.r lbPid F.LB_SIZE_MIB)]

/-- A test runs over `LB_LEN`: a bit test, ring frames, and the pattern for an external analyser (R488). -/
def Dev.lbCounted (d : Dev) : Bool :=
  match d.lbIface with
  | 2 => !(d.lbDepth == 3)
  | 4 => false
  | 5 | 6 => d.lbDepth == 1
  | _ => true

/-- GO. -/
def Dev.lbGo (d : Dev) : Dev :=
  if d.lbBusy then d
  else
    let d := if d.locked then d else d.lbStop
    let d := ((d.w lbPid F.LB_STAT_BUSY 1).w lbPid F.LB_STAT_RESULT 0).w lbPid F.LB_STAT_LANE 0
    ((((d.w lbPid F.LB_ERR_COUNT 0).w lbPid F.LB_DONE_MBIT 0).w lbPid F.LB_MEAS_VALUE 0).w lbPid F.LB_MEAS_INDEX 0).emit
      (.event 487 ([d.lbIface, d.lbInst, d.lbDepth] ++ d.lbSetting))

/-- The test ends with a RESULT. -/
def Dev.lbFinish (d : Dev) (result : Nat) : Dev :=
  ((d.w lbPid F.LB_STAT_BUSY 0).w lbPid F.LB_STAT_RESULT result).err lbPid 10

def Dev.lbAbort (d : Dev) : Dev := if d.lbBusy then d.lbFinish 5 else d

/-- The range of a measurement (R488), in LB_MEAS units: 0.01 pF, 0.25 Ω. None for a bit test. -/
def Dev.lbRange (d : Dev) (index : Nat) : Option (Nat × Nat) :=
  let lo := d.r lbPid F.LB_LIMIT_LO
  let hi := d.r lbPid F.LB_LIMIT_HI
  let of := fun (a b : Nat) => if lo = 0 ∧ hi = 0 then some (a, b) else some (lo, hi)
  match d.lbIface, d.lbDepth with
  | 4, 2 => of 95 105
  | 4, _ => if index < 4096 then of 30 400 else of 0 20000
  | 5, 3 => of 16 64
  | 6, 3 => of 12 64
  | _, _ => if lo = 0 ∧ hi = 0 then none else some (lo, hi)

/-- The RESULT of what a test has found: the pattern locked, the errors counted, the worst value and its index. -/
def Dev.lbResult (d : Dev) (locked : Bool) (errors value index : Nat) : Nat :=
  if d.lbIface = 1 ∧ d.lbDepth = 3 then 6
  else if !locked then 3
  else if 0 < errors then 2
  else match d.lbRange index with
    | none => 1
    | some (lo, hi) => if lo ≤ value ∧ value ≤ hi then 1 else 4

/-- A test runs to its end. One that has locked and is not yet over its length goes on, and shows how far it is. -/
def Dev.lbEnd (d : Dev) (locked : Bool) (errors lane done value index : Nat) : Dev :=
  if d.lbBusy && locked && d.lbCounted && decide (done < max 1 (d.r lbPid F.LB_LEN_MBIT)) then
    (d.w lbPid F.LB_ERR_COUNT (sat (2 ^ 32 - 1) errors)).w lbPid F.LB_DONE_MBIT done
  else if d.lbBusy then
    let r := d.lbResult locked errors value index
    let d := ((d.w lbPid F.LB_ERR_COUNT (sat (2 ^ 32 - 1) errors)).w lbPid F.LB_DONE_MBIT done).w lbPid F.LB_STAT_LANE
      (if r = 2 ∨ r = 3 then lane else 0)
    ((d.w lbPid F.LB_MEAS_VALUE value).w lbPid F.LB_MEAS_INDEX index).lbFinish r
  else d

/-- The page of the instance under test. -/
def Dev.lbPage (d : Dev) : Nat :=
  let i := d.lbInst
  match d.lbIface with
  | 0 => hpPid i
  | 1 => hdPid i
  | 2 => mcPid
  | 3 => plPid i
  | 4 => tsPid i
  | 5 => haPid i
  | 6 => spPid i
  | 7 => skPid (8 + i)
  | _ => rgPid

/-- A fault on the instance, and leaving S0, end a test (R490). -/
def Dev.lbCheck (d : Dev) : Dev :=
  if d.lbBusy && (decide (0 < d.faultLevel d.lbPage) || !(d.pmState == 0)) then d.lbFinish 5 else d

/-- The test under way holds an instance of an interface after the lock. -/
def Dev.lbHolds (d : Dev) (iface inst : Nat) : Bool :=
  d.lbBusy && d.locked && d.lbIface == iface && d.lbInst == inst

end Sys2Proof.Machine
end

