-- ==== Sys2Proof/Machine/Read.lean ====
section
/-! DEFINITION. Reading a register: what each agent sees of a page, the words that the device makes up at the read, and
what a read does (R4, R38, R39, R42, R166, R326, R327, R427). -/

namespace Sys2Proof.Machine

open Sys2Proof

/-! ### Which registers a page has -/

/-- The register of a kind exists on its `i`-th page (R389, R438 to R440, R415). -/
def exists? (k : PageKind) (i off : Nat) : Bool :=
  match k with
  | .hapticChannel => decide (off < 0x140)
  | .irqOwner => decide (off < 0x040 ∨ off = 0x040 ∨ (off = 0x04C ∧ i = 5) ∨ 0x800 ≤ off)
  | .irqTarget => decide (i < 4 ∨ off < 0x100)
  | .viIrq => decide (off < 0x04C ∨ 0x060 ≤ off)
  | .sink => decide (off < 0x040 ∨ (8 ≤ i ∧ off = 0x040) ∨ (0x100 ≤ off ∧ (8 ≤ i ∨ off < 0x110)))
  | _ => true

/-- The fields of the register at an offset of a page. -/
def regFields (pid off : Nat) : List (FD × Nat) :=
  match kindOf pid with
  | none => []
  | some (k, i) => if exists? k i off then fieldsAt k off else []

/-- The page and offset that hold a register shown on another page too: a VI's haptic blocks and its period slots, and the
PF's message address and data (R36, R389, R439). -/
def Dev.place (d : Dev) (pid off : Nat) : Nat × Nat :=
  match kindOf pid with
  | some (.viHapticAudio, _) =>
    if 0x100 ≤ off ∧ off < 0x300 then (haPid ((off - 0x100) / 64), 0x100 + off % 64) else (pid, off)
  | some (.viPeriods, v) =>
    if 0x800 ≤ off then
      let e := d.perFirst v + 64 * d.r pid F.PV_BANK_BANK + (off - 0x800) / 32
      (perPage e, 0x800 + 32 * (e % 64) + off % 32)
    else (pid, off)
  | some (.viIrq, v) =>
    if 0x800 ≤ off ∧ off < 0x80C then (0x340 + d.viPort v % 4, 0x100 + 16 * v + off % 16) else (pid, off)
  | _ => (pid, off)

/-- The register's block belongs to the page's owner (R36, R199, R276, R375, R389, R413, R438, R440). -/
def Dev.blockHere (d : Dev) (pid off : Nat) : Bool :=
  match kindOf pid with
  | some (.layerCtl, _) | some (.viLayers, _) => decide (off < 0x100) || d.pipeOn pid ((off - 0x100) / 64)
  | some (.flips, _) | some (.viFlips, _) => decide (off < 0x100) || d.pipeOn pid ((off - 0x100) / 32)
  | some (.touchReports, _) | some (.viTouch, _) => decide (off < 0x100) || d.trPage ((off - 0x100) / 64) == pid
  | some (.viHapticAudio, v) =>
    if off < 0x100 then true
    else if off < 0x300 then d.hapOwner ((off - 0x100) / 64) == codeVi (d.viPort v) v
    else if off < 0xE00 then d.stPage ((off - 0x800) / 16) == pid
    else d.stPage ((off - 0xE00) / 4) == pid
  | some (.streams, _) =>
    if off < 0x200 then true
    else if off < 0x800 then d.stPage ((off - 0x200) / 4) == pid
    else if off < 0xE00 then d.stPage ((off - 0x800) / 16) == pid
    else d.stPage ((off - 0xE00) / 4) == pid
  | some (.irqOwner, k) =>
    decide (off < 0x800) || (let s := (off - 0x800) / 4
      !srcReserved s && decide (256 ≤ s) && owns (d.srcOwner s) (if k < 4 then codePf k else if k = 4 then codeOpen else codeWard))
  | some (.irqTarget, p) =>
    decide (off < 0x100 ∨ 0x500 ≤ off) || (let v := (off - 0x100) / 16
      decide (v < d.nVis) && d.viPort v == p)
  | some (.pfDoorbell, p) =>
    decide (off < 0x040) || (let v := (off - 0x040) / 4
      decide (v < d.nVis) && d.viPort v == p)
  | some (.viPeriods, _) =>
    decide (off < 0x800) || decide ((off - 0x800) / 32 + 64 * d.r pid F.PV_BANK_BANK < d.perCount)
  | _ => true

/-- Before the lock every page but the boot status page of a failed boot is the ward world's alone (R41, R130). -/
def Dev.visible (d : Dev) (ag : Agent) (pid : Nat) : Bool :=
  match ag with
  | .pf _ => if d.bootStage = 15 then pid == bootPid else d.sees ag pid
  | _ => d.sees ag pid

/-! ### Words that the device makes up -/

/-- The mask of the numbers below a bound that a test selects. -/
def maskOf (n : Nat) (f : Nat → Bool) : Nat := (upFrom 0 n).foldl (fun m i => if f i then m + 2 ^ i else m) 0

/-- The number of the numbers below a bound that a test selects. -/
def countOf (n : Nat) (f : Nat → Bool) : Nat := ((upFrom 0 n).filter f).length

/-- `PAGE_STAT`. -/
def Dev.pageStat (d : Dev) (pid : Nat) : Nat :=
  b2n (d.running pid) + 2 * b2n (d.ctl pid).busy.isSome + 4 * b2n (d.ctl pid).pend.isSome +
    8 * d.r pid F.PAGE_LOCK_LOCK + 16 * d.faultLevel pid

/-- `IR_SRCs` bits that show the controller's state. -/
def Dev.srcBits (d : Dev) (s w : Nat) : Nat :=
  let x := d.src s
  let t := match x.svc with | some (t, _) => t | none => x.asg.getD 0
  bits w 0 8 + 256 * b2n x.level + 512 * b2n (d.srcPending s) + 1024 * b2n x.svc.isSome + 2048 * b2n x.orphan + 65536 * t

/-- The target of a target page. -/
def pageTarget (pid : Nat) : Option Nat :=
  match kindOf pid with
  | some (.irqTarget, k) => some (if k < 4 then 68 + k else if k < 7 then k - 3 else 0)
  | some (.viIrq, v) => some (4 + v)
  | _ => none

/-- The fields of a target page that show the controller's state. -/
def Dev.targetWord (d : Dev) (pid off w : Nat) : Nat :=
  match pageTarget pid with
  | none => w
  | some t =>
    if off = 0x068 then setBits (if 4 ≤ t ∧ t < 68 then setBits w 16 1 1 else w) 8 4 (d.runPrio t)
    else if off = 0x06C then
      setBits (setBits w 0 10 (d.sources.filter (fun s => (d.src s).asg == some t && d.srcPending s)).length) 12 1
        (b2n (d.tgtEnabled t))
    else w

/-- The level of the highest window open, and the end of the last one of that level (R481, R493). -/
def Dev.windowLevelNow (d : Dev) : Nat := (d.openWindows d.now).foldl (fun m w => max m w.level) 0
def Dev.windowEnd (d : Dev) : Nat :=
  ((d.openWindows d.now).filter (fun w => w.level == d.windowLevelNow)).foldl (fun m w => max m w.ends) 0

/-- The band that the transmitter scans out. -/
def Dev.bandNow (d : Dev) (h : Nat) : Nat :=
  if d.lineNow h < (readTiming d.actRd h).vact then d.lineNow h / 16 else 0

/-- A block's own register: the stored word `w`, with the fields that follow from other state in their places. -/
def Dev.blockWord (d : Dev) (pid : Nat) (k : PageKind) (i off w : Nat) : Nat :=
  match k with
  | .ledger => if off = 0x044 then
      setBits (setBits w 16 1 (b2n (d.held.any (fun x => x.why == .ledger)))) 17 1 (b2n d.draining) else w
  | .slotWheel => if off = 0x0C0 then setBits w 0 6 d.slotNow else w
  | .sramRepair =>
    if 0x100 ≤ off ∧ off < 0x1C0 then (match Config.fusedRow ((off - 0x100) / 4) with
      | some row => row.toNat + 2 ^ 16 + 2 ^ 17
      | none => w)
    else w
  | .classPage => if 0x0C0 ≤ off then setBits w 16 16 (mbUp (d.headDemand d.cntRd ((off - 0x0C0) / 4))) else w
  | .periodCtl => if off = 0x040 then
      countOf 256 (fun e => d.pe e F.PE_CTRL_ARMED == 1) + 65536 * countOf 256 (fun e => d.perState e == 2) else w
  | .periodEntries =>
    if 0x800 ≤ off ∧ off % 32 = 0 then
      let e := 64 * i + (off - 0x800) / 32
      setBits (setBits w 4 6 (if e < 64 then 0 else (e - 64) / d.perCount)) 10 1 (b2n (decide (e < 64)))
    else w
  | .viPeriods => if off = 0x040 then setBits (setBits w 8 8 d.perCount) 16 8 (d.perFirst i) else w
  | .clocks =>
    let c := d.r pid F.ISL_SEL_CLUSTER
    if off = 0x044 then d.clusterMean c + 65536 * d.clusterTarget c
    else if off = 0x048 then tabGet d.fab.stretch 0 c else w
  | .viHost => if off = 0x044 then setBits w 24 1 (b2n (d.oldWork i)) else w
  | .rendCluster => if off = 0x044 then d.busyShown i else w
  | .viRender => if off = 0x044 then d.usedShown i else w
  | .portCtl => if off = 0x05C then d.a 0x084 F.PP_WIN_BASE i + 65536 * d.a 0x084 F.PP_WIN_SIZE i else w
  | .viControl =>
    if off = 0x040 then d.viState i + 256 * d.gen i + 65536 * (d.viPort i % 4) + 2 ^ 24 * i
    else if off = 0x044 then d.hb 6 % 8 + 256 * (256 / d.nVis) + 2 ^ 17 * (16384 / d.nVis) else w
  | .fence | .viFences =>
    if 0x400 ≤ off ∧ off % 16 = 4 then setBits w 16 16 (d.fenceRemain pid ((off - 0x400) / 16)) else w
  | .compose =>
    if off = 0x048 then setBits (setBits w 0 8 (d.bandNow i)) 9 1 (b2n (d.layerPages.any (fun p => d.heldOn p i)))
    else if off = 0x04C then d.poolUsed d.cntRd i else w
  | .layerCtl | .viLayers =>
    if off = 0x040 then maskOf 32 (d.pipeOn pid) else if off = 0x044 then maskOf 48 (d.pipeOn pid) / 2 ^ 32
    else if off = 0x048 then maskOf 8 (fun h => (d.partsLeft pid).contains h) else w
  | .touchReports | .viTouch => if off = 0x040 then maskOf 8 (fun t => d.trPage t == pid) else w
  | .pipeStatus =>
    if off = 0x040 then d.pipeHead i + 8 * b2n (d.pipeAssigned i) + 16 * b2n (d.pipeLatchOk i) +
      32 * b2n (d.pipeWarpOk i) + 65536 * d.pipeOwner i
    else if off = 0x044 then
      let n := fun (b : Option Buf) => match b with | some x => x.map.length | none => 0
      n (d.pipe i).cur + 65536 * n ((d.pipe i).flip.map (·.buf))
    else w
  | .head =>
    if off = 0x060 then setBits (setBits w 16 12 (d.lineNow i)) 31 1 (b2n (d.guarded i))
    else if off = 0x084 then mpxUp (readTiming d.actRd i).rate + 65536 * mpxUp (d.aggregate d.cntRd) else w
  | .watchdog => if off = 0x044 then d.wdgRemain else w
  | .deviceTime => if off = 0x040 then d.now % 2 ^ 32 else if off = 0x044 then d.now / 2 ^ 32 % 2 ^ 32 else w
  | .wake => if off = 0x048 then d.rtcCount % 2 ^ 32 else if off = 0x04C then d.rtcCount / 2 ^ 32 % 65536 else w
  | .irqOwner => if 0x800 ≤ off then d.srcBits ((off - 0x800) / 4) w else w
  | .viIrq => if 0x080 ≤ off ∧ off < 0x090 then d.srcBits (4 * i + (off - 0x080) / 4) w else d.targetWord pid off w
  | .irqTarget => d.targetWord pid off w
  | .faultLog =>
    if off = 0x040 then setBits w 4 3 d.windowLevelNow
    else if off = 0x048 then d.windowEnd % 2 ^ 32 else if off = 0x04C then d.windowEnd / 2 ^ 32 % 2 ^ 32
    else if 0x080 ≤ off ∧ off < 0x0A0 then ((d.flt.log.headD []).getD ((off - 0x080) / 4) 0) else w
  | _ => w

/-- A common register (R39), or a block's own. -/
def Dev.overlay (d : Dev) (pid : Nat) (k : PageKind) (i off w : Nat) : Nat :=
  match off with
  | 0x000 => i % 256 + 256 * k.type + 2 ^ 20 * ledgerPage pid
  | 0x008 => k.cap
  | 0x00C => d.pageStat pid
  | 0x018 => d.owner pid
  | 0x01C => w + 2 * b2n (ledgered pid)
  | _ => if off < 0x040 then w else d.blockWord pid k i off w

/-- The word that fields hold; a WO field reads 0 (R6). -/
def Dev.stored (d : Dev) (pid : Nat) (fs : List (FD × Nat)) : Nat :=
  fs.foldl (fun w f => if f.1.acc == .wo then w else w + d.r pid f.1 f.2 * 2 ^ f.1.lo) 0

/-- The word of a register of a page, whoever reads it. -/
def Dev.word (d : Dev) (pid off : Nat) : Nat :=
  if !d.blockHere pid off then 0
  else
    let (p, o) := d.place pid off
    match kindOf p with
    | none => 0
    | some (k, i) => d.overlay p k i o (d.stored p (regFields p o))

/-! ### What a read does -/

/-- The low words of a page's 64-bit registers: the registers that its table names `…_LO`, each with its `…_HI` after it
(R4). -/
def lowWords : PageKind → List FD
  | .periodEntries => [F.PE_START_LO_START]
  | .ledger => [F.LED_RING_LO_BASE]
  | .slotWheel => [F.SW_WRAP_LO_TIME]
  | .deviceTime => [F.DT_NOW_LO_TIME]
  | .hingeTable => [F.HT_LOCKT_LO_TIME]
  | .bootStatus => [F.WR_LAST_LO_TIME]
  | .portCtl => [F.HP_VIMAP_LO_MAP]
  | .viHost => [F.VIH_S2_LO_TARGET, F.VIH_INV_LO_ADDR, F.VIH_DL_LO_BASE, F.VIH_FGPA_LO_ADDR]
  | .viControl => [F.VIC_FADDR_LO_ADDR]
  | .viContexts => [F.CTX_EN_LO_EN, F.CTX_SQ_LO_BASE, F.CTX_CQ_LO_BASE]
  | .viStage1 => [F.S1_ROOT_LO_MODE, F.S1_INV_LO_ADDR]
  | .eccZones => [F.EZ_SCRPOS_LO_ADDR, F.EZ_LASTCE_LO_ADDR, F.EZ_UELOG_LO_ADDR]
  | .diag => [F.DG_ADDR_LO_ADDR, F.DG_DATA_LO_DATA, F.DG_RDATA_LO_DATA]
  | .viRender => [F.RQ_JOB_LO_ADDR]
  | .layerCtl | .viLayers => [F.LC_OWN_LO_PIPES]
  | .flips | .viFlips => [F.FL_ADDR_LO_ADDR]
  | .head => [F.HD_FTIME_LO_TIME, F.HD_FLIPT_LO_TIME, F.HD_FLIPP_LO_PIPES]
  | .touchCtl => [F.TS_SCANT_LO_TIME, F.TS_DUMP_LO_ADDR]
  | .touchReports | .viTouch => [F.TR_RING_LO_BASE]
  | .hapticChannel => [F.HA_LD_LO_ADDR]
  | .wardHaptic => [F.HB_LD_LO_ADDR, F.HB_VALID_LO_MASK, F.HB_BOLT_LO_MASK]
  | .audioEngine => [F.TP_LD_LO_ADDR]
  | .streams | .viHapticAudio => [F.ST_RING_LO_BASE]
  | .tones => [F.TN_LD_LO_ADDR, F.TN_VALID_LO_MASK]
  | .irqOwner | .viIrq => [F.IR_CQPEND_LO_CTX]
  | .irqTarget => [F.MX_ADDR_LO_ADDR, F.IM_ADDR_LO_ADDR]
  | .checkEngine => [F.CV_SRC_LO_ADDR]
  | .power => [F.PM_LOG_LO_TIME]
  | .wake => [F.RTC_CNT_LO_COUNT, F.RTC_ALM_LO_COUNT]
  | .ring => [F.RB_EMGT_LO_TIME]
  | .faultLog => [F.FT_WEND_LO_TIME]
  | .loopback => [F.LB_ADDR_LO_ADDR]
  | _ => []

/-- A register is the low word of a 64-bit register: the read of it latches the word after it (R4). -/
def isLowWord (k : PageKind) (off : Nat) : Bool := (lowWords k).any (fun f => (f.index? off).isSome)

/-- The key of a high word among the latched ones: the place of its register. -/
def latchKey (p o : Nat) : Nat := 4096 * p + o

/-- The state that a read changes before its value is taken: a claim by the target's own agent, the latches of a head. -/
def Dev.readFirst (d : Dev) (ag : Agent) (pid off : Nat) : Dev :=
  match kindOf pid with
  | some (.irqTarget, _) | some (.viIrq, _) =>
    if off = 0x060 ∧ owns (d.owner pid) (d.agentCode ag) then (match pageTarget pid with | some t => d.claim t | none => d)
    else d
  | some (.head, h) => if off = 0x064 then d.latchFrame h else if off = 0x070 then d.latchFlip h else d
  | _ => d

/-- The low word's read latches the high word; a read of a high word returns what is latched, if anything is (R4). -/
def Dev.readLatched (d : Dev) (pid off : Nat) : Nat × Dev :=
  let (p, o) := d.place pid off
  match kindOf p with
  | none => (0, d)
  | some (k, _) =>
    if isLowWord k o then (d.word pid off, { d with latch := tabIns d.latch (latchKey p (o + 4)) (d.word pid (off + 4)) })
    else ((tabFind d.latch (latchKey p o)).getD (d.word pid off), d)

/-- The reader of a shared entry page is a PF, and the entry is of another port's VI (R35). -/
def Dev.hidden (d : Dev) (ag : Agent) (pid off : Nat) : Bool :=
  match ag, kindOf pid with
  | .pf p, some (.periodEntries, i) =>
    decide (0x800 ≤ off) && !(d.viPort ((64 * i + (off - 0x800) / 32 - 64) / d.perCount) == p.val)
  | _, _ => false

/-- A register read: the value, and whether it was an error response (R82). -/
def Dev.read (d : Dev) (ag : Agent) (pid off : Nat) : Nat × Bool × Dev :=
  let off := off / 4 * 4
  if !d.implemented pid || !d.visible ag pid || d.hidden ag pid off then (0, false, d)
  else if d.isolated (d.place pid off).1 then (0, true, d)
  else
    let (v, d) := (d.readFirst ag pid off).readLatched pid off
    (v, false, d)

end Sys2Proof.Machine
end

