-- ==== Sys2Proof/Machine/Check.lean ====
section
/-! DEFINITION. The commit logic as the blocks use it: what each block checks of a set, what applying it does, and the steps
of a commit request (R52 to R58). -/

namespace Sys2Proof.Machine

open Sys2Proof

/-! ### The checks of a set (R53) -/

/-- The check of the zone page: R218, and admission for the heads whose Latch sources change zone membership (R219, R23). -/
def Dev.zoneVerdict (d : Dev) (snap : List (Nat × Nat)) : Verdict :=
  match d.zoneCheck snap with
  | some r => verdict (some r)
  | none =>
    let rd := d.withSnap ezPid snap
    let hs := (upFrom 0 8).filter (fun h => (d.enabledPipes d.cntRd h).any (fun p =>
      !(d.layer d.cntRd p).best && !(d.inZone rd p == d.inZone d.cntRd p)))
    match d.admission rd hs with
    | some b => { reason := some 2, heads := hs, bad := some b }
    | none => { reason := none, heads := hs }

/-- The check of the port partition page (R197). -/
def Dev.winCheck (d : Dev) (snap : List (Nat × Nat)) : Option Nat :=
  let b := fun p => 2 ^ 21 * snapGet snap 0x084 F.PP_WIN_BASE p
  let n := fun p => 2 ^ 21 * snapGet snap 0x084 F.PP_WIN_SIZE p
  let ps := (upFrom 0 4).filter (fun p => !(n p == 0))
  let busy := fun p => (d.portVis p).any (fun v => decide (2 ≤ d.viState v))
  if ps.any (fun p => decide (d.capacity < b p + n p) || overlap (b p) (n p) d.wardBase d.wardSize ||
      overlap (b p) (n p) d.openBase d.openSize || ps.any (fun q => p < q && overlap (b p) (n p) (b q) (n q)))
    || (upFrom 0 4).any (fun p => busy p && decide (0 < d.winSize p) &&
      (!(b p == d.winBase p) || decide (n p < d.winSize p))) then some 1
  else none

/-- The check of a render queue control page (R273). -/
def Dev.queueCheck (d : Dev) (v pid : Nat) (snap : List (Nat × Nat)) : Option Nat :=
  let ms := fun j => snapGet snap pid F.RQ_JOB_CFG_SLICE_MS j
  if (upFrom 0 16).any (fun j => snapGet snap pid F.RQ_JOB_CFG_VALID j == 1 && (ms j == 0 || decide (16 < ms j))) then some 3
  else if (upFrom (d.perFirst v) d.perCount).any (fun e =>
      let j := d.pe e F.PE_TARGET_HANDLE
      d.pe e F.PE_CTRL_ARMED == 1 && d.pe e F.PE_CTRL_KIND == 1 && decide (j < 16) &&
      !(ms j == d.a pid F.RQ_JOB_CFG_SLICE_MS j) &&
      decide (d.pe e F.PE_PERIOD_PERIOD < d.pe e F.PE_DEADLINE_DEADLINE + 1000 * ms j)) then some 1
  else none

/-- The check of a stage-1 page (R190). -/
def rootCheck (pid : Nat) (snap : List (Nat × Nat)) : Option Nat :=
  if (upFrom 0 16).any (fun a => decide (2 ≤ snapGet snap pid F.S1_ROOT_LO_MODE a)) then some 3 else none

/-- The consistency check and the admission of a page's block on a snapshot. -/
def Dev.checkSet (d : Dev) (pid : Nat) (snap : List (Nat × Nat)) : Verdict :=
  match kindOf pid with
  | some (.portPart, _) => verdict (d.winCheck snap)
  | some (.eccZones, _) => d.zoneVerdict snap
  | some (.remap, _) => verdict (d.remapCheck snap)
  | some (.sramRepair, _) => verdict (srCheck snap)
  | some (.strike, h) => verdict (d.strikeCheck h snap)
  | some (.layerCtl, _) | some (.viLayers, _) => d.layerCheck pid snap
  | some (.head, h) => d.headCheck h snap
  | some (.crc, h) => verdict (d.crcCheck h snap)
  | some (.slotWheel, _) => verdict (d.wheelCheck snap)
  | some (.power, _) => verdict (d.powerCheck snap)
  | some (.touchRegions, t) => verdict (d.regionCheck t snap)
  | some (.touchReports, _) | some (.viTouch, _) => verdict (d.reportCheck pid snap)
  | some (.audioEngine, _) => verdict (d.ownersCheck snap)
  | some (.hapticChannel, _) | some (.viHapticAudio, _) => verdict (d.hapCheck pid snap)
  | some (.viRender, v) => verdict (d.queueCheck v pid snap)
  | some (.viStage1, _) => verdict (rootCheck pid snap)
  | _ => verdict none

/-! ### Applying a set (R56) -/

/-- Every part of a set. -/
def allParts : Nat → Bool := fun _ => true

/-- Apply what is left of a page's pending set, with what that does to the block. -/
def Dev.applySet (d : Dev) (pid : Nat) : Dev :=
  match kindOf pid with
  | some (.eccZones, _) => (d.applyPend pid allParts).zonesApplied
  | some (.remap, _) => (d.applyPend pid allParts).remapApplied d.activeRemap
  | some (.sramRepair, _) =>
    (d.applyPend pid allParts).srApplied (fun e => (d.a srPid F.SR_ENT_VALID e, d.a srPid F.SR_ENT_ROW e))
  | some (.slotWheel, _) => (d.applyPend pid allParts).wheelShow
  | some (.layerCtl, _) | some (.viLayers, _) => d.layerApply pid allParts
  | some (.compose, h) => (d.applyPend pid allParts).applyHeld h
  | some (.strike, h) => d.strikeApply h
  | some (.audioEngine, _) => d.ownersApply (fun d => d.applyPend pid allParts)
  | some (.power, _) => (d.applyPend pid allParts).changeOfSet
  | some (.touchRegions, t) => (d.applyPend pid allParts).touchShow t
  | some (.viStage1, v) =>
    let root := fun (d : Dev) a => (d.a pid F.S1_ROOT_LO_MODE a, d.a pid F.S1_ROOT_LO_BASE a, d.a pid F.S1_ROOT_HI_BASE a)
    let n := d.applyPend pid allParts
    n.newEpochs v ((upFrom 0 16).filter (fun a => !(root d a == root n a)))
  | _ => d.applyPend pid allParts

/-- The part of a set applies at a boundary of its own (R290, R372, R389). -/
def Dev.partWaits (d : Dev) (pid : Nat) (hold : List Nat) (p : Nat) : Bool :=
  match kindOf pid with
  | some (.layerCtl, _) | some (.viLayers, _) => d.headRuns p || (hold.contains p && d.on (hcPid p) F.HC_GROUP_HOLD)
  | some (.touchReports, _) | some (.viTouch, _) => [1, 2].contains (d.touchState p)
  | some (.viHapticAudio, _) => d.hapRuns p
  | _ => true

/-- The parts of a set. -/
def Dev.partsOf (d : Dev) (pid : Nat) (snap : List (Nat × Nat)) : List Nat :=
  match kindOf pid with
  | some (.layerCtl, _) | some (.viLayers, _) | some (.touchReports, _) | some (.viTouch, _) | some (.viHapticAudio, _) =>
    d.changedParts pid snap
  | some (.hapticChannel, h) => [h]
  | _ => [0]

/-- Apply some parts of a pending set at once. -/
def Dev.applySome (d : Dev) (pid : Nat) (sel : Nat → Bool) : Dev :=
  match kindOf pid with
  | some (.layerCtl, _) | some (.viLayers, _) => d.layerApply pid sel
  | _ => d.applyPend pid sel

/-- A set that has passed its checks is applied, or pends (R56). -/
def Dev.setPasses (d : Dev) (pid : Nat) (b : Check) : Dev :=
  let parts := d.partsOf pid b.snap
  let held := parts.filter (fun p => b.hold.contains p && d.on (hcPid p) F.HC_GROUP_HOLD)
  let x : Pend := { snap := b.snap, parts := parts, held := held, linked := b.linked, since := b.since }
  let d := d.setCtl pid { d.ctl pid with pend := some x }
  if b.now || (!d.running pid && !b.linked) then d.applySet pid
  else
    let d := d.w pid F.PAGE_CSTAT_DONE 0
    let wait := parts.filter (d.partWaits pid held)
    if wait.isEmpty then d.applySet pid
    else if wait.length = parts.length then d
    else d.applySome pid (fun p => !wait.contains p)

/-! ### Requests (R52 to R56) -/

/-- A request is rejected (R54). -/
def Dev.rejectShow (d : Dev) (pid reason : Nat) : Dev :=
  (((d.w pid F.PAGE_CSTAT_REJECT 1).w pid F.PAGE_CSTAT_REASON reason).w pid F.PAGE_CSTAT_DONE 0).err pid errReject

/-- The check of a page's request ends (R53, R56). -/
def Dev.checkEnd? (d : Dev) (pid : Nat) : Dev :=
  match (d.ctl pid).busy with
  | none => d
  | some b =>
    let d := d.setCtl pid { d.ctl pid with busy := none }
    let v := if d.blockFault pid then verdict (some 8) else d.checkSet pid b.snap
    let done := fun (d : Dev) kind reason => match b.seq with
      | some q => d.ledComplete q kind reason
      | none => d
    match v.reason with
    | some r =>
      let d := if r = 2 then d.showAdm v.heads v.bad else d
      let d := (done d 4 r).rejectShow pid r
      if b.seq.isSome then d.ledFreeApply else d
    | none =>
      let d := d.showAdm v.heads none
      let d := (done d 2 0).w pid F.PAGE_CSTAT_REJECT 0
      (d.supersede pid).setPasses pid b

/-- The active set copied into the shadow. -/
def Dev.revert (d : Dev) (pid : Nat) : Dev :=
  let kept := d.regs.filter (fun e => !d.shadowKey pid e.1)
  { d with regs := (d.active pid).foldl (fun t e => tabIns t e.1 e.2) kept }

/-- Why a request is rejected as it is accepted (R52). -/
def Dev.requestBad (d : Dev) (pid v : Nat) : Option Nat :=
  let cap := match kindOf pid with | some (k, _) => k.cap | none => 0
  let n := b2n (bit v 0) + b2n (bit v 1) + b2n (bit v 2)
  if !(bits v 16 16 == 0xA5C3) then some 5
  else if !(n == 1) || (bit v 1 && !bit cap 1) || (bit v 0 && d.running pid && !bit cap 2) then some 4
  else none

/-- A commit request is accepted, with the ledger entries it takes (R53, R68). A strike page, a CRC page and a region page
check in the cycle that accepts it (R287, R339, R360). -/
def Dev.requestAccept (d : Dev) (ag : Agent) (pid v : Nat) : Dev :=
  let o := d.origin ag
  let led := ledgered pid
  let c := d.r pid F.PAGE_CSTAT_COUNT
  match d.requestBad pid v with
  | some r =>
    let d := if led then d.ledRecord 4 pid 0x020 (o + 2 ^ 24 * r) c v else d
    d.rejectShow pid r
  | none =>
    if bit v 2 then
      let d := if led then d.ledRecord 2 pid 0x020 o c v else d
      ((d.revert pid).w pid F.PAGE_CSTAT_REJECT 0).supersede pid
    else
      let seq := d.r ledPid F.LED_SEQ_NEXT
      let snap := d.shadow pid
      let linked := match kindOf pid with
        | some (.crc, _) => bit v 1 && d.on pid F.CR_CTRL_LINK
        | _ => false
      let hold := match kindOf pid with
        | some (.layerCtl, _) | some (.viLayers, _) => (upFrom 0 8).filter (fun h => d.on (hcPid h) F.HC_GROUP_HOLD)
        | _ => []
      let d := if led then d.ledRecord 2 pid 0x020 o c v false else d
      let d : Dev := if led then { d with led := { d.led with applyHeld := d.led.applyHeld + 1 } }.ledShow else d
      let b : Check := { now := bit v 0, v := v, snap := snap, seq := if led then some seq else none, since := d.now,
                         hold := hold, linked := linked }
      let d := d.setCtl pid { d.ctl pid with busy := some b }
      let d := if pid = pmPid ∧ 0 < snapGet snap pmPid F.PM_SLEEP_TARGET then d.takeWakes else d
      match kindOf pid with
      | some (.crc, _) | some (.strike, _) | some (.touchRegions, _) => d.checkEnd? pid
      | _ => d

/-! ### Boundaries (R57) -/

/-- The cut-off of a page's boundary lies before it: that of a haptic channel and of the power page is the boundary itself
(R390, R449). -/
def cutsOff (pid : Nat) : Bool :=
  match kindOf pid with
  | some (.hapticChannel, _) | some (.viHapticAudio, _) | some (.power, _) => false
  | _ => true

/-- A commit boundary of a page, for one part of its set (R57): a pending set whose checks ended before the cut-off is
applied, and discarded while a fault is open. One whose checks ended later waits for the next. -/
def Dev.boundary (d : Dev) (pid part : Nat) (inTime : Bool) : Dev :=
  match (d.ctl pid).pend with
  | none => d
  | some x =>
    if !x.parts.contains part || (cutsOff pid && !inTime) then d
    else if d.blockFault pid then d.discardPend pid
    else match kindOf pid with
      | some (.layerCtl, _) | some (.viLayers, _) => if x.held.contains part then d else d.layerApply pid (· == part)
      | some (.touchReports, _) | some (.viTouch, _) | some (.viHapticAudio, _) => d.applyPend pid (· == part)
      | some (.compose, h) => d.composeApply h true
      | some (.crc, h) => d.crcApply h true
      | some (.head, h) => d.endOfActive h true
      | some (.power, _) => d.changeNext
      | _ => d.applySet pid

end Sys2Proof.Machine
end

