-- ==== Sys2Proof/Machine/Refuse.lean ====
section
/-! DEFINITION. What decides a register write: which fields it changes or acts on (R45, R520), which fields the running block
refuses (R50), and the refusals that the blocks' page maps name (R44 step 5, R521). -/

namespace Sys2Proof.Machine

open Sys2Proof

/-! ### Acting on WO fields (R520) -/

/-- WO fields that carry a value taken at the write. The first fields of `HB_TRIG` and `TN_TRIG` are not named: those
registers have others that act at every write. -/
def valueFields : List FD :=
  [F.DB_SQ_TAIL, F.DB_CQ_HEAD, F.DB_HAP_TRIGGER, F.DB_AUD_POINTER, F.ST_WPTR_WORD, F.HA_TRIG_WORD,
   F.HB_TRIG_EFFECT, F.HB_TRIG_GAIN, F.HB_TRIG_STOP, F.TN_TRIG_TONE, F.RB_KEY_KEY, F.LP_COEF_DATA_C0,
   F.LP_COEF_DATA_C1, F.DT_STEP_NS, F.PM_WARD_REQ_TARGET]

/-- WO fields that only qualify another field of their register. -/
def qualifierFields : List FD :=
  [F.HT_CTRL_KEY, F.WDG_REQ_KEY, F.PP_DECIDE_KEY, F.VIH_CTRL_KEY, F.VIH_INV_CTRL_SCOPE, F.VIH_INV_CTRL_PAGES,
   F.S1_INV_CTRL_SCOPE, F.S1_INV_CTRL_ASPACE, F.S1_INV_CTRL_PAGES, F.DG_CTRL_KEY, F.SC_INJECT_HEAD, F.HA_LD_CTRL_SLOT,
   F.HA_LD_CTRL_NOBRAKE, F.HA_LD_CTRL_NOOD, F.HB_LD_CTRL_EFFECT, F.HB_LD_CTRL_BOLT, F.HB_LD_CTRL_NOBRAKE, F.HB_LD_CTRL_NOOD,
   F.TP_LD_CTRL_BYTES, F.TN_LD_CTRL_TONE, F.TN_LD_CTRL_LEVEL, F.TN_LD_CTRL_LENGTH, F.PM_WARD_REQ_KEY, F.FT_INJECT_PAGE,
   F.FT_INJECT_KEY, F.LB_GO_KEY]

/-- The value written to a WO field has an effect of its own. -/
def actsOn (f : FD) (x : Nat) : Bool :=
  if qualifierFields.contains f then false
  else if valueFields.contains f then true
  else if f = F.DG_CTRL_OP then decide (1 ≤ x) && decide (x ≤ 4)
  else if f = F.VIH_CTRL_REQ then decide (1 ≤ x) && decide (x ≤ 5)
  else !(x == 0)

/-- A write acts on some WO field of its register. -/
def writeActs (fs : List (FD × Nat)) (v : Nat) : Bool :=
  fs.any (fun f => f.1.acc == .wo && actsOn f.1 (bits v f.1.lo f.1.w))

/-- A write changes a field (R45). A W1C write is no change of configuration (R74). -/
def Dev.fieldChanges (d : Dev) (p v : Nat) (acts : Bool) (f : FD × Nat) : Bool :=
  let x := bits v f.1.lo f.1.w
  match f.1.acc with
  | .ro | .w1c => false
  | .rw | .rwk => !(x == d.r p f.1 f.2)
  | .w1s => x == 1 && d.r p f.1 f.2 == 0
  | .wo => acts

/-! ### Class X (R50) -/

/-- What the register's class X fields belong to runs: the entry, context, report block or stream, else the page's block. -/
def Dev.blockRuns (d : Dev) (p off : Nat) : Bool :=
  match kindOf p with
  | some (.periodEntries, u) => if 0x800 ≤ off then !(d.perState (64 * u + (off - 0x800) / 32) == 0) else d.running p
  | some (.viContexts, v) => if 0x800 ≤ off then !(d.ctxState v ((off - 0x800) / 32) == 0) else d.running p
  | some (.touchReports, _) | some (.viTouch, _) =>
    if 0x100 ≤ off then d.on p F.TR_CTRL_EN ((off - 0x100) / 64) else d.running p
  | some (.streams, _) | some (.viHapticAudio, _) =>
    if 0x800 ≤ off ∧ off < 0xE00 then d.on p F.ST_CTRL_EN ((off - 0x800) / 16) else d.running p
  | _ => d.running p

/-! ### Refusals of the page maps (R44 step 5) -/

/-- A one-bit field goes from 0 to 1, or from 1 to 0, with a write. -/
def Dev.rises (d : Dev) (p v : Nat) (f : FD) (i : Nat := 0) : Bool := d.r p f i == 0 && bits v f.lo f.w == 1
def Dev.falls (d : Dev) (p v : Nat) (f : FD) (i : Nat := 0) : Bool := d.r p f i == 1 && bits v f.lo f.w == 0

/-- KEY in bits [31:16] is right. -/
def keyOk (v : Nat) : Bool := bits v 16 16 == 0xA5C3

/-- Answer an error bit if a refusal applies. -/
def refuseIf (b : Bool) (e : Nat) : Option Nat := if b then some e else none

/-- The refusals of `PM_GATEk` and of the power page (R147, R450, R453, R521). -/
def Dev.powerRefuse (d : Dev) (ag : Agent) (off v : Nat) : Option Nat :=
  let open_ := match ag with | .openWorld _ => true | _ => false
  if off = 0x048 then refuseIf (open_ && [2, 3, 4].contains (bits v 0 3)) errClaimed
  else if off = 0x04C then refuseIf (!keyOk v || decide (5 ≤ bits v 0 3)) errRefused
  else if 0x100 ≤ off ∧ off < 0x160 then
    let k := (off - 0x100) / 4
    let differs := !(bits v 0 1 == d.r 0x390 F.PM_GATE_OFF k && bits v 1 1 == d.r 0x390 F.PM_GATE_CLKSTOP k &&
      bits v 8 8 == d.r 0x390 F.PM_GATE_RSTHOLD k)
    if open_ && bit (d.r htPid F.HT_CLAIM_MASK) k && differs then some errClaimed
    else refuseIf ((k == 8 && !(v &&& 0xFF03 == 0)) || (k == 7 && !(v &&& 0x0203 == 0))) errRefused
  else none

/-- The refusals of a stream's registers (R396). -/
def Dev.streamRefuse (d : Dev) (p off v : Nat) : Option Nat :=
  if 0x800 ≤ off ∧ off < 0xE00 ∧ off % 16 = 0 then
    let s := (off - 0x800) / 16
    let n := bits v 16 12
    refuseIf (d.rises p v F.ST_CTRL_EN s && !(decide (2 ≤ n) && n % d.rblk s == 0)) 15
  else none

/-- A Bolt tone trigger for a speaker that plays one (R19, R408). -/
def Dev.toneOver (d : Dev) (v : Nat) : Bool := d.on (spPid (bits v 0 3)) F.SP_STAT_TONE

/-- The doorbells of window page 0x2000 that a VI may not use (R202). -/
def Dev.bellRefuse (d : Dev) (v off : Nat) : Option Nat :=
  let code := codeVi (d.viPort v) v
  if 0x400 ≤ off ∧ off < 0x420 then refuseIf (!(d.hapOwner ((off - 0x400) / 4) == code)) errRefused
  else if 0x800 ≤ off then
    let o := d.stOwner ((off - 0x800) / 4)
    refuseIf (bit o 15 || !(o % 1024 == code)) errRefused
  else none

/-- The refusals of the Core die's blocks. -/
def Dev.coreRefuse (d : Dev) (ag : Agent) (k : PageKind) (i p off v : Nat) : Option Nat :=
  match k with
  | .ledger => refuseIf (off == 0x058 && !(decide (17 ≤ bits v 0 5) && decide (bits v 0 5 ≤ 30))) errRefused
  | .checkEngine => refuseIf (off == 0x05C && bit v 0 && d.on p F.CV_STAT_BUSY) errRefused
  | .faultLog => refuseIf (off == 0x05C && bit v 12 && (!keyOk v || !d.implemented (bits v 0 12))) errRefused
  | .portPart => refuseIf (off == 0x054 && (bit v 0 || bit v 1) && (!keyOk v || !d.decideOk (bit v 0) (bit v 1))) errRefused
  | .viHost => refuseIf (off == 0x058 && bit v 0 && d.on p F.VIH_INV_STAT_BUSY) 12
  | .memCtl => refuseIf (off == 0x044 && bit v 0 && (d.memService || (d.lbBusy && d.locked && d.lbIface == 2))) errRefused
  | .diag => refuseIf (off == 0x054 && actsOn F.DG_CTRL_OP (bits v 0 3) && !keyOk v) errRefused
  | .layerCtl | .viLayers =>
    let q := (off - 0x100) / 64
    refuseIf (decide (0x100 ≤ off) && off % 64 == 0x30 && d.bankInUse q (d.r p F.LP_COEF_ADDR_CBANK q)) errRefused
  | .head =>
    refuseIf (off == 0x040 && ((d.rises p v F.HD_CTRL_EN && (!d.headEn i || d.lbHolds 1 i)) ||
      (d.falls p v F.HD_CTRL_EN && d.guarded i && [1, 2, 3].contains (d.r p F.HD_STAT_STATE)))) errRefused
  | .fabricCtl => refuseIf (off == 0x040 && d.rises p v F.XB_MODE_TEST_REQ && d.locked) errRefused
  | .periodEntries =>
    if 0x800 ≤ off ∧ off % 32 = 0 then
      let e := 64 * i + (off - 0x800) / 32
      refuseIf (d.rises p v F.PE_CTRL_ARMED (e % 64) && !d.armOk e (bits v 1 3)) 11
    else none
  | .viPeriods => refuseIf (off == 0x040 && decide (d.perCount ≤ 64 * bits v 0 2)) errRefused
  | .power => d.powerRefuse ag off v
  | .viContexts =>
    if 0x800 ≤ off ∧ off % 32 = 0 then
      let c := (off - 0x800) / 32
      refuseIf (d.rises p v F.CTX_CTRL_ENABLE c && d.enableBad i c (bits v 1 2)) 11
    else none
  | .viDoorbells => d.bellRefuse i off
  | .viStage1 => refuseIf (off == 0x0C8 && bit v 0 && d.on p F.S1_INV_STAT_BUSY) 10
  | _ => none

/-- The refusals of the Port and Drive dies' blocks, and of a VI's blocks of them. -/
def Dev.edgeRefuse (d : Dev) (k : PageKind) (i p off v : Nat) : Option Nat :=
  match k with
  | .hingeTable => refuseIf (off == 0x040 && bit v 0 && (!keyOk v || !d.lockOk)) errRefused
  | .watchdog => refuseIf (off == 0x048 && bit v 0 && !keyOk v) errRefused
  | .deviceTime =>
    let x := sx 19 (bits v 0 19)
    refuseIf (off == 0x04C && (decide (x < -200000) || decide (200000 < x))) errRefused
  | .mailbox => refuseIf (off == 0x0C0 && bit v 0 && d.mbState i == 1) errRefused
  | .ring =>
    refuseIf ((decide (0x100 ≤ off) && decide (off < 0x140) && !d.keyWriteOk ((off - 0x100) / 4)) ||
      (off == 0x060 && bit v 0 && !d.txGoOk) ||
      (off == 0x040 && d.rises p v F.RB_CTRL_HOLD && d.lbBusy && d.locked && d.lbIface == 8)) errRefused
  | .displayPhy => refuseIf (off == 0x040 && bit v 1 && d.lbHolds 1 i) errRefused
  | .touchCtl =>
    if off = 0x040 ∧ d.rises p v F.TS_CTRL_EN then
      if d.lbHolds 4 i then some errRefused else refuseIf (!d.touchStartOk i) 14
    else none
  | .touchReports | .viTouch =>
    if 0x100 ≤ off ∧ off % 64 = 0 then
      let t := (off - 0x100) / 64
      let n := d.r p F.TR_RING_HI_LOG2 t
      refuseIf (d.rises p v F.TR_CTRL_EN t && (decide (n < 4) || decide (12 < n))) 12
    else none
  | .audioEngine =>
    refuseIf ((off == 0x040 && bit v 0 && !d.swapOk) || (off == 0x04C && bit v 0 && !d.tumGoOk)) errRefused
  | .streams | .viHapticAudio => d.streamRefuse p off v
  | .sink =>
    refuseIf ((decide (0x100 ≤ off) && off % 16 == 0 && !d.sourceOk i (bits v 0 8)) ||
      (off == 0x040 && d.rises p v F.TDM_CFG_EN && d.lbHolds 7 (i - 8))) errRefused
  | .tones =>
    refuseIf ((off == 0x040 && d.toneOver v) ||
      (off == 0x05C && bit v 0 && (toneLong v || d.aud.toneLoad.isSome || d.tonePlays (bits v 8 6)))) errRefused
  | .loopback => refuseIf (off == 0x044 && (bit v 0 || bit v 1) && (!keyOk v || (bit v 0 && !d.lbOk))) errRefused
  | .hapticChannel =>
    let busy := match slotEffect i (bits v 8 5) with
      | some e => d.effectBusy e
      | none => false
    refuseIf ((off == 0x128 && bit v 0 && (d.loadBusy (d.hapOwner i) || busy)) ||
      (off == 0x100 && (bit v 1 || bit v 2) && d.lbHolds 5 i)) errRefused
  | .wardHaptic =>
    refuseIf ((off == 0x040 && d.wardTrigOver v) ||
      (off == 0x05C && bit v 0 && (d.loadBusy codeWard || d.effectBusy (bits v 8 6)))) errRefused
  | .speaker =>
    refuseIf (off == 0x040 && (d.rises p v F.SP_CTRL_EN || bit v 1) && d.lbHolds 6 i) errRefused
  | _ => none

/-- What a refusal does beside its error bit: a Bolt limit shows in `CLS_ADM` and in the block's count (R19). -/
def Dev.refuseNote (d : Dev) (k : PageKind) (off v : Nat) : Dev :=
  match k with
  | .wardHaptic => if off = 0x040 ∧ d.wardTrigOver v then d.boltLimit.addSat hbPid F.HB_LOST_REFUSED else d
  | .tones =>
    if off = 0x040 ∧ d.toneOver v then d.boltLimit.addSat tnPid F.TN_LOST_REFUSED
    else if off = 0x05C ∧ bit v 0 ∧ toneLong v then d.boltLimit
    else d
  | _ => d

end Sys2Proof.Machine
end

