-- ==== Sys2Proof/Machine/Write.lean ====
section
/-! DEFINITION. A register write (R44 to R50, R520): its outcome, the fields it changes, its record, and what it starts. -/

namespace Sys2Proof.Machine

open Sys2Proof

/-! ### What an accepted write starts -/

/-- The effects of a write on the Core die's fabric, fault, check, memory and tenancy blocks. `b` is the device before it. -/
def Dev.coreEffect (d b : Dev) (k : PageKind) (i p off v : Nat) : Dev :=
  match k with
  | .ledger =>
    if off = 0x040 ∧ b.rises p v F.LED_CTRL_DRAIN_EN ∧ d.led.started.isNone then
      { d with led := { d.led with started := some d.now, chain := d.chainStart d.now } }
    else if off = 0x06C ∧ bit v 0 then
      match d.led.waiting with
      | [] => d
      | c :: rest =>
        let sig := (upFrom 0 24).flatMap (fun j => bytesLE 4 (d.r ledPid F.LED_CKPT_SIG_SIG j))
        ({ d with led := { d.led with waiting := rest, signed := d.led.signed ++ [(c, sig)] } }).ckptShow
    else d
  | .checkEngine => if off = 0x05C ∧ bit v 0 then d.cvGo i else d
  | .faultLog =>
    if off = 0x050 ∧ bit v 0 then
      let d := { d with flt := { d.flt with log := d.flt.log.drop 1 } }
      d.w ftPid F.FT_STAT_UNREAD d.flt.log.length
    else if off = 0x05C ∧ bit v 12 then d.openFault 18 1 (bits v 0 12) 0
    else d
  | .portPart => if off = 0x054 ∧ (bit v 0 || bit v 1) then d.decide? (bit v 0) else d
  | .viHost =>
    if off = 0x040 then d.viRequest i (bits v 0 3) (bits v 16 16)
    else if off = 0x058 ∧ bit v 0 then d.s2Inval i (bits v 1 1) (bits v 16 16)
    else if off = 0x068 then
      let d := if b.rises p v F.VIH_DL_CTRL_EN then d.dlEnable i
        else if b.falls p v F.VIH_DL_CTRL_EN then d.dlDisable i else d
      if bit v 16 then d.dlClear i else d
    else d
  | .memCtl => if off = 0x044 ∧ bit v 0 then d.trainStart else d
  | .diag => if off = 0x054 ∧ actsOn F.DG_CTRL_OP (bits v 0 3) then d.diag (bits v 0 3) else d
  | .fabricCtl => if off = 0x040 ∧ !(b.r p F.XB_MODE_TEST_REQ == bits v 4 1) then d.testRequest (bit v 4) else d
  | .classPage => if off = 0x04C then d.bmonClear (bits v 0 8) else d
  | .periodEntries =>
    if 0x800 ≤ off ∧ off % 32 = 0 ∧ b.rises p v F.PE_CTRL_ARMED ((off - 0x800) / 32) then
      d.perArm (64 * i + (off - 0x800) / 32) else d
  | .power =>
    if off = 0x04C then d.wardRequest (bits v 0 3)
    else if 0x100 ≤ off ∧ off < 0x140 then
      let r := (off - 0x100) / 4
      let d := if b.rises p v F.PM_GATE_OFF r then d.regionOff r
        else if b.falls p v F.PM_GATE_OFF r then d.regionOn r else d
      (upFrom 0 8).foldl (fun d c =>
        if bit v (8 + c) && !bit (b.r p F.PM_GATE_RSTHOLD r) c then d.clusterHold r c
        else if !bit v (8 + c) && bit (b.r p F.PM_GATE_RSTHOLD r) c then d.clusterFree r c else d) d
    else d
  | .viContexts =>
    if 0x800 ≤ off ∧ off % 32 = 0 then
      let c := (off - 0x800) / 32
      if b.rises p v F.CTX_CTRL_ENABLE c then d.ctxEnable i c
      else if b.falls p v F.CTX_CTRL_ENABLE c then d.ctxDisable i c else d
    else d
  | .viDoorbells =>
    if 0x040 ≤ off ∧ off < 0x140 then d.sqBell i ((off - 0x040) / 4) (bits v 0 12)
    else if 0x140 ≤ off ∧ off < 0x240 then d.cqBell i ((off - 0x140) / 4) (bits v 0 14)
    else if 0x400 ≤ off ∧ off < 0x420 then d.latchTrig ((off - 0x400) / 4) v
    else if 0x800 ≤ off then d.pointer ((off - 0x800) / 4) v
    else d
  | .viStage1 => if off = 0x0C8 ∧ bit v 0 then d.s1Inval i (bits v 1 2) (bits v 4 4) (bits v 16 16) else d
  | .fence | .viFences => if 0x400 ≤ off ∧ off % 16 = 8 ∧ bit v 0 then d.fenceSignal p ((off - 0x400) / 16) 0 else d
  | .irqTarget | .viIrq =>
    match pageTarget p with
    | none => d
    | some t =>
      if off = 0x064 then d.complete t (bits v 0 16)
      else if off = 0x80C ∧ b.falls p v F.MX_CTRL_MASK then d.unmask t
      else d
  | _ => d

/-- The effects of a write on the display's blocks. -/
def Dev.displayEffect (d b : Dev) (k : PageKind) (i p off v : Nat) : Dev :=
  match k with
  | .compose => if off = 0x044 ∧ b.falls p v F.HC_GROUP_HOLD then d.holdClear i else d
  | .strikeCtl => if off = 0x050 ∧ bit v 8 then d.inject (bits v 0 3) else d
  | .layerCtl | .viLayers =>
    let q := (off - 0x100) / 64
    if off < 0x100 then d
    else if off % 64 = 0x24 then d.setT q (sx 16 (bits v 0 16)) (sx 16 (bits v 16 16))
    else if off % 64 = 0x30 then d.coefWrite q (bits v 0 10) (bits v 16 10)
    else d
  | .flips | .viFlips => if 0x100 ≤ off ∧ off % 32 = 0x18 ∧ bit v 0 then d.flipGo ((off - 0x100) / 32) else d
  | .head =>
    if off = 0x040 then
      if b.rises p v F.HD_CTRL_EN then d.headStart i else if b.falls p v F.HD_CTRL_EN then d.headClear i else d
    else d
  | .crc => if off = 0x040 ∧ bit v 2 then d.crcRelease i else d
  | .displayPhy =>
    if off = 0x040 ∧ bit v 1 then d.retrain i
    else if off = 0x050 ∧ bit v 0 then d.auxGo i
    else if off = 0x070 then d.blDelay i
    else d
  | _ => d

/-- The effects of a write on the hinge domain, the boot blocks, the links and the ring. -/
def Dev.hingeEffect (d b : Dev) (k : PageKind) (i p off v : Nat) : Dev :=
  match k with
  | .hingeTable => if off = 0x040 ∧ bit v 0 then d.lock else d
  | .watchdog =>
    if off = 0x040 ∧ b.rises p v F.WDG_CTRL_EN then d.wdgEnable
    else if off = 0x048 ∧ bit v 0 then d.restartBegin 3 else d
  | .deviceTime =>
    if off = 0x054 then d.timeStep v else d
  | .mailbox => if off = 0x0C0 ∧ bit v 0 then d.mbGo i else d
  | .ring =>
    if off = 0x040 then
      let d := if b.r p F.RB_CTRL_NODE = bits v 8 5 then d else { d with ring := { d.ring with nodeSet := true } }
      if b.rises p v F.RB_CTRL_HOLD then d.holdWrite true else if b.falls p v F.RB_CTRL_HOLD then d.holdWrite false else d
    else if off = 0x060 ∧ bit v 0 then d.txGo
    else if off = 0x064 ∧ bit v 8 then d.rxPop
    else if 0x100 ≤ off ∧ off < 0x140 then d.w rgPid F.RB_KEY_KEY v ((off - 0x100) / 4)
    else d
  | .pintle => if off = 0x040 ∧ bit v 0 then d.linkRetrain i else d
  | .loopback =>
    if off = 0x044 ∧ bit v 1 then d.lbAbort else if off = 0x044 ∧ bit v 0 then d.lbGo else d
  | _ => d

/-- A stream's registers. -/
def Dev.streamEffect (d b : Dev) (p off v : Nat) : Dev :=
  if 0x200 ≤ off ∧ off < 0x380 then d.pointer ((off - 0x200) / 4) v
  else if 0x800 ≤ off ∧ off < 0xE00 then
    let s := (off - 0x800) / 16
    if off % 16 = 0 then
      if b.rises p v F.ST_CTRL_EN s then d.streamEnable s
      else if b.falls p v F.ST_CTRL_EN s then d.streamDisable s else d
    else if off % 16 = 0xC ∧ !(b.r p F.ST_GAIN_GAIN s == bits v 0 16) then d.streamGain s
    else d
  else d

/-- The effects of a write on touch, haptics and audio. -/
def Dev.feelEffect (d b : Dev) (k : PageKind) (i p off v : Nat) : Dev :=
  match k with
  | .touchCtl =>
    if off = 0x040 then
      let d := if b.rises p v F.TS_CTRL_EN then d.touchStart i
        else if b.falls p v F.TS_CTRL_EN then d.touchStop i else d
      let x := d.touch i
      let d := if bit v 1 then d.setTouch i { x with recal := true } else d
      let a := d.r p F.TS_DUMP_LO_ADDR * 64 + 2 ^ 32 * d.r p F.TS_DUMP_HI_ADDR
      if bit v 2 then d.setTouch i { d.touch i with dump := some a } else d
    else d
  | .touchReports | .viTouch =>
    if 0x100 ≤ off ∧ off % 64 = 0 then
      let t := (off - 0x100) / 64
      if b.rises p v F.TR_CTRL_EN t then d.w p F.TR_STAT_ERR 0 t
      else if b.falls p v F.TR_CTRL_EN t && !d.running p && (d.ctl p).pend.isSome then d.applyPend p allParts
      else d
    else d
  | .hapticChannel =>
    if off = 0x100 then
      let d := if bit v 1 then d.hapClear i else d
      if bit v 2 then d.hapCheckGo i else d
    else if off = 0x10C then d.latchTrig i v
    else if off = 0x128 ∧ bit v 0 then d.hapLoadGo i (bits v 8 5) (bit v 16) (bit v 17)
    else d
  | .wardHaptic =>
    if off = 0x040 then d.wardTrig v
    else if off = 0x05C ∧ bit v 0 then d.wardLoadGo (bits v 8 6) (bit v 16) (bit v 17) (bit v 18)
    else d
  | .audioEngine =>
    if off = 0x040 ∧ bit v 0 then d.swapGo
    else if off = 0x04C ∧ bit v 0 then d.tumGo (bits v 16 15)
    else if 0x080 ≤ off ∧ off < 0x100 then
      let j := (off - 0x080) / 4
      if b.r p F.AE_LG_GAIN j = bits v 0 16 then d
      else { d with aud := { d.aud with live := tabPut d.aud.live {} j (tabGet d.aud.live {} j).write } }
    else d
  | .streams | .viHapticAudio => d.streamEffect b p off v
  | .sink =>
    if 0x100 ≤ off ∧ off % 16 = 0 then
      let j := (off - 0x100) / 16
      let c := 8 * i + j
      let d := if b.r p F.SK_SRC_SRC j = bits v 0 8 then d else d.sourceWrite c (bits v 0 8)
      if b.r p F.SK_SRC_GAIN j = bits v 16 16 then d else d.sinkGain c
    else d
  | .tones =>
    if off = 0x040 then d.toneTrig (bits v 0 3) (bits v 8 6) none
    else if off = 0x05C ∧ bit v 0 then d.toneGo (bits v 8 6) (bits v 16 8) (bits v 24 8)
    else d
  | .speaker =>
    if off = 0x040 then
      let d := if b.rises p v F.SP_CTRL_EN then d.stageEnable i
        else if b.falls p v F.SP_CTRL_EN then d.stageDisable i else d
      if bit v 1 then d.stageClear i else d
    else d
  | _ => d

/-- What an accepted write of a block's register starts. -/
def Dev.effect? (d b : Dev) (k : PageKind) (i p off v : Nat) : Dev :=
  if off < 0x040 then d
  else (((d.coreEffect b k i p off v).displayEffect b k i p off v).hingeEffect b k i p off v).feelEffect b k i p off v

/-! ### The outcome (R44) -/

/-- The outcome of a write that reaches the register space: dropped (step 1), at an unimplemented offset (R38), dropped by
the doorbell page (R195), refused with an error bit (steps 2 to 5), a commit request, or accepted. -/
inductive Fate where
  | dropped
  | offset
  | bell
  | refused (bit : Nat)
  | commit
  | accepted (changes acts shadow : Bool)
  deriving DecidableEq, Repr

/-- The writer is the owner, or a writer that the page map names. -/
def Dev.mayWrite (d : Dev) (ag : Agent) (pid off : Nat) : Bool :=
  owns (d.owner pid) (d.agentCode ag) || (ag == .ward && pid == pmPid && off == 0x04C)

/-- A window page that the VI's state closes (R195). -/
def Dev.windowClosed (d : Dev) (pid : Nat) : Bool :=
  match viOfPage pid with
  | some v => !(pid % 16 == 0) && !d.viLive v
  | none => false

/-- The register is an entry of the SRAM repair page that the fuses fix (R229, R235). -/
def fusedReg (p o : Nat) : Bool :=
  p == srPid && decide (0x100 ≤ o) && decide (o < 0x1C0) && (Config.fusedRow ((o - 0x100) / 4)).isSome

/-- The fields that a write to a register may change. -/
def openFields (p o : Nat) : List (FD × Nat) := if fusedReg p o then [] else regFields p o

/-- Steps 3 to 5 for a register with fields. -/
def Dev.fieldFate (d : Dev) (ag : Agent) (pid off v : Nat) : Fate :=
  let (p, o) := d.place pid off
  let fs := openFields p o
  let acts := writeActs fs v
  let ch := fs.filter (d.fieldChanges p v acts)
  if d.on pid F.PAGE_LOCK_LOCK && ch.any (fun f => f.1.acc == .rwk) then .refused errLock
  else if ch.any (fun f => f.1.cls == .x) && d.blockRuns p o then .refused errRefused
  else match kindOf p with
  | none => .dropped
  | some (k, i) =>
    match (d.coreRefuse ag k i p o v).orElse (fun _ => d.edgeRefuse k i p o v) with
    | some e => .refused e
    | none => .accepted (!ch.isEmpty) acts (ch.any (fun f => f.1.cls == .s))

/-- The outcome of a write at a page. -/
def Dev.fate (d : Dev) (ag : Agent) (pid off v : Nat) : Fate :=
  if !d.implemented pid || !d.visible ag pid then .dropped
  else if !d.mayWrite ag pid off then .refused errRefused
  else
    let pfEntry := match ag, kindOf pid with
      | .pf _, some (.periodEntries, _) => true
      | _, _ => false
    let table := match ag, kindOf pid with
      | .vi _, some (.viIrq, _) => decide (0x800 ≤ off) && decide (off < 0x80C)
      | _, _ => false
    let (p, o) := d.place pid off
    let fs := regFields p o
    if pfEntry || table then .refused errRefused
    else if d.windowClosed pid then (if pid % 16 = 2 then .bell else .refused errRefused)
    else if fs.isEmpty then .offset
    else if !d.blockHere pid off then .refused errRefused
    else if off = 0x020 then .commit
    else d.fieldFate ag pid off v

/-! ### Carrying it out -/

/-- The fields that a write changes take their values; W1C bits written 1 are cleared. `IR_INSVC` is left to the
completion that its write asks for. -/
def Dev.writeFields (d : Dev) (p v : Nat) (fs : List (FD × Nat)) : Dev :=
  fs.foldl (fun d f =>
    let x := bits v f.1.lo f.1.w
    match f.1.acc with
    | .rw | .rwk => d.w p f.1 x f.2
    | .w1s => if x = 1 then d.w p f.1 1 f.2 else d
    | .w1c => if f.1 = F.IR_INSVC_PRIO then d else d.w p f.1 (d.r p f.1 f.2 - (d.r p f.1 f.2 &&& x)) f.2
    | .ro | .wo => d) d

/-- A write to a word of a 64-bit register ends what a read has latched of it: a read returns the last written value at once
(R4, R48). -/
def Dev.unlatch (d : Dev) (p o : Nat) : Dev :=
  { d with latch := tabDel (tabDel d.latch (latchKey p o)) (latchKey p (o + 4)) }

/-- The register takes part in the ledger (R74). -/
def recorded (pid off : Nat) : Bool :=
  match kindOf pid with
  | none => true
  | some (k, _) => !exemptReg k off

/-- The registers and the ledger after an accepted write (R44 step 7, R61): fields, counts, record. -/
def Dev.writtenBy (d : Dev) (ag : Agent) (pid off v : Nat) (changes acts shadow : Bool) : Dev :=
  let p := (d.place pid off).1
  let old := d.word pid off
  let n := (d.unlatch p (d.place pid off).2).writeFields p v (openFields p (d.place pid off).2)
  if !changes then n
  else
    let new := if acts then v else n.word pid off
    let n := (n.add pid F.PAGE_CHG_COUNT).w pid F.PAGE_LASTW_ORIGIN (d.origin ag)
    if !recorded pid off then n
    else if off = 0x01C then n.ledRecord 7 pid off (d.origin ag) 0 1
    else n.ledRecord (b2n shadow) pid off (d.origin ag) old new

/-- What the blocks do when a register that stands at `p`, offset `o`, takes the word `v`; `b` is the device before the
write. -/
def Dev.startedBy (d b : Dev) (p o v : Nat) : Dev :=
  match kindOf p with
  | none => d
  | some (k, i) => d.effect? b k i p o v

/-- An accepted write: fields, counts and record, and then what it starts. -/
def Dev.accept (d : Dev) (ag : Agent) (pid off v : Nat) (changes acts shadow : Bool) : Dev :=
  (d.writtenBy ag pid off v changes acts shadow).startedBy d (d.place pid off).1 (d.place pid off).2 v

/-- A write waits (R47): STALLS counts those that wait for the ledger. -/
def Dev.hold (d : Dev) (ag : Agent) (pid off v : Nat) (why : HoldWhy) : Dev :=
  let d : Dev := { d with held := d.held ++ [{ ag := ag, pid := pid, off := off, v := v, why := why, since := d.now }] }
  if why = .ledger then (d.add ledPid F.LED_STALLS_COUNT).err ledPid 11 else d

/-- The page number that the record of a dropped write carries (R64). -/
def dropPage (pid : Nat) : Nat := ledgerPage pid

/-- The outcome of a write is carried out. -/
def Dev.decideWrite (d : Dev) (ag : Agent) (pid off v : Nat) : Dev :=
  match d.fate ag pid off v with
  | .dropped =>
    let d := d.err (homePage ag) errAddress
    if recorded pid off then
      d.ledRefused ag (dropPage pid) off (if d.implemented pid then d.word pid off else 0) v errAddress
    else d
  | .offset => d.err pid errAddress
  | .bell => d.err pid 10
  | .refused e =>
    let old := d.word pid off
    let (p, o) := d.place pid off
    let d := match kindOf p with
      | some (k, _) => if d.mayWrite ag pid off then d.refuseNote k o v else d
      | none => d
    let d := d.err pid e
    if recorded pid off then d.ledRefused ag (ledgerPage pid) off old v e else d
  | .commit =>
    if (d.ctl pid).busy.isSome then d.hold ag pid off v .busy
    else if ledgered pid && !d.led.room 2 then d.hold ag pid off v .ledger
    else d.requestAccept ag pid v
  | .accepted ch acts shadow =>
    if ch && recorded pid off && !d.led.room 1 then d.hold ag pid off v .ledger
    else d.accept ag pid off v ch acts shadow

/-- The initiator port of the crossbar that an agent's accesses come through (R89), and the unit behind it. -/
def Dev.agentFab (d : Dev) : Agent → Nat
  | .ward => 0
  | .openWorld k => 1 + k.val
  | .pf p => 4 + p.val
  | .vi v => 4 + d.viPort v % 4

def Dev.agentUnit (d : Dev) (ag : Agent) : Nat := portUnit (d.agentFab ag)

/-- Two agents' accesses come through one host port, where PCIe orders reads behind posted writes (R167). -/
def Dev.sameHost (d : Dev) (a b : Agent) : Bool := d.agentFab a == d.agentFab b && decide (4 ≤ d.agentFab a)

/-- A page lies behind a Pintle link that trains, which holds accesses to it (R112, R114): the Port die behind link 2, the
Drive die behind links 2 and 3. -/
def Dev.linkHolds (d : Dev) (pid : Nat) : Bool :=
  decide (0x400 ≤ pid) && decide (pid < 0xC00) && (d.linkShut 2 || (decide (0x800 ≤ pid) && d.linkShut 3))

/-- A write that no earlier one of its origin holds back: an isolated unit answers it with an error response (R82), a link
that trains holds it (R114). -/
def Dev.sendWrite (d : Dev) (ag : Agent) (pid off v : Nat) : Dev :=
  let p := (d.place pid off).1
  if d.implemented pid && d.isolated p then d.emit (.errorResponse (d.agentFab ag))
  else if d.linkHolds p then d.hold ag pid off v .link
  else d.decideWrite ag pid off v

/-- A write that its agent sends: behind an earlier one of its origin that waits (R47). The agent of a stopped unit sends
none. -/
def Dev.write (d : Dev) (ag : Agent) (pid off v : Nat) : Dev :=
  let off := off / 4 * 4
  if d.isolated (d.agentUnit ag) then d
  else if d.held.any (fun h => h.rd.isNone && sameOrigin h.ag ag) then d.hold ag pid off v .behind
  else d.sendWrite ag pid off v

/-- The writes of an origin that wait are sent again, in their order. -/
def Dev.resend (d : Dev) (ag : Agent) : Dev :=
  let mine := fun (h : Held) => h.rd.isNone && sameOrigin h.ag ag
  let ws := d.held.filter mine
  let d : Dev := { d with held := d.held.filter (fun h => !mine h) }
  ws.foldl (fun d h =>
    if d.held.any mine then { d with held := d.held ++ [{ h with why := .behind }] }
    else d.sendWrite h.ag h.pid h.off h.v) d

/-! ### Reads -/

/-- Completion status codes of a host request: successful, Unsupported Request, Configuration Request Retry, Completer
Abort. -/
def cplOk : Nat := 0
def cplUnsupported : Nat := 1
def cplRetry : Nat := 2
def cplAbort : Nat := 4

/-- An agent's read of a register of its device is answered: the value leaves the device. A read of a unit that is isolated
ends in an error response (R82). -/
def Dev.ownRead (d : Dev) (ag : Agent) (pid off : Nat) : Dev :=
  match d.read ag pid off with
  | (_, true, d) => d.emit (.errorResponse (d.agentFab ag))
  | (v, false, d) => d.emit (.read v)

/-- One 32-bit register read for a host: an error response reads as 0 and is counted (R166, R196). -/
def Dev.hostWord (d : Dev) (port : Nat) (ag : Agent) (addr : Nat) : Nat × Bool × Dev :=
  match d.read ag (agentPage ag addr) (addr % 4096) with
  | (_, true, d) => (0, true, d.add (hpPid port) F.HP_RDERR_COUNT)
  | (v, false, d) => (v, false, d)

/-- A host Memory Read of one DW, or of two aligned to 8 bytes, low word first, is completed; another length is aborted
(R166). -/
def Dev.hostServe (d : Dev) (port : Nat) (ag : Agent) (addr dws : Nat) : Dev :=
  if dws = 1 then
    match d.hostWord port ag addr with
    | (v, _, d) => d.emit (.completion port cplOk [v])
  else if dws = 2 ∧ addr % 8 = 0 then
    match d.hostWord port ag addr with
    | (_, true, d) => d.emit (.completion port cplOk [0, 0])
    | (lo, false, d) =>
      match d.hostWord port ag (addr + 4) with
      | (_, true, d) => d.emit (.completion port cplOk [0, 0])
      | (hi, false, d) => d.emit (.completion port cplOk [lo, hi])
  else d.emit (.completion port cplAbort [])

/-- A read is answered. -/
def Dev.serveRead (d : Dev) (ag : Agent) (pid off : Nat) : HeldRead → Dev
  | .own => d.ownRead ag pid off
  | .host port addr dws => d.hostServe port ag addr dws

/-- A read waits: behind a link that trains, or, through a host port, behind a posted write of the port (R114, R167). A port
takes 16 posted writes, and the host keeps those that follow; both kinds stand in the one list. -/
def Dev.readWaits (d : Dev) (ag : Agent) (pid off : Nat) (before : List Held) : Option HoldWhy :=
  if before.any (fun h => h.rd.isNone && d.sameHost h.ag ag) then some .behind
  else if d.linkHolds (d.place pid off).1 then some .link
  else none

/-- A read that its agent sends. -/
def Dev.sendRead (d : Dev) (ag : Agent) (pid off : Nat) (rd : HeldRead) : Dev :=
  match d.readWaits ag pid off d.held with
  | some w =>
    { d with held := d.held ++ [{ ag := ag, pid := pid, off := off, v := 0, why := w, rd := some rd, since := d.now }] }
  | none => d.serveRead ag pid off rd

/-! ### Waiting -/

/-- The entries that a held write needs. -/
def Held.need (h : Held) : Nat := if h.off = 0x020 then 2 else 1

/-- What held an access back has passed: the link no longer trains, entries are free, or, for a read, nothing before it holds
it. A commit request that waits for its page's check is taken up by its own event (R53). -/
def Dev.ready (d : Dev) (before : List Held) (h : Held) : Bool :=
  match h.rd with
  | some _ => (d.readWaits h.ag h.pid h.off before).isNone
  | none =>
    match h.why with
    | .link => !d.linkHolds (d.place h.pid h.off).1
    | .ledger => d.led.room h.need && !before.any (fun x => x.rd.isNone && x.why == .ledger)
    | .busy | .behind => false

/-- The first access of a list that is ready, with those before it. -/
def Dev.firstReady (d : Dev) (before : List Held) : List Held → Option Held
  | [] => none
  | h :: rest => if d.ready before h then some h else d.firstReady (before ++ [h]) rest

/-- Accesses that wait are taken up, oldest first, as what held them back passes (R69, R114, R167). -/
def Dev.retryHeld (d : Dev) : Nat → Dev
  | 0 => d
  | n + 1 =>
    match d.firstReady [] d.held with
    | none => d
    | some h =>
      match h.rd with
      | none => (d.resend h.ag).retryHeld n
      | some rd => ({ d with held := d.held.erase h }.serveRead h.ag h.pid h.off rd).retryHeld n

/-- The commit request that waits for a page, the first in the order of R47. -/
def Dev.waitingFor (d : Dev) (pid : Nat) : Option Held :=
  (d.held.filter (fun h => h.why == .busy && h.pid == pid)).foldl (fun m h =>
    match m with
    | none => some h
    | some x => if d.originRank h.ag < d.originRank x.ag then some h else some x) none

/-- The page's check has ended: the next request that waits for it is accepted (R53). -/
def Dev.deferredAccept (d : Dev) (pid : Nat) : Dev :=
  if (d.ctl pid).busy.isSome then d
  else match d.waitingFor pid with
    | none => d
    | some h => d.resend h.ag

/-- The oldest write that waits for the ledger has waited 10 µs (R44 step 6, R69). -/
def Dev.waitTimeout? (d : Dev) : Dev :=
  match d.held.find? (fun h => h.why == .ledger && decide (h.since + 10000 ≤ d.now)) with
  | none => d
  | some h =>
    let d : Dev := { d with held := d.held.erase h }
    let d := (d.err h.pid errTimeout).ledLost
    let d := if h.off = 0x020 then d.rejectShow h.pid 9 else d
    d.resend h.ag

/-! ### Writes by name -/

/-- A write of an agent at an address of the register space, or of its window. -/
def Dev.writeAt (d : Dev) (ag : Agent) (addr v : Nat) : Dev := d.write ag (agentPage ag addr) (addr % 4096) v

end Sys2Proof.Machine
end

