-- ==== Sys2Proof/Machine/Boot.lean ====
section
/-! DEFINITION. The boot (R123, R127, R129 to R133, R142, R321, R336), the exit from S2 (R456), the reboot of a package-level
recovery (R478), and what power-good and the hinge supply do (R459, R504, R505). -/

namespace Sys2Proof.Machine

open Sys2Proof

/-! ### Register writes of the boot ROM (R321) -/

/-- The boot ROM writes a register as the ward world. -/
def Dev.romWrite (d : Dev) (pid off v : Nat) : Dev := d.decideWrite .ward pid off v

/-- A commit request of the boot ROM or of ward firmware, whose check ends before it goes on: 1 NOW, 2 AT_BOUNDARY. -/
def Dev.romCommit (d : Dev) (pid kind : Nat) : Dev := (d.romWrite pid 0x020 (0xA5C30000 + kind)).checkEnd? pid

/-- A safe mode (R321): the pixel clock in kHz, H active, front, sync, back, V active, front, sync, back, and the
polarities. -/
structure SafeMode where
  khz : Nat
  h : List Nat
  v : List Nat
  hpol : Nat
  vpol : Nat
  deriving DecidableEq, Repr

def safeModes : List SafeMode :=
  [{ khz := 148500, h := [1920, 88, 44, 148], v := [1080, 4, 5, 36], hpol := 1, vpol := 1 },
   { khz := 74250, h := [1280, 110, 40, 220], v := [720, 5, 5, 20], hpol := 1, vpol := 1 },
   { khz := 594000, h := [3840, 176, 88, 296], v := [2160, 8, 10, 72], hpol := 1, vpol := 1 },
   { khz := 241500, h := [2560, 48, 32, 80], v := [1440, 3, 5, 33], hpol := 1, vpol := 0 },
   { khz := 154000, h := [1920, 48, 32, 80], v := [1200, 3, 6, 26], hpol := 1, vpol := 0 },
   { khz := 65000, h := [1024, 24, 136, 160], v := [768, 3, 6, 29], hpol := 0, vpol := 0 }]

/-- The timing of a safe mode as writes of the head control page, 8 bits per component. -/
def SafeMode.writes (m : SafeMode) : List (Nat × Nat) :=
  let h := fun i => m.h.getD i 0
  let v := fun i => m.v.getD i 0
  [(0x044, h 0), (0x048, h 1 + 2 ^ 10 * h 2 + 2 ^ 20 * h 3 + 2 ^ 31 * m.hpol), (0x04C, v 0),
   (0x050, v 1 + 2 ^ 8 * v 2 + 2 ^ 16 * v 3 + 2 ^ 31 * m.vpol), (0x054, m.khz), (0x058, 1)]

/-- Start a head in its safe mode: the panel of an eDP head, the timing, EN (R321, R336). -/
def Dev.romHead (d : Dev) (h : Nat) : Dev :=
  let d := if d.headEdp h then d.romWrite (dpPid h) 0x070 (3 + 50 * 2 ^ 8) else d
  let d := match safeModes[d.headSafe h]? with
    | some m => (m.writes.foldl (fun (d : Dev) (w : Nat × Nat) => d.romWrite (hdPid h) w.1 w.2) d).romCommit (hdPid h) 1
    | none => d
  let d := d.setHead h { d.head h with safeDue := true, early := false, tries := 0 }
  d.romWrite (hdPid h) 0x040 1

/-- Every enabled head starts its safe mode. -/
def Dev.romHeads (d : Dev) : Dev := d.upTo 8 (fun h d => if d.headEn h then d.romHead h else d)

/-! ### Steps 5 to 7 of R123 -/

/-- The ROM has loaded and checked the hinge table: what the hinge table page shows (R157). -/
def Dev.showHinge (d : Dev) (slot : Nat) : Dev :=
  let d := ((d.w htPid F.HT_STAT_LOADED 1).w htPid F.HT_STAT_NLOG2 (d.hb 6)).w htPid F.HT_STAT_SLOT slot
  let hash := (sha384 (memRdN d.hinge 0 4096))
  let d := d.upTo 12 (fun k d => d.w htPid F.HT_HASH_HASH (ofBytesLE ((hash.drop (4 * k)).take 4)) k)
  let d := (d.w htPid F.HT_CLAIM_MASK (d.hd 8)).w htPid F.HT_WARD_BASE (d.hd 0x10)
  ((d.w htPid F.HT_WARD_SIZE (d.hd 0x14)).w htPid F.HT_OPEN_BASE (d.hd 0x18)).w htPid F.HT_OPEN_SIZE (d.hd 0x1C)

/-- A section is placed in strike SRAM at LOAD, and the register that gives its place shows it (R302, R304, R305). -/
def Dev.strikePlace (d : Dev) (s : Section) : Dev :=
  let bs := d.sectionBytes d.boot.base s
  let d : Dev := { d with mems := { d.mems with strike := memWrN d.mems.strike s.load bs } }
  match s.type with
  | 5 => d.w (stkPid s.head) F.STK_SAFEBASE_OFFSET (s.load / 64)
  | 6 => d.w scPid F.SC_TPLBASE_OFFSET (s.load / 64)
  | _ => d.w scPid F.SC_EMGBASE_OFFSET (s.load / 64)

/-- Safe screens, templates and emergency messages are in place. -/
def Dev.strikeLoad (d : Dev) : Dev :=
  ((d.sections d.boot.base).filter (fun s => decide (5 ≤ s.type) && decide (s.type ≤ 7))).foldl
    (fun d s => d.strikePlace s) d

/-- The layer-1 identity is derived, the alias certificate is issued and the UDS hidden (R131 to R133). -/
def Dev.identity (d : Dev) (m : List Nat) : Dev :=
  let svn := d.fn? (d.boot.base + 12) 4
  let keyId := d.fn? (d.boot.base + 16) 4
  let cdi := cdiOf m svn keyId
  let key := keyFrom cdi "ALIAS"
  { d with boot := { d.boot with cdi := cdi, idKey := identityKey, aliasKey := key, udsHidden := true,
                                 aliasCert := aliasCert key m svn keyId d.fresh } }.tick

/-- The ward firmware is measured and starts (step 7). The ROM sets the watchdog's EN first (R159). -/
def Dev.wardStart (d : Dev) : Dev :=
  let m := d.measureWard d.boot.base
  let d := d.upTo 12 (fun k d => d.w bootPid F.BOOT_MEAS_HASH (ofBytesLE ((m.drop (4 * k)).take 4)) k)
  let d := ((d.identity m).wardLoad).romWrite wdgPid 0x040 (1 + 2 ^ 8 * d.r wdgPid F.WDG_CTRL_TIMEOUT)
  d.kick.w bootPid F.BOOT_STAT_STAGE 2

/-- Steps 6 and 7, on a device whose hinge table is loaded. The channels leave OFF once their entry is known (R385). -/
def Dev.romRun (d : Dev) : Dev :=
  let d : Dev := { d with disp := { d.disp with bootAt := d.boot.goodAt, safeSent := false } }
  let d := d.strikeLoad.romHeads.wardStart
  let d := d.upTo 8 (fun h d => d.hapWake h)
  { d with boot := { d.boot with toLoad := true } }

/-- The image of a slot has passed R129. -/
def Dev.romAccept (d : Dev) (slot : Nat) : Dev :=
  let base := d.slotBase slot
  let d := d.withHinge base
  let d : Dev := { d with boot := { d.boot with base := base } }
  let d := (d.showHinge slot).w bootPid F.BOOT_STAT_SLOT slot
  let d := (d.w bootPid F.BOOT_STAT_KEYID (d.fn? (base + 16) 4)).w bootPid F.BOOT_SVN_SVN (d.fn? (base + 12) 4)
  (d.w bootPid F.BOOT_STAT_STAGE 1).romRun

/-- Reset is released to the dies: the links start, the render region powers up at P2 (R123 steps 1 and 2, R445). -/
def Dev.release (d : Dev) : Dev :=
  let d : Dev := { d with boot := { d.boot with down := false, due := 0, goodAt := d.now, udsHidden := false } }
  (d.setQuads (quadsAt 2)).upTo 4 (fun l d => d.linkStart l)

/-- The boot ROM starts: self-test, descriptor, the first slot, the other slot (R123, R125, R129, R130). -/
def Dev.romStart (d : Dev) (selfTest : Bool) : Dev :=
  let d := d.release
  if !selfTest then d.bootFail 8
  else if !d.descOk d.boot.quad then d.bootFail 1
  else
    let s := d.firstSlot
    match d.imageFail (d.slotBase s) with
    | none => d.romAccept s
    | some c =>
      let d := (d.failCode c).w bootPid F.BOOT_STAT_FALLBACK 1
      match d.imageFail (d.slotBase (1 - s)) with
      | none => d.romAccept (1 - s)
      | some e => d.bootFail e

/-! ### DRAM training ends (R123 steps 9 and 12, R127, R142) -/

/-- The carve-outs lie within installed capacity. -/
def Dev.carveOk (d : Dev) : Bool :=
  decide (d.wardBase + d.wardSize ≤ d.capacity) && decide (d.openBase + d.openSize ≤ d.capacity)

/-- What ward firmware does when training has ended: the sections of step 12, or a failed boot with FAILCODE 7. -/
def Dev.afterTraining (d : Dev) : Dev :=
  if !d.boot.toLoad then d
  else if d.memService then
    if d.carveOk then d.loadSections else ({ d with boot := { d.boot with toLoad := false } }).bootFail 7
  else if d.r mcPid F.MC_TRAIN_STATE = 3 then ({ d with boot := { d.boot with toLoad := false } }).bootFail 7
  else d

/-! ### Other starts of the boot ROM -/

/-- The self-test of a boot that no event asks for: its outcome is free. -/
def Dev.selfTest (d : Dev) : Bool := Config.selfTest d.fresh

/-- The exit from S2 (R456): the booted slot is checked and measured again, the table stays locked, and the actions of R143
are repeated. -/
def Dev.exitS2 (d : Dev) : Dev :=
  let ok := d.selfTest
  let d := (d.tick.wipe (fun p => p == pmPid || p == rlPid) (fun k =>
    [F.PM_STAT_WAKESRC, F.PM_STAT_STATE].any (fun f => k == fieldKey pmPid f 0)))
  let d := (d.failCode 0).release
  if !ok then d.bootFail 8
  else match d.imageFail d.boot.base with
    | some c => d.bootFail c
    | none =>
      let d := d.romRun.lockActions
      let d := d.upTo 8 (fun t d => d.touchResume t)
      (d.enterState 0).pmEnd 0 0

/-- The boot that an exit from S2 or a package-level recovery asks for. -/
def Dev.bootDue (d : Dev) : Dev :=
  match d.boot.due with
  | 0 => d
  | 1 => d.exitS2
  | _ => if d.boot.powerGood then (d.tick).romStart d.selfTest else d

/-! ### Power-good (R123, R505) -/

/-- Everything but the hinge domain starts from its reset values, the fault unit with it. The wake source outlives an S3 or
an S4 (R456). -/
def Dev.diesFresh (d : Dev) (dram : Bool) : Dev :=
  let d := d.diesGone dram (fun k => k == fieldKey pmPid F.PM_STAT_WAKESRC 0)
  let d := (d.wipe bootPage).outerGone
  { d with flt := {}, boot := { d.boot with down := true, due := 0 } }

/-- Power-good rises. It is ignored while MAIN_EN is low (R504). -/
def Dev.powerGoodRise (d : Dev) (selfTest quad : Bool) : Dev :=
  if !d.boot.mainEn || d.boot.powerGood then d
  else
    let d := d.diesFresh false
    let d : Dev := { d with boot := { d.boot with powerGood := true, quad := quad } }
    d.romStart selfTest

/-- Power-good falls. In S3 and S4 it is expected; in the state of R480 it releases FAULT_N; else the dies are isolated and
reset and the by-pass hold is released. -/
def Dev.powerGoodFall (d : Dev) : Dev :=
  if !d.boot.powerGood then d
  else
    let d : Dev := { d with boot := { d.boot with powerGood := false } }
    if !d.boot.mainEn then d
    else if d.boot.faultN then d.setFaultN false
    else (d.holdDrop 1).diesFresh true

/-! ### The hinge supply (R459, R504) -/

/-- VDD_HINGE is lost: the hinge domain is reset, the hold output falls with the supply, and the board's rails with
MAIN_EN. -/
def Dev.hingeLoss (d : Dev) : Dev :=
  let d := (d.holdFall.diesGone true).hingeGone
  let d := (d.wipe (fun _ => true)).outerGone
  let b : BootSt := { svn := d.boot.svn, mainEn := false }
  { d with flt := {}, boot := b, fab := { d.fab with hingeOn := false } }

/-- VDD_HINGE is there: device time starts at 0, and MAIN_EN rises (R504 steps 1 to 3). -/
def Dev.hingePower (d : Dev) : Dev :=
  if d.fab.hingeOn then d
  else ({ d.hingeGone with fab := { d.hingeGone.fab with hingeOn := true } }).setMainEn true

end Sys2Proof.Machine
end

