-- ==== Sys2Proof/Machine/Spdm.lean ====
section
/-! DEFINITION. The ward world's answers: SPDM over the DOE mailboxes, the secured sessions, and the services of R150, with
the prompts that they show (R136 to R138, R150, R304 to R307, R361). The codes of SPDM messages are those of DSP0274. -/

namespace Sys2Proof.Machine

open Sys2Proof

/-! ### SPDM (R136, R137) -/

/-- An SPDM message of the responder leaves by a port: its code, its two parameters and what follows. -/
def Dev.spdmSay (d : Dev) (p code p1 p2 : Nat) (data : List Nat := []) : Dev := d.emit (.event 136 ([p, code, p1, p2] ++ data))

/-- An ERROR message: 1 InvalidRequest, 3 Busy, 4 UnexpectedRequest, 6 DecryptError, 7 UnsupportedRequest, 10
SessionLimitExceeded. -/
def Dev.spdmError (d : Dev) (p code : Nat) (data : Nat := 0) : Dev := d.spdmSay p 0x7F code data

def Dev.spdmOf (d : Dev) (p : Nat) : Spdm := tabGet d.spdm {} p
def Dev.setSpdm (d : Dev) (p : Nat) (x : Spdm) : Dev := { d with spdm := tabPut d.spdm {} p x }

/-- The PORT entry of the hinge table: SPDM enabled, ROOTHASH, GRANT (R141). -/
def Dev.spdmOn (d : Dev) (p : Nat) : Bool := d.hb (0x240 + 64 * p + 52) % 2 == 1
def Dev.rootHash (d : Dev) (p : Nat) : List Nat := memRdN d.hinge (0x240 + 64 * p) 48
def Dev.grants (d : Dev) (p g : Nat) : Bool := bit (d.hd (0x240 + 64 * p + 48)) g

/-- The request in a port's DOE mailbox is taken, and answered by `f` where the ward world serves the port (R124, R154). -/
def Dev.doe (d : Dev) (p : Nat) (f : Dev → Dev) : Dev :=
  if !(d.bootStage == 3) || !d.spdmOn p then d
  else
    let d : Dev := { d with doeWaiting := d.doeWaiting.filter (fun x => !(x == p)) }
    if d.wardRestarting then d.spdmError p 3 else f d

/-- A request that must not come before the connection has reached a phase. -/
def Dev.inPhase (d : Dev) (p phase : Nat) (f : Dev → Dev) : Dev := if phase ≤ (d.spdmOf p).phase then f d else d.spdmError p 4

/-- A DOE discovery object: the protocols 0 discovery, 1 CMA/SPDM, 2 secured CMA/SPDM, and the next index. -/
def Dev.doeDiscovery (d : Dev) (p index : Nat) : Dev :=
  if d.bootStage == 3 then
    let d : Dev := { d with doeWaiting := d.doeWaiting.filter (fun x => !(x == p)) }
    let last := if d.spdmOn p then 2 else 0
    if last < index then d.emit (.event 137 [p, 0xFFFF, 0, 0])
    else d.emit (.event 137 [p, 1, index, if index < last then index + 1 else 0])
  else d

/-- GET_VERSION starts the connection again: its sessions end. -/
def Dev.getVersion (d : Dev) (p : Nat) : Dev :=
  d.doe p (fun d => (d.setSpdm p { d.spdmOf p with phase := 1, sessions := [] }).spdmSay p 0x04 0 0 [0x12])

/-- GET_CAPABILITIES: CTExponent 17; certificates, challenge, signed measurements, encryption, message authentication,
mutual authentication, key exchange, encapsulated requests, heartbeat and key update. -/
def Dev.getCapabilities (d : Dev) (p : Nat) : Dev :=
  d.doe p (fun d => d.inPhase p 1 (fun d => (d.setSpdm p { d.spdmOf p with phase := 2 }).spdmSay p 0x61 0 0 [17, 0x73F6]))

/-- NEGOTIATE_ALGORITHMS: of what the requester offers, the one algorithm of each kind that the device supports. -/
def Dev.negotiate (d : Dev) (p : Nat) (asym hash dhe aead : Bool) : Dev :=
  d.doe p (fun d => d.inPhase p 2 (fun d =>
    (d.setSpdm p { d.spdmOf p with phase := 3 }).spdmSay p 0x63 0 0 [b2n asym, b2n hash, b2n dhe, b2n aead]))

/-- The chain in slot 0 (R134), in the form of DSP0274: its length, the hash of the root certificate, and the four
certificates: the root, the device CA, the device certificate, which says which firmware keys the part accepts, and the
alias certificate. -/
def Dev.chain (d : Dev) : List Nat :=
  let certs := Config.rootCert ++ Config.caCert ++ Config.deviceCert identityPublic Config.evaluationPart ++ d.boot.aliasCert
  bytesLE 2 (52 + certs.length) ++ [0, 0] ++ sha384 Config.rootCert ++ certs

def Dev.getDigests (d : Dev) (p : Nat) : Dev :=
  d.doe p (fun d => d.inPhase p 3 (fun d => d.spdmSay p 0x01 0 1 (sha384 d.chain)))

/-- A part of the chain in slot 0; the other slots are empty. -/
def Dev.getCertificate (d : Dev) (p slot off len : Nat) : Dev :=
  d.doe p (fun d => d.inPhase p 3 (fun d =>
    if !(slot == 0) || decide (d.chain.length ≤ off) then d.spdmError p 1
    else
      let part := (d.chain.drop off).take (min len 4064)
      d.spdmSay p 0x02 0 0 (bytesLE 2 part.length ++ bytesLE 2 (d.chain.length - off - part.length) ++ part)))

/-! ### Measurements (R137) -/

/-- The bytes of every section of the types 5 to 11, in the order of the section table. -/
def Dev.otherSections (d : Dev) : List Nat :=
  ((d.sections d.boot.base).filter (fun s => decide (5 ≤ s.type) && decide (s.type ≤ 11))).flatMap
    (fun s => d.sectionBytes d.boot.base s)

/-- The value of a measurement block; the 16 bytes of block 7 lie in the order in which R137 names them (DESIGN CHOICE,
log entry 89). -/
def Dev.measurement (d : Dev) (i : Nat) : List Nat :=
  let sec := fun t => match d.section? d.boot.base t with
    | some s => sha384 (d.sectionBytes d.boot.base s)
    | none => []
  match i with
  | 1 => Config.romMeasure
  | 2 => d.bootMeas
  | 3 => sec 2
  | 4 => sec 3
  | 5 => sha384 (memRdN d.hinge 0 4096)
  | 6 => sha384 d.otherSections
  | _ => bytesLE 4 (d.r bootPid F.BOOT_SVN_SVN) ++ bytesLE 4 (d.r bootPid F.BOOT_STAT_KEYID) ++
      bytesLE 4 (Config.orderingCode Config.evaluationPart).toNat ++ bytesLE 4 (b2n d.locked)

/-- A measurement block: its index, 1 for a DMTF measurement that is a digest and 0x81 for one that is raw, its length
and its value. -/
def Dev.measBlock (d : Dev) (i : Nat) : List Nat :=
  let v := d.measurement i
  [i, if i = 7 then 0x81 else 1] ++ bytesLE 2 v.length ++ v

/-- GET_MEASUREMENTS: operation 0 asks for the number of blocks, 255 for all, another for one. -/
def Dev.getMeasurements (d : Dev) (p op : Nat) (sign : Bool) : Dev :=
  d.doe p (fun d => d.inPhase p 3 (fun d =>
    let body := if op = 0 then [] else if op = 255 then (upFrom 1 7).flatMap d.measBlock else d.measBlock op
    if decide (7 < op) && !(op == 255) then d.spdmError p 1
    else
      let sig := if sign then Config.drawn 0 d.fresh ++ Config.signed d.boot.aliasKey body d.fresh else []
      d.tick.spdmSay p 0x60 (if op = 0 then 7 else 0) 0 (body ++ sig)))

/-- CHALLENGE: the digest of the chain, a nonce, the hash of every measurement where one is asked for, and the signature by
the alias key. -/
def Dev.challenge (d : Dev) (p slot : Nat) (summary : Bool) : Dev :=
  d.doe p (fun d => d.inPhase p 3 (fun d =>
    if !(slot == 0) then d.spdmError p 1
    else
      let body := sha384 d.chain ++ Config.drawn 0 d.fresh ++
        (if summary then sha384 ((upFrom 1 7).flatMap d.measBlock) else [])
      d.tick.spdmSay p 0x03 0 1 (body ++ Config.signed d.boot.aliasKey body d.fresh)))

/-! ### Sessions (R136, R138) -/

/-- KEY_EXCHANGE opens a session, with mutual authentication asked for when the port's ROOTHASH is not zero; a third open
session is refused. -/
def Dev.keyExchange (d : Dev) (p slot : Nat) : Dev :=
  d.doe p (fun d => d.inPhase p 3 (fun d =>
    let x := d.spdmOf p
    if !(slot == 0) then d.spdmError p 1
    else if 2 ≤ x.sessions.length then d.spdmError p 10
    else
      let s : Session := { id := x.next }
      let ask := (d.rootHash p).any (fun b => !(b == 0))
      let body := bytesLE 4 x.next ++ [b2n ask] ++ Config.drawn 1 d.fresh
      (d.tick.setSpdm p { x with sessions := x.sessions ++ [s], next := x.next % (2 ^ 32 - 1) + 1 }).spdmSay p 0x64 10 0
        (body ++ Config.signed d.boot.aliasKey body d.fresh)))

/-- FINISH: the handshake is complete. `root` is the SHA-384 of the root key that the requester's chain ends at, where it has
authenticated itself. A requester that fails its proof ends the session. -/
def Dev.finish (d : Dev) (p id : Nat) (root : Option (List Nat)) (good : Bool) : Dev :=
  d.doe p (fun d =>
    let x := d.spdmOf p
    match x.sessions.find? (fun s => s.id == id && !s.ready) with
    | none => d.spdmError p 4
    | some s =>
      if !good then (d.setSpdm p { x with sessions := x.sessions.erase s }).spdmError p 6
      else
        let rh := d.rootHash p
        let m := rh.any (fun b => !(b == 0)) && root == some rh
        let ss := x.sessions.map (fun y => if y.id == id then { y with ready := true, mutual_ := m } else y)
        (d.setSpdm p { x with sessions := ss }).spdmSay p 0x65 0 0)

/-- A session of a port whose handshake is complete. -/
def Dev.session? (d : Dev) (p id : Nat) : Option Session := (d.spdmOf p).sessions.find? (fun s => s.id == id && s.ready)

/-- A secured message of a session; one of a session that is not open receives ERROR DecryptError (R154). -/
def Dev.secured (d : Dev) (p id : Nat) (f : Dev → Dev) : Dev :=
  if !(d.bootStage == 3) || !d.spdmOn p then d
  else
    let d : Dev := { d with doeWaiting := d.doeWaiting.filter (fun x => !(x == p)) }
    if (d.session? p id).isSome then f d else d.spdmError p 6

def Dev.heartbeat (d : Dev) (p id : Nat) : Dev := d.secured p id (fun d => d.spdmSay p 0x68 0 0)
def Dev.keyUpdate (d : Dev) (p id op : Nat) : Dev := d.secured p id (fun d => d.spdmSay p 0x69 op 0)

/-- END_SESSION. The prompts of the session are then removed (R307). -/
def Dev.endSession (d : Dev) (p id : Nat) : Dev :=
  d.secured p id (fun d =>
    let x := d.spdmOf p
    (d.setSpdm p { x with sessions := x.sessions.filter (fun s => !(s.id == id)) }).spdmSay p 0x6C 0 0)

/-- A request that the device does not support. -/
def Dev.unsupported (d : Dev) (p code : Nat) : Dev := d.doe p (fun d => d.spdmError p 7 code)

/-! ### Services (R138, R148 to R150) -/

/-- The response of a service: to its mailbox request, or inside its session. -/
def Dev.answerVia (d : Dev) (via : Via) (svc status : Nat) (payload : List Nat) : Dev :=
  match via with
  | .mailbox c n => d.mbRespond c.val n status payload
  | .session p id tag _ _ =>
    d.emit (.message (64 + p.val) (bytesLE 4 id.toNat ++ bytesLE 2 svc ++ bytesLE 2 tag.toNat ++ bytesLE 2 status ++
      bytesLE 2 payload.length ++ bytesLE 8 d.now ++ payload))

/-- The group of a service code. -/
def svcGroup (svc : Nat) : Nat := if svc < 0x10 then 0 else if svc < 0x100 then 1 else svc / 0x100 + 1

/-- The DEADLINE and LEN of a session's request record are well formed (R138, R148). -/
def recordFormed (deadline len : Nat) : Bool :=
  (deadline == 0 || (decide (100 ≤ deadline) && decide (deadline ≤ 1000000))) && decide (len ≤ 4084)

/-- A request for a service is served by `f`, or answered DENIED: a mailbox reaches groups 0 and 1, a session the groups that
its port grants, and a group above 1 only where the requester has proved the port's root. A malformed record in a session is
answered BAD_REQUEST before that, as a mailbox answers it (R149). -/
def Dev.serve (d : Dev) (via : Via) (svc : Nat) (f : Dev → Dev) : Dev :=
  let g := svcGroup svc
  match via with
  | .mailbox c n =>
    if d.mbState c.val = 1 ∧ (d.mbox? c.val).count = n ∧ svcGroup (le (d.mbReq c.val) 0 2) = g then
      if g ≤ 1 then f d else d.answerVia via svc 3 []
    else if d.mbState c.val = 1 ∧ (d.mbox? c.val).count = n then d
    else d.answerVia via svc 0 []
  | .session p id _ deadline len =>
    d.secured p.val id.toNat (fun d =>
      if !recordFormed deadline.toNat len.toNat then d.answerVia via svc 4 [] else
      let m := match d.session? p.val id.toNat with | some s => s.mutual_ | none => false
      if d.grants p.val g && (decide (g ≤ 1) || m) then f d else d.answerVia via svc 3 [])

/-- A group 0 service: 0 the boot stage, 1 the count of restarts, 2 the lock time, 3 `LED_SEQ`. -/
def Dev.getState (d : Dev) (via : Via) (item : Nat) : Dev :=
  d.serve via 1 (fun d => d.answerVia via 1 0 (match item with
    | 0 => bytesLE 4 d.bootStage
    | 1 => bytesLE 4 (d.r bootPid F.WR_STAT_COUNT)
    | 2 => bytesLE 8 (d.r64 htPid F.HT_LOCKT_LO_TIME F.HT_LOCKT_HI_TIME)
    | _ => bytesLE 4 (d.r ledPid F.LED_SEQ_NEXT)))

/-- The ring blocks of 32 bytes that ward firmware has not consumed, oldest first. -/
def Dev.ringSlots (d : Dev) : List (List Nat) :=
  let n := (d.ringHead + d.ringSize - d.ringTail) % d.ringSize / 32
  (upFrom 0 n).map (fun i => d.dramRdN (d.ringBase + (d.ringTail + 32 * i) % d.ringSize) 32)

/-- The 256 bytes of the block of a checkpoint, none where the ring does not hold it. -/
def ckptBlock (num : Nat) : List (List Nat) → Option (List Nat)
  | [] => none
  | e :: rest =>
    if le e 10 2 / 4096 = 10 ∧ le e 20 4 = num then some (e ++ (rest.take 7).flatMap id) else ckptBlock num rest

/-- The entries that a checkpoint covers, as the ring holds them. -/
def ckptEntries (first : Nat) (l : List (List Nat)) : List Nat :=
  (upFrom first 256).flatMap (fun q => match l.find? (fun e => le e 24 4 == q % 2 ^ 32) with
    | some e => e
    | none => [])

/-- Bytes in pieces of at most 4,080. -/
def exportParts : Nat → List Nat → List (List Nat)
  | 0, _ => []
  | n + 1, bs => if bs.isEmpty then [] else bs.take 4080 :: exportParts n (bs.drop 4080)

/-- The ledger by checkpoint number: its block, then its entries, in as many responses as they need; a mailbox gets the
position alone, the next SEQ and the ring's head. -/
def Dev.ledgerExport (d : Dev) (via : Via) (num : Nat) : Dev :=
  d.serve via 0x10 (fun d =>
    match via with
    | .mailbox _ _ => d.answerVia via 0x10 0 (bytesLE 4 (d.r ledPid F.LED_SEQ_NEXT) ++ bytesLE 4 d.ringHead)
    | .session _ _ _ _ _ =>
      let l := d.ringSlots
      match ckptBlock num l with
      | none => d.answerVia via 0x10 4 []
      | some b => (exportParts 3 (b ++ ckptEntries (le b 16 4) l)).foldl (fun (d : Dev) x => d.answerVia via 0x10 0 x) d)

/-! ### Templates (R304) -/

/-- The directory entry of a template in strike SRAM. -/
def Dev.tplEntry (d : Dev) (id : Nat) : Option Nat :=
  let m := d.mems.strike
  let b := d.r scPid F.SC_TPLBASE_OFFSET * 64
  if memRdLE m b 4 = 0x54584249 then
    ((upFrom 0 (memRdLE m (b + 4) 2)).find? (fun i => memRdLE m (b + 64 + 32 * i) 2 == id)).map (fun i => b + 64 + 32 * i)
  else none

/-- A number of `n` bytes of a template's entry. -/
def Dev.tpl (d : Dev) (e off n : Nat) : Nat := memRdLE d.mems.strike (e + off) n

/-- The section that holds a directory entry begins at `SC_TPLBASE`. -/
def Dev.tplBase (d : Dev) : Nat := d.r scPid F.SC_TPLBASE_OFFSET * 64

/-- A key record: X, Y, W, H, CODE, FLAGS, TONE, EFFECT. -/
structure KeyRec where
  x : Nat
  y : Nat
  w : Nat
  h : Nat
  code : Nat
  flags : Nat
  tone : Nat
  effect : Nat
  deriving DecidableEq, Repr

def Dev.tplKeys (d : Dev) (e : Nat) : List KeyRec :=
  (upFrom 0 (d.tpl e 14 1)).map (fun i =>
    let a := d.tplBase + d.tpl e 20 4 + 12 * i
    let g := fun o n => memRdLE d.mems.strike (a + o) n
    { x := g 0 2, y := g 2 2, w := g 4 2, h := g 6 2, code := g 8 1, flags := g 9 1, tone := g 10 1, effect := g 11 1 })

/-! ### Register writes of ward firmware for a prompt -/

/-- Ward firmware writes a register. -/
def Dev.fwWrite (d : Dev) (pid off v : Nat) : Dev := d.write .ward pid off v

/-- Ward firmware asks for a commit at the boundary. -/
def Dev.fwCommit (d : Dev) (pid : Nat) : Dev := d.fwWrite pid 0x020 0xA5C30002

/-- A Bolt region of a port is written (R361): a key's, or a mask. -/
def Dev.fwRegion (d : Dev) (t i : Nat) (x y w h cfg : Nat) : Dev :=
  let p := tbPid t
  let d := (d.fwWrite p (0x100 + 16 * i) (x + 2 ^ 16 * y)).fwWrite p (0x104 + 16 * i) (w + 2 ^ 16 * h)
  d.fwWrite p (0x108 + 16 * i) cfg

/-- The regions of a prompt on a port: one for each key record, and a MASK region over the whole. -/
def Dev.fwRegions (d : Dev) (q : Prompt) (t first : Nat) : Dev :=
  let ks := d.tplKeys q.tpl
  let d := forAll (upFrom 0 ks.length) (fun i d =>
    match ks[i]? with
    | some k => d.fwRegion t (first + i) (q.x + k.x * q.scale) (q.y + k.y * q.scale) (k.w * q.scale) (k.h * q.scale)
        (1 + 4 + 8 + 2 ^ 8 * k.code + 2 ^ 16 * k.effect + 2 ^ 24 * k.tone)
    | none => d) d
  (d.fwRegion t (first + ks.length) q.x q.y (d.tpl q.tpl 4 2 * q.scale) (d.tpl q.tpl 6 2 * q.scale) 3).fwCommit (tbPid t)

/-- The regions of a prompt on a port are taken away. -/
def Dev.fwNoRegions (d : Dev) (t first n : Nat) : Dev :=
  (forAll (upFrom first n) (fun i d => d.fwWrite (tbPid t) (0x108 + 16 * i) 0) d).fwCommit (tbPid t)

/-- The first of `n` regions of a port that are free one after the other. -/
def Dev.freeRegions (d : Dev) (t n : Nat) : Option Nat :=
  (upFrom 0 (65 - n)).find? (fun b => (upFrom b n).all (fun i => d.r (tbPid t) F.TB_CFG_EN i == 0))

/-- The window of a prompt as its strike set gives it: the template's own pixels, its palette in the window's part of the
head's palette, or all of it for 8-bit pixels. -/
def Dev.promptWin (d : Dev) (q : Prompt) : Win :=
  let b8 := bit (d.tpl q.tpl 2 2) 0
  { x := q.x, y := q.y, w := d.tpl q.tpl 4 2, h := d.tpl q.tpl 6 2, off := d.tplBase + d.tpl q.tpl 8 4, en := true, bpp8 := b8,
    scale := q.scale, palBase := if b8 then 0 else 16 * q.win, pitch := d.tpl q.tpl 12 2 }

/-- A palette word of a template. -/
def Dev.tplPal (d : Dev) (e i : Nat) : Nat := memRdLE d.mems.strike (d.tplBase + d.tpl e 16 4 + 4 * i) 4

/-- Ward firmware writes the strike set that shows a prompt, and asks for its commit. -/
def Dev.fwStrike (d : Dev) (q : Prompt) : Dev :=
  let p := stkPid q.head
  let w := d.promptWin q
  let o := 0x100 + 16 * q.win
  let d := (d.fwWrite p o (w.x + 2 ^ 16 * w.y)).fwWrite p (o + 4) (w.w + 2 ^ 16 * w.h)
  let d := d.fwWrite p (o + 8) w.off
  let d := d.fwWrite p (o + 12) (1 + b2n w.bpp8 * 2 + (w.scale - 1) * 4 + w.palBase * 16 + w.pitch / 64 * 2 ^ 16)
  let d := forAll (upFrom 0 (if w.bpp8 then 256 else 16)) (fun i d => d.fwWrite p (0x400 + 4 * (w.palBase + i)) (d.tplPal q.tpl i)) d
  d.fwCommit p

/-- The CRC of a prompt as the compositor leaves it where its palette is opaque (R337, POINT 0). -/
def Dev.promptCrc (d : Dev) (q : Prompt) : Nat :=
  let w := d.promptWin q
  let pal := fun i => d.tplPal q.tpl (i - w.palBase)
  crc32c ((upFrom w.y (w.h * w.scale)).flatMap (fun y => (upFrom w.x (w.w * w.scale)).flatMap (fun x =>
    pixBytes 0 10 (blendWin w d.mems.strike pal x y { r := 0, g := 0, b := 0, a := one }).pix)))

/-- Ward firmware guards the head and loads a CRC rectangle over a prompt, linked to its strike set (R339, R341). The
rectangle has the window's number and counts mismatches with ACTION 1. -/
def Dev.fwGuard (d : Dev) (q : Prompt) : Dev :=
  let p := crPid q.head
  let d := d.fwWrite p 0x040 3
  if q.crc then
    let o := 0x100 + 32 * q.win
    let w := d.promptWin q
    let d := (d.fwWrite p o (w.x + 2 ^ 16 * w.y)).fwWrite p (o + 4) (w.w * w.scale + w.h * w.scale * 2 ^ 16)
    ((d.fwWrite p (o + 8) (1 + 1 * 4 + 1 * 16)).fwWrite p (o + 12) (d.promptCrc q)).fwCommit p
  else d

/-- Ward firmware removes a prompt from the strike plane, and its CRC rectangle with it. -/
def Dev.fwHide (d : Dev) (q : Prompt) : Dev :=
  let d := if q.crc then (d.fwWrite (crPid q.head) (0x108 + 32 * q.win) 0).fwCommit (crPid q.head) else d
  (d.fwWrite (stkPid q.head) (0x10C + 16 * q.win) 0).fwCommit (stkPid q.head)

/-! ### Prompts (R306, R307) -/

def Dev.setPrompt (d : Dev) (q : Prompt) : Dev :=
  { d with prompts := d.prompts.map (fun x => if x.handle == q.handle then q else x) }

/-- Ward firmware waits for writes of its own, or the page for a commit. -/
def Dev.fwBusy (d : Dev) (pid : Nat) : Bool :=
  d.held.any (fun h => sameOrigin h.ag .ward) || (d.ctl pid).busy.isSome || (d.ctl pid).pend.isSome

def Dev.rejected (d : Dev) (pid : Nat) : Bool := d.on pid F.PAGE_CSTAT_REJECT

def Prompt.via (q : Prompt) : Via := .session (Fin.ofNat 4 q.port) (BitVec.ofNat 32 q.session) (BitVec.ofNat 16 q.tag) 0 0

/-- SHOW_PROMPT. It is answered once its strike set has been applied. -/
def Dev.showPrompt (d : Dev) (via : Via) (r : ShowReq) : Dev :=
  d.serve via 0x101 (fun d =>
    match via with
    | .mailbox _ _ => d
    | .session p id tag _ _ =>
      let h := r.head.toNat
      let w := r.window.toNat
      let f := r.flags.toNat
      match d.tplEntry r.template.toNat with
      | none => d.answerVia via 0x101 4 []
      | some e =>
        let ks := d.tplKeys e
        let ts := if bit f 0 then (upFrom 0 8).filter (fun t => d.touchEn t && d.touchHead t == h) else []
        let rs := ts.map (fun t => (t, d.freeRegions t (ks.length + 1)))
        if decide (8 ≤ h) || decide (8 ≤ w) || r.scale.toNat == 0 || decide (4 < r.scale.toNat) || decide (8 ≤ f) ||
            rs.any (fun x => x.2.isNone) || d.prompts.any (fun x => x.head == h && x.win == w && decide (x.stage < 5)) then
          d.answerVia via 0x101 4 []
        else
          let q : Prompt := { handle := d.nextPrompt, port := p.val, session := id.toNat, tag := tag.toNat, head := h, win := w,
                              tpl := e, x := r.x.toNat, y := r.y.toNat, scale := r.scale.toNat, collect := bit f 2, crc := bit f 1,
                              regions := rs.map (fun x => (x.1, x.2.getD 0)), keys := ks.map (fun k => (k.code, k.flags)),
                              entryMax := d.tpl e 15 1, timeout := r.timeout.toNat }
          let d : Dev := { d with prompts := d.prompts ++ [q], nextPrompt := d.nextPrompt % (2 ^ 32 - 1) + 1 }
          q.regions.foldl (fun (d : Dev) x => d.fwRegions q x.1 x.2) d)

/-- A prompt that cannot be shown: answered BAD_REQUEST, its regions removed. -/
def Dev.promptFails (d : Dev) (q : Prompt) : Dev :=
  let d := q.regions.foldl (fun (d : Dev) x => d.fwNoRegions x.1 x.2 (q.keys.length + 1)) d
  (d.setPrompt { q with stage := 4, ended := true }).answerVia q.via 0x101 4 []

/-- A prompt's mismatching frames, since its CRC rectangle was loaded. -/
def Dev.promptMism (d : Dev) (q : Prompt) : Nat := d.r (crPid q.head) F.CR_RSTAT_MISM q.win

/-- The head needs its guard no longer: no prompt is on it. -/
def Dev.fwUnguard (d : Dev) (h : Nat) : Dev :=
  if d.prompts.any (fun q => q.head == h && decide (q.stage < 4)) then d
  else if d.guarded h then d.fwWrite (crPid h) 0x040 (2 * d.r (crPid h) F.CR_CTRL_LINK) else d

/-- One step of a prompt, once the pages it waits for are idle. A prompt whose session has ended is removed, after a ward
restart too (R154, R307). -/
def Dev.promptStep (d : Dev) (handle : Nat) : Dev :=
  match d.prompts.find? (fun q => q.handle == handle) with
  | none => d
  | some q =>
    let sp := stkPid q.head
    let tbBusy := q.regions.any (fun x => d.fwBusy (tbPid x.1))
    let orphan := (d.session? q.port q.session).isNone
    if d.wardRestarting then d
    else match q.stage with
    | 0 =>
      if tbBusy || d.fwBusy sp then d
      else if orphan || q.regions.any (fun x => d.rejected (tbPid x.1)) then d.promptFails q
      else ((d.fwGuard q).fwStrike q).setPrompt { q with stage := 1, mism := d.promptMism q }
    | 1 =>
      if d.fwBusy sp then d
      else if d.rejected sp then d.promptFails q
      else
        let q1 := { q with stage := 2, ends := if q.timeout = 0 then none else some (d.now + 1000000 * q.timeout) }
        (d.setPrompt q1).answerVia q.via 0x101 0
          (bytesLE 4 q.handle ++ bytesLE 4 ((d.r (hdPid q.head) F.HD_FRAME_COUNT + 1) % 2 ^ 32))
    | 2 =>
      if orphan && !d.fwBusy sp then (d.fwHide q).setPrompt { q with stage := 3, ended := true } else d
    | 3 =>
      if d.fwBusy sp || tbBusy then d
      else (q.regions.foldl (fun (d : Dev) x => d.fwNoRegions x.1 x.2 (q.keys.length + 1)) d).setPrompt { q with stage := 4 }
    | 4 =>
      if tbBusy then d
      else
        let d := (d.setPrompt { q with stage := 5 }).fwUnguard q.head
        if q.ended then { d with prompts := d.prompts.filter (fun x => !(x.handle == q.handle)) } else d
    | _ => if orphan then { d with prompts := d.prompts.filter (fun x => !(x.handle == q.handle)) } else d

/-- Every prompt goes as far as it can. -/
def Dev.promptSteps (d : Dev) : Dev :=
  let go := fun (d : Dev) => d.prompts.foldl (fun (d : Dev) q => d.promptStep q.handle) d
  go (go (go d))

/-- A service about a prompt of the requester's own session; another handle is a bad payload. -/
def Dev.onPrompt (d : Dev) (via : Via) (svc handle : Nat) (f : Dev → Prompt → Dev) : Dev :=
  d.serve via svc (fun d =>
    match via with
    | .mailbox _ _ => d
    | .session p id _ _ _ =>
      match d.prompts.find? (fun q => q.handle == handle && q.port == p.val && q.session == id.toNat) with
      | none => d.answerVia via svc 4 []
      | some q => f d q)

/-- CLEAR_PROMPT removes a prompt that is shown. -/
def Dev.clearPrompt (d : Dev) (via : Via) (handle : Nat) : Dev :=
  d.onPrompt via 0x102 handle (fun d q =>
    if q.stage = 2 then
      let d := (d.fwHide q).setPrompt { q with stage := 3, state := 4, ends := none }
      d.answerVia via 0x102 0 []
    else d.answerVia via 0x102 4 [])

/-- PROMPT_STATE. -/
def Dev.promptState (d : Dev) (via : Via) (handle : Nat) : Dev :=
  d.onPrompt via 0x103 handle (fun d q =>
    d.answerVia via 0x103 0 [q.state, q.codes.length, if q.crc then sat 255 (d.promptMism q - q.mism) else 0])

/-- The TIMEOUT of a prompt has run out. -/
def Dev.promptTimeout (d : Dev) (handle : Nat) : Dev :=
  match d.prompts.find? (fun q => q.handle == handle) with
  | some q => match q.ends with
    | some t => if q.state = 0 ∧ t ≤ d.now then d.setPrompt { q with state := 3, ends := none } else d
    | none => d
  | none => d

/-- GET_ENTRY: the codes in the order of their entry, which are then erased. -/
def Dev.getEntry (d : Dev) (via : Via) (handle : Nat) : Dev :=
  d.onPrompt via 0x201 handle (fun d q =>
    (d.answerVia via 0x201 0 ([q.state, q.codes.length] ++ takePad 0 32 q.codes)).setPrompt { q with codes := [] })

/-- A key of a prompt is touched (R306): 0 enter, 1 cancel, 2 clear. -/
def Prompt.key (q : Prompt) (code flags : Nat) : Prompt :=
  if !(q.state == 0) then q
  else if bit flags 0 then { q with state := 1, ends := none }
  else if bit flags 1 then { q with state := 2, ends := none }
  else if bit flags 2 then { q with codes := [] }
  else
    let cs := q.codes ++ [code]
    if q.entryMax ≤ cs.length then { q with codes := cs, state := 1, ends := none } else { q with codes := cs }

/-- A ward record of a port is a DOWN in a key's region of a prompt that collects. -/
def Dev.keyRecord (d : Dev) (t : Nat) (r : List Nat) : Dev :=
  if le r 0 1 = 0 then
    { d with prompts := d.prompts.map (fun q =>
        match q.regions.find? (fun x => x.1 == t) with
        | some x =>
          let i := le r 10 1 - x.2
          if q.collect && q.stage == 2 && decide (x.2 ≤ le r 10 1) then
            (match q.keys[i]? with | some k => q.key k.1 k.2 | none => q)
          else q
        | none => q) }
  else d

/-- Ward firmware reads touch records, and enters the keys that they touch. -/
def Dev.wardTouch (d : Dev) (t n : Nat) : Dev :=
  let rs := (d.touch t).mbox.take n
  rs.foldl (fun (d : Dev) r => d.keyRecord t r) (d.wardTouchRead t n)

/-- SET_SAFE: SAFE of a head is written and committed. -/
def Dev.setSafe (d : Dev) (via : Via) (h safe : Nat) : Dev :=
  d.serve via 0x301 (fun d =>
    if 8 ≤ h ∨ 2 ≤ safe then d.answerVia via 0x301 4 []
    else ((d.fwWrite (stkPid h) 0x040 safe).fwCommit (stkPid h)).answerVia via 0x301 0 [])

/-- TEST_EMERGENCY shows a message for a time in s. -/
def Dev.testEmergency (d : Dev) (via : Via) (msg secs : Nat) : Dev :=
  d.serve via 0x401 (fun d =>
    if 16 ≤ msg ∨ secs = 0 ∨ 600 < secs then d.answerVia via 0x401 4 []
    else
      let d : Dev := { d with disp := { d.disp with emgFrame := none } }
      let d := d.fwWrite scPid 0x040 (1 + 16 * msg)
      ({ d with emgTest := some (d.now + 1000000000 * secs) }).answerVia via 0x401 0 [])

/-- The end of a test. -/
def Dev.emgTestEnd (d : Dev) : Dev :=
  match d.emgTest with
  | some t => if t ≤ d.now then ({ d with emgTest := none }).fwWrite scPid 0x040 (16 * d.r scPid F.SC_EMG_MSG) else d
  | none => d

end Sys2Proof.Machine
end

