-- ==== Sys2Proof/Machine/Settle.lean ====
section
/-! DEFINITION. What follows from a command in the same step: containment of the faults it opened, state machines that go
on by themselves, writes that waited, and the registers that only show other state. -/

namespace Sys2Proof.Machine

open Sys2Proof

/-- The highest level of an open fault (R493). -/
def highest (l : List OpenFault) : Nat := l.foldl (fun m f => max m f.level) 0

/-- The ports that the crossbar isolates (R105). -/
def Dev.isoMask (d : Dev) : Nat := (upFrom 0 25).foldl (fun m p => if d.crossIsolated (portUnit p) then m + 2 ^ p else m) 0

/-- `PAGE_ERR` bit 10 of the crossbar page: a port has been isolated (R105). -/
def Dev.isoRaise (d : Dev) : Dev :=
  if (upFrom 0 25).any (fun p => bit d.isoMask p && !bit (d.r xbPid F.XB_ISO_ISO) p) then d.err xbPid 10 else d

/-- The registers that show the open faults and the isolated ports. -/
def Dev.showLast (d : Dev) : Dev :=
  let d := d.w ftPid F.FT_STAT_HIGHEST (highest d.flt.faults)
  d.w xbPid F.XB_ISO_ISO d.isoMask

/-- SYNCED falls when the linked head exports no window, and the scan frame under way is cut (R350, R351). -/
def Dev.syncFall (d : Dev) : Dev :=
  d.upTo 8 (fun t d => (if d.on (tsPid t) F.TS_STAT_SYNCED && !d.windows t then d.unsync t else d).scanCut t)

/-- The power manager goes on until it waits for something. -/
def Dev.pmGo (d : Dev) : Nat → Dev
  | 0 => d
  | n + 1 => if d.pm.run.isNone then d else d.pmStep.pmGo n

/-- A request of the ward world, or a change of R451, starts as the one before it ends. -/
def Dev.pmNext (d : Dev) : Dev := if d.pm.wardPend.isSome || d.pm.thermPend then d.changeNext else d

/-- Wake events, the change that runs, and the change that waits (R446, R455). -/
def Dev.pmSettle (d : Dev) : Dev := ((((d.wakeTake).wokenExit).pmGo 24).pmNext).pmGo 24

/-- The oldest CREATE that waits keeps its error bit raised (R174). -/
def Dev.reqRaise (d : Dev) : Dev := if d.hst.creates.isEmpty then d else d.err 0x084 10

/-- A step of the blocks that go on by themselves. -/
def Dev.blocksSettle (d : Dev) : Dev :=
  let d := (((d.restartSteps false).settleFlips).settleWaits).upTo 8 (fun h d => d.blFall h)
  (d.syncFall.lbCheck.pmSettle).bootDue

/-- What waits is taken up again: writes that wait for the ledger, the prompts, the end of an emergency test. -/
def Dev.waitsSettle (d : Dev) : Dev :=
  let d := d.retryHeld d.held.length
  d.promptSteps.emgTestEnd.reqRaise

/-- Everything that follows from a command. -/
def Dev.settle (d : Dev) : Dev :=
  let d := d.containAll.containAll
  let d := d.blocksSettle.waitsSettle.containAll.containAll
  d.isoRaise.showLast

/-- The device after a command, as the next state. -/
def answer (s : State) (d : Dev) : Host.Outcome State Fault Refusal := .next { s with dev := d.settle }

end Sys2Proof.Machine
end

