-- ==== Sys2Proof/Machine/HostPort.lean ====
section
/-! DEFINITION. The host ports' requests: register accesses through a BAR, configuration requests, and the errors of the
device's own reads of host memory (R124, R163 to R168); and the events of the open pilots and of the fault log's windows that
no block of their own takes (R146, R481). -/

namespace Sys2Proof.Machine

open Sys2Proof

/-- The agent that a host's request to a function is (R42): the PF, or the VI of a VF that is present (R164). -/
def Dev.hostAgent (d : Dev) (port : Fin 4) (vf : Option (Fin 64)) : Option Agent :=
  match vf with
  | none => some (.pf port)
  | some v => if d.viPort v == port.val && d.vfPresent v then some (.vi v) else none

/-- A host Memory Read of a function's BAR (R166, R167). -/
def Dev.hostRead (d : Dev) (port : Fin 4) (vf : Option (Fin 64)) (addr dws : Nat) : Dev :=
  match d.hostAgent port vf with
  | none => d.emit (.completion port cplUnsupported [])
  | some ag => d.sendRead ag (agentPage ag addr) (addr % 4096) (.host port addr dws)

/-- A host Memory Write of one or two DW is as many register writes; another is dropped with `ADDRESS_ERROR` on the writer's
home page (R166). -/
def Dev.hostWrite (d : Dev) (port : Fin 4) (vf : Option (Fin 64)) (addr : Nat) (data : List Word) (allBytes : Bool) : Dev :=
  match d.hostAgent port vf with
  | none => d
  | some ag =>
    match allBytes, data with
    | true, [v] => d.writeAt ag addr v.toNat
    | true, [v, w] => (d.writeAt ag addr v.toNat).writeAt ag (addr + 4) w.toNat
    | _, _ => d.err (homePage ag) errAddress

/-! ### Configuration space (R162 to R164, R168) -/

/-- The identity words of a function's configuration space (R163): device and vendor ID, class code and revision. -/
def cfgIdentity (vf : Bool) : List Nat := [if vf then 0x86411F3C else 0x86401F3C, 0x038000B0]

/-- The capabilities of a function in the order of R163, an extended one with 2^16 added. PRESUMED (log 94): the numbers
are those of the PCI Express Base Specification, which the spec names the capabilities by. -/
def cfgCapabilities (vf : Bool) : List Nat :=
  if vf then [0x10, 0x01, 0x11, 0x1000E]
  else [0x10, 0x01, 0x11, 0x10001, 0x1000E, 0x10010, 0x1002E, 0x10003, 0x10026, 0x1002A, 0x10027]

/-- The number of a function: a PF by its port, a VF by its VI. -/
def fnNo (port : Fin 4) (vf : Option (Fin 64)) : Nat := match vf with
  | none => port
  | some v => 4 + v

/-- What a read of an item of a function's configuration space answers: its identity; Subsystem ID and Subsystem Vendor
ID; the six BARs as they read after all ones were written, which shows their sizes; its capabilities; the Device Serial
Number; of the SR-IOV capability TotalVFs, InitialVFs, NumVFs, First VF Offset, VF Stride, the supported page sizes, the
System Page Size and the VF Device ID; the controls that a host sets; and the port's link with what it can train to. An
item of a capability that the function does not have is empty. -/
def Dev.cfgItem (d : Dev) (port : Nat) (vf : Bool) (n : Nat) (item : CfgItem) : List Nat :=
  let c := tabGet d.fn {} n
  match item with
  | .identity => cfgIdentity vf
  | .subsystem => [if vf then 0x86411F3C else 0x86401F3C]
  | .bars => [if vf then 0xFFFF0004 else 0xFF000004, 0xFFFFFFFF, 0, 0, 0, 0]
  | .capabilities => cfgCapabilities vf
  | .serialNumber => if vf then [] else [ofBytesLE (serialNumber.take 4), ofBytesLE (serialNumber.drop 4)]
  | .sriov =>
    if vf then []
    else [(d.portVis port).length, (d.portVis port).length, tabGet d.hst.sriov 0 port, 1, 1, 0x1F, c.sysPage, 0x8641]
  | .controls => [b2n c.msixEn, b2n c.funcMask, c.dstate, b2n c.uieOn, b2n c.uie, c.payload, c.readReq, b2n c.aspmL1,
      b2n c.ecrcGen, b2n c.ecrcCheck, c.cplTimeout]
  | .link => [d.r (hpPid port) F.HP_LINK_SPEED, d.r (hpPid port) F.HP_LINK_WIDTH, 5, portLanes port]

/-- The Completion Timeout Values that a port takes (R168): the default, and those of ranges A and B. -/
def cplRanges : List Nat := [0, 1, 2, 5, 6]

/-- What a configuration request changes in a function, once the hinge table is locked. The sizes, ECRC and the timeout are a
PF's, its VFs following it, and the System Page Size changes while VF Enable is 0. -/
def Dev.cfgApply (d : Dev) (port : Fin 4) (vf : Option (Fin 64)) (op : CfgOp) : Dev :=
  let n := fnNo port vf
  let c := tabGet d.fn {} n
  let put := fun (x : FnCfg) => { d with fn := tabPut d.fn {} n x }
  match op with
  | .read _ => d
  | .msixEnable on => put { c with msixEn := on }
  | .functionMask on => put { c with funcMask := on }
  | .powerState on => put { c with dstate := if on then 3 else 0 }
  | .errorReporting on => if vf.isNone then put { c with uieOn := on } else d
  | .clearError => if vf.isNone then put { c with uie := false } else d
  | .maxPayload n => if vf.isNone then put { c with payload := n } else d
  | .maxReadRequest n => if vf.isNone then put { c with readReq := n } else d
  | .aspmL1 on => put { c with aspmL1 := on }
  | .ecrc g k => if vf.isNone then put { c with ecrcGen := g, ecrcCheck := k } else d
  | .completionTimeout n => if vf.isNone && cplRanges.contains n.val then put { c with cplTimeout := n } else d
  | .systemPageSize n => if vf.isNone && tabGet d.hst.sriov 0 port == 0 then put { c with sysPage := 2 ^ n.val } else d
  | .doeGo => if vf.isNone && !d.doeWaiting.contains port.val then { d with doeWaiting := d.doeWaiting ++ [port.val] } else d

/-- A configuration request (R124): a PF answers with Configuration Request Retry Status until the lock, or until a boot
has failed and the PFs enumerate (R130); a VF that is absent answers Unsupported Request. -/
def Dev.cfgRequest (d : Dev) (port : Fin 4) (vf : Option (Fin 64)) (op : CfgOp) : Dev :=
  match d.hostAgent port vf with
  | none => d.emit (.completion port cplUnsupported [])
  | some _ =>
    if !d.locked && !(d.bootStage == 15) then d.emit (.completion port cplRetry [])
    else
      let data := match op with
        | .read item => d.cfgItem port vf.isSome (fnNo port vf) item
        | _ => []
      (d.cfgApply port vf op).emit (.completion port cplOk data)

/-! ### Time-outs of register accesses behind a link (R95, R114) -/

/-- An access of a port to a page, held by a link in TRAIN, has had no response within `XB_TMO.REG`. -/
def Dev.heldExpired (d : Dev) (port page : Nat) (h : Held) : Bool :=
  h.why == .link && d.agentFab h.ag == port && h.pid == page && decide (h.since + d.reqLimit 3 ≤ d.now)

/-- The oldest such access ends with an error response, a host's read with data of zeros (R166). -/
def Dev.heldTimeout (d : Dev) (port page : Nat) : Dev :=
  match d.held.find? (d.heldExpired port page) with
  | none => d
  | some h =>
    let d := ({ d with held := d.held.erase h }).timedOut port 3 (d.place h.pid h.off).1
    match h.rd with
    | none => d.resend h.ag
    | some .own => d
    | some (.host p _ dws) => (d.add (hpPid p) F.HP_RDERR_COUNT).emit (.completion p cplOk (List.replicate dws 0))

/-- A port's request to a target ends by its timeout: one in the crossbar, else one that a link holds. -/
def Dev.requestTimeout (d : Dev) (port target page : Nat) : Dev :=
  if d.outstanding.any (d.expired port target page) then d.responseTimeout port target page
  else if target = 3 then d.heldTimeout port page
  else d

/-- A second-stage fault of an open pilot (R146): its firmware level stops. -/
def Dev.stage2Fault (d : Dev) (pilot : Nat) : Dev :=
  if !bit (d.r opPid F.OP_STAT_RUN) pilot || !d.on opPid F.OP_STAT_FW || d.boot.fwStopped.contains pilot then d
  else
    let d : Dev := { d with boot := { d.boot with fwStopped := d.boot.fwStopped ++ [pilot] } }
    (d.addSat opPid F.OP_STAT_S2F).openFault 7 1 opPid pilot

/-- The ward watchdog expires (R152): a ward restart, or the end of a boot that has not locked the table yet. -/
def Dev.wdgExpire (d : Dev) : Dev :=
  if !d.on wdgPid F.WDG_CTRL_EN ∨ d.now < d.boot.kicked + 1000000 * d.boot.kickMs then d
  else if d.locked then d.restartBegin 1
  else if d.bootStage = 15 then d
  else d.bootFail 9

/-- The windows of faults that have run out are closed (R481). -/
def Dev.windowsEnd (d : Dev) : Dev := { d with flt := { d.flt with windows := d.openWindows d.now } }

/-- A gain's wait has lasted 480 ticks (R398): gains 0 to 95 are the streams', 96 to 127 the live gains, 128 and up those of
the sink channels. -/
def Dev.gainTimeout (d : Dev) (g : Nat) : Dev :=
  if g < 96 then
    let x := d.stream g
    d.setStream g { x with gain := x.gain.timeout (d.r (d.stPage g) F.ST_GAIN_GAIN g) }
  else if g < 128 then
    let j := g - 96
    { d with aud := { d.aud with live := tabPut d.aud.live {} j ((tabGet d.aud.live {} j).timeout (d.r aePid F.AE_LG_GAIN j)) } }
  else
    let c := g - 128
    let x := d.sinkCh c
    d.setSink c { x with gain := x.gain.timeout (d.r (skPid (c / 8)) F.SK_SRC_GAIN (c % 8)) }

/-- A wake source fires (R455), by its code in `PM_STAT.WAKESRC`. -/
def Dev.wake (d : Dev) (source : Nat) : Dev := if source = 0 then d else { d with wakes := d.wakes ++ [source] }

end Sys2Proof.Machine
end

