-- ==== Sys2Proof/Machine/Cmd.lean ====
section
/-! DEFINITION. What the meanings of the commands share: a register write and a register read that an agent sends, and the
words of the registers that a command writes. -/

namespace Sys2Proof.Machine

open Sys2Proof

/-- An agent's write of a word to a page as the agent names it (R42): a page index, or a page of its own window. -/
def Dev.put (d : Dev) (ag : Agent) (page off v : Nat) : Dev := d.write ag (agentPageNo ag page) off v

/-- An agent's read of a register of its device, as the agent names the page. -/
def Dev.get (d : Dev) (ag : Agent) (page off : Nat) : Dev := d.sendRead ag (agentPageNo ag page) off .own

/-- A word with one bit set, and with one bit clear: what the command does to the register is in that bit. -/
def withBit (v : Word) (i : Nat) : Nat := setBits v.toNat i 1 1
def withoutBit (v : Word) (i : Nat) : Nat := setBits v.toNat i 1 0

/-- The word of a keyed register (R521): KEY in the high half. -/
def keyed (key : BitVec 16) (low : Nat) : Nat := 65536 * key.toNat + low

/-- The key that keyed registers ask for. -/
def theKey : BitVec 16 := 0xA5C3#16

/-- Bytes of a payload. -/
def asBytes (l : List Nat) : List Nat := l.map (· % 256)

/-- The page through which an agent reaches period entries (R26): its window's period page, or the device's entries. -/
def periodPage : Agent → Nat
  | .vi _ => 6
  | _ => 0x322

/-- The offset of a register of a haptic channel's block: in a window the blocks of all channels follow each other, a
channel's page holds the one (R389). -/
def blockOff (ag : Agent) (channel : Fin 8) (o : Nat) : Nat :=
  match ag with
  | .vi _ => 0x100 + 64 * channel.val + o
  | _ => 0x100 + o

end Sys2Proof.Machine
end

