-- ==== Sys2Proof/Machine/AudioCmds.lean ====
section
/-! DEFINITION. Commands of the audio engine, its streams, sinks, tones and speaker stages. -/

namespace Sys2Proof.Machine

open Sys2Proof

/-- `AUDIO_SAMPLE_TICK` (R392): one 48 kHz tick. -/
def execAudioSampleTick (delayNs : Nat) (s : State) : Host.Outcome State Fault Refusal :=
  answer s (s.dev.audioTick delayNs)

/-- `AUDIO_BLOCK_BOUNDARY` (R396): streams, swaps and source changes move on. -/
def execAudioBlockBoundary (s : State) : Host.Outcome State Fault Refusal :=
  answer s s.dev.audioBoundary

/-- `GAIN_STEP_TIMEOUT` (R398): gains 0 to 95 are the streams', 96 to 127 the live gains, 128 and up those of the sink
channels. -/
def execGainStepTimeout (gain : Fin 224) (s : State) : Host.Outcome State Fault Refusal :=
  answer s (s.dev.gainTimeout gain)

/-- `STREAM_POINTER_WRITE` (R395): a write of `DB_AUD` or `ST_WPTR`. -/
def execStreamPointerWrite (src : PtrSrc) (stream : Fin 96) (word : Word)
    (s : State) : Host.Outcome State Fault Refusal :=
  answer s (match src with
    | .doorbell v => s.dev.put (.vi v) 2 (0x800 + 4 * stream) word.toNat
    | .register ag page => s.dev.put ag page.toNat (0x200 + 4 * stream) word.toNat)

/-- `STREAM_ENABLE` (R396): a write of `ST_CTRL` with EN set. -/
def execStreamEnable (ag : Agent) (page : BitVec 12) (stream : Fin 96) (v : Word)
    (s : State) : Host.Outcome State Fault Refusal :=
  answer s (s.dev.put ag page.toNat (0x800 + 16 * stream) (withBit v 0))

/-- `STREAM_DISABLE` (R396): a write of `ST_CTRL` with EN clear. -/
def execStreamDisable (ag : Agent) (page : BitVec 12) (stream : Fin 96) (v : Word)
    (s : State) : Host.Outcome State Fault Refusal :=
  answer s (s.dev.put ag page.toNat (0x800 + 16 * stream) (withoutBit v 0))

/-- `TUMBLER_LOAD_GO` (R402): a write of `TP_LD_CTRL` with GO. -/
def execTumblerLoadGo (ag : Agent) (v : Word) (s : State) : Host.Outcome State Fault Refusal :=
  answer s (s.dev.put ag 0x600 0x04C (withBit v 0))

/-- `TUMBLER_LOAD_END` (R402): the load's result. -/
def execTumblerLoadEnd (readError : Bool) (s : State) : Host.Outcome State Fault Refusal :=
  answer s (s.dev.tumEnd readError)

/-- `SWAP` (R403): a write of `TP_BANK` with SWAP. -/
def execSwap (ag : Agent) (v : Word) (s : State) : Host.Outcome State Fault Refusal :=
  answer s (s.dev.put ag 0x600 0x040 (withBit v 0))

/-- `CROSSFADE_END` (R403): the incoming bank is active. -/
def execCrossfadeEnd (s : State) : Host.Outcome State Fault Refusal :=
  answer s s.dev.fadeEnd

/-- `SINK_SOURCE_WRITE` (R404): a write of `SK_SRC`. -/
def execSinkSourceWrite (ag : Agent) (sink : Fin 12) (channel : Fin 8) (v : Word)
    (s : State) : Host.Outcome State Fault Refusal :=
  answer s (s.dev.put ag (0x620 + sink) (0x100 + 16 * channel) v.toNat)

/-- `ROUTE_RAMP_SWITCH` (R404): the channel takes its new source. -/
def execRouteRampSwitch (sink : Fin 12) (channel : Fin 8) (s : State) : Host.Outcome State Fault Refusal :=
  answer s (s.dev.routeSwitch (8 * sink + channel))

/-- `ROUTE_RAMP_END` (R404): the ramp is over. -/
def execRouteRampEnd (sink : Fin 12) (channel : Fin 8) (s : State) : Host.Outcome State Fault Refusal :=
  answer s (s.dev.routeEnd (8 * sink + channel))

/-- `TONE_TRIGGER` (R408): a Bolt tone of a touch port, or of `TN_TRIG`. -/
def execToneTrigger (src : BoltSrc) (s : State) : Host.Outcome State Fault Refusal :=
  answer s (match src with
    | .touch t => s.dev.touchTone t
    | .ward w => s.dev.put .ward 0x630 0x040 w.toNat)

/-- `TONE_LOAD_GO` (R407): a write of `TN_LD_CTRL` with GO. -/
def execToneLoadGo (ag : Agent) (v : Word) (s : State) : Host.Outcome State Fault Refusal :=
  answer s (s.dev.put ag 0x630 0x05C (withBit v 0))

/-- `TONE_LOAD_END` (R407): the load's result. -/
def execToneLoadEnd (readError : Bool) (s : State) : Host.Outcome State Fault Refusal :=
  answer s (s.dev.toneEnd readError)

/-- `SPEAKER_ENABLE` (R410): a write of `SP_CTRL` with EN set. -/
def execSpeakerEnable (ag : Agent) (speaker : Fin 8) (v : Word) (s : State) : Host.Outcome State Fault Refusal :=
  answer s (s.dev.put ag (0x880 + speaker) 0x040 (withBit v 0))

/-- `SPEAKER_DISABLE` (R410): a write of `SP_CTRL` with EN clear. -/
def execSpeakerDisable (ag : Agent) (speaker : Fin 8) (v : Word) (s : State) : Host.Outcome State Fault Refusal :=
  answer s (s.dev.put ag (0x880 + speaker) 0x040 (withoutBit v 0))

/-- `SPEAKER_RAMP_END` (R410): the stage is in RUN. -/
def execSpeakerRampEnd (speaker : Fin 8) (s : State) : Host.Outcome State Fault Refusal :=
  answer s (s.dev.stageRampEnd speaker)

/-- `SPEAKER_OVERCURRENT` (R411): a SHORT fault. -/
def execSpeakerOvercurrent (speaker : Fin 8) (s : State) : Host.Outcome State Fault Refusal :=
  answer s (s.dev.stageFault speaker 1)

/-- `SPEAKER_DC_FAULT` (R411): a DC fault. -/
def execSpeakerDcFault (speaker : Fin 8) (s : State) : Host.Outcome State Fault Refusal :=
  answer s (s.dev.stageFault speaker 2)

/-- `SPEAKER_FAULT_CLEAR` (R411): a write of `SP_CTRL` with CLEAR. -/
def execSpeakerFaultClear (ag : Agent) (speaker : Fin 8) (v : Word) (s : State) : Host.Outcome State Fault Refusal :=
  answer s (s.dev.put ag (0x880 + speaker) 0x040 (withBit v 1))

end Sys2Proof.Machine
end

