-- ==== Sys2Proof/Machine/BootCmds.lean ====
section
/-! DEFINITION. Commands of the boot, the hinge table, the ward restart, the mailboxes, the SPDM responder and the ward
world's services. -/

namespace Sys2Proof.Machine

open Sys2Proof

/-- `POWER_GOOD_RISE` (R123): the boot of R123 runs as far as the training of DRAM. -/
def execPowerGoodRise (selfTest quad : Bool) (s : State) : Host.Outcome State Fault Refusal :=
  answer s (s.dev.powerGoodRise selfTest quad)

/-- `HINGE_TABLE_LOCK` (R143): a write of `HT_CTRL` with LOCK. -/
def execHingeTableLock (ag : Agent) (key : BitVec 16) (s : State) : Host.Outcome State Fault Refusal :=
  answer s (s.dev.put ag 0x400 0x040 (keyed key 1))

/-- `WATCHDOG_KICK` (R152): the countdown starts again. -/
def execWatchdogKick (s : State) : Host.Outcome State Fault Refusal :=
  answer s s.dev.kick

/-- `WARD_WATCHDOG_EXPIRY` (R152): a ward restart, or a failed boot before the lock. -/
def execWardWatchdogExpiry (s : State) : Host.Outcome State Fault Refusal :=
  answer s s.dev.wdgExpire

/-- `LOCKSTEP_COMPARE_FAIL` (R152): a ward restart of cause 2. -/
def execLockstepCompareFail (s : State) : Host.Outcome State Fault Refusal :=
  answer s (s.dev.restartBegin 2)

/-- `WARD_RESTART_REQUEST` (R152): a write of `WDG_REQ` with RESTART. -/
def execWardRestartRequest (ag : Agent) (key : BitVec 16) (s : State) : Host.Outcome State Fault Refusal :=
  answer s (s.dev.put ag 0x402 0x048 (keyed key 1))

/-- `MAILBOX_GO` (R151): a write of `MB_CTRL` with GO. -/
def execMailboxGo (ag : Agent) (channel : Fin 5) (s : State) : Host.Outcome State Fault Refusal :=
  answer s (s.dev.put ag (0x404 + channel) 0x0C0 1)

/-- `MAILBOX_REQUEST_READ` (R151): ward firmware has read the request that waits. -/
def execMailboxRequestRead (channel : Fin 5) (s : State) : Host.Outcome State Fault Refusal :=
  answer s (s.dev.mbRead channel)

/-- `MAILBOX_RESPONSE` (R151): the response ends the request that it names. -/
def execMailboxResponse (channel : Fin 5) (number : Nat) (status : BitVec 16) (payload : List Nat)
    (s : State) : Host.Outcome State Fault Refusal :=
  answer s (s.dev.mbRespond channel number status.toNat (asBytes payload))

/-- `MAILBOX_DEADLINE` (R151): the request ends with DEADLINE. -/
def execMailboxDeadline (channel : Fin 5) (s : State) : Host.Outcome State Fault Refusal :=
  answer s (s.dev.mbDeadline channel)

/-- `DOE_DISCOVERY` (R136): the protocols of the DOE mailbox. -/
def execDoeDiscovery (port : Fin 4) (index : BitVec 8) (s : State) : Host.Outcome State Fault Refusal :=
  answer s (s.dev.doeDiscovery port index.toNat)

/-- `GET_VERSION` (R136): the SPDM version. -/
def execGetVersion (port : Fin 4) (s : State) : Host.Outcome State Fault Refusal :=
  answer s (s.dev.getVersion port)

/-- `GET_CAPABILITIES` (R136): the responder's capabilities. -/
def execGetCapabilities (port : Fin 4) (s : State) : Host.Outcome State Fault Refusal :=
  answer s (s.dev.getCapabilities port)

/-- `NEGOTIATE_ALGORITHMS` (R136): the algorithms that both know. -/
def execNegotiateAlgorithms (port : Fin 4) (asym hash dhe aead : Bool)
    (s : State) : Host.Outcome State Fault Refusal :=
  answer s (s.dev.negotiate port asym hash dhe aead)

/-- `GET_DIGESTS` (R136): the digest of the chain in slot 0. -/
def execGetDigests (port : Fin 4) (s : State) : Host.Outcome State Fault Refusal :=
  answer s (s.dev.getDigests port)

/-- `GET_CERTIFICATE` (R134): a part of the chain in slot 0. -/
def execGetCertificate (port : Fin 4) (slot : Fin 8) (offset length : BitVec 16)
    (s : State) : Host.Outcome State Fault Refusal :=
  answer s (s.dev.getCertificate port slot offset.toNat length.toNat)

/-- `CHALLENGE` (R136): an answer signed with the alias key. -/
def execChallenge (port : Fin 4) (slot : Fin 8) (summary : Bool) (s : State) : Host.Outcome State Fault Refusal :=
  answer s (s.dev.challenge port slot summary)

/-- `GET_MEASUREMENTS` (R137): the measurement blocks of R137. -/
def execGetMeasurements (port : Fin 4) (operation : BitVec 8) (sign : Bool)
    (s : State) : Host.Outcome State Fault Refusal :=
  answer s (s.dev.getMeasurements port operation.toNat sign)

/-- `KEY_EXCHANGE` (R136): a session opens, if the port has room for it. -/
def execKeyExchange (port : Fin 4) (slot : Fin 8) (s : State) : Host.Outcome State Fault Refusal :=
  answer s (s.dev.keyExchange port slot)

/-- `FINISH` (R136): the handshake of a session ends, with the requester's root where the port asks for one. -/
def execFinish (port : Fin 4) (session : BitVec 32) (root : Option (BitVec 384)) (good : Bool)
    (s : State) : Host.Outcome State Fault Refusal :=
  answer s (s.dev.finish port session.toNat (root.map (fun r => bytesLE 48 r.toNat)) good)

/-- `HEARTBEAT` (R136): the session lives. -/
def execHeartbeat (port : Fin 4) (session : BitVec 32) (s : State) : Host.Outcome State Fault Refusal :=
  answer s (s.dev.heartbeat port session.toNat)

/-- `KEY_UPDATE` (R136): the session's keys are updated. -/
def execKeyUpdate (port : Fin 4) (session : BitVec 32) (operation : BitVec 8)
    (s : State) : Host.Outcome State Fault Refusal :=
  answer s (s.dev.keyUpdate port session.toNat operation.toNat)

/-- `END_SESSION` (R307): the session ends, and its prompts with it. -/
def execEndSession (port : Fin 4) (session : BitVec 32) (s : State) : Host.Outcome State Fault Refusal :=
  answer s (s.dev.endSession port session.toNat)

/-- `GET_STATE` (R150): the service of group 0. -/
def execGetState (via : Via) (item : Fin 4) (s : State) : Host.Outcome State Fault Refusal :=
  answer s (s.dev.getState via item)

/-- `LEDGER_EXPORT` (R150): the service of group 1. -/
def execLedgerExport (via : Via) (checkpoint : BitVec 32) (s : State) : Host.Outcome State Fault Refusal :=
  answer s (s.dev.ledgerExport via checkpoint.toNat)

/-- `SHOW_PROMPT` (R306): a template is shown in a strike window. -/
def execShowPrompt (via : Via) (request : ShowReq) (s : State) : Host.Outcome State Fault Refusal :=
  answer s (s.dev.showPrompt via request)

/-- `CLEAR_PROMPT` (R306): a prompt is removed. -/
def execClearPrompt (via : Via) (prompt : BitVec 32) (s : State) : Host.Outcome State Fault Refusal :=
  answer s (s.dev.clearPrompt via prompt.toNat)

/-- `PROMPT_STATE` (R306): the state of a prompt. -/
def execPromptState (via : Via) (prompt : BitVec 32) (s : State) : Host.Outcome State Fault Refusal :=
  answer s (s.dev.promptState via prompt.toNat)

/-- `PROMPT_TIMEOUT` (R306): the entry of a prompt ends timed out. -/
def execPromptTimeout (prompt : BitVec 32) (s : State) : Host.Outcome State Fault Refusal :=
  answer s (s.dev.promptTimeout prompt.toNat)

/-- `GET_ENTRY` (R306): the key codes of an entry, which is then erased. -/
def execGetEntry (via : Via) (prompt : BitVec 32) (s : State) : Host.Outcome State Fault Refusal :=
  answer s (s.dev.getEntry via prompt.toNat)

/-- `SET_SAFE` (R306): the safe screen of a head is set or cleared. -/
def execSetSafe (via : Via) (head safe : BitVec 8) (s : State) : Host.Outcome State Fault Refusal :=
  answer s (s.dev.setSafe via head.toNat safe.toNat)

/-- `TEST_EMERGENCY` (R306): an emergency message is shown for a time. -/
def execTestEmergency (via : Via) (msg : BitVec 8) (seconds : BitVec 16)
    (s : State) : Host.Outcome State Fault Refusal :=
  answer s (s.dev.testEmergency via msg.toNat seconds.toNat)

/-- `OPEN_STAGE2_FAULT` (R146): the pilot's firmware level stops. -/
def execOpenStage2Fault (pilot : Fin 3) (s : State) : Host.Outcome State Fault Refusal :=
  answer s (s.dev.stage2Fault pilot)

/-- `CONFIGURATION_REQUEST` (R124): retried before the lock; then a read or a write of the function's configuration
space. -/
def execConfigurationRequest (port : Fin 4) (vf : Option (Fin 64)) (op : CfgOp)
    (s : State) : Host.Outcome State Fault Refusal :=
  answer s (s.dev.cfgRequest port vf op)

/-- `UNSUPPORTED_SPDM_REQUEST` (R136): an error answer. -/
def execUnsupportedSpdmRequest (port : Fin 4) (code : BitVec 8) (s : State) : Host.Outcome State Fault Refusal :=
  answer s (s.dev.unsupported port code.toNat)

end Sys2Proof.Machine
end

