-- ==== Sys2Proof/Machine/DisplayCmds.lean ====
section
/-! DEFINITION. Commands of the display: coefficients, flips, bands, boundaries, the strike plane, heads, links, CRC
rectangles. -/

namespace Sys2Proof.Machine

open Sys2Proof

/-- `COEF_WRITE` (R280): a write of `LP_COEF_DATA`. -/
def execCoefWrite (ag : Agent) (page : BitVec 12) (pipe : Fin 48) (v : Word)
    (s : State) : Host.Outcome State Fault Refusal :=
  answer s (s.dev.put ag page.toNat (0x130 + 64 * pipe) v.toNat)

/-- `LAYER_HOLD_SET` (R291): a write of `HC_GROUP` with HOLD set. -/
def execLayerHoldSet (ag : Agent) (head : Fin 8) (v : Word) (s : State) : Host.Outcome State Fault Refusal :=
  answer s (s.dev.put ag (0x200 + head) 0x044 (withBit v 0))

/-- `LAYER_HOLD_CLEAR` (R291): a write of `HC_GROUP` with HOLD clear. -/
def execLayerHoldClear (ag : Agent) (head : Fin 8) (v : Word) (s : State) : Host.Outcome State Fault Refusal :=
  answer s (s.dev.put ag (0x200 + head) 0x044 (withoutBit v 0))

/-- `FLIP_GO` (R292): a write of `FL_GO` with GO. -/
def execFlipGo (ag : Agent) (page : BitVec 12) (pipe : Fin 48) (v : Word)
    (s : State) : Host.Outcome State Fault Refusal :=
  answer s (s.dev.put ag page.toNat (0x118 + 32 * pipe) (withBit v 0))

/-- `FLIP_WALK_END` (R286): the walk of a queued flip ends. -/
def execFlipWalkEnd (pipe : Fin 48) (s : State) : Host.Outcome State Fault Refusal :=
  answer s (s.dev.flipWalkEnd pipe)

/-- `LAYER_BOUNDARY` (R287): F − 22 lines: `lateSets` and `lateFlips` missed the cut-off. -/
def execLayerBoundary (head : Fin 8) (lateSets : List PageRef) (lateFlips : List (Fin 48))
    (s : State) : Host.Outcome State Fault Refusal :=
  answer s (s.dev.layerBoundary head (lateSets.map PageRef.pid) (lateFlips.map (·.val)))

/-- `STRIKE_BOUNDARY` (R287): F − 4 lines. -/
def execStrikeBoundary (head : Fin 8) (strikeInTime crcInTime : Bool)
    (s : State) : Host.Outcome State Fault Refusal :=
  answer s (s.dev.strikeBoundary head strikeInTime crcInTime)

/-- `BAND_FETCH_START` (R283): the pipe fetches a band. -/
def execBandFetchStart (pipe : Fin 48) (band : Nat) (s : State) : Host.Outcome State Fault Refusal :=
  answer s (s.dev.bandStart pipe band)

/-- `BAND_FETCH_DEADLINE` (R285): composition of a band starts, with the fill colour for the layers that are
incomplete. -/
def execBandFetchDeadline (head : Fin 8) (band : Nat) (incomplete : List (Fin 48))
    (s : State) : Host.Outcome State Fault Refusal :=
  answer s (s.dev.bandDeadline head band (incomplete.map (·.val)))

/-- `BAND_COMPOSE_END` (R300): a band leaves the compositor. -/
def execBandComposeEnd (head : Fin 8) (band : Nat) (mismatch : Bool) (s : State) : Host.Outcome State Fault Refusal :=
  answer s (s.dev.composeEnd head band mismatch)

/-- `WARP_TOUCH_DELTA` (R296): a drag delta reaches the pipe. -/
def execWarpTouchDelta (touch : Fin 8) (pipe : Fin 48) (s : State) : Host.Outcome State Fault Refusal :=
  answer s (s.dev.deltaArrives touch pipe)

/-- `EMERGENCY_SHOW` (R301): a write of `SC_EMG` with ON = 1. -/
def execEmergencyShow (ag : Agent) (msg : Fin 16) (s : State) : Host.Outcome State Fault Refusal :=
  answer s (s.dev.put ag 0x218 0x040 (1 + 16 * msg))

/-- `EMERGENCY_REMOVE` (R301): a write of `SC_EMG` with ON = 0. -/
def execEmergencyRemove (ag : Agent) (msg : Fin 16) (s : State) : Host.Outcome State Fault Refusal :=
  answer s (s.dev.put ag 0x218 0x040 (16 * msg))

/-- `SC_INJECT` (R300): a write of `SC_INJECT` with GO. -/
def execScInject (ag : Agent) (head : Fin 8) (s : State) : Host.Outcome State Fault Refusal :=
  answer s (s.dev.put ag 0x218 0x050 (256 + head))

/-- `HEAD_ENABLE` (R322): a write of `HD_CTRL` with EN set. -/
def execHeadEnable (ag : Agent) (head : Fin 8) (v : Word) (s : State) : Host.Outcome State Fault Refusal :=
  answer s (s.dev.put ag (0x280 + head) 0x040 (withBit v 0))

/-- `HEAD_DISABLE` (R322): a write of `HD_CTRL` with EN clear. -/
def execHeadDisable (ag : Agent) (head : Fin 8) (v : Word) (s : State) : Host.Outcome State Fault Refusal :=
  answer s (s.dev.put ag (0x280 + head) 0x040 (withoutBit v 0))

/-- `HEAD_PLL_LOCK` (R322): the PLL has locked and timing starts. -/
def execHeadPllLock (head : Fin 8) (s : State) : Host.Outcome State Fault Refusal :=
  answer s (s.dev.pllLock head)

/-- `HEAD_END_OF_ACTIVE` (R322): E: a pending control set, and a stop that was asked for. -/
def execHeadEndOfActive (head : Fin 8) (checkedInTime : Bool) (s : State) : Host.Outcome State Fault Refusal :=
  answer s (s.dev.endOfActive head checkedInTime)

/-- `RETIMING_COMPLETE` (R325): timing starts in the new mode. -/
def execRetimingComplete (head : Fin 8) (s : State) : Host.Outcome State Fault Refusal :=
  answer s (s.dev.retimed head)

/-- `FRAME_START` (R326): F: the frame counter, and the strobe to the touch ports. -/
def execFrameStart (head : Fin 8) (s : State) : Host.Outcome State Fault Refusal :=
  answer s (if s.dev.scanning head then (s.dev.frameStart head).touchStrobe head else s.dev)

/-- `STOPPED_FRAME_STROBE` (R329): the strobe of a head that does not scan. -/
def execStoppedFrameStrobe (head : Fin 8) (s : State) : Host.Outcome State Fault Refusal :=
  answer s (if s.dev.strobeDue head then (s.dev.stoppedStrobe head).touchStrobe head else s.dev)

/-- `HD_FRAME_READ` (R326): a read of `HD_FRAME`. -/
def execHdFrameRead (ag : Agent) (head : Fin 8) (s : State) : Host.Outcome State Fault Refusal :=
  answer s (s.dev.get ag (0x280 + head) 0x064)

/-- `HD_FLIPT_READ` (R327): a read of `HD_FLIPT_LO`. -/
def execHdFliptRead (ag : Agent) (head : Fin 8) (s : State) : Host.Outcome State Fault Refusal :=
  answer s (s.dev.get ag (0x280 + head) 0x070)

/-- `CRC_RECTANGLE_FINAL` (R338): a rectangle's CRC of the frame is final. -/
def execCrcRectangleFinal (head : Fin 8) (rect : Fin 16) (observed : Option Word)
    (s : State) : Host.Outcome State Fault Refusal :=
  answer s (s.dev.crcFinal head rect (observed.map (·.toNat)))

/-- `CRC_RELEASE` (R340): a write of `CR_CTRL` with RELEASE. -/
def execCrcRelease (ag : Agent) (head : Fin 8) (v : Word) (s : State) : Host.Outcome State Fault Refusal :=
  answer s (s.dev.put ag (0x290 + head) 0x040 (withBit v 2))

/-- `PLUG` (R333): a sink is plugged. -/
def execPlug (head : Fin 8) (sink : SinkCaps) (s : State) : Host.Outcome State Fault Refusal :=
  answer s (s.dev.plugIn head sink)

/-- `UNPLUG` (R333): the sink is gone. -/
def execUnplug (head : Fin 8) (s : State) : Host.Outcome State Fault Refusal :=
  answer s (s.dev.plugOut head)

/-- `IRQ_HPD` (R331): a short pulse on HPD. -/
def execIrqHpd (head : Fin 8) (statusGood : Bool) (s : State) : Host.Outcome State Fault Refusal :=
  answer s (s.dev.irqHpd head statusGood)

/-- `DP_RETRAIN` (R331): a write of `DP_CTRL` with RETRAIN. -/
def execDpRetrain (ag : Agent) (head : Fin 8) (v : Word) (s : State) : Host.Outcome State Fault Refusal :=
  answer s (s.dev.put ag (0x500 + head) 0x040 (withBit v 1))

/-- `DP_TRAINING_ATTEMPT_END` (R331): an attempt ends. -/
def execDpTrainingAttemptEnd (head : Fin 8) (outcome : TrainOutcome) (ms : Nat)
    (s : State) : Host.Outcome State Fault Refusal :=
  answer s (s.dev.attemptEnd head outcome ms)

/-- `AUX_GO` (R334): a write of `DP_AUX_CMD` with GO. -/
def execAuxGo (ag : Agent) (head : Fin 8) (v : Word) (s : State) : Host.Outcome State Fault Refusal :=
  answer s (s.dev.put ag (0x500 + head) 0x050 (withBit v 0))

/-- `AUX_TRANSACTION_END` (R334): the owner's transaction ends. -/
def execAuxTransactionEnd (head : Fin 8) (outcome : AuxOutcome) (s : State) : Host.Outcome State Fault Refusal :=
  answer s (s.dev.auxEnd head outcome)

/-- `BACKLIGHT_DELAY_EXPIRY` (R336): the backlight comes on. -/
def execBacklightDelayExpiry (head : Fin 8) (s : State) : Host.Outcome State Fault Refusal :=
  answer s (s.dev.blDelay head)

end Sys2Proof.Machine
end

