-- ==== Sys2Proof/Machine/FabricCmds.lean ====
section
/-! DEFINITION. Commands of the clocks, the crossings, the crossbar and its arbiters, the slot wheel, device time and the
Pintle links. -/

namespace Sys2Proof.Machine

open Sys2Proof

/-- `CLOCK_DROOP` (R78): the cluster's generator lengthens cycles and counts them. -/
def execClockDroop (cluster : BitVec 8) (droop : Droop) (s : State) : Host.Outcome State Fault Refusal :=
  answer s (s.dev.clockDroop cluster.toNat (s.dev.clusterMhz cluster.toNat) droop.cycles droop.lengthPs)

/-- `CLOCK_SETTLED` (R78): the cluster runs at its target. -/
def execClockSettled (cluster : BitVec 8) (s : State) : Host.Outcome State Fault Refusal :=
  answer s (s.dev.clockSettled cluster.toNat)

/-- `CROSSING_ACK_TIMEOUT` (R83): no acknowledgement in 10 µs: an error response and a cluster-level HANDSHAKE fault. -/
def execCrossingAckTimeout (page : PageRef) (sender : BitVec 8) (s : State) : Host.Outcome State Fault Refusal :=
  answer s (s.dev.crossingTimeout (PageRef.pid page) sender.toNat)

/-- `FABRIC_REQUEST` (R89): a request, in the class and with the tag of its path, is issued or held by its initiator, or
has an error response. -/
def execFabricRequest (port : Fin 25) (path : Traffic) (access : FabricAccess) (s : State) : Host.Outcome State Fault Refusal :=
  answer s (s.dev.fabricRequest port path access.target (PageRef.pid access.page) access.addr.toNat access.beats
    (access.data.map asBytes))

/-- `RESPONSE_TIMEOUT` (R95): a request past its timeout ends with an error response and the unit that it addressed is at
fault. -/
def execResponseTimeout (port : Fin 25) (target : Fin 5) (page : PageRef) (s : State) : Host.Outcome State Fault Refusal :=
  answer s (s.dev.requestTimeout port target (PageRef.pid page))

/-- `LATE_RESPONSE` (R95): the response is discarded and counted. -/
def execLateResponse (port : Fin 25) (target : Fin 5) (s : State) : Host.Outcome State Fault Refusal :=
  answer s (s.dev.lateResponse port target)

/-- `ARBITRATION_DECISION` (R98): one fabric cycle of a target's arbiter; the target answers the ports of a list. -/
def execArbitrationDecision (target : Fin 5) (answered : List (Fin 25)) (s : State) : Host.Outcome State Fault Refusal :=
  answer s (s.dev.arbDecide target (answered.map (·.val)))

/-- `BULK_AGING` (R101): the port's Bulk request has waited past its limit. -/
def execBulkAging (port : Fin 25) (s : State) : Host.Outcome State Fault Refusal :=
  answer s (s.dev.bulkAge port)

/-- `CROSSBAR_TEST_ENTER` (R102): the ward world's write of `XB_MODE` with TEST_REQ set. -/
def execCrossbarTestEnter (v : Word) (s : State) : Host.Outcome State Fault Refusal :=
  answer s (s.dev.put .ward 0x300 0x040 (withBit v 4))

/-- `CROSSBAR_TEST_LEAVE` (R102): the ward world's write of `XB_MODE` with TEST_REQ clear. -/
def execCrossbarTestLeave (v : Word) (s : State) : Host.Outcome State Fault Refusal :=
  answer s (s.dev.put .ward 0x300 0x040 (withoutBit v 4))

/-- `CROSSBAR_DRAIN_DONE` (R102): the drain is done and the mode changes. -/
def execCrossbarDrainDone (s : State) : Host.Outcome State Fault Refusal :=
  answer s s.dev.drainDone

/-- `SLOT_WHEEL_WRAP` (R110): slot 0: a pending layout applies if its check ended in time. -/
def execSlotWheelWrap (checkedInTime : Bool) (s : State) : Host.Outcome State Fault Refusal :=
  answer s (s.dev.wheelWrap checkedInTime)

/-- `DRAM_COMMAND_OPPORTUNITY` (R107): the channel issues a request in the owner order of R107, or does the
maintenance that is due. -/
def execDramCommandOpportunity (channel : Fin 8) (s : State) : Host.Outcome State Fault Refusal :=
  answer s (s.dev.opportunity channel)

/-- `REFERENCE_TICK` (R84): device time goes on by the trimmed increment. -/
def execReferenceTick (s : State) : Host.Outcome State Fault Refusal :=
  answer s s.dev.refTick.clockSample

/-- `DEVICE_TIME_STEP` (R86): the ward world's write of `DT_STEP`. -/
def execDeviceTimeStep (v : Word) (s : State) : Host.Outcome State Fault Refusal :=
  answer s (s.dev.put .ward 0x403 0x054 v.toNat)

/-- `PINTLE_RESET_RELEASE` (R114): training of the link starts. -/
def execPintleResetRelease (link : Fin 4) (s : State) : Host.Outcome State Fault Refusal :=
  answer s (s.dev.linkStart link)

/-- `PINTLE_TRAINING_COMPLETE` (R114): the link is UP, with its measured latency. -/
def execPintleTrainingComplete (link : Fin 4) (latencyNs : Nat) (s : State) : Host.Outcome State Fault Refusal :=
  answer s (s.dev.linkUp link latencyNs)

/-- `PINTLE_TRAINING_FAIL` (R114): spare lanes take over the lanes that failed and training is tried again, or the
link goes DOWN. -/
def execPintleTrainingFail (link : Fin 4) (lanes : List (Fin 128)) (s : State) : Host.Outcome State Fault Refusal :=
  answer s (s.dev.linkFail link (lanes.map (·.val)))

/-- `PINTLE_CRC_ERROR` (R113): a flit is replayed. -/
def execPintleCrcError (flit : LinkFlit) (s : State) : Host.Outcome State Fault Refusal :=
  answer s (s.dev.linkCrcError flit.link flit.seq.toNat)

/-- `PINTLE_REPLAY_END` (R114): the replayed flit arrived, or failed again. -/
def execPintleReplayEnd (link : Fin 4) (good : Bool) (s : State) : Host.Outcome State Fault Refusal :=
  answer s (s.dev.linkReplayEnd link good)

/-- `PINTLE_RETRAIN` (R114): the ward world's write of `PL_CTRL` with RETRAIN. -/
def execPintleRetrain (link : Fin 4) (v : Word) (s : State) : Host.Outcome State Fault Refusal :=
  answer s (s.dev.put .ward (0x700 + link) 0x040 (withBit v 0))

end Sys2Proof.Machine
end

