-- ==== Sys2Proof/Machine/FaultCmds.lean ====
section
/-! DEFINITION. Commands of the fault log, recovery and the loop-back tests. -/

namespace Sys2Proof.Machine

open Sys2Proof

/-- `FAULT_RECOVERY_END` (R476): the recovery of the fault with this SEQ ends. -/
def execFaultRecoveryEnd (seq : BitVec 32) (s : State) : Host.Outcome State Fault Refusal :=
  answer s (s.dev.recoverEnd seq.toNat)

/-- `RECOVERY_TIMEOUT` (R475): the recovery of the fault with this SEQ is over its bound. -/
def execRecoveryTimeout (seq : BitVec 32) (s : State) : Host.Outcome State Fault Refusal :=
  answer s (s.dev.recoverTimeout seq.toNat)

/-- `JUNCTION_OVERTEMP` (R474): die 0 Core, 1 Port, 2 Drive. -/
def execJunctionOvertemp (die : Fin 3) (celsius : Int) (s : State) : Host.Outcome State Fault Refusal :=
  answer s (s.dev.junctionHot die celsius)

/-- `THERMAL_RESET_RELEASE` (R478): the sensors of the dies. -/
def execThermalResetRelease (core port drive : Int) (s : State) : Host.Outcome State Fault Refusal :=
  answer s (s.dev.thermalRelease core port drive)

/-- `FAULT_LOG_POP` (R493): a write of `FT_POP`. -/
def execFaultLogPop (ag : Agent) (s : State) : Host.Outcome State Fault Refusal :=
  answer s (s.dev.put ag 0x030 0x050 1)

/-- `FAULT_INJECT` (R493): a write of `FT_INJECT` with GO. -/
def execFaultInject (ag : Agent) (page : BitVec 12) (key : BitVec 16)
    (s : State) : Host.Outcome State Fault Refusal :=
  answer s (s.dev.put ag 0x030 0x05C (keyed key (4096 + page.toNat)))

/-- `LOOPBACK_GO` (R489): a write of `LB_GO` with GO. -/
def execLoopbackGo (ag : Agent) (key : BitVec 16) (s : State) : Host.Outcome State Fault Refusal :=
  answer s (s.dev.put ag 0x710 0x044 (keyed key 1))

/-- `LOOPBACK_ABORT` (R490, R521): a write of `LB_GO` with ABORT and its key. -/
def execLoopbackAbort (ag : Agent) (s : State) : Host.Outcome State Fault Refusal :=
  answer s (s.dev.put ag 0x710 0x044 (keyed theKey 2))

/-- `LOOPBACK_END` (R488): the test's result, from what the tester saw. -/
def execLoopbackEnd (locked : Bool) (errors : Nat) (lane : Fin 128) (done : Nat) (value index : BitVec 16)
    (s : State) : Host.Outcome State Fault Refusal :=
  answer s (s.dev.lbEnd locked errors lane done value.toNat index.toNat)

/-- `FAULT_WINDOW_END` (R481): windows that have run out are closed. -/
def execFaultWindowEnd (s : State) : Host.Outcome State Fault Refusal :=
  answer s s.dev.windowsEnd

end Sys2Proof.Machine
end

