-- ==== Sys2Proof/Machine/HapticCmds.lean ====
section
/-! DEFINITION. Commands of the haptic channels. -/

namespace Sys2Proof.Machine

open Sys2Proof

/-- A Latch word reaches a channel by the way it takes (R381): a doorbell, the block of a page, the ward world's register
with the channel in CHAN, or the click of a touch port, which triggers and never stops. -/
def Dev.hapWord (d : Dev) (channel : Fin 8) (src : TrigSrc) (stop : Bool) : Dev :=
  let word := fun (w : Word) => setBits w.toNat 24 1 (b2n stop)
  match src with
  | .doorbell v w => d.put (.vi v) 2 (0x400 + 4 * channel) (word w)
  | .register ag page w => d.put ag page.toNat (blockOff ag channel 0x0C) (word w)
  | .ward w => d.put .ward 0x808 0x040 (setBits (word w) 0 3 channel)
  | .click t => if stop || !(d.touchHap t == some channel.val) then d else d.touchClick t

/-- `HAPTIC_TRIGGER` (R385): a trigger word by its way to the channel. -/
def execHapticTrigger (channel : Fin 8) (src : TrigSrc) (s : State) : Host.Outcome State Fault Refusal :=
  answer s (s.dev.hapWord channel src false)

/-- `HAPTIC_BOLT_TRIGGER` (R385): the Bolt trigger of a touch port, or of `HB_TRIG`. -/
def execHapticBoltTrigger (src : BoltSrc) (s : State) : Host.Outcome State Fault Refusal :=
  answer s (match src with
    | .touch t => s.dev.touchBolt t
    | .ward w => s.dev.put .ward 0x808 0x040 (withoutBit w 24))

/-- `HAPTIC_STOP` (R381): a word with STOP by its way to the channel. -/
def execHapticStop (channel : Fin 8) (src : TrigSrc) (s : State) : Host.Outcome State Fault Refusal :=
  answer s (s.dev.hapWord channel src true)

/-- `HAPTIC_SAMPLE_TICK` (R382): the 8 kHz sample of a channel, with the back-EMF and VHAP measured. -/
def execHapticSampleTick (channel : Fin 8) (emf : Int) (vhapMv : Nat)
    (s : State) : Host.Outcome State Fault Refusal :=
  answer s (s.dev.hapTick channel emf vhapMv)

/-- `BRAKE_END` (R384): the brake is over. -/
def execBrakeEnd (channel : Fin 8) (s : State) : Host.Outcome State Fault Refusal :=
  answer s (s.dev.brakeEnd channel)

/-- `COIL_CHECK_REQUEST` (R385): a write of `HA_CTRL` with CHECK. -/
def execCoilCheckRequest (ag : Agent) (page : BitVec 12) (channel : Fin 8) (v : Word)
    (s : State) : Host.Outcome State Fault Refusal :=
  answer s (s.dev.put ag page.toNat (blockOff ag channel 0) (withBit v 2))

/-- `COIL_CHECK_END` (R388): the check's resistance. -/
def execCoilCheckEnd (channel : Fin 8) (mohm : Nat) (s : State) : Host.Outcome State Fault Refusal :=
  answer s (s.dev.checkEnd channel mohm)

/-- `ACTUATOR_FAULT_CLEAR` (R385): a write of `HA_CTRL` with CLEAR. -/
def execActuatorFaultClear (ag : Agent) (page : BitVec 12) (channel : Fin 8) (v : Word)
    (s : State) : Host.Outcome State Fault Refusal :=
  answer s (s.dev.put ag page.toNat (blockOff ag channel 0) (withBit v 1))

/-- `ACTUATOR_OVERCURRENT` (R388): a SHORT fault. -/
def execActuatorOvercurrent (channel : Fin 8) (s : State) : Host.Outcome State Fault Refusal :=
  answer s (s.dev.hapFault channel 1)

/-- `ACTUATOR_MISSING` (R388): a MISSING fault. -/
def execActuatorMissing (channel : Fin 8) (s : State) : Host.Outcome State Fault Refusal :=
  answer s (s.dev.hapMissing channel)

/-- `STALL_RECOVERY_TIMEOUT` (R388): a check after a STALL. -/
def execStallRecoveryTimeout (channel : Fin 8) (s : State) : Host.Outcome State Fault Refusal :=
  answer s (s.dev.hapRecover channel 3)

/-- `BRIDGE_OVERTEMP` (R388): unit 0 to 7 a haptic channel's bridge, 8 to 15 a speaker's. -/
def execBridgeOvertemp (unit : Fin 16) (s : State) : Host.Outcome State Fault Refusal :=
  answer s (s.dev.bridgeHot unit)

/-- `BRIDGE_TEMP_RECOVERED` (R388): the same bridges. -/
def execBridgeTempRecovered (unit : Fin 16) (s : State) : Host.Outcome State Fault Refusal :=
  answer s (s.dev.bridgeCool unit)

/-- `VHAP_OUT_OF_RANGE` (R388): every bridge is off, with one SUPPLY fault. -/
def execVhapOutOfRange (mv : Nat) (s : State) : Host.Outcome State Fault Refusal :=
  answer s (s.dev.vhapOut mv)

/-- `VHAP_RECOVERED` (R388): channels and stages recover. -/
def execVhapRecovered (mv : Nat) (s : State) : Host.Outcome State Fault Refusal :=
  answer s (s.dev.vhapBack mv)

/-- `EFFECT_LOAD_GO` (R378): a write of `HA_LD_CTRL` or `HB_LD_CTRL` with GO. -/
def execEffectLoadGo (ag : Agent) (page : BitVec 12) (channel : Fin 8) (v : Word)
    (s : State) : Host.Outcome State Fault Refusal :=
  answer s (s.dev.put ag page.toNat (if page = 0x808#12 then 0x05C else blockOff ag channel 0x28) (withBit v 0))

/-- `EFFECT_LOAD_END` (R378): the load of a channel, or of the ward world for 8. -/
def execEffectLoadEnd (who : Fin 9) (readError : Bool) (s : State) : Host.Outcome State Fault Refusal :=
  answer s (s.dev.hapLoadEnd who readError)

end Sys2Proof.Machine
end

