-- ==== Sys2Proof/Machine/IrqCmds.lean ====
section
/-! DEFINITION. Commands of the interrupt controller and the check-value engines. -/

namespace Sys2Proof.Machine

open Sys2Proof

/-- A GO of a check-value engine in the mode that the command names (R434). -/
def Dev.cvCommand (d : Dev) (ag : Agent) (engine : Fin 8) (mode : Nat) : Dev :=
  if d.r (cvPid engine) F.CV_CFG_MODE = mode then d.put ag (0x020 + engine) 0x05C 1 else d

/-- `INTERRUPT_LEVEL_CHANGE` (R419): the source's level as the controller sees it. -/
def execInterruptLevelChange (source : Fin 512) (s : State) : Host.Outcome State Fault Refusal :=
  answer s (s.dev.levelChange source)

/-- `INTERRUPT_DECISION` (R426): one decision for every source and target. -/
def execInterruptDecision (s : State) : Host.Outcome State Fault Refusal :=
  answer s s.dev.irqDecide

/-- `INTERRUPT_CLAIM` (R427): a read of `IR_CLAIM`. -/
def execInterruptClaim (ag : Agent) (page : BitVec 12) (s : State) : Host.Outcome State Fault Refusal :=
  answer s (s.dev.get ag page.toNat 0x060)

/-- `INTERRUPT_COMPLETE` (R428): a write of `IR_INSVC`. -/
def execInterruptComplete (ag : Agent) (page : BitVec 12) (bits : BitVec 16)
    (s : State) : Host.Outcome State Fault Refusal :=
  answer s (s.dev.put ag page.toNat 0x064 bits.toNat)

/-- `MSIX_UNMASK` (R426): a write of a vector's control word with MASK clear. -/
def execMsixUnmask (ag : Agent) (addr : BitVec 24) (v : Word) (s : State) : Host.Outcome State Fault Refusal :=
  answer s (s.dev.writeAt ag addr.toNat (withoutBit v 0))

/-- `ORPHAN` (R430): the source has had no enabled target for 1 ms. -/
def execOrphan (source : Fin 512) (s : State) : Host.Outcome State Fault Refusal :=
  answer s (s.dev.orphan source)

/-- `CHECK_VALUE_STREAM` (R434): a write of `CV_CTRL` with GO, the engine in mode 0. -/
def execCheckValueStream (ag : Agent) (engine : Fin 8) (s : State) : Host.Outcome State Fault Refusal :=
  answer s (s.dev.cvCommand ag engine 0)

/-- `CHECK_VALUE_MESSAGES` (R436): a write of `CV_CTRL` with GO, the engine in mode 1. -/
def execCheckValueMessages (ag : Agent) (engine : Fin 8) (s : State) : Host.Outcome State Fault Refusal :=
  answer s (s.dev.cvCommand ag engine 1)

/-- `CHECK_VALUE_RUN_END` (R434): the result of the run; `readErrorAt` is the message whose read had an error response
(0 in STREAM mode), if any. -/
def execCheckValueRunEnd (engine : Fin 8) (readErrorAt : Option Nat) (s : State) : Host.Outcome State Fault Refusal :=
  answer s (s.dev.cvEnd engine readErrorAt)

end Sys2Proof.Machine
end

