-- ==== Sys2Proof/Machine/MemoryCmds.lean ====
section
/-! DEFINITION. Commands of the memory region: training, requests, refresh, the ECC zones, remap and repair, the
diagnostic. -/

namespace Sys2Proof.Machine

open Sys2Proof

/-- `DRAM_TRAINING_START` (R206): a write of `MC_TRAIN` with START. -/
def execDramTrainingStart (ag : Agent) (s : State) : Host.Outcome State Fault Refusal :=
  answer s (s.dev.put ag 0x100 0x044 1)

/-- `DRAM_TRAINING_END` (R206): the controller is in SERVICE or FAILED, and the boot goes on. -/
def execDramTrainingEnd (result : TrainResult) (s : State) : Host.Outcome State Fault Refusal :=
  answer s ((s.dev.trainEnd result).afterTraining)

/-- `WCK_OSCILLATOR_READ` (R207): the WCK delay follows the oscillator. -/
def execWckOscillatorRead (channel : Fin 8) (drift : Bool) (delay : BitVec 10)
    (s : State) : Host.Outcome State Fault Refusal :=
  answer s (s.dev.wckRead channel drift delay.toNat)

/-- `DRAM_REQUEST` (R144, R208): the request is refused, or waits in its channel. -/
def execDramRequest (port : Fin 25) (path : Traffic) (addr : BitVec 64) (len : Fin 65) (write : Bool) (data : List Nat)
    (s : State) : Host.Outcome State Fault Refusal :=
  answer s (s.dev.dramRequest port path addr.toNat len (if write then some (asBytes data) else none))

/-- `ECC_WRITE_BACK` (R223): the oldest corrected word is written back. -/
def execEccWriteBack (s : State) : Host.Outcome State Fault Refusal :=
  answer s s.dev.writeBack

/-- `PAGE_HOLD_EXPIRY` (R211): the open row of a bank is closed. -/
def execPageHoldExpiry (channel : Fin 8) (bank : Fin 16) (s : State) : Host.Outcome State Fault Refusal :=
  answer s (s.dev.holdExpiry channel bank)

/-- `REFRESH_DUE` (R214): a pair of banks owes a refresh. -/
def execRefreshDue (channel : Fin 8) (pair : Fin 8) (s : State) : Host.Outcome State Fault Refusal :=
  answer s (s.dev.refreshDue channel pair)

/-- `MR4_POLL` (R214): the refresh rate follows MR4. -/
def execMr4Poll (rate : Fin 32) (overLimit : Bool) (s : State) : Host.Outcome State Fault Refusal :=
  answer s (s.dev.mr4Poll rate overLimit)

/-- `ZONE_INIT_COMPLETE` (R219): the zone is filled and ON. -/
def execZoneInitComplete (zone : Fin 16) (s : State) : Host.Outcome State Fault Refusal :=
  answer s (s.dev.zoneInitDone zone)

/-- `SCRUB_STEP` (R226): the scrubber's next line. -/
def execScrubStep (s : State) : Host.Outcome State Fault Refusal :=
  answer s s.dev.scrubStep

/-- `REMAP_COPY_COMPLETE` (R228): the remap entry is ACTIVE or IDLE. -/
def execRemapCopyComplete (entry : Fin 32) (s : State) : Host.Outcome State Fault Refusal :=
  answer s (s.dev.remapDone entry)

/-- `SRAM_SPARE_COPY_COMPLETE` (R229): the SRAM's spare row serves. -/
def execSramSpareCopyComplete (sram : Fin 6) (entry : Fin 8) (s : State) : Host.Outcome State Fault Refusal :=
  answer s (s.dev.srDone (8 * sram + entry))

/-- `READ_RAW` (R230): a write of `DG_CTRL` with OP 1. -/
def execReadRaw (ag : Agent) (key : BitVec 16) (s : State) : Host.Outcome State Fault Refusal :=
  answer s (s.dev.put ag 0x130 0x054 (keyed key 1))

/-- `WRITE_DATA_ONLY` (R230): a write of `DG_CTRL` with OP 2. -/
def execWriteDataOnly (ag : Agent) (key : BitVec 16) (s : State) : Host.Outcome State Fault Refusal :=
  answer s (s.dev.put ag 0x130 0x054 (keyed key 2))

/-- `WRITE_CHECK_ONLY` (R230): a write of `DG_CTRL` with OP 3. -/
def execWriteCheckOnly (ag : Agent) (key : BitVec 16) (s : State) : Host.Outcome State Fault Refusal :=
  answer s (s.dev.put ag 0x130 0x054 (keyed key 3))

/-- `WRITE_BOTH` (R230): a write of `DG_CTRL` with OP 4. -/
def execWriteBoth (ag : Agent) (key : BitVec 16) (s : State) : Host.Outcome State Fault Refusal :=
  answer s (s.dev.put ag 0x130 0x054 (keyed key 4))

end Sys2Proof.Machine
end

