-- ==== Sys2Proof/Machine/PowerCmds.lean ====
section
/-! DEFINITION. Commands of the power manager, the gates, the thermal cap, wake, the RTC and the hinge domain. -/

namespace Sys2Proof.Machine

open Sys2Proof

/-- `POWER_CHANGE_START` (R446): the pending set starts. -/
def execPowerChangeStart (s : State) : Host.Outcome State Fault Refusal :=
  answer s s.dev.changeNext

/-- `PMBUS_TRANSACTION_END` (R447): the transaction under way ends with its data, or is tried again. -/
def execPmbusTransactionEnd (outcome : BusOutcome) (s : State) : Host.Outcome State Fault Refusal :=
  answer s (match outcome with
    | .ok data => s.dev.busDone data.toNat
    | .nak => s.dev.busNak)

/-- `PMBUS_TIMEOUT` (R447): the transaction fails. -/
def execPmbusTimeout (s : State) : Host.Outcome State Fault Refusal :=
  answer s s.dev.busTimeout

/-- `REGULATOR_ACK` (R448): the rail is at its level. -/
def execRegulatorAck (rail : Fin 3) (s : State) : Host.Outcome State Fault Refusal :=
  answer s (s.dev.ackUp rail)

/-- `REGULATOR_ACK_TIMEOUT` (R448): the rail is UNSURE and the change ends TIMEOUT. -/
def execRegulatorAckTimeout (s : State) : Host.Outcome State Fault Refusal :=
  answer s s.dev.ackTimeout

/-- `PM_WARD_REQ` (R453): a write of `PM_WARD_REQ` with its key. -/
def execPmWardReq (ag : Agent) (target : Fin 8) (s : State) : Host.Outcome State Fault Refusal :=
  answer s (s.dev.put ag 0x390 0x04C (keyed theKey target))

/-- `REGION_POWER_OFF` (R450): a write of `PM_GATE` with OFF. -/
def execRegionPowerOff (ag : Agent) (region : Fin 16) (v : Word) (s : State) : Host.Outcome State Fault Refusal :=
  answer s (s.dev.put ag 0x390 (0x100 + 4 * region) (withBit v 0))

/-- `REGION_CLOCK_STOP` (R450): a write of `PM_GATE` with CLKSTOP. -/
def execRegionClockStop (ag : Agent) (region : Fin 16) (v : Word) (s : State) : Host.Outcome State Fault Refusal :=
  answer s (s.dev.put ag 0x390 (0x100 + 4 * region) (withBit v 1))

/-- `CLUSTER_RESET_HOLD` (R450): a write of `PM_GATE` with RSTHOLD as given. -/
def execClusterResetHold (ag : Agent) (region : Fin 16) (v : Word) (s : State) : Host.Outcome State Fault Refusal :=
  answer s (s.dev.put ag 0x390 (0x100 + 4 * region) v.toNat)

/-- `THERMAL_LIMIT` (R451): the highest sensor of the Core die has reached LIMIT. -/
def execThermalLimit (celsius : Int) (s : State) : Host.Outcome State Fault Refusal :=
  answer s (s.dev.thermalLimit celsius)

/-- `THERMAL_CLEAR` (R451): it is 5 degrees below LIMIT. -/
def execThermalClear (celsius : Int) (s : State) : Host.Outcome State Fault Refusal :=
  answer s (s.dev.thermalClear celsius)

/-- `SLEEP_LEDGER_TIMEOUT` (R454): the entry waits for the ledger no longer. -/
def execSleepLedgerTimeout (s : State) : Host.Outcome State Fault Refusal :=
  answer s s.dev.sleepTimeout

/-- `WAKE_EVENT` (R455): a source, by its code in `PM_STAT.WAKESRC`; 0 is none. -/
def execWakeEvent (source : Fin 5) (s : State) : Host.Outcome State Fault Refusal :=
  answer s (s.dev.wake source)

/-- `I2C_WAKE_MATCH` (R457): the target matches an address. -/
def execI2cWakeMatch (addr : BitVec 7) (s : State) : Host.Outcome State Fault Refusal :=
  answer s (s.dev.i2cMatch addr.toNat)

/-- `RTC_ALARM` (R458): the counter equals `RTC_ALM`. -/
def execRtcAlarm (s : State) : Host.Outcome State Fault Refusal :=
  answer s s.dev.rtcAlarm

/-- `HINGE_POWER_UP` (R504): the hinge domain starts. -/
def execHingePowerUp (s : State) : Host.Outcome State Fault Refusal :=
  answer s s.dev.hingePower

/-- `HINGE_POWER_LOSS` (R459): the hinge domain loses its state. -/
def execHingePowerLoss (s : State) : Host.Outcome State Fault Refusal :=
  answer s s.dev.hingeLoss

/-- `POWER_GOOD_FALL` (R505): the dies are isolated and reset. -/
def execPowerGoodFall (s : State) : Host.Outcome State Fault Refusal :=
  answer s s.dev.powerGoodFall

/-- `RTC_CRYSTAL_STOP` (R458): the counter stops. -/
def execRtcCrystalStop (s : State) : Host.Outcome State Fault Refusal :=
  answer s s.dev.rtcStop

/-- `RTC_CRYSTAL_START` (R509): the counter goes on. -/
def execRtcCrystalStart (s : State) : Host.Outcome State Fault Refusal :=
  answer s s.dev.rtcStart

end Sys2Proof.Machine
end

