-- ==== Sys2Proof/Machine/RegisterCmds.lean ====
section
/-! DEFINITION. Commands of the register pages, the change ledger and the period scheduler: a write, the ledger's events,
commits, the lock of a page, the entries of the scheduler. -/

namespace Sys2Proof.Machine

open Sys2Proof

/-- `REGISTER_WRITE` (R44): the write goes through the steps of R44 to R47; what it starts is its block's. -/
def execRegisterWrite (ag : Agent) (addr : BitVec 24) (v : Word) (s : State) : Host.Outcome State Fault Refusal :=
  answer s (s.dev.writeAt ag addr.toNat v.toNat)

/-- `LEDGER_ENTRY_FREED` (R69): the LOST record of R69 goes in first; the writes that waited are taken up as the step
settles. -/
def execLedgerEntryFreed (s : State) : Host.Outcome State Fault Refusal :=
  answer s s.dev.ledAfterFree

/-- `LEDGER_WAIT_TIMEOUT` (R69): the oldest write that waits for an entry has waited 10 µs. -/
def execLedgerWaitTimeout (s : State) : Host.Outcome State Fault Refusal :=
  answer s s.dev.waitTimeout?

/-- `LEDGER_DRAIN_ENABLE` (R71): the ward world's write of `LED_CTRL` with DRAIN_EN set. -/
def execLedgerDrainEnable (v : Word) (s : State) : Host.Outcome State Fault Refusal :=
  answer s (s.dev.put .ward 0x010 0x040 (withBit v 0))

/-- `LEDGER_DRAIN_ENTRY` (R70): the oldest complete entry goes to the ring, if the drain may write it now. -/
def execLedgerDrainEntry (s : State) : Host.Outcome State Fault Refusal :=
  answer s s.dev.drainEntry

/-- `LEDGER_CKPT_SIGNED` (R73): the ward world's write of `LED_CKPT_CTRL` with SIGNED set. -/
def execLedgerCkptSigned (v : Word) (s : State) : Host.Outcome State Fault Refusal :=
  answer s (s.dev.put .ward 0x010 0x06C (withBit v 0))

/-- `LEDGER_DRAIN_CHECKPOINT` (R73): the oldest signed checkpoint goes to the ring. -/
def execLedgerDrainCheckpoint (s : State) : Host.Outcome State Fault Refusal :=
  answer s s.dev.drainCkpt

/-- `COMMIT_NOW` (R56): a write of `PAGE_COMMIT` with NOW. -/
def execCommitNow (ag : Agent) (page : BitVec 12) (key : BitVec 16) (s : State) : Host.Outcome State Fault Refusal :=
  answer s (s.dev.put ag page.toNat 0x020 (keyed key 1))

/-- `COMMIT_AT_BOUNDARY` (R56): a write of `PAGE_COMMIT` with AT_BOUNDARY. -/
def execCommitAtBoundary (ag : Agent) (page : BitVec 12) (key : BitVec 16)
    (s : State) : Host.Outcome State Fault Refusal :=
  answer s (s.dev.put ag page.toNat 0x020 (keyed key 2))

/-- `COMMIT_REVERT` (R56): a write of `PAGE_COMMIT` with REVERT. -/
def execCommitRevert (ag : Agent) (page : BitVec 12) (key : BitVec 16)
    (s : State) : Host.Outcome State Fault Refusal :=
  answer s (s.dev.put ag page.toNat 0x020 (keyed key 4))

/-- `COMMIT_REQUEST_DEFERRED_ACCEPT` (R53): the request that waits for a page whose check has ended. -/
def execCommitRequestDeferredAccept (page : PageRef) (s : State) : Host.Outcome State Fault Refusal :=
  answer s (s.dev.deferredAccept (PageRef.pid page))

/-- `COMMIT_CHECK_END` (R53): the page's check gives its verdict. -/
def execCommitCheckEnd (page : PageRef) (s : State) : Host.Outcome State Fault Refusal :=
  answer s (s.dev.checkEnd? (PageRef.pid page))

/-- `COMMIT_BOUNDARY` (R57): the boundary of a page, or of the part of it that has a boundary of its own. -/
def execCommitBoundary (page : PageRef) (part : PartBoundary) (s : State) : Host.Outcome State Fault Refusal :=
  answer s (s.dev.boundary (PageRef.pid page) part.part part.checkedInTime)

/-- `PAGE_LOCK` (R59): a write of `PAGE_LOCK` with LOCK. -/
def execPageLock (ag : Agent) (page : BitVec 12) (s : State) : Host.Outcome State Fault Refusal :=
  answer s (s.dev.put ag page.toNat 0x01C 1)

/-- `PERIOD_ARM` (R28): a write of `PE_CTRL` with ARMED set. -/
def execPeriodArm (ag : Agent) (slot : Fin 64) (v : Word) (s : State) : Host.Outcome State Fault Refusal :=
  answer s (s.dev.put ag (periodPage ag) (0x800 + 32 * slot) (withBit v 0))

/-- `PERIOD_DISARM` (R30): a write of `PE_CTRL` with ARMED clear. -/
def execPeriodDisarm (ag : Agent) (slot : Fin 64) (v : Word) (s : State) : Host.Outcome State Fault Refusal :=
  answer s (s.dev.put ag (periodPage ag) (0x800 + 32 * slot) (withoutBit v 0))

/-- `PERIOD_BOUNDARY` (R29): an entry's period boundary. -/
def execPeriodBoundary (entry : Fin 256) (s : State) : Host.Outcome State Fault Refusal :=
  answer s (s.dev.perBoundary entry)

/-- `PERIOD_WORK_COMPLETE` (R29): the work of the open period is complete. -/
def execPeriodWorkComplete (entry : Fin 256) (s : State) : Host.Outcome State Fault Refusal :=
  answer s (s.dev.perDone entry)

/-- `PERIOD_DEADLINE` (R31): an entry's deadline. -/
def execPeriodDeadline (entry : Fin 256) (s : State) : Host.Outcome State Fault Refusal :=
  answer s (s.dev.perDeadline entry)

/-- `BMON_CLEAR` (R15): the ward world's write of `CLS_BMON_CLR`. -/
def execBmonClear (v : Word) (s : State) : Host.Outcome State Fault Refusal :=
  answer s (s.dev.put .ward 0x320 0x04C v.toNat)

end Sys2Proof.Machine
end

