-- ==== Sys2Proof/Machine/RenderCmds.lean ====
section
/-! DEFINITION. Commands of the renderer: the commands of a context, the work items of the clusters, fences and waits. -/

namespace Sys2Proof.Machine

open Sys2Proof

/-- `NOP` (R240): the context's oldest command is a NOP and starts. -/
def execNop (v : Fin 64) (ctx : Fin 64) (s : State) : Host.Outcome State Fault Refusal :=
  answer s (s.dev.cmdNop v ctx)

/-- `RENDER` (R244): the context's oldest command is a RENDER and starts. -/
def execRender (v : Fin 64) (ctx : Fin 64) (s : State) : Host.Outcome State Fault Refusal :=
  answer s (s.dev.cmdRender v ctx)

/-- `COMPUTE` (R267): the context's oldest command is a COMPUTE and starts. -/
def execCompute (v : Fin 64) (ctx : Fin 64) (s : State) : Host.Outcome State Fault Refusal :=
  answer s (s.dev.cmdCompute v ctx)

/-- `WAIT` (R265): the context's oldest command is a WAIT and starts. -/
def execWait (v : Fin 64) (ctx : Fin 64) (s : State) : Host.Outcome State Fault Refusal :=
  answer s (s.dev.cmdWait v ctx)

/-- `SIGNAL` (R263): the context's oldest command is a SIGNAL and starts. -/
def execSignal (v : Fin 64) (ctx : Fin 64) (s : State) : Host.Outcome State Fault Refusal :=
  answer s (s.dev.cmdSignal v ctx)

/-- `RESIDENCY_SYNC` (R256): the context's oldest command is a RESIDENCY_SYNC and starts. -/
def execResidencySync (v : Fin 64) (ctx : Fin 64) (s : State) : Host.Outcome State Fault Refusal :=
  answer s (s.dev.cmdResSync v ctx)

/-- `PERIODIC_JOB_INSERT` (R243): the released job of a period entry enters its context. -/
def execPeriodicJobInsert (entry : Fin 256) (s : State) : Host.Outcome State Fault Refusal :=
  answer s (s.dev.insertJob entry)

/-- `WORK_ITEM_DISPATCH` (R266): the cluster takes the next ready item. -/
def execWorkItemDispatch (cluster : Fin 16) (s : State) : Host.Outcome State Fault Refusal :=
  answer s (s.dev.dispatch cluster)

/-- `WORK_ITEM_END` (R239): the item of the cluster leaves its result. -/
def execWorkItemEnd (cluster : Fin 16) (result : ItemResult) (s : State) : Host.Outcome State Fault Refusal :=
  answer s (s.dev.itemEnd cluster result)

/-- `ITEM_ABORT` (R239): the item is over its limit. -/
def execItemAbort (cluster : Fin 16) (s : State) : Host.Outcome State Fault Refusal :=
  answer s (s.dev.itemAbort cluster)

/-- `JOB_DEADLINE` (R242): the job of the context's oldest command is over its own deadline. -/
def execJobDeadline (v : Fin 64) (ctx : Fin 64) (s : State) : Host.Outcome State Fault Refusal :=
  answer s (s.dev.jobDeadline v ctx)

/-- `FNC_SIGNAL_WRITE` (R263): a write of `FNC_CTRL` with SIGNAL. -/
def execFncSignalWrite (ag : Agent) (page : BitVec 12) (index : Fin 192) (v : Word)
    (s : State) : Host.Outcome State Fault Refusal :=
  answer s (s.dev.put ag page.toNat (0x408 + 16 * index) (withBit v 0))

/-- `FENCE_TIMEOUT` (R264): the oldest owed signal of the fence is paid as BROKEN. -/
def execFenceTimeout (page : PageRef) (index : Fin 192) (s : State) : Host.Outcome State Fault Refusal :=
  answer s (s.dev.fenceBroken (PageRef.pid page) index)

/-- `WAIT_TIMEOUT` (R265): the context's WAIT is over its limit. -/
def execWaitTimeout (v : Fin 64) (ctx : Fin 64) (s : State) : Host.Outcome State Fault Refusal :=
  answer s (s.dev.waitTimeout v ctx)

/-- `RENDER_QUAD_DRAINED` (R268): the draining quad is idle and powers down. -/
def execRenderQuadDrained (quad : Fin 4) (s : State) : Host.Outcome State Fault Refusal :=
  answer s (s.dev.quadOff quad)

end Sys2Proof.Machine
end

