-- ==== Sys2Proof/Machine/RingCmds.lean ====
section
/-! DEFINITION. Commands of the Tabyr Ring. -/

namespace Sys2Proof.Machine

open Sys2Proof

/-- `RING_PORT_SEEK` (R460): the port transmits idle and seeks. -/
def execRingPortSeek (port : Fin 2) (s : State) : Host.Outcome State Fault Refusal :=
  answer s (s.dev.portSeek port)

/-- `RING_PORT_UP` (R460): the port is UP. -/
def execRingPortUp (port : Fin 2) (s : State) : Host.Outcome State Fault Refusal :=
  answer s (s.dev.portUp port)

/-- `RING_PORT_DOWN` (R460): the port seeks again. -/
def execRingPortDown (port : Fin 2) (codeErrors : Nat) (s : State) : Host.Outcome State Fault Refusal :=
  answer s (s.dev.portDown port codeErrors)

/-- `RING_FRAME_FORWARD` (R463): a frame is checked, forwarded, and tested for acceptance. -/
def execRingFrameForward (port : Fin 2) (bytes : List Nat) (sinceNs residNs : Nat)
    (s : State) : Host.Outcome State Fault Refusal :=
  answer s (s.dev.frReceive port (asBytes bytes) sinceNs residNs)

/-- `BEACON` (R462): the accepted BEACON takes effect. -/
def execBeacon (s : State) : Host.Outcome State Fault Refusal :=
  answer s s.dev.beaconIn

/-- `TIME` (R465): the accepted TIME takes effect. -/
def execTime (s : State) : Host.Outcome State Fault Refusal :=
  answer s s.dev.timeIn

/-- `LINK_DELAY` (R465): the accepted LINK_DELAY takes effect. -/
def execLinkDelay (s : State) : Host.Outcome State Fault Refusal :=
  answer s s.dev.linkDelayIn

/-- `EMERGENCY` (R464): the accepted EMERGENCY is held and raised; a test of the emergency window is over. -/
def execEmergency (s : State) : Host.Outcome State Fault Refusal :=
  answer s ({ s.dev with emgTest := none }.emergencyIn 4)

/-- `EMERGENCY_CLEAR` (R464): the accepted EMERGENCY_CLEAR is held and raised. -/
def execEmergencyClear (s : State) : Host.Outcome State Fault Refusal :=
  answer s (s.dev.emergencyIn 5)

/-- `ALERT` (R467): the accepted ALERT enters the receive queue. -/
def execAlert (s : State) : Host.Outcome State Fault Refusal :=
  answer s (s.dev.queueIn 6)

/-- `SERVICE` (R467): the accepted SERVICE enters the receive queue. -/
def execService (s : State) : Host.Outcome State Fault Refusal :=
  answer s (s.dev.queueIn 7)

/-- `BEACON_SEND` (R462): a BEACON of this node. -/
def execBeaconSend (s : State) : Host.Outcome State Fault Refusal :=
  answer s s.dev.beaconOut

/-- `TIME_SEND` (R465): a TIME of the time master. -/
def execTimeSend (s : State) : Host.Outcome State Fault Refusal :=
  answer s s.dev.timeOut

/-- `LINK_DELAY_SEND` (R465): a request of an UP port. -/
def execLinkDelaySend (port : Fin 2) (s : State) : Host.Outcome State Fault Refusal :=
  answer s (s.dev.linkDelayOut port)

/-- `TIME_SYNC_TIMEOUT` (R465): SYNC is lost. -/
def execTimeSyncTimeout (s : State) : Host.Outcome State Fault Refusal :=
  answer s s.dev.syncTimeout

/-- `BYPASS_HOLD_SET` (R466): a write of `RB_CTRL` with HOLD set. -/
def execBypassHoldSet (ag : Agent) (v : Word) (s : State) : Host.Outcome State Fault Refusal :=
  answer s (s.dev.put ag 0x410 0x040 (withBit v 0))

/-- `BYPASS_HOLD_RELEASE` (R466): a write of `RB_CTRL` with HOLD clear. -/
def execBypassHoldRelease (ag : Agent) (v : Word) (s : State) : Host.Outcome State Fault Refusal :=
  answer s (s.dev.put ag 0x410 0x040 (withoutBit v 0))

/-- `RING_TX_GO` (R467): a write of `RB_TX` with GO. -/
def execRingTxGo (ag : Agent) (v : Word) (s : State) : Host.Outcome State Fault Refusal :=
  answer s (s.dev.put ag 0x410 0x060 (withBit v 0))

/-- `RING_RX_POP` (R467): a write of `RB_RX` with POP. -/
def execRingRxPop (ag : Agent) (v : Word) (s : State) : Host.Outcome State Fault Refusal :=
  answer s (s.dev.put ag 0x410 0x064 (withBit v 8))

/-- `RING_FRAME_SENT` (R467): the frame on the port's line has left. -/
def execRingFrameSent (port : Fin 2) (s : State) : Host.Outcome State Fault Refusal :=
  answer s (s.dev.frameSent port)

end Sys2Proof.Machine
end

