-- ==== Sys2Proof/Machine/TenancyCmds.lean ====
section
/-! DEFINITION. Commands of the host ports, the virtual instances, their contexts and their translation. -/

namespace Sys2Proof.Machine

open Sys2Proof

/-- `HOST_MEMORY_READ` (R166): one or two register reads, or an abort. -/
def execHostMemoryRead (port : Fin 4) (vf : Option (Fin 64)) (addr : BitVec 24) (dws : Nat)
    (s : State) : Host.Outcome State Fault Refusal :=
  answer s (s.dev.hostRead port vf addr.toNat dws)

/-- `HOST_MEMORY_WRITE` (R166): one or two register writes, or a drop. -/
def execHostMemoryWrite (port : Fin 4) (vf : Option (Fin 64)) (addr : BitVec 24) (data : List Word) (allBytes : Bool)
    (s : State) : Host.Outcome State Fault Refusal :=
  answer s (s.dev.hostWrite port vf addr.toNat data allBytes)

/-- `DMA_COMPLETION_ERROR` (R168): kind 0 Unsupported Request, 1 Completer Abort, 2 poisoned. -/
def execDmaCompletionError (port : Fin 4) (kind : Fin 3) (cmd : Option (Fin 64 × Fin 64 × Word))
    (s : State) : Host.Outcome State Fault Refusal :=
  answer s (s.dev.dmaFail port (if kind.val = 2 then 3 else kind.val) (cmd.map (fun c => (c.1.val, c.2.1.val, c.2.2.toNat))))

/-- `DMA_COMPLETION_TIMEOUT` (R168): the port's Completion Timeout. -/
def execDmaCompletionTimeout (port : Fin 4) (cmd : Option (Fin 64 × Fin 64 × Word))
    (s : State) : Host.Outcome State Fault Refusal :=
  answer s (s.dev.dmaFail port 2 (cmd.map (fun c => (c.1.val, c.2.1.val, c.2.2.toNat))))

/-- `VF_ENABLE` (R169): the VFs up to NumVFs are present. -/
def execVfEnable (port : Fin 4) (numVfs : Fin 33) (s : State) : Host.Outcome State Fault Refusal :=
  answer s (if tabGet s.dev.hst.sriov 0 port ≤ numVfs then s.dev.vfsChange port numVfs else s.dev)

/-- `VF_DISABLE` (R169): the VFs above NumVFs are gone. -/
def execVfDisable (port : Fin 4) (numVfs : Fin 33) (s : State) : Host.Outcome State Fault Refusal :=
  answer s (if numVfs ≤ tabGet s.dev.hst.sriov 0 port then s.dev.vfsChange port numVfs else s.dev)

/-- `VF_FLR` (R169): the VI of the VF is reset. -/
def execVfFlr (v : Fin 64) (s : State) : Host.Outcome State Fault Refusal :=
  answer s (s.dev.vfFlr v)

/-- `PF_FLR` (R169): every VI of the port is gone and the SR-IOV capability reset. -/
def execPfFlr (port : Fin 4) (s : State) : Host.Outcome State Fault Refusal :=
  answer s (s.dev.pfReset port)

/-- `PORT_DL_DOWN` (R169): the link is down, with the effects of a PF's FLR. -/
def execPortDlDown (port : Fin 4) (s : State) : Host.Outcome State Fault Refusal :=
  answer s (s.dev.dlDown port)

/-- `PERST_ASSERT` (R504): the port has the effects of DL_Down. -/
def execPerstAssert (port : Fin 4) (s : State) : Host.Outcome State Fault Refusal :=
  answer s (s.dev.dlDown port)

/-- `PORT_DL_UP` (R423): `HP_LINK` shows speed and width. -/
def execPortDlUp (port : Fin 4) (speed : Fin 8) (width : Fin 16) (s : State) : Host.Outcome State Fault Refusal :=
  answer s (s.dev.dlUp port speed width)

/-- `CREATE` (R173): a write of `VIH_CTRL` with request 1. -/
def execCreate (ag : Agent) (v : Fin 64) (key : BitVec 16) (s : State) : Host.Outcome State Fault Refusal :=
  answer s (s.dev.put ag (0x090 + v) 0x040 (keyed key 1))

/-- `RESET` (R171): a write of `VIH_CTRL` with request 2. -/
def execReset (ag : Agent) (v : Fin 64) (key : BitVec 16) (s : State) : Host.Outcome State Fault Refusal :=
  answer s (s.dev.put ag (0x090 + v) 0x040 (keyed key 2))

/-- `REMOVE` (R171): a write of `VIH_CTRL` with request 3. -/
def execRemove (ag : Agent) (v : Fin 64) (key : BitVec 16) (s : State) : Host.Outcome State Fault Refusal :=
  answer s (s.dev.put ag (0x090 + v) 0x040 (keyed key 3))

/-- `QUIESCE` (R169): a write of `VIH_CTRL` with request 4. -/
def execQuiesce (ag : Agent) (v : Fin 64) (key : BitVec 16) (s : State) : Host.Outcome State Fault Refusal :=
  answer s (s.dev.put ag (0x090 + v) 0x040 (keyed key 4))

/-- `RESUME` (R169): a write of `VIH_CTRL` with request 5. -/
def execResume (ag : Agent) (v : Fin 64) (key : BitVec 16) (s : State) : Host.Outcome State Fault Refusal :=
  answer s (s.dev.put ag (0x090 + v) 0x040 (keyed key 5))

/-- `CREATE_ACCEPT` (R174): a write of `PP_DECIDE` with ACCEPT. -/
def execCreateAccept (ag : Agent) (key : BitVec 16) (s : State) : Host.Outcome State Fault Refusal :=
  answer s (s.dev.put ag 0x084 0x054 (keyed key 1))

/-- `CREATE_REFUSE` (R174): a write of `PP_DECIDE` with REFUSE. -/
def execCreateRefuse (ag : Agent) (key : BitVec 16) (s : State) : Host.Outcome State Fault Refusal :=
  answer s (s.dev.put ag 0x084 0x054 (keyed key 2))

/-- `CREATE_TIMEOUT` (R169): the oldest CREATE has waited 100 ms. -/
def execCreateTimeout (s : State) : Host.Outcome State Fault Refusal :=
  answer s s.dev.createTimeout

/-- `VI_RESET_COMPLETE` (R169): RESETTING ends, once no work of the generation is in flight. -/
def execViResetComplete (v : Fin 64) (s : State) : Host.Outcome State Fault Refusal :=
  answer s (s.dev.viResetEnd v)

/-- `SQ_DOORBELL` (R179): a write of the VI's `DB_SQ`. -/
def execSqDoorbell (v : Fin 64) (ctx : Fin 64) (tail : Word) (s : State) : Host.Outcome State Fault Refusal :=
  answer s (s.dev.put (.vi v) 2 (0x040 + 4 * ctx) tail.toNat)

/-- `CQ_DOORBELL` (R179): a write of the VI's `DB_CQ`. -/
def execCqDoorbell (v : Fin 64) (ctx : Fin 64) (head : Word) (s : State) : Host.Outcome State Fault Refusal :=
  answer s (s.dev.put (.vi v) 2 (0x140 + 4 * ctx) head.toNat)

/-- `SQ_ENTRY_FETCH` (R180): the context's next entry is fetched, if it has room for its completion. -/
def execSqEntryFetch (v : Fin 64) (ctx : Fin 64) (s : State) : Host.Outcome State Fault Refusal :=
  answer s (s.dev.sqFetch v ctx)

/-- `COMMAND_COMPLETE` (R180): the oldest decided command of the context completes, or a stale one is discarded. -/
def execCommandComplete (v : Fin 64) (ctx : Fin 64) (gen : BitVec 8) (s : State) : Host.Outcome State Fault Refusal :=
  answer s (s.dev.cmdComplete v ctx gen.toNat)

/-- `CONTEXT_ENABLE` (R181): a write of `CTX_CTRL` with ENABLE set. -/
def execContextEnable (v : Fin 64) (ctx : Fin 64) (value : Word) (s : State) : Host.Outcome State Fault Refusal :=
  answer s (s.dev.put (.vi v) 1 (0x800 + 32 * ctx) (withBit value 0))

/-- `CONTEXT_DISABLE` (R181): a write of `CTX_CTRL` with ENABLE clear. -/
def execContextDisable (v : Fin 64) (ctx : Fin 64) (value : Word) (s : State) : Host.Outcome State Fault Refusal :=
  answer s (s.dev.put (.vi v) 1 (0x800 + 32 * ctx) (withoutBit value 0))

/-- `CONTEXT_SWAP_IN` (R182): the next context that waits takes a resident slot. -/
def execContextSwapIn (s : State) : Host.Outcome State Fault Refusal :=
  answer s s.dev.swapIn

/-- `SHARE_PERIOD_START` (R266): the budgets of the share period. -/
def execSharePeriodStart (s : State) : Host.Outcome State Fault Refusal :=
  answer s s.dev.shareStart

/-- `TRANSLATION_ACCESS` (R186): an access within a page of 4 KiB goes through the TLB, or starts a walk. A read takes as
many bytes as `data` has. -/
def execTranslationAccess (v : Fin 64) (gen : BitVec 8) (work : CtxWork) (asp : Fin 16) (addr : BitVec 64) (write : Bool)
    (data : List Nat) (s : State) : Host.Outcome State Fault Refusal :=
  answer s (s.dev.access { vi := v, gen := gen.toNat, asp := asp, ctx := work.ctx, addr := addr.toNat, write := write,
                           data := asBytes (data.take (4096 - addr.toNat % 4096)), cmd := work.cmd.map (·.toNat) })

/-- `TABLE_WALK_COMPLETE` (R184, R187): the next walk in the round robin of the VIs ends. -/
def execTableWalkComplete (readError : Option (Fin 24)) (s : State) : Host.Outcome State Fault Refusal :=
  answer s (s.dev.walkEnd (readError.map (·.val)))

/-- `S2_INVALIDATE` (R192): a write of `VIH_INV_CTRL` with GO. -/
def execS2Invalidate (ag : Agent) (v : Fin 64) (value : Word) (s : State) : Host.Outcome State Fault Refusal :=
  answer s (s.dev.put ag (0x090 + v) 0x058 (withBit value 0))

/-- `S1_INVALIDATE` (R192): a write of the VI's `S1_INV_CTRL` with GO. -/
def execS1Invalidate (v : Fin 64) (value : Word) (s : State) : Host.Outcome State Fault Refusal :=
  answer s (s.dev.put (.vi v) 11 0x0C8 (withBit value 0))

/-- `INVALIDATION_COMPLETE` (R192): an invalidation of the VI is complete: 0 stage 1, 1 stage 2, 2 that of the dirty
log. -/
def execInvalidationComplete (v : Fin 64) (which : Fin 3) (s : State) : Host.Outcome State Fault Refusal :=
  answer s (s.dev.invalDone v which)

/-- `DIRTY_LOG_ENABLE` (R194): a write of `VIH_DL_CTRL` with EN set. -/
def execDirtyLogEnable (ag : Agent) (v : Fin 64) (value : Word) (s : State) : Host.Outcome State Fault Refusal :=
  answer s (s.dev.put ag (0x090 + v) 0x068 (withBit value 0))

/-- `DIRTY_LOG_DISABLE` (R194): a write of `VIH_DL_CTRL` with EN clear. -/
def execDirtyLogDisable (ag : Agent) (v : Fin 64) (value : Word) (s : State) : Host.Outcome State Fault Refusal :=
  answer s (s.dev.put ag (0x090 + v) 0x068 (withoutBit value 0))

/-- `DIRTY_LOG_CLEAR` (R194): a write of `VIH_DL_CTRL` with CLEAR. -/
def execDirtyLogClear (ag : Agent) (v : Fin 64) (value : Word) (s : State) : Host.Outcome State Fault Refusal :=
  answer s (s.dev.put ag (0x090 + v) 0x068 (withBit value 16))

end Sys2Proof.Machine
end

