-- ==== Sys2Proof/Machine/TouchCmds.lean ====
section
/-! DEFINITION. Commands of the touch ports. -/

namespace Sys2Proof.Machine

open Sys2Proof

/-- `SCAN_FRAME_START` (R350): a scan frame starts and takes its settings. -/
def execScanFrameStart (port : Fin 8) (s : State) : Host.Outcome State Fault Refusal :=
  answer s (s.dev.scanStart port)

/-- `SCAN_FRAME_END` (R352): the raw values of the panel; what the direct path of ward records took. -/
def execScanFrameEnd (port : Fin 8) (raw : List Nat) (wardNs : Nat) (s : State) : Host.Outcome State Fault Refusal :=
  answer s (s.dev.scanEnd port raw wardNs)

/-- `SCAN_FRAME_OVERRUN` (R350): the scan frame is discarded. -/
def execScanFrameOverrun (port : Fin 8) (s : State) : Host.Outcome State Fault Refusal :=
  answer s (s.dev.overrun port)

/-- `STROBE_LOSS_TIMEOUT` (R351): the port scans FREE. -/
def execStrobeLossTimeout (port : Fin 8) (s : State) : Host.Outcome State Fault Refusal :=
  answer s (s.dev.strobeLoss port)

/-- `TOUCH_PORT_ENABLE` (R353): a write of `TS_CTRL` with EN set. -/
def execTouchPortEnable (ag : Agent) (port : Fin 8) (v : Word) (s : State) : Host.Outcome State Fault Refusal :=
  answer s (s.dev.put ag (0x580 + 16 * port) 0x040 (withBit v 0))

/-- `TOUCH_PORT_DISABLE` (R353): a write of `TS_CTRL` with EN clear. -/
def execTouchPortDisable (ag : Agent) (port : Fin 8) (v : Word) (s : State) : Host.Outcome State Fault Refusal :=
  answer s (s.dev.put ag (0x580 + 16 * port) 0x040 (withoutBit v 0))

/-- `RECAL` (R353): a write of `TS_CTRL` with RECAL. -/
def execRecal (ag : Agent) (port : Fin 8) (v : Word) (s : State) : Host.Outcome State Fault Refusal :=
  answer s (s.dev.put ag (0x580 + 16 * port) 0x040 (withBit v 1))

/-- `DUMP` (R371): a write of `TS_CTRL` with DUMP. -/
def execDump (ag : Agent) (port : Fin 8) (v : Word) (s : State) : Host.Outcome State Fault Refusal :=
  answer s (s.dev.put ag (0x580 + 16 * port) 0x040 (withBit v 2))

/-- `FORCED_RECALIBRATION` (R356): a contact that has stayed is taken into the baselines. -/
def execForcedRecalibration (port : Fin 8) (id : BitVec 8) (s : State) : Host.Outcome State Fault Refusal :=
  answer s (s.dev.forcedRecal port id.toNat)

/-- `WARD_TOUCH_MAILBOX_READ` (R362): ward firmware takes records out of the port's mailbox. -/
def execWardTouchMailboxRead (port : Fin 8) (n : Nat) (s : State) : Host.Outcome State Fault Refusal :=
  answer s (s.dev.wardTouch port n)

end Sys2Proof.Machine
end

