-- ==== Sys2Proof/Machine/Dispatch.lean ====
section
/-! DEFINITION. One arm for every command: the meaning it has, or its rejection by name. -/

namespace Sys2Proof.Machine

open Sys2Proof

def exec (i : Instr) (s : State) : Host.Outcome State Fault Refusal :=
  match i with
  | .registerWrite ag addr v => Sys2Proof.Machine.execRegisterWrite ag addr v s
  | .ledgerEntryFreed => Sys2Proof.Machine.execLedgerEntryFreed s
  | .ledgerWaitTimeout => Sys2Proof.Machine.execLedgerWaitTimeout s
  | .ledgerDrainEnable v => Sys2Proof.Machine.execLedgerDrainEnable v s
  | .ledgerDrainEntry => Sys2Proof.Machine.execLedgerDrainEntry s
  | .ledgerCkptSigned v => Sys2Proof.Machine.execLedgerCkptSigned v s
  | .ledgerDrainCheckpoint => Sys2Proof.Machine.execLedgerDrainCheckpoint s
  | .commitNow ag page key => Sys2Proof.Machine.execCommitNow ag page key s
  | .commitAtBoundary ag page key => Sys2Proof.Machine.execCommitAtBoundary ag page key s
  | .commitRevert ag page key => Sys2Proof.Machine.execCommitRevert ag page key s
  | .commitRequestDeferredAccept page => Sys2Proof.Machine.execCommitRequestDeferredAccept page s
  | .commitCheckEnd page => Sys2Proof.Machine.execCommitCheckEnd page s
  | .commitBoundary page part => Sys2Proof.Machine.execCommitBoundary page part s
  | .pageLock ag page => Sys2Proof.Machine.execPageLock ag page s
  | .periodArm ag slot v => Sys2Proof.Machine.execPeriodArm ag slot v s
  | .periodDisarm ag slot v => Sys2Proof.Machine.execPeriodDisarm ag slot v s
  | .periodBoundary entry => Sys2Proof.Machine.execPeriodBoundary entry s
  | .periodWorkComplete entry => Sys2Proof.Machine.execPeriodWorkComplete entry s
  | .periodDeadline entry => Sys2Proof.Machine.execPeriodDeadline entry s
  | .bmonClear v => Sys2Proof.Machine.execBmonClear v s
  | .clockDroop cluster droop => Sys2Proof.Machine.execClockDroop cluster droop s
  | .clockSettled cluster => Sys2Proof.Machine.execClockSettled cluster s
  | .crossingAckTimeout page sender => Sys2Proof.Machine.execCrossingAckTimeout page sender s
  | .fabricRequest port path access => Sys2Proof.Machine.execFabricRequest port path access s
  | .responseTimeout port target page => Sys2Proof.Machine.execResponseTimeout port target page s
  | .lateResponse port target => Sys2Proof.Machine.execLateResponse port target s
  | .arbitrationDecision target answered => Sys2Proof.Machine.execArbitrationDecision target answered s
  | .bulkAging port => Sys2Proof.Machine.execBulkAging port s
  | .crossbarTestEnter v => Sys2Proof.Machine.execCrossbarTestEnter v s
  | .crossbarTestLeave v => Sys2Proof.Machine.execCrossbarTestLeave v s
  | .crossbarDrainDone => Sys2Proof.Machine.execCrossbarDrainDone s
  | .slotWheelWrap checkedInTime => Sys2Proof.Machine.execSlotWheelWrap checkedInTime s
  | .dramCommandOpportunity channel => Sys2Proof.Machine.execDramCommandOpportunity channel s
  | .referenceTick => Sys2Proof.Machine.execReferenceTick s
  | .deviceTimeStep v => Sys2Proof.Machine.execDeviceTimeStep v s
  | .pintleResetRelease link => Sys2Proof.Machine.execPintleResetRelease link s
  | .pintleTrainingComplete link latencyNs => Sys2Proof.Machine.execPintleTrainingComplete link latencyNs s
  | .pintleTrainingFail link lanes => Sys2Proof.Machine.execPintleTrainingFail link lanes s
  | .pintleCrcError flit => Sys2Proof.Machine.execPintleCrcError flit s
  | .pintleReplayEnd link good => Sys2Proof.Machine.execPintleReplayEnd link good s
  | .pintleRetrain link v => Sys2Proof.Machine.execPintleRetrain link v s
  | .powerGoodRise selfTest quad => Sys2Proof.Machine.execPowerGoodRise selfTest quad s
  | .hingeTableLock ag key => Sys2Proof.Machine.execHingeTableLock ag key s
  | .watchdogKick => Sys2Proof.Machine.execWatchdogKick s
  | .wardWatchdogExpiry => Sys2Proof.Machine.execWardWatchdogExpiry s
  | .lockstepCompareFail => Sys2Proof.Machine.execLockstepCompareFail s
  | .wardRestartRequest ag key => Sys2Proof.Machine.execWardRestartRequest ag key s
  | .mailboxGo ag channel => Sys2Proof.Machine.execMailboxGo ag channel s
  | .mailboxRequestRead channel => Sys2Proof.Machine.execMailboxRequestRead channel s
  | .mailboxResponse channel number status payload => Sys2Proof.Machine.execMailboxResponse channel number status payload s
  | .mailboxDeadline channel => Sys2Proof.Machine.execMailboxDeadline channel s
  | .doeDiscovery port index => Sys2Proof.Machine.execDoeDiscovery port index s
  | .getVersion port => Sys2Proof.Machine.execGetVersion port s
  | .getCapabilities port => Sys2Proof.Machine.execGetCapabilities port s
  | .negotiateAlgorithms port asym hash dhe aead => Sys2Proof.Machine.execNegotiateAlgorithms port asym hash dhe aead s
  | .getDigests port => Sys2Proof.Machine.execGetDigests port s
  | .getCertificate port slot offset length => Sys2Proof.Machine.execGetCertificate port slot offset length s
  | .challenge port slot summary => Sys2Proof.Machine.execChallenge port slot summary s
  | .getMeasurements port operation sign => Sys2Proof.Machine.execGetMeasurements port operation sign s
  | .keyExchange port slot => Sys2Proof.Machine.execKeyExchange port slot s
  | .finish port session root good => Sys2Proof.Machine.execFinish port session root good s
  | .heartbeat port session => Sys2Proof.Machine.execHeartbeat port session s
  | .keyUpdate port session operation => Sys2Proof.Machine.execKeyUpdate port session operation s
  | .endSession port session => Sys2Proof.Machine.execEndSession port session s
  | .getState via item => Sys2Proof.Machine.execGetState via item s
  | .ledgerExport via checkpoint => Sys2Proof.Machine.execLedgerExport via checkpoint s
  | .showPrompt via request => Sys2Proof.Machine.execShowPrompt via request s
  | .clearPrompt via prompt => Sys2Proof.Machine.execClearPrompt via prompt s
  | .promptState via prompt => Sys2Proof.Machine.execPromptState via prompt s
  | .promptTimeout prompt => Sys2Proof.Machine.execPromptTimeout prompt s
  | .getEntry via prompt => Sys2Proof.Machine.execGetEntry via prompt s
  | .setSafe via head safe => Sys2Proof.Machine.execSetSafe via head safe s
  | .testEmergency via msg seconds => Sys2Proof.Machine.execTestEmergency via msg seconds s
  | .openStage2Fault pilot => Sys2Proof.Machine.execOpenStage2Fault pilot s
  | .hostMemoryRead port vf addr dws => Sys2Proof.Machine.execHostMemoryRead port vf addr dws s
  | .hostMemoryWrite port vf addr data allBytes => Sys2Proof.Machine.execHostMemoryWrite port vf addr data allBytes s
  | .dmaCompletionError port kind cmd => Sys2Proof.Machine.execDmaCompletionError port kind cmd s
  | .dmaCompletionTimeout port cmd => Sys2Proof.Machine.execDmaCompletionTimeout port cmd s
  | .vfEnable port numVfs => Sys2Proof.Machine.execVfEnable port numVfs s
  | .vfDisable port numVfs => Sys2Proof.Machine.execVfDisable port numVfs s
  | .vfFlr v => Sys2Proof.Machine.execVfFlr v s
  | .pfFlr port => Sys2Proof.Machine.execPfFlr port s
  | .portDlDown port => Sys2Proof.Machine.execPortDlDown port s
  | .perstAssert port => Sys2Proof.Machine.execPerstAssert port s
  | .create ag v key => Sys2Proof.Machine.execCreate ag v key s
  | .reset ag v key => Sys2Proof.Machine.execReset ag v key s
  | .remove ag v key => Sys2Proof.Machine.execRemove ag v key s
  | .quiesce ag v key => Sys2Proof.Machine.execQuiesce ag v key s
  | .resume ag v key => Sys2Proof.Machine.execResume ag v key s
  | .createAccept ag key => Sys2Proof.Machine.execCreateAccept ag key s
  | .createRefuse ag key => Sys2Proof.Machine.execCreateRefuse ag key s
  | .createTimeout => Sys2Proof.Machine.execCreateTimeout s
  | .viResetComplete v => Sys2Proof.Machine.execViResetComplete v s
  | .sqDoorbell v ctx tail => Sys2Proof.Machine.execSqDoorbell v ctx tail s
  | .cqDoorbell v ctx head => Sys2Proof.Machine.execCqDoorbell v ctx head s
  | .sqEntryFetch v ctx => Sys2Proof.Machine.execSqEntryFetch v ctx s
  | .commandComplete v ctx gen => Sys2Proof.Machine.execCommandComplete v ctx gen s
  | .contextEnable v ctx value => Sys2Proof.Machine.execContextEnable v ctx value s
  | .contextDisable v ctx value => Sys2Proof.Machine.execContextDisable v ctx value s
  | .contextSwapIn => Sys2Proof.Machine.execContextSwapIn s
  | .sharePeriodStart => Sys2Proof.Machine.execSharePeriodStart s
  | .translationAccess v gen work asp addr write data => Sys2Proof.Machine.execTranslationAccess v gen work asp addr write data s
  | .tableWalkComplete readError => Sys2Proof.Machine.execTableWalkComplete readError s
  | .s2Invalidate ag v value => Sys2Proof.Machine.execS2Invalidate ag v value s
  | .s1Invalidate v value => Sys2Proof.Machine.execS1Invalidate v value s
  | .invalidationComplete v which => Sys2Proof.Machine.execInvalidationComplete v which s
  | .dirtyLogEnable ag v value => Sys2Proof.Machine.execDirtyLogEnable ag v value s
  | .dirtyLogDisable ag v value => Sys2Proof.Machine.execDirtyLogDisable ag v value s
  | .dirtyLogClear ag v value => Sys2Proof.Machine.execDirtyLogClear ag v value s
  | .dramTrainingStart ag => Sys2Proof.Machine.execDramTrainingStart ag s
  | .dramTrainingEnd result => Sys2Proof.Machine.execDramTrainingEnd result s
  | .wckOscillatorRead channel drift delay => Sys2Proof.Machine.execWckOscillatorRead channel drift delay s
  | .dramRequest port path addr len write data => Sys2Proof.Machine.execDramRequest port path addr len write data s
  | .eccWriteBack => Sys2Proof.Machine.execEccWriteBack s
  | .pageHoldExpiry channel bank => Sys2Proof.Machine.execPageHoldExpiry channel bank s
  | .refreshDue channel pair => Sys2Proof.Machine.execRefreshDue channel pair s
  | .mr4Poll rate overLimit => Sys2Proof.Machine.execMr4Poll rate overLimit s
  | .zoneInitComplete zone => Sys2Proof.Machine.execZoneInitComplete zone s
  | .scrubStep => Sys2Proof.Machine.execScrubStep s
  | .remapCopyComplete entry => Sys2Proof.Machine.execRemapCopyComplete entry s
  | .sramSpareCopyComplete sram entry => Sys2Proof.Machine.execSramSpareCopyComplete sram entry s
  | .readRaw ag key => Sys2Proof.Machine.execReadRaw ag key s
  | .writeDataOnly ag key => Sys2Proof.Machine.execWriteDataOnly ag key s
  | .writeCheckOnly ag key => Sys2Proof.Machine.execWriteCheckOnly ag key s
  | .writeBoth ag key => Sys2Proof.Machine.execWriteBoth ag key s
  | .nop v ctx => Sys2Proof.Machine.execNop v ctx s
  | .render v ctx => Sys2Proof.Machine.execRender v ctx s
  | .compute v ctx => Sys2Proof.Machine.execCompute v ctx s
  | .wait v ctx => Sys2Proof.Machine.execWait v ctx s
  | .signal v ctx => Sys2Proof.Machine.execSignal v ctx s
  | .residencySync v ctx => Sys2Proof.Machine.execResidencySync v ctx s
  | .periodicJobInsert entry => Sys2Proof.Machine.execPeriodicJobInsert entry s
  | .workItemDispatch cluster => Sys2Proof.Machine.execWorkItemDispatch cluster s
  | .workItemEnd cluster result => Sys2Proof.Machine.execWorkItemEnd cluster result s
  | .itemAbort cluster => Sys2Proof.Machine.execItemAbort cluster s
  | .jobDeadline v ctx => Sys2Proof.Machine.execJobDeadline v ctx s
  | .fncSignalWrite ag page index v => Sys2Proof.Machine.execFncSignalWrite ag page index v s
  | .fenceTimeout page index => Sys2Proof.Machine.execFenceTimeout page index s
  | .waitTimeout v ctx => Sys2Proof.Machine.execWaitTimeout v ctx s
  | .renderQuadDrained quad => Sys2Proof.Machine.execRenderQuadDrained quad s
  | .coefWrite ag page pipe v => Sys2Proof.Machine.execCoefWrite ag page pipe v s
  | .layerHoldSet ag head v => Sys2Proof.Machine.execLayerHoldSet ag head v s
  | .layerHoldClear ag head v => Sys2Proof.Machine.execLayerHoldClear ag head v s
  | .flipGo ag page pipe v => Sys2Proof.Machine.execFlipGo ag page pipe v s
  | .flipWalkEnd pipe => Sys2Proof.Machine.execFlipWalkEnd pipe s
  | .layerBoundary head lateSets lateFlips => Sys2Proof.Machine.execLayerBoundary head lateSets lateFlips s
  | .strikeBoundary head strikeInTime crcInTime => Sys2Proof.Machine.execStrikeBoundary head strikeInTime crcInTime s
  | .bandFetchStart pipe band => Sys2Proof.Machine.execBandFetchStart pipe band s
  | .bandFetchDeadline head band incomplete => Sys2Proof.Machine.execBandFetchDeadline head band incomplete s
  | .bandComposeEnd head band mismatch => Sys2Proof.Machine.execBandComposeEnd head band mismatch s
  | .warpTouchDelta touch pipe => Sys2Proof.Machine.execWarpTouchDelta touch pipe s
  | .emergencyShow ag msg => Sys2Proof.Machine.execEmergencyShow ag msg s
  | .emergencyRemove ag msg => Sys2Proof.Machine.execEmergencyRemove ag msg s
  | .scInject ag head => Sys2Proof.Machine.execScInject ag head s
  | .headEnable ag head v => Sys2Proof.Machine.execHeadEnable ag head v s
  | .headDisable ag head v => Sys2Proof.Machine.execHeadDisable ag head v s
  | .headPllLock head => Sys2Proof.Machine.execHeadPllLock head s
  | .headEndOfActive head checkedInTime => Sys2Proof.Machine.execHeadEndOfActive head checkedInTime s
  | .retimingComplete head => Sys2Proof.Machine.execRetimingComplete head s
  | .frameStart head => Sys2Proof.Machine.execFrameStart head s
  | .stoppedFrameStrobe head => Sys2Proof.Machine.execStoppedFrameStrobe head s
  | .hdFrameRead ag head => Sys2Proof.Machine.execHdFrameRead ag head s
  | .hdFliptRead ag head => Sys2Proof.Machine.execHdFliptRead ag head s
  | .crcRectangleFinal head rect observed => Sys2Proof.Machine.execCrcRectangleFinal head rect observed s
  | .crcRelease ag head v => Sys2Proof.Machine.execCrcRelease ag head v s
  | .plug head sink => Sys2Proof.Machine.execPlug head sink s
  | .unplug head => Sys2Proof.Machine.execUnplug head s
  | .irqHpd head statusGood => Sys2Proof.Machine.execIrqHpd head statusGood s
  | .dpRetrain ag head v => Sys2Proof.Machine.execDpRetrain ag head v s
  | .dpTrainingAttemptEnd head outcome ms => Sys2Proof.Machine.execDpTrainingAttemptEnd head outcome ms s
  | .auxGo ag head v => Sys2Proof.Machine.execAuxGo ag head v s
  | .auxTransactionEnd head outcome => Sys2Proof.Machine.execAuxTransactionEnd head outcome s
  | .backlightDelayExpiry head => Sys2Proof.Machine.execBacklightDelayExpiry head s
  | .scanFrameStart port => Sys2Proof.Machine.execScanFrameStart port s
  | .scanFrameEnd port raw wardNs => Sys2Proof.Machine.execScanFrameEnd port raw wardNs s
  | .scanFrameOverrun port => Sys2Proof.Machine.execScanFrameOverrun port s
  | .strobeLossTimeout port => Sys2Proof.Machine.execStrobeLossTimeout port s
  | .touchPortEnable ag port v => Sys2Proof.Machine.execTouchPortEnable ag port v s
  | .touchPortDisable ag port v => Sys2Proof.Machine.execTouchPortDisable ag port v s
  | .recal ag port v => Sys2Proof.Machine.execRecal ag port v s
  | .dump ag port v => Sys2Proof.Machine.execDump ag port v s
  | .forcedRecalibration port id => Sys2Proof.Machine.execForcedRecalibration port id s
  | .hapticTrigger channel src => Sys2Proof.Machine.execHapticTrigger channel src s
  | .hapticBoltTrigger src => Sys2Proof.Machine.execHapticBoltTrigger src s
  | .hapticStop channel src => Sys2Proof.Machine.execHapticStop channel src s
  | .hapticSampleTick channel emf vhapMv => Sys2Proof.Machine.execHapticSampleTick channel emf vhapMv s
  | .brakeEnd channel => Sys2Proof.Machine.execBrakeEnd channel s
  | .coilCheckRequest ag page channel v => Sys2Proof.Machine.execCoilCheckRequest ag page channel v s
  | .coilCheckEnd channel mohm => Sys2Proof.Machine.execCoilCheckEnd channel mohm s
  | .actuatorFaultClear ag page channel v => Sys2Proof.Machine.execActuatorFaultClear ag page channel v s
  | .actuatorOvercurrent channel => Sys2Proof.Machine.execActuatorOvercurrent channel s
  | .actuatorMissing channel => Sys2Proof.Machine.execActuatorMissing channel s
  | .stallRecoveryTimeout channel => Sys2Proof.Machine.execStallRecoveryTimeout channel s
  | .bridgeOvertemp unit => Sys2Proof.Machine.execBridgeOvertemp unit s
  | .bridgeTempRecovered unit => Sys2Proof.Machine.execBridgeTempRecovered unit s
  | .vhapOutOfRange mv => Sys2Proof.Machine.execVhapOutOfRange mv s
  | .vhapRecovered mv => Sys2Proof.Machine.execVhapRecovered mv s
  | .effectLoadGo ag page channel v => Sys2Proof.Machine.execEffectLoadGo ag page channel v s
  | .effectLoadEnd who readError => Sys2Proof.Machine.execEffectLoadEnd who readError s
  | .audioSampleTick delayNs => Sys2Proof.Machine.execAudioSampleTick delayNs s
  | .audioBlockBoundary => Sys2Proof.Machine.execAudioBlockBoundary s
  | .gainStepTimeout gain => Sys2Proof.Machine.execGainStepTimeout gain s
  | .streamPointerWrite src stream word => Sys2Proof.Machine.execStreamPointerWrite src stream word s
  | .streamEnable ag page stream v => Sys2Proof.Machine.execStreamEnable ag page stream v s
  | .streamDisable ag page stream v => Sys2Proof.Machine.execStreamDisable ag page stream v s
  | .tumblerLoadGo ag v => Sys2Proof.Machine.execTumblerLoadGo ag v s
  | .tumblerLoadEnd readError => Sys2Proof.Machine.execTumblerLoadEnd readError s
  | .swap ag v => Sys2Proof.Machine.execSwap ag v s
  | .crossfadeEnd => Sys2Proof.Machine.execCrossfadeEnd s
  | .sinkSourceWrite ag sink channel v => Sys2Proof.Machine.execSinkSourceWrite ag sink channel v s
  | .routeRampSwitch sink channel => Sys2Proof.Machine.execRouteRampSwitch sink channel s
  | .routeRampEnd sink channel => Sys2Proof.Machine.execRouteRampEnd sink channel s
  | .toneTrigger src => Sys2Proof.Machine.execToneTrigger src s
  | .toneLoadGo ag v => Sys2Proof.Machine.execToneLoadGo ag v s
  | .toneLoadEnd readError => Sys2Proof.Machine.execToneLoadEnd readError s
  | .speakerEnable ag speaker v => Sys2Proof.Machine.execSpeakerEnable ag speaker v s
  | .speakerDisable ag speaker v => Sys2Proof.Machine.execSpeakerDisable ag speaker v s
  | .speakerRampEnd speaker => Sys2Proof.Machine.execSpeakerRampEnd speaker s
  | .speakerOvercurrent speaker => Sys2Proof.Machine.execSpeakerOvercurrent speaker s
  | .speakerDcFault speaker => Sys2Proof.Machine.execSpeakerDcFault speaker s
  | .speakerFaultClear ag speaker v => Sys2Proof.Machine.execSpeakerFaultClear ag speaker v s
  | .interruptLevelChange source => Sys2Proof.Machine.execInterruptLevelChange source s
  | .interruptDecision => Sys2Proof.Machine.execInterruptDecision s
  | .interruptClaim ag page => Sys2Proof.Machine.execInterruptClaim ag page s
  | .interruptComplete ag page bits => Sys2Proof.Machine.execInterruptComplete ag page bits s
  | .msixUnmask ag addr v => Sys2Proof.Machine.execMsixUnmask ag addr v s
  | .orphan source => Sys2Proof.Machine.execOrphan source s
  | .checkValueStream ag engine => Sys2Proof.Machine.execCheckValueStream ag engine s
  | .checkValueMessages ag engine => Sys2Proof.Machine.execCheckValueMessages ag engine s
  | .checkValueRunEnd engine readErrorAt => Sys2Proof.Machine.execCheckValueRunEnd engine readErrorAt s
  | .powerChangeStart => Sys2Proof.Machine.execPowerChangeStart s
  | .pmbusTransactionEnd outcome => Sys2Proof.Machine.execPmbusTransactionEnd outcome s
  | .pmbusTimeout => Sys2Proof.Machine.execPmbusTimeout s
  | .regulatorAck rail => Sys2Proof.Machine.execRegulatorAck rail s
  | .regulatorAckTimeout => Sys2Proof.Machine.execRegulatorAckTimeout s
  | .pmWardReq ag target => Sys2Proof.Machine.execPmWardReq ag target s
  | .regionPowerOff ag region v => Sys2Proof.Machine.execRegionPowerOff ag region v s
  | .regionClockStop ag region v => Sys2Proof.Machine.execRegionClockStop ag region v s
  | .clusterResetHold ag region v => Sys2Proof.Machine.execClusterResetHold ag region v s
  | .thermalLimit celsius => Sys2Proof.Machine.execThermalLimit celsius s
  | .thermalClear celsius => Sys2Proof.Machine.execThermalClear celsius s
  | .sleepLedgerTimeout => Sys2Proof.Machine.execSleepLedgerTimeout s
  | .wakeEvent source => Sys2Proof.Machine.execWakeEvent source s
  | .i2cWakeMatch addr => Sys2Proof.Machine.execI2cWakeMatch addr s
  | .rtcAlarm => Sys2Proof.Machine.execRtcAlarm s
  | .hingePowerUp => Sys2Proof.Machine.execHingePowerUp s
  | .hingePowerLoss => Sys2Proof.Machine.execHingePowerLoss s
  | .ringPortSeek port => Sys2Proof.Machine.execRingPortSeek port s
  | .ringPortUp port => Sys2Proof.Machine.execRingPortUp port s
  | .ringPortDown port codeErrors => Sys2Proof.Machine.execRingPortDown port codeErrors s
  | .ringFrameForward port bytes sinceNs residNs => Sys2Proof.Machine.execRingFrameForward port bytes sinceNs residNs s
  | .beacon => Sys2Proof.Machine.execBeacon s
  | .time => Sys2Proof.Machine.execTime s
  | .linkDelay => Sys2Proof.Machine.execLinkDelay s
  | .emergency => Sys2Proof.Machine.execEmergency s
  | .emergencyClear => Sys2Proof.Machine.execEmergencyClear s
  | .alert => Sys2Proof.Machine.execAlert s
  | .service => Sys2Proof.Machine.execService s
  | .beaconSend => Sys2Proof.Machine.execBeaconSend s
  | .timeSend => Sys2Proof.Machine.execTimeSend s
  | .linkDelaySend port => Sys2Proof.Machine.execLinkDelaySend port s
  | .timeSyncTimeout => Sys2Proof.Machine.execTimeSyncTimeout s
  | .bypassHoldSet ag v => Sys2Proof.Machine.execBypassHoldSet ag v s
  | .bypassHoldRelease ag v => Sys2Proof.Machine.execBypassHoldRelease ag v s
  | .ringTxGo ag v => Sys2Proof.Machine.execRingTxGo ag v s
  | .ringRxPop ag v => Sys2Proof.Machine.execRingRxPop ag v s
  | .faultRecoveryEnd seq => Sys2Proof.Machine.execFaultRecoveryEnd seq s
  | .recoveryTimeout seq => Sys2Proof.Machine.execRecoveryTimeout seq s
  | .junctionOvertemp die celsius => Sys2Proof.Machine.execJunctionOvertemp die celsius s
  | .thermalResetRelease core port drive => Sys2Proof.Machine.execThermalResetRelease core port drive s
  | .faultLogPop ag => Sys2Proof.Machine.execFaultLogPop ag s
  | .faultInject ag page key => Sys2Proof.Machine.execFaultInject ag page key s
  | .loopbackGo ag key => Sys2Proof.Machine.execLoopbackGo ag key s
  | .loopbackAbort ag => Sys2Proof.Machine.execLoopbackAbort ag s
  | .loopbackEnd locked errors lane done value index => Sys2Proof.Machine.execLoopbackEnd locked errors lane done value index s
  | .powerGoodFall => Sys2Proof.Machine.execPowerGoodFall s
  | .configurationRequest port vf op => Sys2Proof.Machine.execConfigurationRequest port vf op s
  | .portDlUp port speed width => Sys2Proof.Machine.execPortDlUp port speed width s
  | .wardTouchMailboxRead port n => Sys2Proof.Machine.execWardTouchMailboxRead port n s
  | .ringFrameSent port => Sys2Proof.Machine.execRingFrameSent port s
  | .faultWindowEnd => Sys2Proof.Machine.execFaultWindowEnd s
  | .rtcCrystalStop => Sys2Proof.Machine.execRtcCrystalStop s
  | .rtcCrystalStart => Sys2Proof.Machine.execRtcCrystalStart s
  | .unsupportedSpdmRequest port code => Sys2Proof.Machine.execUnsupportedSpdmRequest port code s

end Sys2Proof.Machine
end

