-- ==== Sys2Proof/Machine/Step.lean ====
section
/-! DEFINITION. The step: the command that waits at the front of the queue, run with the queue's rest. -/

namespace Sys2Proof.Machine

open Sys2Proof

/-- The block takes the command at the front of its queue; with none it idles, and nothing changes. Device time advances
by the command `REFERENCE_TICK` alone. -/
def step (s : State) : Host.Outcome State Fault Refusal :=
  match s.pending with
  | [] => .next s
  | c :: rest => exec c { s with pending := rest }

/-- The state with the command that a word spells in front of its queue. No row of the table gives bits to its command, so
no word spells one. -/
def State.withFetchWord (s : State) (nbits w : Nat) : State :=
  match decodeTableWord nbits w with
  | some c => { s with pending := c :: s.pending }
  | none => s

end Sys2Proof.Machine
end

