-- ==== Sys2Proof/Safety.lean ====
section
/-! DEFINITION. The terms that statements about the machine use: a command that completes, a register write that is
accepted, and what the registers that only show other state show. -/

namespace Sys2Proof.Machine

open Sys2Proof

/-- The command completes in the device `d`: `exec` answers a next state whose device is `d` with all that follows from it
in the same step (`settle`), and whose queue is untouched. -/
def Completes (i : Instr) (s : State) (d : Dev) : Prop := exec i s = .next { s with dev := d.settle }

/-- A write reaches its page as it is sent (R44, R47, R82, R114): the agent's unit is not stopped, no earlier write of its
origin waits, the page's unit is not isolated, and no link on the way holds it. -/
def Dev.sends (d : Dev) (ag : Agent) (pid off : Nat) : Bool :=
  !d.isolated (d.agentUnit ag) && !d.held.any (fun h => h.rd.isNone && sameOrigin h.ag ag) &&
  !(d.implemented pid && d.isolated (d.place pid off).1) && !d.linkHolds (d.place pid off).1

/-- A write is carried out as it is sent (R44): it reaches its page, steps 1 to 5 of R44 let it pass, and the ledger has
an entry for its record. -/
def Dev.takes (d : Dev) (ag : Agent) (pid off v : Nat) : Bool :=
  d.sends ag pid off &&
  match d.fate ag pid off v with
  | .accepted ch _ _ => !(ch && recorded pid off && !d.led.room 1)
  | _ => false

/-- The device after the register part of an accepted write: fields, `PAGE_CHG`, `PAGE_LASTW` and the record, before what
the write starts. -/
def Dev.written (d : Dev) (ag : Agent) (pid off v : Nat) : Dev :=
  match d.fate ag pid off v with
  | .accepted ch acts sh => d.writtenBy ag pid off v ch acts sh
  | _ => d

/-- `takes` and `written` for a page as the agent names it: a page index, or a page of its own window. -/
def Dev.accepts (d : Dev) (ag : Agent) (page off v : Nat) : Bool := d.takes ag (agentPageNo ag page) off v
def Dev.after (d : Dev) (ag : Agent) (page off v : Nat) : Dev := d.written ag (agentPageNo ag page) off v

/-- A commit request is accepted as it is sent (R44, R47, R53): it passes as a write does, no check of the page runs, and the
ledger has the two entries that it takes. -/
def Dev.asks (d : Dev) (ag : Agent) (page v : Nat) : Bool :=
  d.sends ag (agentPageNo ag page) 0x020 &&
  d.fate ag (agentPageNo ag page) 0x020 v == .commit && (d.ctl (agentPageNo ag page)).busy.isNone &&
  (!ledgered (agentPageNo ag page) || d.led.room 2)

/-- The page accepts a set in the cycle that checks it: strike, CRC and touch region pages. -/
def checksAtOnce (pid : Nat) : Bool :=
  match kindOf pid with
  | some (.crc, _) | some (.strike, _) | some (.touchRegions, _) => true
  | _ => false

/-- The period entry behind a slot that an agent names (R26): a VI's through its bank, else the device's. -/
def Dev.entryOf (d : Dev) (ag : Agent) (slot : Nat) : Nat :=
  match ag with
  | .vi v => d.perFirst v + 64 * d.r (viPage v 6) F.PV_BANK_BANK + slot
  | _ => slot

/-- Ward firmware hears the DOE mailbox of a port: it runs, and the port's SPDM is enabled (R124, R136, R141). -/
def Dev.hears (d : Dev) (port : Nat) : Bool := d.bootStage == 3 && d.spdmOn port

/-- The device once the request in a port's DOE mailbox has been taken. -/
def Dev.heard (d : Dev) (port : Nat) : Dev := { d with doeWaiting := d.doeWaiting.filter (fun x => !(x == port)) }

/-- A session of a port is open, and the port grants it a group of services (R138, R150). -/
def Dev.grantsTo (d : Dev) (port session group : Nat) : Bool :=
  d.hears port &&
  match d.session? port session with
  | some s => d.grants port group && (decide (group ≤ 1) || s.mutual_)
  | none => false

/-- An SPDM request of a port is answered by `f` once the connection has reached a phase (R124, R136, R154): one that the
ward world does not hear changes nothing, one during a ward restart is answered BUSY, one that comes too early
UNEXPECTED_REQUEST. -/
def AnswersSpdm (c : Instr) (p phase : Nat) (f : Dev → Dev) : Prop :=
  ∀ s : State,
    (s.dev.hears p = false → Completes c s s.dev) ∧
    (s.dev.hears p = true → s.dev.wardRestarting = true → Completes c s ((s.dev.heard p).spdmError p 3)) ∧
    (s.dev.hears p = true → s.dev.wardRestarting = false → (s.dev.spdmOf p).phase < phase →
      Completes c s ((s.dev.heard p).spdmError p 4)) ∧
    (s.dev.hears p = true → s.dev.wardRestarting = false → phase ≤ (s.dev.spdmOf p).phase → Completes c s (f (s.dev.heard p)))

/-- A secured message of a session is answered by `f`, and by DECRYPT_ERROR where no such session is open (R136, R154). -/
def AnswersSecured (c : Instr) (p session : Nat) (f : Dev → Dev) : Prop :=
  ∀ s : State,
    (s.dev.hears p = false → Completes c s s.dev) ∧
    (s.dev.hears p = true → s.dev.session? p session = none → Completes c s ((s.dev.heard p).spdmError p 6)) ∧
    (s.dev.hears p = true → (s.dev.session? p session).isSome = true → Completes c s (f (s.dev.heard p)))

/-- A service of a group below 16 is served by `f`. As a mailbox request: where it is the request in WAIT and its SVC is
of this group, by `f` for the groups 0 and 1 and else by DENIED; it is a late answer where no such request waits. In a
session: a malformed record is answered BAD_REQUEST, and a group that the port does not grant, or above 1 without the
port's root, DENIED (R138, R148 to R150). -/
def ServedBy (c : Via → Instr) (svc : Nat) (f : Via → Dev → Dev) : Prop :=
  (∀ (s : State) (ch : Fin 5) (n : Nat),
    (¬(s.dev.mbState ch = 1 ∧ (s.dev.mbox? ch).count = n) → Completes (c (.mailbox ch n)) s (s.dev.mbRespond ch n 0 [])) ∧
    (s.dev.mbState ch = 1 → (s.dev.mbox? ch).count = n → svcGroup (le (s.dev.mbReq ch) 0 2) ≠ svcGroup svc →
      Completes (c (.mailbox ch n)) s s.dev) ∧
    (s.dev.mbState ch = 1 → (s.dev.mbox? ch).count = n → svcGroup (le (s.dev.mbReq ch) 0 2) = svcGroup svc →
      Completes (c (.mailbox ch n)) s
        (if svcGroup svc ≤ 1 then f (.mailbox ch n) s.dev else s.dev.mbRespond ch n 3 []))) ∧
  (∀ (p : Fin 4) (id : BitVec 32) (tag len : BitVec 16) (deadline : Word),
    AnswersSecured (c (.session p id tag deadline len)) p id.toNat (fun d =>
      let via := Via.session p id tag deadline len
      if recordFormed deadline.toNat len.toNat = false then d.answerVia via svc 4 []
      else if d.grantsTo p id.toNat (svcGroup svc) = true then f via d
      else d.answerVia via svc 3 []))

/-- The prompt of a requester's own session by its handle. -/
def Dev.promptOf (d : Dev) (via : Via) (handle : Nat) : Option Prompt :=
  match via with
  | .mailbox _ _ => none
  | .session p id _ _ _ => d.prompts.find? (fun q => q.handle == handle && q.port == p.val && q.session == id.toNat)

/-- `FT_STAT.HIGHEST` is the highest level of an open fault, cut to the field. -/
def Dev.showsHighest (d : Dev) : Prop := d.r ftPid F.FT_STAT_HIGHEST = highest d.flt.faults % 2 ^ F.FT_STAT_HIGHEST.w

/-- `XB_ISO` has a bit for every port that is isolated, and no other. -/
def Dev.showsIsolation (d : Dev) : Prop := d.r xbPid F.XB_ISO_ISO = d.isoMask % 2 ^ F.XB_ISO_ISO.w

/-- The registers that only show other state show it; `XB_ISO` holds its reset value while the dies are held in reset. -/
def ShowsState (s : State) : Prop :=
  s.dev.showsHighest ∧ (s.dev.showsIsolation ∨ (s.dev.boot.down = true ∧ s.dev.r xbPid F.XB_ISO_ISO = 0))

/-- Nothing follows from a command that ends in this device: no fault waits for containment, no restart, sleep change,
prompt, emergency test or loop-back test goes on, no waiter is satisfied, no access that waits is ready, no CREATE waits,
no head cuts a scan frame short, and the outputs that follow other state agree with it. -/
def Dev.calm (d : Dev) : Bool :=
  d.flt.due.isEmpty && d.boot.restart.isNone && d.boot.due == 0 && d.rend.waiters.all (fun w => w.got.isNone) &&
  (upFrom 0 8).all (fun h => !(d.head h).blen || d.blenMay h) &&
  (upFrom 0 8).all (fun t => !d.on (tsPid t) F.TS_STAT_SYNCED || d.windows t) &&
  (upFrom 0 8).all (fun t => !(d.touch t).scanning) &&
  !d.lbBusy && d.wakes.isEmpty && d.pm.woken.isNone && d.pm.run.isNone && d.pm.wardPend.isNone && !d.pm.thermPend &&
  (d.firstReady [] d.held).isNone && d.prompts.isEmpty && d.emgTest.isNone && d.hst.creates.isEmpty &&
  (upFrom 0 25).all (fun p => !bit d.isoMask p || bit (d.r xbPid F.XB_ISO_ISO) p)

/-- A store at DRAM address `a` stores to the cell that address `b` reads: `a` names it, or it mirrors the store while a
remap entry copies its row (R227, R228). -/
def Dev.reaches (d : Dev) (a b : Nat) : Bool := d.cellAt b == d.cellAt a || d.mirrorAt a == some (d.cellAt b)

/-- The memories are in their canonical form. -/
def Dev.memsOk (d : Dev) : Bool :=
  d.mems.dramOk && memOk d.mems.strike && memOk d.mems.ward && memOk d.mems.flash && memOk d.mems.host && memOk d.hinge

end Sys2Proof.Machine
end

