-- ==== Sys2Proof/Certificates/Slice0/Obligations.lean ====
section
/-! DEFINITION. The statements for the provers. `Completes i s d` says that `exec i s` answers a next state whose device is `d`
with what follows from it in the same step; where nothing follows (`Dev.calm`), `CalmDeviceSettles` says which device that is. -/

open Sys2Proof Sys2Proof.Machine

/-! ### The machine as a whole -/

/-- A step takes the command at the front of the queue and is `exec` of it with the queue's rest; an empty queue idles.
Where it rests on a choice or a reading of the model, not on a rule: log entry 1. -/
def Obligations.StepRunsTheFrontCommand : Prop :=
  (∀ (c : Instr) (l : List Instr) (s : State), step { s with pending := c :: l } = exec c { s with pending := l }) ∧
  (∀ s : State, step { s with pending := [] } = .next { s with pending := [] })

/-- Every command answers a next state, and it leaves the queue to the step.
Where it rests on a choice or a reading of the model, not on a rule: log entries 1 and 5. -/
def Obligations.CommandsKeepTheQueue : Prop :=
  ∀ (c : Instr) (s : State), ∃ d : Dev, exec c s = .next { s with dev := d }

/-- After reset every register field, shadow and active, reads the reset value of its register table, no commit waits, the
ledger and the memories list nothing, no fault is open, every VI is OFF and no command waits. At reset the registers that
only show other state show it.
Where it rests on a choice or a reading of the model, not on a rule: log entries 8 and 9. -/
def Obligations.ResetState : Prop :=
  (∀ (p : Nat) (f : FD) (i : Nat), State.reset.dev.r p f i = f.rstAt i ∧ State.reset.dev.a p f i = f.rstAt i) ∧
  (∀ p : Nat, (State.reset.dev.ctl p).busy = none ∧ (State.reset.dev.ctl p).pend = none) ∧
  State.reset.dev.led.store = [] ∧ State.reset.dev.flt.faults = [] ∧ (∀ a : Nat, State.reset.dev.dramRd a = 0) ∧
  State.reset.dev.memsOk = true ∧ (∀ v : Nat, State.reset.dev.viState v = 0) ∧ State.reset.dev.locked = false ∧
  State.reset.pending = [] ∧
  ShowsState State.reset

/-- After every step `FT_STAT.HIGHEST` is the highest level of an open fault (R493) and `XB_ISO` has the bits of the
isolated ports (R105), whatever the command did; the step keeps this from any state that has it, and a command brings it
about from any state at all.
Where it rests on a choice or a reading of the model, not on a rule: log entry 80. -/
def Obligations.EveryStepShowsState : Prop :=
  (∀ s t : State, ShowsState s → step s = .next t → ShowsState t) ∧
  (∀ (c : Instr) (s t : State), exec c s = .next t → t.dev.showsHighest ∧ t.dev.showsIsolation)

/-- Where nothing follows from a command, its device is the one its own effect leaves, with the two registers that show
other state brought up to date; those two are the only fields that this changes.
Where it rests on a choice or a reading of the model, not on a rule: log entry 80. -/
def Obligations.CalmDeviceSettles : Prop :=
  ∀ d : Dev, d.calm = true →
    d.settle = (d.w ftPid F.FT_STAT_HIGHEST (highest d.flt.faults)).w xbPid F.XB_ISO_ISO
      (d.w ftPid F.FT_STAT_HIGHEST (highest d.flt.faults)).isoMask ∧
    (∀ (p : Nat) (f : FD) (i : Nat), fieldKey p f i ≠ fieldKey ftPid F.FT_STAT_HIGHEST 0 →
      fieldKey p f i ≠ fieldKey xbPid F.XB_ISO_ISO 0 → d.settle.r p f i = d.r p f i)

/-! ### Local laws of registers and memories -/

/-- A field that is set reads the value, cut to its width; a field with another bit address, and every active value, memory and
commit state, is untouched. -/
def Obligations.FieldReadAfterWrite : Prop :=
  ∀ (d : Dev) (p q : Nat) (f g : FD) (v i j : Nat),
    (d.w p f v i).r p f i = v % 2 ^ f.w ∧
    (fieldKey q g j ≠ fieldKey p f i → (d.w p f v i).r q g j = d.r q g j) ∧
    (d.w p f v i).a q g j = d.a q g j ∧ (d.w p f v i).mems = d.mems ∧ (d.w p f v i).pages = d.pages ∧
    (d.wa p f v i).a p f i = v % 2 ^ f.w ∧ (d.wa p f v i).r q g j = d.r q g j

/-- A byte stored in DRAM reads back where it was stored; every byte that the store does not reach is unchanged; and the
list stays in its canonical form. A run of bytes in host memory: what lies outside it is unchanged, and the canonical form
is kept.
Where it rests on a choice or a reading of the model, not on a rule: log entry 9. -/
def Obligations.BytesAfterStore : Prop :=
  (∀ (d : Dev) (a b v : Nat),
    (d.dramWr a v).dramRd a = v % 256 ∧
    (d.reaches a b = false → (d.dramWr a v).dramRd b = d.dramRd b) ∧
    (d.mems.dramOk = true → (d.dramWr a v).mems.dramOk = true)) ∧
  (∀ (d : Dev) (port a : Nat) (bs : List Nat), a + bs.length ≤ 2 ^ 64 →
    (∀ q b : Nat, b < 2 ^ 64 → (q ≠ port ∨ b < a ∨ a + bs.length ≤ b) →
      memRd (d.hostWrN port a bs).mems.host (hostKey q b) = memRd d.mems.host (hostKey q b)) ∧
    (memOk d.mems.host = true → memOk (d.hostWrN port a bs).mems.host = true))

/-- The store through the memory controller, which every store of the device into DRAM goes through (the ledger ring, fences and
completions, copies, touch dumps): a store that receives an error response changes no memory; another changes only the bytes
stored, and in an ON zone the rest of the words they lie in and those words' check bytes. A read changes no byte. -/
def Obligations.DramStoresKeepOtherBytes : Prop :=
  ∀ (d : Dev) (own a : Nat) (bs : List Nat),
    ((d.mcWrite own a bs).2 = false → (d.mcWrite own a bs).1.mems = d.mems) ∧
    (∀ b : Nat, (∀ x ∈ wordsOf a bs.length, d.zoneAt 2 x = none) → (∀ i, i < bs.length → d.reaches (a + i) b = false) →
      (d.mcWrite own a bs).1.dramRd b = d.dramRd b) ∧
    (∀ b : Nat, (∀ x ∈ wordsOf a bs.length, (∀ i, i < 8 → d.reaches (x + i) b = false) ∧
        ∀ z, d.zoneAt 2 x = some z → d.reaches (d.checkAddr z x) b = false) →
      (d.mcWrite own a bs).1.dramRd b = d.dramRd b) ∧
    (d.mems.dramOk = true → (d.mcWrite own a bs).1.mems.dramOk = true) ∧
    (d.mcWrite own a bs).1.mems.host = d.mems.host ∧ (d.mcWrite own a bs).1.mems.ward = d.mems.ward ∧
    (∀ n : Nat, (d.mcRead own a n).1.mems = d.mems)

/-- R209 whole: the channel and the channel address of a DRAM address for the grain and HASH of `MC_CFG`. It loses no address: a
DRAM address is found again from its channel and its channel address, and every channel with every channel address is met. -/
def Obligations.DramDecodeIsABijection : Prop :=
  ∀ d : Dev,
    (∀ a : Nat, let g := d.r mcPid F.MC_CFG_GRAIN
      8 ≤ g → g ≤ 14 → d.chanOf a = (if d.on mcPid F.MC_CFG_HASH then (a >>> g &&& 7) ^^^ (a >>> (g + 3) &&& 7) else a >>> g &&& 7) ∧
      d.localOf a = ((a >>> (g + 3)) <<< g ||| (a &&& (2 ^ g - 1)))) ∧
    (∀ a : Nat, d.addrAt (d.chanOf a) (d.localOf a) = a) ∧
    (∀ chan loc : Nat, chan < 8 → d.chanOf (d.addrAt chan loc) = chan ∧ d.localOf (d.addrAt chan loc) = loc)

/-- R221 whole: what each syndrome says; every single-bit error of the 72 stored bits is corrected, every double-bit error is
detected, and a word read at an address that differs in one or two of bits 34 to 3 is uncorrectable. -/
def Obligations.SyndromeDecoding : Prop :=
  decodeSyndrome 0 = .clean ∧
  (∀ i : Nat, i < 64 → decodeSyndrome (dataColumns.getD i 0) = .dataBit i) ∧
  (∀ s : Nat, s < 256 → weight8 s = 1 → decodeSyndrome s = .checkBit) ∧
  (∀ s : Nat, s ≠ 0 → weight8 s ≠ 1 → dataColumns.contains s = false → decodeSyndrome s = .bad) ∧
  ∀ w a : Nat, w < 2 ^ 64 →
    (∀ i, i < 64 → decodeSyndrome (checkByte w a ^^^ checkByte (w ^^^ 2 ^ i) a) = .dataBit i) ∧
    (∀ k, k < 8 → decodeSyndrome ((checkByte w a ^^^ 2 ^ k) ^^^ checkByte w a) = .checkBit) ∧
    (∀ i j, i < 64 → j < 64 → i ≠ j → decodeSyndrome (checkByte w a ^^^ checkByte (w ^^^ 2 ^ i ^^^ 2 ^ j) a) = .bad) ∧
    (∀ i k, i < 64 → k < 8 → decodeSyndrome ((checkByte w a ^^^ 2 ^ k) ^^^ checkByte (w ^^^ 2 ^ i) a) = .bad) ∧
    (∀ k l, k < 8 → l < 8 → k ≠ l → decodeSyndrome ((checkByte w a ^^^ 2 ^ k ^^^ 2 ^ l) ^^^ checkByte w a) = .bad) ∧
    (∀ k, 3 ≤ k → k < 35 → decodeSyndrome (checkByte w (a ^^^ 2 ^ k) ^^^ checkByte w a) = .bad) ∧
    (∀ k l, 3 ≤ k → k < 35 → 3 ≤ l → l < 35 → k ≠ l →
      decodeSyndrome (checkByte w (a ^^^ 2 ^ k ^^^ 2 ^ l) ^^^ checkByte w a) = .bad)

/-- A read of a word of an ON zone whose store has one wrong data bit gives the word that was written, counts it in `EZ_STAT` of
the zone and raises CE; one with two wrong data bits is bad, is logged as a UE and gives no data (R221 to R224). -/
def Obligations.EccReadCorrects : Prop :=
  ∀ (d : Dev) (z a source w : Nat) (wb : Bool), w < 2 ^ 64 → d.storedCheck z a = checkByte w a →
    (∀ i, i < 64 → d.storedWord a = w ^^^ 2 ^ i →
      (d.eccRead z a source wb).2 = (w, true) ∧
      (d.eccRead z a source wb).1.r ezPid F.EZ_STAT_CE z = sat (2 ^ F.EZ_STAT_CE.w - 1) (d.r ezPid F.EZ_STAT_CE z + 1)) ∧
    (∀ i j, i < 64 → j < 64 → i ≠ j → d.storedWord a = w ^^^ 2 ^ i ^^^ 2 ^ j →
      (d.eccRead z a source wb).2 = (0, false) ∧
      (d.eccRead z a source wb).1.r ezPid F.EZ_UEIDX_TOTAL =
        (d.r ezPid F.EZ_UEIDX_TOTAL + 1) % 2 ^ F.EZ_UEIDX_TOTAL.w)

/-! ### Register writes and the ledger (R38 to R50, R61 to R74) -/

/-- A register write (R44, R47, R82, R114): one that passes at once is carried out, its register part and then what its
block starts; an agent whose unit is stopped sends none; one behind an earlier write of its origin waits; at an isolated
unit it ends in an error response; a link that carries no traffic holds it; else R44 decides it. A command that is a
register write, or a register read, by name is that access (R44): it completes whatever the state is, as the register
write does.
Where it rests on a choice or a reading of the model, not on a rule: log entries 14 and 16. -/
def Obligations.RegisterWriteCompletes : Prop :=
  (∀ (s : State) (ag : Agent) (addr : BitVec 24) (v : Word),
    Completes (.registerWrite ag addr v) s (s.dev.write ag (agentPage ag addr.toNat) (addr.toNat % 4096) v.toNat)) ∧
  (∀ (d : Dev) (ag : Agent) (pid off v : Nat), off % 4 = 0 → d.takes ag pid off v = true →
    d.write ag pid off v = (d.written ag pid off v).startedBy d (d.place pid off).1 (d.place pid off).2 v) ∧
  (∀ (d : Dev) (ag : Agent) (pid off v : Nat), off % 4 = 0 →
    let stopped := d.isolated (d.agentUnit ag)
    let behind := d.held.any (fun h => h.rd.isNone && sameOrigin h.ag ag)
    let dead := d.implemented pid && d.isolated (d.place pid off).1
    let shut := d.linkHolds (d.place pid off).1
    let waits := fun (why : HoldWhy) =>
      { d with held := d.held ++ [{ ag := ag, pid := pid, off := off, v := v, why := why, since := d.now }] }
    (stopped = true → d.write ag pid off v = d) ∧
    (stopped = false → behind = true → d.write ag pid off v = waits .behind) ∧
    (stopped = false → behind = false → dead = true → d.write ag pid off v = d.emit (.errorResponse (d.agentFab ag))) ∧
    (stopped = false → behind = false → dead = false → shut = true → d.write ag pid off v = waits .link) ∧
    (stopped = false → behind = false → dead = false → shut = false → d.write ag pid off v = d.decideWrite ag pid off v)) ∧
  (∀ (d : Dev) (ag : Agent) (page off v : Nat), d.put ag page off v = d.write ag (agentPageNo ag page) off v) ∧
  (∀ (s : State) (ag : Agent) (page : BitVec 12) (stream : Fin 96) (v : Word),
    Completes (.streamEnable ag page stream v) s (s.dev.put ag page.toNat (0x800 + 16 * stream) (withBit v 0))) ∧
  (∀ (s : State) (ag : Agent) (page : BitVec 12) (stream : Fin 96) (v : Word),
    Completes (.streamDisable ag page stream v) s (s.dev.put ag page.toNat (0x800 + 16 * stream) (withoutBit v 0))) ∧
  (∀ (s : State) (ag : Agent) (v : Word), Completes (.tumblerLoadGo ag v) s (s.dev.put ag 0x600 0x04C (withBit v 0))) ∧
  (∀ (s : State) (ag : Agent) (v : Word), Completes (.swap ag v) s (s.dev.put ag 0x600 0x040 (withBit v 0))) ∧
  (∀ (s : State) (ag : Agent) (sink : Fin 12) (channel : Fin 8) (v : Word),
    Completes (.sinkSourceWrite ag sink channel v) s (s.dev.put ag (0x620 + sink) (0x100 + 16 * channel) v.toNat)) ∧
  (∀ (s : State) (ag : Agent) (v : Word), Completes (.toneLoadGo ag v) s (s.dev.put ag 0x630 0x05C (withBit v 0))) ∧
  (∀ (s : State) (ag : Agent) (speaker : Fin 8) (v : Word),
    Completes (.speakerEnable ag speaker v) s (s.dev.put ag (0x880 + speaker) 0x040 (withBit v 0))) ∧
  (∀ (s : State) (ag : Agent) (speaker : Fin 8) (v : Word),
    Completes (.speakerDisable ag speaker v) s (s.dev.put ag (0x880 + speaker) 0x040 (withoutBit v 0))) ∧
  (∀ (s : State) (ag : Agent) (speaker : Fin 8) (v : Word),
    Completes (.speakerFaultClear ag speaker v) s (s.dev.put ag (0x880 + speaker) 0x040 (withBit v 1))) ∧
  (∀ (s : State) (ag : Agent) (key : BitVec 16),
    Completes (.hingeTableLock ag key) s (s.dev.put ag 0x400 0x040 (keyed key 1))) ∧
  (∀ (s : State) (ag : Agent) (key : BitVec 16),
    Completes (.wardRestartRequest ag key) s (s.dev.put ag 0x402 0x048 (keyed key 1))) ∧
  (∀ (s : State) (ag : Agent) (channel : Fin 5),
    Completes (.mailboxGo ag channel) s (s.dev.put ag (0x404 + channel) 0x0C0 1)) ∧
  (∀ (s : State) (ag : Agent) (page : BitVec 12) (pipe : Fin 48) (v : Word),
    Completes (.coefWrite ag page pipe v) s (s.dev.put ag page.toNat (0x130 + 64 * pipe) v.toNat)) ∧
  (∀ (s : State) (ag : Agent) (head : Fin 8) (v : Word),
    Completes (.layerHoldSet ag head v) s (s.dev.put ag (0x200 + head) 0x044 (withBit v 0))) ∧
  (∀ (s : State) (ag : Agent) (head : Fin 8) (v : Word),
    Completes (.layerHoldClear ag head v) s (s.dev.put ag (0x200 + head) 0x044 (withoutBit v 0))) ∧
  (∀ (s : State) (ag : Agent) (page : BitVec 12) (pipe : Fin 48) (v : Word),
    Completes (.flipGo ag page pipe v) s (s.dev.put ag page.toNat (0x118 + 32 * pipe) (withBit v 0))) ∧
  (∀ (s : State) (ag : Agent) (msg : Fin 16), Completes (.emergencyShow ag msg) s (s.dev.put ag 0x218 0x040 (1 + 16 * msg))) ∧
  (∀ (s : State) (ag : Agent) (msg : Fin 16), Completes (.emergencyRemove ag msg) s (s.dev.put ag 0x218 0x040 (16 * msg))) ∧
  (∀ (s : State) (ag : Agent) (head : Fin 8), Completes (.scInject ag head) s (s.dev.put ag 0x218 0x050 (256 + head))) ∧
  (∀ (s : State) (ag : Agent) (head : Fin 8) (v : Word),
    Completes (.headEnable ag head v) s (s.dev.put ag (0x280 + head) 0x040 (withBit v 0))) ∧
  (∀ (s : State) (ag : Agent) (head : Fin 8) (v : Word),
    Completes (.headDisable ag head v) s (s.dev.put ag (0x280 + head) 0x040 (withoutBit v 0))) ∧
  (∀ (s : State) (ag : Agent) (head : Fin 8), Completes (.hdFrameRead ag head) s (s.dev.get ag (0x280 + head) 0x064)) ∧
  (∀ (s : State) (ag : Agent) (head : Fin 8), Completes (.hdFliptRead ag head) s (s.dev.get ag (0x280 + head) 0x070)) ∧
  (∀ (s : State) (ag : Agent) (head : Fin 8) (v : Word),
    Completes (.crcRelease ag head v) s (s.dev.put ag (0x290 + head) 0x040 (withBit v 2))) ∧
  (∀ (s : State) (ag : Agent) (head : Fin 8) (v : Word),
    Completes (.dpRetrain ag head v) s (s.dev.put ag (0x500 + head) 0x040 (withBit v 1))) ∧
  (∀ (s : State) (ag : Agent) (head : Fin 8) (v : Word),
    Completes (.auxGo ag head v) s (s.dev.put ag (0x500 + head) 0x050 (withBit v 0))) ∧
  (∀ (s : State) (v : Word), Completes (.crossbarTestEnter v) s (s.dev.put .ward 0x300 0x040 (withBit v 4))) ∧
  (∀ (s : State) (v : Word), Completes (.crossbarTestLeave v) s (s.dev.put .ward 0x300 0x040 (withoutBit v 4))) ∧
  (∀ (s : State) (v : Word), Completes (.deviceTimeStep v) s (s.dev.put .ward 0x403 0x054 v.toNat)) ∧
  (∀ (s : State) (link : Fin 4) (v : Word),
    Completes (.pintleRetrain link v) s (s.dev.put .ward (0x700 + link) 0x040 (withBit v 0))) ∧
  (∀ (s : State) (ag : Agent), Completes (.faultLogPop ag) s (s.dev.put ag 0x030 0x050 1)) ∧
  (∀ (s : State) (ag : Agent) (page : BitVec 12) (key : BitVec 16),
    Completes (.faultInject ag page key) s (s.dev.put ag 0x030 0x05C (keyed key (4096 + page.toNat)))) ∧
  (∀ (s : State) (ag : Agent) (key : BitVec 16), Completes (.loopbackGo ag key) s (s.dev.put ag 0x710 0x044 (keyed key 1))) ∧
  (∀ (s : State) (ag : Agent), Completes (.loopbackAbort ag) s (s.dev.put ag 0x710 0x044 (keyed theKey 2))) ∧
  (∀ (s : State) (ag : Agent) (page : BitVec 12) (channel : Fin 8) (v : Word),
    Completes (.coilCheckRequest ag page channel v) s (s.dev.put ag page.toNat (blockOff ag channel 0) (withBit v 2))) ∧
  (∀ (s : State) (ag : Agent) (page : BitVec 12) (channel : Fin 8) (v : Word),
    Completes (.actuatorFaultClear ag page channel v) s (s.dev.put ag page.toNat (blockOff ag channel 0) (withBit v 1))) ∧
  (∀ (s : State) (ag : Agent) (page : BitVec 12) (channel : Fin 8) (v : Word),
    Completes (.effectLoadGo ag page channel v) s (s.dev.put ag page.toNat (if page = 0x808#12 then 0x05C else blockOff ag channel 0x28) (withBit v 0))) ∧
  (∀ (s : State) (ag : Agent) (page : BitVec 12), Completes (.interruptClaim ag page) s (s.dev.get ag page.toNat 0x060)) ∧
  (∀ (s : State) (ag : Agent) (page : BitVec 12) (bits : BitVec 16),
    Completes (.interruptComplete ag page bits) s (s.dev.put ag page.toNat 0x064 bits.toNat)) ∧
  (∀ (s : State) (ag : Agent), Completes (.dramTrainingStart ag) s (s.dev.put ag 0x100 0x044 1)) ∧
  (∀ (s : State) (ag : Agent) (key : BitVec 16), Completes (.readRaw ag key) s (s.dev.put ag 0x130 0x054 (keyed key 1))) ∧
  (∀ (s : State) (ag : Agent) (key : BitVec 16),
    Completes (.writeDataOnly ag key) s (s.dev.put ag 0x130 0x054 (keyed key 2))) ∧
  (∀ (s : State) (ag : Agent) (key : BitVec 16),
    Completes (.writeCheckOnly ag key) s (s.dev.put ag 0x130 0x054 (keyed key 3))) ∧
  (∀ (s : State) (ag : Agent) (key : BitVec 16), Completes (.writeBoth ag key) s (s.dev.put ag 0x130 0x054 (keyed key 4))) ∧
  (∀ (s : State) (ag : Agent) (target : Fin 8),
    Completes (.pmWardReq ag target) s (s.dev.put ag 0x390 0x04C (keyed theKey target))) ∧
  (∀ (s : State) (ag : Agent) (region : Fin 16) (v : Word),
    Completes (.regionPowerOff ag region v) s (s.dev.put ag 0x390 (0x100 + 4 * region) (withBit v 0))) ∧
  (∀ (s : State) (ag : Agent) (region : Fin 16) (v : Word),
    Completes (.regionClockStop ag region v) s (s.dev.put ag 0x390 (0x100 + 4 * region) (withBit v 1))) ∧
  (∀ (s : State) (ag : Agent) (region : Fin 16) (v : Word),
    Completes (.clusterResetHold ag region v) s (s.dev.put ag 0x390 (0x100 + 4 * region) v.toNat)) ∧
  (∀ (s : State) (v : Word), Completes (.ledgerDrainEnable v) s (s.dev.put .ward 0x010 0x040 (withBit v 0))) ∧
  (∀ (s : State) (v : Word), Completes (.ledgerCkptSigned v) s (s.dev.put .ward 0x010 0x06C (withBit v 0))) ∧
  (∀ (s : State) (ag : Agent) (page : BitVec 12) (key : BitVec 16),
    Completes (.commitNow ag page key) s (s.dev.put ag page.toNat 0x020 (keyed key 1))) ∧
  (∀ (s : State) (ag : Agent) (page : BitVec 12) (key : BitVec 16),
    Completes (.commitAtBoundary ag page key) s (s.dev.put ag page.toNat 0x020 (keyed key 2))) ∧
  (∀ (s : State) (ag : Agent) (page : BitVec 12) (key : BitVec 16),
    Completes (.commitRevert ag page key) s (s.dev.put ag page.toNat 0x020 (keyed key 4))) ∧
  (∀ (s : State) (ag : Agent) (page : BitVec 12), Completes (.pageLock ag page) s (s.dev.put ag page.toNat 0x01C 1)) ∧
  (∀ (s : State) (ag : Agent) (slot : Fin 64) (v : Word),
    Completes (.periodArm ag slot v) s (s.dev.put ag (periodPage ag) (0x800 + 32 * slot) (withBit v 0))) ∧
  (∀ (s : State) (ag : Agent) (slot : Fin 64) (v : Word),
    Completes (.periodDisarm ag slot v) s (s.dev.put ag (periodPage ag) (0x800 + 32 * slot) (withoutBit v 0))) ∧
  (∀ (s : State) (v : Word), Completes (.bmonClear v) s (s.dev.put .ward 0x320 0x04C v.toNat)) ∧
  (∀ (s : State) (ag : Agent) (page : BitVec 12) (index : Fin 192) (v : Word),
    Completes (.fncSignalWrite ag page index v) s (s.dev.put ag page.toNat (0x408 + 16 * index) (withBit v 0))) ∧
  (∀ (s : State) (ag : Agent) (v : Word), Completes (.bypassHoldSet ag v) s (s.dev.put ag 0x410 0x040 (withBit v 0))) ∧
  (∀ (s : State) (ag : Agent) (v : Word), Completes (.bypassHoldRelease ag v) s (s.dev.put ag 0x410 0x040 (withoutBit v 0))) ∧
  (∀ (s : State) (ag : Agent) (v : Word), Completes (.ringTxGo ag v) s (s.dev.put ag 0x410 0x060 (withBit v 0))) ∧
  (∀ (s : State) (ag : Agent) (v : Word), Completes (.ringRxPop ag v) s (s.dev.put ag 0x410 0x064 (withBit v 8))) ∧
  (∀ (s : State) (ag : Agent) (v : Fin 64) (key : BitVec 16),
    Completes (.create ag v key) s (s.dev.put ag (0x090 + v) 0x040 (keyed key 1))) ∧
  (∀ (s : State) (ag : Agent) (v : Fin 64) (key : BitVec 16),
    Completes (.reset ag v key) s (s.dev.put ag (0x090 + v) 0x040 (keyed key 2))) ∧
  (∀ (s : State) (ag : Agent) (v : Fin 64) (key : BitVec 16),
    Completes (.remove ag v key) s (s.dev.put ag (0x090 + v) 0x040 (keyed key 3))) ∧
  (∀ (s : State) (ag : Agent) (v : Fin 64) (key : BitVec 16),
    Completes (.quiesce ag v key) s (s.dev.put ag (0x090 + v) 0x040 (keyed key 4))) ∧
  (∀ (s : State) (ag : Agent) (v : Fin 64) (key : BitVec 16),
    Completes (.resume ag v key) s (s.dev.put ag (0x090 + v) 0x040 (keyed key 5))) ∧
  (∀ (s : State) (ag : Agent) (key : BitVec 16), Completes (.createAccept ag key) s (s.dev.put ag 0x084 0x054 (keyed key 1))) ∧
  (∀ (s : State) (ag : Agent) (key : BitVec 16), Completes (.createRefuse ag key) s (s.dev.put ag 0x084 0x054 (keyed key 2))) ∧
  (∀ (s : State) (v : Fin 64) (ctx : Fin 64) (tail : Word),
    Completes (.sqDoorbell v ctx tail) s (s.dev.put (.vi v) 2 (0x040 + 4 * ctx) tail.toNat)) ∧
  (∀ (s : State) (v : Fin 64) (ctx : Fin 64) (head : Word),
    Completes (.cqDoorbell v ctx head) s (s.dev.put (.vi v) 2 (0x140 + 4 * ctx) head.toNat)) ∧
  (∀ (s : State) (v : Fin 64) (ctx : Fin 64) (value : Word),
    Completes (.contextEnable v ctx value) s (s.dev.put (.vi v) 1 (0x800 + 32 * ctx) (withBit value 0))) ∧
  (∀ (s : State) (v : Fin 64) (ctx : Fin 64) (value : Word),
    Completes (.contextDisable v ctx value) s (s.dev.put (.vi v) 1 (0x800 + 32 * ctx) (withoutBit value 0))) ∧
  (∀ (s : State) (ag : Agent) (v : Fin 64) (value : Word),
    Completes (.s2Invalidate ag v value) s (s.dev.put ag (0x090 + v) 0x058 (withBit value 0))) ∧
  (∀ (s : State) (v : Fin 64) (value : Word),
    Completes (.s1Invalidate v value) s (s.dev.put (.vi v) 11 0x0C8 (withBit value 0))) ∧
  (∀ (s : State) (ag : Agent) (v : Fin 64) (value : Word),
    Completes (.dirtyLogEnable ag v value) s (s.dev.put ag (0x090 + v) 0x068 (withBit value 0))) ∧
  (∀ (s : State) (ag : Agent) (v : Fin 64) (value : Word),
    Completes (.dirtyLogDisable ag v value) s (s.dev.put ag (0x090 + v) 0x068 (withoutBit value 0))) ∧
  (∀ (s : State) (ag : Agent) (v : Fin 64) (value : Word),
    Completes (.dirtyLogClear ag v value) s (s.dev.put ag (0x090 + v) 0x068 (withBit value 16))) ∧
  (∀ (s : State) (ag : Agent) (port : Fin 8) (v : Word),
    Completes (.touchPortEnable ag port v) s (s.dev.put ag (0x580 + 16 * port) 0x040 (withBit v 0))) ∧
  (∀ (s : State) (ag : Agent) (port : Fin 8) (v : Word),
    Completes (.touchPortDisable ag port v) s (s.dev.put ag (0x580 + 16 * port) 0x040 (withoutBit v 0))) ∧
  (∀ (s : State) (ag : Agent) (port : Fin 8) (v : Word),
    Completes (.recal ag port v) s (s.dev.put ag (0x580 + 16 * port) 0x040 (withBit v 1))) ∧
  (∀ (s : State) (ag : Agent) (port : Fin 8) (v : Word),
    Completes (.dump ag port v) s (s.dev.put ag (0x580 + 16 * port) 0x040 (withBit v 2)))

/-- The register part of an accepted write (R39, R45): a read-write field takes its bits of the word, a set-only field is
set where the word has 1, a W1C field loses the bits written 1 (`IR_INSVC` is left to its completion); the entries that
fuses hold are not open. Beside the register only `PAGE_CHG` and `PAGE_LASTW` of the page and the ledger page's `LED_SEQ`,
`LED_STAT.FILL` and `PAGE_ERR` may change; no active value, memory, commit, fault or waiting write does.
Where it rests on a choice or a reading of the model, not on a rule: log entries 11 and 60. -/
def Obligations.AcceptedWriteSetsItsRegister : Prop :=
  ∀ (d : Dev) (ag : Agent) (pid off v : Nat), off % 4 = 0 → off < 4096 → d.takes ag pid off v = true →
    (∀ (f : FD) (i : Nat), (f, i) ∈ openFields (d.place pid off).1 (d.place pid off).2 →
      ((f.acc = .rw ∨ f.acc = .rwk) → (d.written ag pid off v).r (d.place pid off).1 f i = bits v f.lo f.w) ∧
      (f.acc = .w1s → (d.written ag pid off v).r (d.place pid off).1 f i =
        if bits v f.lo f.w = 1 then 1 else d.r (d.place pid off).1 f i) ∧
      (f.acc = .w1c → f ≠ F.IR_INSVC_PRIO → (d.written ag pid off v).r (d.place pid off).1 f i =
        (d.r (d.place pid off).1 f i - (d.r (d.place pid off).1 f i &&& bits v f.lo f.w)) % 2 ^ f.w)) ∧
    (∀ (q : Nat) (g : FD) (j : Nat),
      (∀ x ∈ regFields (d.place pid off).1 (d.place pid off).2, fieldKey q g j ≠ fieldKey (d.place pid off).1 x.1 x.2) →
      fieldKey q g j ≠ fieldKey pid F.PAGE_CHG_COUNT 0 → fieldKey q g j ≠ fieldKey pid F.PAGE_LASTW_ORIGIN 0 →
      fieldKey q g j ≠ fieldKey ledPid F.LED_SEQ_NEXT 0 → fieldKey q g j ≠ fieldKey ledPid F.LED_STAT_FILL 0 →
      fieldKey q g j ≠ fieldKey ledPid F.PAGE_ERR_BLOCK 0 →
      (d.written ag pid off v).r q g j = d.r q g j) ∧
    (d.written ag pid off v).act = d.act ∧ (d.written ag pid off v).mems = d.mems ∧
    (d.written ag pid off v).pages = d.pages ∧ (d.written ag pid off v).flt = d.flt ∧
    (d.written ag pid off v).held = d.held ∧ (d.written ag pid off v).emitted = d.emitted

/-- An accepted write that changes its register, at a page that the ledger records, makes one record at the end of the
store (R61, R62, R68): its page, offset, origin, the word before it, and the next SEQ, which then advances; `PAGE_CHG`
counts it.
Where it rests on a choice or a reading of the model, not on a rule: log entry 23. -/
def Obligations.AcceptedWriteIsRecorded : Prop :=
  ∀ (d : Dev) (ag : Agent) (pid off v : Nat) (acts sh : Bool), off % 4 = 0 → off < 4096 → off ≠ 0x01C →
    d.takes ag pid off v = true → d.fate ag pid off v = .accepted true acts sh → recorded pid off = true →
    (∃ e : LEntry, (d.written ag pid off v).led.store = d.led.store ++ [e] ∧ e.page = ledgerPage pid ∧ e.off = off ∧
      e.kind = b2n sh ∧ e.origin = d.origin ag ∧ e.old = d.word pid off ∧ (acts = true → e.new = v) ∧
      e.seq = d.r ledPid F.LED_SEQ_NEXT ∧ e.complete = true ∧ e.reserve = false) ∧
    (d.written ag pid off v).r ledPid F.LED_SEQ_NEXT = (d.r ledPid F.LED_SEQ_NEXT + 1) % 2 ^ 32 ∧
    (d.written ag pid off v).r pid F.PAGE_CHG_COUNT = (d.r pid F.PAGE_CHG_COUNT + 1) % 2 ^ F.PAGE_CHG_COUNT.w ∧
    (d.written ag pid off v).r pid F.PAGE_LASTW_ORIGIN = d.origin ag % 2 ^ F.PAGE_LASTW_ORIGIN.w

/-- R46 whole: an accepted write that changes no value does not wait, whatever room the ledger has; it increments no
counter and makes no record: the ledger stands as it was, and so does every field outside the register written; in the
register every field that a write can set holds what it held, a W1C field but for the bits it clears.
Where it rests on a choice or a reading of the model, not on a rule: log entry 11. -/
def Obligations.UnchangingWriteLeavesNoTrace : Prop :=
  ∀ (d : Dev) (ag : Agent) (pid off v : Nat) (acts sh : Bool), off % 4 = 0 → off < 4096 →
    d.fate ag pid off v = .accepted false acts sh →
    let n := d.writtenBy ag pid off v false acts sh
    d.decideWrite ag pid off v = n.startedBy d (d.place pid off).1 (d.place pid off).2 v ∧
    n.led = d.led ∧ n.held = d.held ∧
    (∀ (q : Nat) (g : FD) (j : Nat),
      (∀ x ∈ regFields (d.place pid off).1 (d.place pid off).2, fieldKey q g j ≠ fieldKey (d.place pid off).1 x.1 x.2) →
      n.r q g j = d.r q g j) ∧
    (∀ x ∈ regFields (d.place pid off).1 (d.place pid off).2, x.1.acc ≠ .w1c →
      n.r (d.place pid off).1 x.1 x.2 = d.r (d.place pid off).1 x.1 x.2)

/-- A write to a page that is not implemented or that the writer does not see is dropped (R44 step 1): no memory, active
value, commit or block changes, and no register of another page than the writer's home page and the ledger page; the home
page has `PAGE_ERR.ADDRESS_ERROR`.
Where it rests on a choice or a reading of the model, not on a rule: log entries 13 and 25. -/
def Obligations.UnseenWriteIsDropped : Prop :=
  ∀ (d : Dev) (ag : Agent) (pid off v : Nat), (d.implemented pid = false ∨ d.visible ag pid = false) →
    (d.decideWrite ag pid off v).act = d.act ∧ (d.decideWrite ag pid off v).mems = d.mems ∧
    (d.decideWrite ag pid off v).pages = d.pages ∧ (d.decideWrite ag pid off v).flt = d.flt ∧
    (d.decideWrite ag pid off v).held = d.held ∧
    (d.decideWrite ag pid off v).r (homePage ag) F.PAGE_ERR_COMMON =
      (d.r (homePage ag) F.PAGE_ERR_COMMON ||| 2 ^ errAddress) % 2 ^ F.PAGE_ERR_COMMON.w ∧
    (∀ (q : Nat) (g : FD) (j : Nat), g.at j * 8 + g.lo < 32768 → q ≠ homePage ag → q ≠ ledPid →
      (d.decideWrite ag pid off v).r q g j = d.r q g j)

/-- The events of the ledger (R68 to R73): an entry has become free, and a LOST record comes first where records were
lost; a write that has waited 10 µs is given up, with its page's TIMEOUT, and a commit request is rejected; draining is
switched on, which fixes T and the start of the hash chain; the oldest complete entry is drained; a checkpoint is signed;
a signed checkpoint is drained. A block that may not be written yet, or whose store ends in an error response, stays on
chip.
Where it rests on a choice or a reading of the model, not on a rule: log entries 5, 15, 23, 82 and 83. -/
def Obligations.LedgerCommandsComplete : Prop :=
  (∀ s : State, let room := s.dev.led.room 1 || decide ((s.dev.led.store.filter (·.reserve)).length < 16)
    ((s.dev.led.lostSince && room) = false → Completes .ledgerEntryFreed s s.dev.ledShow) ∧
    ((s.dev.led.lostSince && room) = true →
      let n := s.dev.ledDevice 9 ledPid 0x064 s.dev.led.lostAt (s.dev.r ledPid F.LED_LOST_COUNT)
      Completes .ledgerEntryFreed s
        { n with led := { n.led with lostSince := false, lostAt := s.dev.r ledPid F.LED_LOST_COUNT } })) ∧
  (∀ (s : State) (h : Held),
    s.dev.held.find? (fun h => h.why == .ledger && decide (h.since + 10000 ≤ s.dev.now)) = some h →
    let n := ({ s.dev with held := s.dev.held.erase h }.err h.pid errTimeout).ledLost
    (h.off ≠ 0x020 → Completes .ledgerWaitTimeout s (n.resend h.ag)) ∧
    (h.off = 0x020 → Completes .ledgerWaitTimeout s ((n.rejectShow h.pid 9).resend h.ag))) ∧
  (∀ s : State, s.dev.held.find? (fun h => h.why == .ledger && decide (h.since + 10000 ≤ s.dev.now)) = none →
    Completes .ledgerWaitTimeout s s.dev) ∧
  (∀ (s : State) (v : Word), let n := s.dev.after .ward ledPid 0x040 (withBit v 0)
    s.dev.accepts .ward ledPid 0x040 (withBit v 0) = true →
    (s.dev.rises ledPid (withBit v 0) F.LED_CTRL_DRAIN_EN = true → n.led.started = none →
      Completes (.ledgerDrainEnable v) s
        { n with led := { n.led with started := some n.now, chain := n.chainStart n.now } }) ∧
    ((s.dev.rises ledPid (withBit v 0) F.LED_CTRL_DRAIN_EN = false ∨ n.led.started ≠ none) →
      Completes (.ledgerDrainEnable v) s n)) ∧
  (∀ (s : State) (e : LEntry) (rest : List LEntry),
    let w := s.dev.ringWrite ownLedger s.dev.ringBase s.dev.ringSize s.dev.ringHead e.bytes
    s.dev.led.store = e :: rest → s.dev.canDrain = true →
    (w.2 = true → Completes .ledgerDrainEntry s
      ((({ w.1 with led := { w.1.led with store := rest, batch := w.1.led.batch ++ [e.bytes] } } :
          Dev).ringAdvance 32).ckptForm e.seq).ledAfterFree) ∧
    (w.2 = false → Completes .ledgerDrainEntry s w.1)) ∧
  (∀ s : State, s.dev.canDrain = false → Completes .ledgerDrainEntry s s.dev) ∧
  (∀ (s : State) (v : Word), let n := s.dev.after .ward ledPid 0x06C (withBit v 0)
    s.dev.accepts .ward ledPid 0x06C (withBit v 0) = true →
    (∀ (c : Ckpt) (rest : List Ckpt), n.led.waiting = c :: rest →
      Completes (.ledgerCkptSigned v) s
        ({ n with led := { n.led with waiting := rest, signed := n.led.signed ++
              [(c, (upFrom 0 24).flatMap (fun j => bytesLE 4 (n.r ledPid F.LED_CKPT_SIG_SIG j)))] } } : Dev).ckptShow) ∧
    (n.led.waiting = [] → Completes (.ledgerCkptSigned v) s n)) ∧
  (∀ (s : State) (c : Ckpt) (sig : List Nat) (rest : List (Ckpt × List Nat)),
    let w := s.dev.ringWrite ownLedger s.dev.ringBase s.dev.ringSize s.dev.ringHead (c.block sig)
    s.dev.led.signed = (c, sig) :: rest → s.dev.canBlock = true →
    (w.2 = true → Completes .ledgerDrainCheckpoint s
      (({ w.1 with led := { w.1.led with signed := rest } } : Dev).ringAdvance 256)) ∧
    (w.2 = false → Completes .ledgerDrainCheckpoint s w.1)) ∧
  (∀ s : State, s.dev.canBlock = false → Completes .ledgerDrainCheckpoint s s.dev)

/-! ### Commits, page locks, the period scheduler (R26 to R36, R52 to R60) -/

/-- A commit request is accepted (R52 to R54, R56): with a fault of form it is rejected, with REJECT, the REASON and DONE
shown; REVERT copies the active set into the shadow and supersedes a pending set; another request takes the shadow set as
its snapshot, and its page's check runs, with the entry of the request incomplete in the ledger and one kept for the
APPLY; a strike, CRC or touch region page ends its check in the same cycle. A request whose page checks another waits, and
so does one for which the ledger has no two entries. The end of a page's check (R53, R54, R56): an open fault rejects the
set with FAULT; another reason rejects it, and ADMISSION is shown as well; a set that passes supersedes a pending one and
is applied or pends; a page that checks nothing is untouched. A deferred request is sent again once the page's check is
over.
Where it rests on a choice or a reading of the model, not on a rule: log entries 5, 16, 20 and 22. -/
def Obligations.CommitRequestsAndChecksComplete : Prop :=
  (∀ (s : State) (ag : Agent) (page : BitVec 12) (key : BitVec 16),
    (s.dev.asks ag page.toNat (keyed key 1) = true →
      Completes (.commitNow ag page key) s (s.dev.requestAccept ag (agentPageNo ag page.toNat) (keyed key 1))) ∧
    (s.dev.asks ag page.toNat (keyed key 2) = true →
      Completes (.commitAtBoundary ag page key) s (s.dev.requestAccept ag (agentPageNo ag page.toNat) (keyed key 2))) ∧
    (s.dev.asks ag page.toNat (keyed key 4) = true →
      Completes (.commitRevert ag page key) s (s.dev.requestAccept ag (agentPageNo ag page.toNat) (keyed key 4)))) ∧
  (∀ (d : Dev) (ag : Agent) (pid v r : Nat), d.requestBad pid v = some r →
    (d.requestAccept ag pid v).r pid F.PAGE_CSTAT_REJECT = 1 ∧
    (d.requestAccept ag pid v).r pid F.PAGE_CSTAT_REASON = r ∧
    (d.requestAccept ag pid v).r pid F.PAGE_CSTAT_DONE = 0 ∧
    (d.requestAccept ag pid v).ctl pid = d.ctl pid ∧ (d.requestAccept ag pid v).act = d.act) ∧
  (∀ (d : Dev) (ag : Agent) (pid v : Nat), d.requestBad pid v = none → bit v 2 = false → checksAtOnce pid = false →
    ∃ b : Check, (d.requestAccept ag pid v).ctl pid = { d.ctl pid with busy := some b } ∧
      b.snap = d.shadow pid ∧ b.now = bit v 0 ∧
      (d.requestAccept ag pid v).act = d.act ∧
      (ledgered pid = true →
        (d.requestAccept ag pid v).led.applyHeld = d.led.applyHeld + 1 ∧ b.seq = some (d.r ledPid F.LED_SEQ_NEXT) ∧
        ∃ e : LEntry, (d.requestAccept ag pid v).led.store = d.led.store ++ [e] ∧ e.complete = false ∧
          e.seq = d.r ledPid F.LED_SEQ_NEXT)) ∧
  (∀ (d : Dev) (ag : Agent) (pid v : Nat), d.requestBad pid v = none → bit v 2 = true → ledgered pid = true →
    let n := d.ledRecord 2 pid 0x020 (d.origin ag) (d.r pid F.PAGE_CSTAT_COUNT) v
    d.requestAccept ag pid v = ((n.revert pid).w pid F.PAGE_CSTAT_REJECT 0).supersede pid) ∧
  (∀ (d : Dev) (ag : Agent) (pid v : Nat), d.requestBad pid v = none → bit v 2 = true → ledgered pid = false →
    d.requestAccept ag pid v = ((d.revert pid).w pid F.PAGE_CSTAT_REJECT 0).supersede pid) ∧
  (∀ (d : Dev) (ag : Agent) (pid v : Nat), d.requestBad pid v = none → bit v 2 = false → checksAtOnce pid = true →
    ∃ (n : Dev) (b : Check), n.ctl pid = { d.ctl pid with busy := some b } ∧ b.snap = d.shadow pid ∧ b.now = bit v 0 ∧
      d.requestAccept ag pid v = n.checkEnd? pid) ∧
  (∀ (d : Dev) (ag : Agent) (pid v : Nat), d.fate ag pid 0x020 v = .commit →
    let waits := fun (why : HoldWhy) =>
      { d with held := d.held ++ [{ ag := ag, pid := pid, off := 0x020, v := v, why := why, since := d.now }] }
    ((d.ctl pid).busy ≠ none → d.decideWrite ag pid 0x020 v = waits .busy) ∧
    ((d.ctl pid).busy = none → (ledgered pid && !d.led.room 2) = true →
      d.decideWrite ag pid 0x020 v = ((waits .ledger).add ledPid F.LED_STALLS_COUNT).err ledPid 11) ∧
    ((d.ctl pid).busy = none → (ledgered pid && !d.led.room 2) = false →
      d.decideWrite ag pid 0x020 v = d.requestAccept ag pid v)) ∧
  (∀ (s : State) (page : PageRef), (s.dev.ctl (PageRef.pid page)).busy = none → Completes (.commitCheckEnd page) s s.dev) ∧
  (∀ (s : State) (page : PageRef) (b : Check), (s.dev.ctl (PageRef.pid page)).busy = some b →
    let pid := PageRef.pid page
    let n := s.dev.setCtl pid { s.dev.ctl pid with busy := none }
    let v := n.checkSet pid b.snap
    let reject := fun (d : Dev) r => match b.seq with
      | some q => ((d.ledComplete q 4 r).rejectShow pid r).ledFreeApply
      | none => d.rejectShow pid r
    let entry := fun (d : Dev) => match b.seq with
      | some q => d.ledComplete q 2 0
      | none => d
    (n.blockFault pid = true → Completes (.commitCheckEnd page) s (reject n 8)) ∧
    (∀ r : Nat, n.blockFault pid = false → v.reason = some r → r ≠ 2 → Completes (.commitCheckEnd page) s (reject n r)) ∧
    (n.blockFault pid = false → v.reason = some 2 → Completes (.commitCheckEnd page) s (reject (n.showAdm v.heads v.bad) 2)) ∧
    (n.blockFault pid = false → v.reason = none →
      Completes (.commitCheckEnd page) s
        ((((entry (n.showAdm v.heads none)).w pid F.PAGE_CSTAT_REJECT 0).supersede pid).setPasses pid b))) ∧
  (∀ (s : State) (page : PageRef) (h : Held), (s.dev.ctl (PageRef.pid page)).busy = none → s.dev.waitingFor (PageRef.pid page) = some h →
    Completes (.commitRequestDeferredAccept page) s (s.dev.resend h.ag)) ∧
  (∀ (s : State) (page : PageRef), ((s.dev.ctl (PageRef.pid page)).busy ≠ none ∨ s.dev.waitingFor (PageRef.pid page) = none) →
    Completes (.commitRequestDeferredAccept page) s s.dev)

/-- A commit boundary (R57): a page without a pending set, a part that its set does not have, and a set whose checks ended
after the cut-off are untouched; with a fault open on its block the pending set is discarded; else the part that the
boundary serves is applied, but a layer set that a group holds stays. A set whose last part is applied shows DONE and
counts. `PAGE_LOCK` sets LOCK (R59), and makes a LOCK record where it was clear.
Where it rests on a choice or a reading of the model, not on a rule: log entries 16, 20 and 21. -/
def Obligations.BoundariesAndPageLocksComplete : Prop :=
  (∀ (s : State) (page : PageRef) (part : Fin 48) (inTime : Bool), (s.dev.ctl (PageRef.pid page)).pend = none →
    Completes (.commitBoundary page ⟨part, inTime⟩) s s.dev) ∧
  (∀ (s : State) (page : PageRef) (part : Fin 48) (inTime : Bool) (x : Pend), (s.dev.ctl (PageRef.pid page)).pend = some x →
    (x.parts.contains part.val = false ∨ (cutsOff (PageRef.pid page) = true ∧ inTime = false)) →
    Completes (.commitBoundary page ⟨part, inTime⟩) s s.dev) ∧
  (∀ (s : State) (page : PageRef) (part : Fin 48) (inTime : Bool) (x : Pend), (s.dev.ctl (PageRef.pid page)).pend = some x →
    x.parts.contains part.val = true → (cutsOff (PageRef.pid page) = false ∨ inTime = true) →
    let pid := PageRef.pid page
    (s.dev.blockFault pid = true → Completes (.commitBoundary page ⟨part, inTime⟩) s (s.dev.discardPend pid)) ∧
    (∀ (k : PageKind) (i : Nat), s.dev.blockFault pid = false → kindOf pid = some (k, i) →
      ([PageKind.touchReports, .viTouch, .viHapticAudio].contains k = true →
        Completes (.commitBoundary page ⟨part, inTime⟩) s (s.dev.applyPend pid (· == part.val))) ∧
      ([PageKind.layerCtl, .viLayers].contains k = true → x.held.contains part.val = false →
        Completes (.commitBoundary page ⟨part, inTime⟩) s (s.dev.layerApply pid (· == part.val))) ∧
      ([PageKind.layerCtl, .viLayers].contains k = true → x.held.contains part.val = true →
        Completes (.commitBoundary page ⟨part, inTime⟩) s s.dev) ∧
      (k = .compose → Completes (.commitBoundary page ⟨part, inTime⟩) s (s.dev.composeApply i true)) ∧
      (k = .crc → Completes (.commitBoundary page ⟨part, inTime⟩) s (s.dev.crcApply i true)) ∧
      (k = .head → Completes (.commitBoundary page ⟨part, inTime⟩) s (s.dev.endOfActive i true)) ∧
      (k = .power → Completes (.commitBoundary page ⟨part, inTime⟩) s s.dev.changeNext) ∧
      ([PageKind.touchReports, .viTouch, .viHapticAudio, .layerCtl, .viLayers, .compose, .crc, .head, .power].contains k = false →
        Completes (.commitBoundary page ⟨part, inTime⟩) s (s.dev.applySet pid))) ∧
    (s.dev.blockFault pid = false → kindOf pid = none →
      Completes (.commitBoundary page ⟨part, inTime⟩) s (s.dev.applySet pid))) ∧
  (∀ (d : Dev) (pid : Nat) (x : Pend) (sel : Nat → Bool), (d.ctl pid).pend = some x → (∀ p ∈ x.parts, sel p = true) →
    d.applyPend pid sel =
      (((d.applyParts pid x.snap sel).setCtl pid { d.ctl pid with pend := none }).setApplied pid)) ∧
  (∀ (s : State) (ag : Agent) (page : BitVec 12), s.dev.accepts ag page.toNat 0x01C 1 = true →
    let n := s.dev.after ag page.toNat 0x01C 1
    Completes (.pageLock ag page) s n ∧ n.r (agentPageNo ag page.toNat) F.PAGE_LOCK_LOCK = 1 ∧
    (s.dev.r (agentPageNo ag page.toNat) F.PAGE_LOCK_LOCK = 0 → recorded (agentPageNo ag page.toNat) 0x01C = true →
      ∃ e : LEntry, n.led.store = s.dev.led.store ++ [e] ∧ e.kind = 7 ∧ e.page = ledgerPage (agentPageNo ag page.toNat) ∧
        e.old = 0 ∧ e.new = 1) ∧
    (s.dev.r (agentPageNo ag page.toNat) F.PAGE_LOCK_LOCK = 1 → n.led = s.dev.led))

/-- Arming and disarming a period entry (R28, R29): an entry in IDLE that is armed waits for the first boundary START + k
periods that lies after device time (that one which is the time of arming itself does not count is the model's choice, log
87); an entry that is in use, or armed already, is not touched; disarming it changes no more than ARMED until its next
boundary. `CLS_BMON_CLR` (R15, R33): the paths that it names are marked, and nothing shows it yet; the next measurement of
a path so marked starts from a count and a worst time of 0.
Where it rests on a choice or a reading of the model, not on a rule: log entries 16 and 87. -/
def Obligations.ArmingAndMonitorClearComplete : Prop :=
  (∀ (s : State) (ag : Agent) (slot : Fin 64) (v : Word),
    let n := s.dev.after ag (periodPage ag) (0x800 + 32 * slot) (withBit v 0)
    let e := s.dev.entryOf ag slot
    s.dev.accepts ag (periodPage ag) (0x800 + 32 * slot) (withBit v 0) = true →
    s.dev.rises (perPage e) (withBit v 0) F.PE_CTRL_ARMED (e % 64) = true →
    Completes (.periodArm ag slot v) s (n.perArm e)) ∧
  (∀ (s : State) (ag : Agent) (slot : Fin 64) (v : Word),
    let n := s.dev.after ag (periodPage ag) (0x800 + 32 * slot) (withBit v 0)
    let e := s.dev.entryOf ag slot
    s.dev.accepts ag (periodPage ag) (0x800 + 32 * slot) (withBit v 0) = true →
    s.dev.rises (perPage e) (withBit v 0) F.PE_CTRL_ARMED (e % 64) = false →
    Completes (.periodArm ag slot v) s n) ∧
  (∀ (d : Dev) (e : Nat), d.perState e ≠ 0 → d.perArm e = d) ∧
  (∀ (d : Dev) (e : Nat), d.perState e = 0 → 0 < d.pe e F.PE_PERIOD_PERIOD →
    let start := d.r64 (perPage e) F.PE_START_LO_START F.PE_START_HI_START (e % 64)
    let k := ((d.perArm e).per? e).next
    (d.perArm e).perState e = 1 ∧ d.now < start + k * (1000 * d.pe e F.PE_PERIOD_PERIOD) ∧
    (k = 0 ∨ start + (k - 1) * (1000 * d.pe e F.PE_PERIOD_PERIOD) ≤ d.now)) ∧
  (∀ (s : State) (ag : Agent) (slot : Fin 64) (v : Word),
    s.dev.accepts ag (periodPage ag) (0x800 + 32 * slot) (withoutBit v 0) = true →
    Completes (.periodDisarm ag slot v) s (s.dev.after ag (periodPage ag) (0x800 + 32 * slot) (withoutBit v 0))) ∧
  (∀ (s : State) (v : Word), s.dev.accepts .ward 0x320 0x04C v.toNat = true →
    let n := s.dev.after .ward 0x320 0x04C v.toNat
    Completes (.bmonClear v) s { n with bmonClr := n.bmonClr ||| bits v.toNat 0 8 }) ∧
  (∀ (d : Dev) (k latency bound pid : Nat) (holds : Bool), k < 8 → latency ≤ bound → latency < 2 ^ 32 →
    (d.measure k latency bound pid holds).r clsPid F.CLS_BMON_CNT_COUNT k =
      (if bit d.bmonClr k then 0 else d.r clsPid F.CLS_BMON_CNT_COUNT k) ∧
    (d.measure k latency bound pid holds).r clsPid F.CLS_BMON_WORST_WORST k =
      (if bit d.bmonClr k then latency else max latency (d.r clsPid F.CLS_BMON_WORST_WORST k)) ∧
    bit (d.measure k latency bound pid holds).bmonClr k = false)

/-- The events of a period entry (R29 to R31, R34): before its time, and in IDLE, a boundary changes nothing; at its
boundary an armed entry opens a period and one no longer armed goes IDLE, an open period having met its deadline first;
work that is done closes the period as DONE and counts it; at the deadline unfinished work is dropped and counted, and not
before it.
Where it rests on a choice or a reading of the model, not on a rule: log entries 5, 6 and 73. -/
def Obligations.PeriodEventsComplete : Prop :=
  (∀ (s : State) (e : Fin 256), (s.dev.perState e = 0 ∨ s.dev.now < s.dev.perNextAt e) → Completes (.periodBoundary e) s s.dev) ∧
  (∀ (s : State) (e : Fin 256), s.dev.perState e ≠ 0 → s.dev.perNextAt e ≤ s.dev.now →
    (s.dev.perState e ≠ 2 → s.dev.pe e F.PE_CTRL_ARMED ≠ 1 → Completes (.periodBoundary e) s (s.dev.perIdle e)) ∧
    (s.dev.perState e ≠ 2 → s.dev.pe e F.PE_CTRL_ARMED = 1 → Completes (.periodBoundary e) s (s.dev.perOpen e)) ∧
    (s.dev.perState e = 2 → s.dev.pe e F.PE_CTRL_ARMED ≠ 1 → Completes (.periodBoundary e) s ((s.dev.perDeadline e).perIdle e)) ∧
    (s.dev.perState e = 2 → s.dev.pe e F.PE_CTRL_ARMED = 1 →
      Completes (.periodBoundary e) s ((s.dev.perDeadline e).perOpen e))) ∧
  (∀ (d : Dev) (e : Nat), fencePlace (d.pe e F.PE_FENCE_FENCE) = none → d.pe e F.PE_CTRL_KIND = 2 →
    let x := d.per? e
    d.perOpen e =
      (d.setPer e { x with
          next := x.next + 1
          opened := d.r64 (perPage e) F.PE_START_LO_START F.PE_START_HI_START (e % 64) + x.next * (1000 * d.pe e F.PE_PERIOD_PERIOD)
          fin := none
          owes := false }).setPe e F.PE_CTRL_STATE 2) ∧
  (∀ (s : State) (e : Fin 256) (st : Nat), s.dev.perState e = 2 → (s.dev.per? e).fin = some st →
    (s.dev.per? e).owes = false →
    Completes (.periodWorkComplete e) s
      (((s.dev.setPer e { s.dev.per? e with fin := none, noSig := false }).setPe e F.PE_CTRL_STATE 3).setPe e
        F.PE_COUNT_DONE (s.dev.pe e F.PE_COUNT_DONE + 1)).settleWaits) ∧
  (∀ (s : State) (e : Fin 256) (st pid i : Nat), s.dev.perState e = 2 → (s.dev.per? e).fin = some st →
    (s.dev.per? e).owes = true → fencePlace (s.dev.pe e F.PE_FENCE_FENCE) = some (pid, i) →
    let n := ((s.dev.setPer e { s.dev.per? e with fin := none, noSig := false }).setPe e F.PE_CTRL_STATE 3).setPe e
        F.PE_COUNT_DONE (s.dev.pe e F.PE_COUNT_DONE + 1)
    Completes (.periodWorkComplete e) s
      (((n.setPer e { n.per? e with owes := false }).paySignal (perUid e) pid i st).settleWaits)) ∧
  (∀ (s : State) (e : Fin 256), (s.dev.perState e ≠ 2 ∨ (s.dev.per? e).fin = none) →
    Completes (.periodWorkComplete e) s s.dev) ∧
  (∀ (s : State) (e : Fin 256), (s.dev.perState e ≠ 2 ∨ s.dev.now < s.dev.perLateAt e) → Completes (.periodDeadline e) s s.dev) ∧
  (∀ (s : State) (e : Fin 256), s.dev.perState e = 2 → s.dev.perLateAt e ≤ s.dev.now → (s.dev.per? e).fin = none →
    let n := s.dev.perDiscard e
    Completes (.periodDeadline e) s
      ((((n.setPer e { n.per? e with fin := none, noSig := true }).setPe e F.PE_CTRL_STATE 3).perDropShow e).perPay e 1).settleWaits) ∧
  (∀ (s : State) (e : Fin 256) (st : Nat), s.dev.perState e = 2 → s.dev.perLateAt e ≤ s.dev.now → (s.dev.per? e).fin = some st →
    Completes (.periodDeadline e) s (s.dev.perDone e)) ∧
  (∀ (d : Dev) (e : Nat), d.pe e F.PE_CTRL_KIND = 2 → d.perDiscard e = d.flipCancel (d.pe e F.PE_TARGET_HANDLE)) ∧
  (∀ (d : Dev) (e : Nat), (d.perDropShow e).r schPid F.PS_DROPS_TOTAL = (d.r schPid F.PS_DROPS_TOTAL + 1) % 2 ^ F.PS_DROPS_TOTAL.w ∧
    (d.perDropShow e).r schPid F.PS_LASTDROP_ENTRY = e % 2 ^ F.PS_LASTDROP_ENTRY.w)

/-! ### Clocks, crossings, the crossbar, the slot wheel, device time and the links (R77 to R122) -/

/-- The island clocks and the crossings (R78, R83): a droop adds its cycles to the cluster's count, and what it took of
the last millisecond is kept, at most 12.5 % of a cycle each; a generator that has settled runs at its target; a word that
no receiver acknowledges ends in an error response for its sender, counts, raises HANDSHAKE and opens a cluster-level
fault, but nothing happens where the receiver is isolated, or is not implemented. Device time (R84 to R87): a tick adds
the increment of 625 times 10^9 plus the clamped rate, and a step that waits, modulo 2^64 ns; CLAMP shows whether the sum
of the rates was cut; with AUTO clear SYNCTRIM is 0 first; the new time is driven on the time bus, whose strobe turns; a
step waits for the next tick; without hinge power nothing counts. A tick also notes the frequencies of the clusters.
Where it rests on a choice or a reading of the model, not on a rule: log entries 5, 6, 28, 29 and 93. -/
def Obligations.ClocksCrossingsAndTimeComplete : Prop :=
  (∀ (s : State) (c : BitVec 8) (n ps : Nat),
    Completes (.clockDroop c ⟨n, ps⟩) s
      { s.dev with fab := { s.dev.fab with
          stretch := tabPut s.dev.fab.stretch 0 c.toNat ((tabGet s.dev.fab.stretch 0 c.toNat + n) % 2 ^ 32)
          droops := tabPut s.dev.fab.droops [] c.toNat ((s.dev.now, n * min (ps * s.dev.clusterMhz c.toNat) 125000) ::
            (tabGet s.dev.fab.droops [] c.toNat).filter (fun x => decide (s.dev.now < x.1 + 1000000))) } }) ∧
  (∀ (s : State) (c : BitVec 8),
    Completes (.clockSettled c) s
      { s.dev with fab := { s.dev.fab with settling := tabDel s.dev.fab.settling c.toNat } }) ∧
  (∀ (s : State) (page : PageRef) (sender : BitVec 8),
    let pid := PageRef.pid page
    let mine := fun (q : Req) => portUnit q.port / 16 == sender.toNat && reqUnit q == pid
    let fault := fun (d : Dev) => (((d.err pid errHandshake).addSat xbPid F.XB_HS_CNT_COUNT).openFault 9 2 pid sender.toNat).fabGo
    ((s.dev.isolated pid = true ∨ s.dev.implemented pid = false) → Completes (.crossingAckTimeout page sender) s s.dev) ∧
    (∀ q : Req, s.dev.isolated pid = false → s.dev.implemented pid = true → s.dev.outstanding.find? mine = some q →
      Completes (.crossingAckTimeout page sender) s (fault ((s.dev.reqDrop q).emit (.errorResponse q.port)))) ∧
    (s.dev.isolated pid = false → s.dev.implemented pid = true → s.dev.outstanding.find? mine = none →
      Completes (.crossingAckTimeout page sender) s (fault (s.dev.emit (.event 83 [sender.toNat]))))) ∧
  (∀ s : State, Completes .referenceTick s s.dev.refTick.clockSample) ∧
  (∀ d : Dev, d.clockSample = { d with fab := { d.fab with speeds := d.clockSample.fab.speeds } }) ∧
  (∀ d : Dev, d.fab.hingeOn = false → d.refTick = d) ∧
  (∀ d : Dev, d.fab.hingeOn = true →
    let b := if d.on dtPid F.DT_CTRL_AUTO then d else d.w dtPid F.DT_SYNCTRIM_PPB 0
    let parts := (625 * (1000000000 + b.rate)).toNat * countUnit + d.fab.carry
    d.refTick.fab.count = (d.fab.count + parts / 24000000000 + d.fab.stepNs * countUnit) % (2 ^ 64 * countUnit) ∧
    d.refTick.fab.carry = parts % 24000000000 ∧ d.refTick.fab.stepNs = 0 ∧
    d.refTick.fab.bus = d.refTick.now ∧ d.refTick.fab.strobe = !d.fab.strobe ∧
    d.refTick.r dtPid F.DT_STAT_CLAMP = (if b.rate = b.rateSum then 0 else 1) ∧
    d.refTick.r dtPid F.DT_SYNCTRIM_PPB = b.r dtPid F.DT_SYNCTRIM_PPB ∧
    (b.rate ≠ b.rateSum → bit (d.refTick.pageErr dtPid) 10 = true) ∧
    d.refTick.mems = d.mems ∧ d.refTick.led = d.led ∧ d.refTick.flt = d.flt ∧ d.refTick.act = d.act) ∧
  (∀ (s : State) (v : Word), let n := s.dev.after .ward dtPid 0x054 v.toNat
    s.dev.accepts .ward dtPid 0x054 v.toNat = true →
    Completes (.deviceTimeStep v) s { n with fab := { n.fab with stepNs := n.fab.stepNs + v.toNat } }) ∧
  (∀ d : Dev, -200000 ≤ d.rate ∧ d.rate ≤ 200000)

/-- Requests at the crossbar (R10, R11, R19, R81, R82, R89, R90, R92, R95, R103, R105): a request has the class and the
tag of its path; one of a class that its port may not issue ends in an error response with ADDRESS_ERROR at the initiator,
one that the mode, the target or an isolation refuses in an error response, a Bolt DRAM read beyond the sixteenth with
`CLS_ADM.RESULT` 3; one without place, room or turn is held by its initiator; another is issued into its port's crossing,
with its timeout. A request without a response ends by its timeout in an error response, is counted and opens a unit-level
fault of the unit that it addressed, and its late response is dropped and counted. The slot wheel's wrap and a channel's
command opportunity (R106, R107, R110, R213): the wrap counts a turn, stamps it, and applies a pending layout whose check
ended in time, which a fault discards; the opportunity issues the request that the slot's owner order picks, or does the
maintenance that is due, after which a channel to which no refresh is owed may pull one in, and nothing outside SERVICE.
Where it rests on a choice or a reading of the model, not on a rule: log entries 5, 6, 25, 26, 28, 41 and 98. -/
def Obligations.RequestsAndSlotsComplete : Prop :=
  (∀ (s : State) (port : Fin 25) (path : Traffic) (target : Fin 5) (page : PageRef) (addr : BitVec 64) (beats : Nat)
      (data : Option (List Nat)),
    let d := s.dev
    let q : Req := { port := port, cls := d.pathClass port path, target := target, tag := d.portTag port path,
                     page := PageRef.pid page, beats := max 1 beats, addr := addr.toNat,
                     data := (data.map asBytes).map (List.take (64 * max 1 beats)) }
    let refused := !d.modeAllows port || (target.val == 1 && (!(port.val == 0) || decide (strikeSize < addr.toNat + 64 * max 1 beats))) ||
      d.reqIsolated q
    let x := d.crossing port
    let i : Req := { q with since := d.now, limit := d.reqLimit target }
    let past := q.boltRead && decide (16 ≤ d.boltReads.length) && decide (d.chanReads addr.toNat < 8)
    (portAllows port q.cls = false →
      Completes (.fabricRequest port path ⟨target, page, addr, beats, data⟩) s ((d.emit (.errorResponse port)).err (portHome port) errAddress)) ∧
    (portAllows port q.cls = true → refused = true →
      Completes (.fabricRequest port path ⟨target, page, addr, beats, data⟩) s (d.emit (.errorResponse port))) ∧
    (portAllows port q.cls = true → refused = false → past = true →
      Completes (.fabricRequest port path ⟨target, page, addr, beats, data⟩) s
        ((d.w clsPid F.CLS_ADM_RESULT 3).emit (.errorResponse port))) ∧
    (portAllows port q.cls = true → refused = false → past = false → d.reqWaits d.fab.waiting q = true →
      Completes (.fabricRequest port path ⟨target, page, addr, beats, data⟩) s
        { d with fab := { d.fab with waiting := d.fab.waiting ++ [q] } }) ∧
    (portAllows port q.cls = true → refused = false → past = false → d.reqWaits d.fab.waiting q = false →
      Completes (.fabricRequest port path ⟨target, page, addr, beats, data⟩) s
        { d with fab := { d.fab with cross := tabPut d.fab.cross {} port.val { x with words := x.words ++ [i], req := !x.req } } })) ∧
  (∀ (d : Dev) (port page : Nat), d.held.find? (d.heldExpired port page) = none → d.heldTimeout port page = d) ∧
  (∀ (s : State) (port : Fin 25) (target : Fin 5) (page : PageRef) (q : Req),
    s.dev.outstanding.find? (s.dev.expired port target (PageRef.pid page)) = some q →
    let late := if s.dev.fab.granted.contains q then s.dev.fab.late ++ [(port.val, target.val)] else s.dev.fab.late
    let n : Dev := { s.dev.reqDrop q with fab := { (s.dev.reqDrop q).fab with late := late } }
    Completes (.responseTimeout port target page) s
      (((((n.emit (.errorResponse port)).err (portHome port) errTimeout).add xbPid F.XB_TMO_CNT_COUNT).w xbPid
        F.XB_LASTTMO_PORT port).w xbPid F.XB_LASTTMO_TARGET target |>.openFault 5 1 (reqUnit q) port).fabGo) ∧
  (∀ (s : State) (port : Fin 25) (target : Fin 5) (page : PageRef),
    s.dev.outstanding.find? (s.dev.expired port target (PageRef.pid page)) = none →
    (target ≠ 3 → Completes (.responseTimeout port target page) s s.dev) ∧
    (target = 3 → Completes (.responseTimeout port target page) s (s.dev.heldTimeout port (PageRef.pid page)))) ∧
  (∀ (d : Dev) (port target page : Nat) (q : Req), d.expired port target page q = true ↔
    q.port = port ∧ q.target = target ∧ ((target = 2 ∨ target = 3) → q.page = page) ∧ q.since + q.limit ≤ d.now) ∧
  (∀ (s : State) (port : Fin 25) (target : Fin 5), s.dev.fab.late.contains (port.val, target.val) = true →
    Completes (.lateResponse port target) s
      (({ s.dev with fab := { s.dev.fab with late := s.dev.fab.late.erase (port.val, target.val) } } : Dev).addSat xbPid
        F.XB_LATE_CNT_COUNT)) ∧
  (∀ (s : State) (port : Fin 25) (target : Fin 5), s.dev.fab.late.contains (port.val, target.val) = false →
    Completes (.lateResponse port target) s s.dev) ∧
  (∀ d : Dev, 16000 ≤ d.reqLimit 0 ∧ 32000 ≤ d.reqLimit 2) ∧
  (∀ (s : State) (inTime : Bool),
    let x := s.dev.stamp swPid
    let n := (x.2.add swPid F.SW_STAT_TURN).w64 swPid F.SW_WRAP_LO_TIME F.SW_WRAP_HI_TIME x.1
    ((s.dev.ctl swPid).pend = none → Completes (.slotWheelWrap inTime) s n) ∧
    (inTime = false → Completes (.slotWheelWrap inTime) s n) ∧
    ((s.dev.ctl swPid).pend ≠ none → inTime = true → n.blockFault swPid = false →
      Completes (.slotWheelWrap inTime) s ((n.applyPend swPid (fun _ => true)).wheelShow)) ∧
    ((s.dev.ctl swPid).pend ≠ none → inTime = true → n.blockFault swPid = true →
      Completes (.slotWheelWrap inTime) s (n.discardPend swPid))) ∧
  (∀ (s : State) (c : Fin 8), s.dev.memService = false → Completes (.dramCommandOpportunity c) s s.dev) ∧
  (∀ (s : State) (c : Fin 8), s.dev.memService = true →
    let mine := s.dev.mc.reqs.filter (fun q => s.dev.chanOf q.addr == c.val)
    let idle := (upFrom 0 8).all (fun p => decide (s.dev.owedOf c p ≤ 0))
    let n := s.dev.maintain c
    (∀ q : DramReq, s.dev.pick c (s.dev.slotOwner s.dev.slotNow) mine = some q →
      Completes (.dramCommandOpportunity c) s (s.dev.issue q)) ∧
    (s.dev.pick c (s.dev.slotOwner s.dev.slotNow) mine = none → (idle && n.boltClear upkeepNs) = true →
      Completes (.dramCommandOpportunity c) s (n.pullIn c)) ∧
    (s.dev.pick c (s.dev.slotOwner s.dev.slotNow) mine = none → (idle && n.boltClear upkeepNs) = false →
      Completes (.dramCommandOpportunity c) s n))

/-- The arbiters (R91, R96 to R101): a fabric cycle takes the target's responses, the words out of the crossings, one
beat, the decision for the next cycle, and the wait of the requests that are left. A decision with no request that has a
free credit, or beside one already made, changes nothing; else it takes one of them, of the highest class that waits, with
its credit, and remembers its port for the round robin of its class; what a transfer has beyond 8 beats requests anew; a
Bulk request that has waited past its port's limit is raised. The crossbar's modes (R102): TEST_REQ set in START asks for
TEST, and cleared in TEST, or while TEST is asked for, asks for START; the mode changes once what is outstanding has
drained, every request that was served being gone from the crossbar, and the requests that came meanwhile enter in the new
mode, which is the model's choice (log 84).
Where it rests on a choice or a reading of the model, not on a rule: log entries 5, 26, 84, 98 and 99. -/
def Obligations.ArbitersAndModesComplete : Prop :=
  (∀ (s : State) (target : Fin 5) (answered : List (Fin 25)),
    let d := ((((s.dev.responses target (answered.map (·.val))).crossingTake target).beat target).decideNext target).cycleWaited target
    (target ≠ 4 → Completes (.arbitrationDecision target answered) s d.fabGo) ∧
    (target = 4 → Completes (.arbitrationDecision target answered) s
      ((((d.outbound 0).outbound 1).outbound 2).outbound 3).fabGo)) ∧
  (∀ (d : Dev) (target : Nat), ((tabFind d.fab.burst target).isSome = true ∨ (tabFind d.fab.decided target).isSome = true) →
    d.decideNext target = d) ∧
  (∀ (d : Dev) (target : Nat), tabFind d.fab.burst target = none → tabFind d.fab.decided target = none →
    let cand := d.fab.reqs.filter (fun r => r.target == target && d.creditFree target r.cls && !d.crossIsolated (portUnit r.port))
    (cand = [] → d.decideNext target = d) ∧
    (cand ≠ [] → ∃ g ∈ cand, d.arbitrate target cand = some g ∧
      (d.r xbPid F.XB_MODE_MODE ≠ 2 → ∀ r ∈ cand, classNo g.cls ≤ classNo r.cls) ∧
      d.decideNext target = { d with fab := { d.fab with
        reqs := d.fab.reqs.erase g
        decided := tabIns d.fab.decided target g
        rr := tabPut d.fab.rr 63 (3 * target + classNo g.cls) g.port } })) ∧
  (∀ (d : Dev) (q : Req), q.target ≠ 1 → q.target ≠ 3 → q.beats ≤ 8 →
    d.grantEnds q = { d with fab := { d.fab with granted := d.fab.granted ++ [q], reqs := d.fab.reqs ++ [] } }) ∧
  (∀ (d : Dev) (q : Req), q.target ≠ 1 → q.target ≠ 3 → 8 < q.beats →
    ∃ r : Req, (d.grantEnds q).fab.granted = d.fab.granted ++ [{ q with beats := 8 }] ∧ (d.grantEnds q).fab.reqs = d.fab.reqs ++ [r] ∧
      r.port = q.port ∧ r.cls = q.cls ∧ r.target = q.target ∧ r.beats = q.beats - 8 ∧ r.addr = q.addr + 512 ∧ r.waited = 0) ∧
  (∀ (s : State) (port : Fin 25),
    Completes (.bulkAging port) s
      { s.dev with fab := { s.dev.fab with reqs := s.dev.fab.reqs.map (fun r =>
          if r.port == port.val then
            (if r.cls == .bulk && decide (s.dev.ageLimit r.port < r.waited) then { r with aged := true } else r)
          else r) } }) ∧
  (∀ (s : State) (v : Word), let n := s.dev.after .ward xbPid 0x040 (withBit v 4)
    s.dev.accepts .ward xbPid 0x040 (withBit v 4) = true →
    (s.dev.r xbPid F.XB_MODE_TEST_REQ = 0 → n.r xbPid F.XB_MODE_MODE = 0 →
      Completes (.crossbarTestEnter v) s { n with fab := { n.fab with drainTo := some 2 } }) ∧
    ((s.dev.r xbPid F.XB_MODE_TEST_REQ = 1 ∨ n.r xbPid F.XB_MODE_MODE ≠ 0) → Completes (.crossbarTestEnter v) s n)) ∧
  (∀ (s : State) (v : Word), let n := s.dev.after .ward xbPid 0x040 (withoutBit v 4)
    s.dev.accepts .ward xbPid 0x040 (withoutBit v 4) = true →
    (s.dev.r xbPid F.XB_MODE_TEST_REQ = 1 → (n.r xbPid F.XB_MODE_MODE = 2 ∨ n.fab.drainTo = some 2) →
      Completes (.crossbarTestLeave v) s { n with fab := { n.fab with drainTo := some 0 } }) ∧
    ((s.dev.r xbPid F.XB_MODE_TEST_REQ = 0 ∨ (n.r xbPid F.XB_MODE_MODE ≠ 2 ∧ n.fab.drainTo ≠ some 2)) →
      Completes (.crossbarTestLeave v) s n)) ∧
  (∀ (s : State) (m : Nat), s.dev.fab.drainTo = some m →
    let n := s.dev.drained
    Completes .crossbarDrainDone s
      (n.fab.waiting.foldl Dev.reqEnter
        (({ n with fab := { n.fab with drainTo := none, waiting := [] } } : Dev).w xbPid F.XB_MODE_MODE m))) ∧
  (∀ d : Dev, d.drained.outstanding = [] ∧ d.drained.fab.resp = [] ∧ d.drained.fab.waiting = d.fab.waiting) ∧
  (∀ s : State, s.dev.fab.drainTo = none → Completes .crossbarDrainDone s s.dev)

/-- The Pintle links (R112 to R114): DOWN to TRAIN as reset is released, TRAIN to UP with its latency and lanes, a failed
attempt that uses spares or, the fourth or with no spare left, takes the link DOWN with a die-level fault; in UP a CRC
error replays from its flit on, whose third failure trains the link again with a unit-level fault; RETRAIN trains a link
that is UP, and waits for the flit that is replayed, which is the model's choice (log 86). In another state of the link
each event changes nothing.
Where it rests on a choice or a reading of the model, not on a rule: log entries 5, 27, 28, 85, 86 and 100. -/
def Obligations.LinksComplete : Prop :=
  (∀ (s : State) (k : Fin 4),
    (s.dev.r (plPid k) F.PL_STAT_STATE = 0 → Completes (.pintleResetRelease k) s (s.dev.linkTrain k)) ∧
    (s.dev.r (plPid k) F.PL_STAT_STATE ≠ 0 → Completes (.pintleResetRelease k) s s.dev)) ∧
  (∀ (d : Dev) (k : Nat), d.linkTrain k =
    (d.setLink k { d.link k with attempts := 0, replays := 0, retrain := false }).w (plPid k) F.PL_STAT_STATE 1) ∧
  (∀ (s : State) (k : Fin 4) (ns : Nat), s.dev.r (plPid k) F.PL_STAT_STATE = 1 →
    let n := ((s.dev.w (plPid k) F.PL_STAT_STATE 2).w (plPid k) F.PL_LAT_NS ns).w (plPid k) F.PL_STAT_LANES (linkLanes k)
    let n := n.w (plPid k) F.PL_STAT_SPARES (n.freeSpares k)
    let n := if k = 2 then n.w dtPid F.DT_LINKOFS_NS ns else n
    Completes (.pintleTrainingComplete k ns) s
      ((n.setLink k { n.link k with attempts := 0, replays := 0, retrain := false }).closeCause 6 (plPid k))) ∧
  (∀ (s : State) (k : Fin 4) (ns : Nat), s.dev.r (plPid k) F.PL_STAT_STATE ≠ 1 →
    Completes (.pintleTrainingComplete k ns) s s.dev) ∧
  (∀ (s : State) (k : Fin 4) (lanes : List (Fin 128)), s.dev.r (plPid k) F.PL_STAT_STATE = 1 →
    let n := s.dev.setLink k { s.dev.link k with attempts := (s.dev.link k).attempts + 1 }
    ((3 ≤ (s.dev.link k).attempts ∨ s.dev.freeSpares k = 0) →
      Completes (.pintleTrainingFail k lanes) s
        ((((n.w (plPid k) F.PL_STAT_STATE 0).w (plPid k) F.PL_STAT_LANES 0).err (plPid k) 12).openFault 12 4 (plPid k) k)) ∧
    ((s.dev.link k).attempts < 3 → s.dev.freeSpares k ≠ 0 → s.dev.on (plPid k) F.PL_CTRL_SPARE_AUTO = true →
      let m := ((lanes.map (·.val)).foldl (fun d l => d.spareLane k l) n).err (plPid k) 11
      Completes (.pintleTrainingFail k lanes) s (m.w (plPid k) F.PL_STAT_SPARES (m.freeSpares k))) ∧
    ((s.dev.link k).attempts < 3 → s.dev.freeSpares k ≠ 0 → s.dev.on (plPid k) F.PL_CTRL_SPARE_AUTO = false →
      Completes (.pintleTrainingFail k lanes) s n)) ∧
  (∀ (s : State) (k : Fin 4) (lanes : List (Fin 128)), s.dev.r (plPid k) F.PL_STAT_STATE ≠ 1 →
    Completes (.pintleTrainingFail k lanes) s s.dev) ∧
  (∀ (s : State) (k : Fin 4) (seq : BitVec 12),
    let n := ((s.dev.add (plPid k) F.PL_CRC_COUNT).add (plPid k) F.PL_REPLAY_COUNT).w (plPid k) F.PL_STAT_STATE 3
    let x := s.dev.link k
    let un := if x.unacked.any (fun f => f.seq == seq.toNat) then x.unacked.dropWhile (fun f => !(f.seq == seq.toNat)) else x.unacked
    (s.dev.r (plPid k) F.PL_STAT_STATE = 2 →
      Completes (.pintleCrcError ⟨k, seq⟩) s (n.setLink k { x with unacked := un, replays := 1 })) ∧
    (s.dev.r (plPid k) F.PL_STAT_STATE ≠ 2 → Completes (.pintleCrcError ⟨k, seq⟩) s s.dev)) ∧
  (∀ (s : State) (k : Fin 4), s.dev.r (plPid k) F.PL_STAT_STATE = 3 →
    let x := s.dev.link k
    let g := ((s.dev.w (plPid k) F.PL_STAT_STATE 2).err (plPid k) 10).setLink k { x with unacked := x.unacked.tail, replays := 0 }
    let n := s.dev.add (plPid k) F.PL_CRC_COUNT
    (x.retrain = false → Completes (.pintleReplayEnd k true) s g) ∧
    (x.retrain = true → Completes (.pintleReplayEnd k true) s (g.linkTrain k)) ∧
    (3 ≤ x.replays → Completes (.pintleReplayEnd k false) s ((n.linkTrain k).openFault 6 1 (plPid k) k)) ∧
    (x.replays < 3 → Completes (.pintleReplayEnd k false) s
      ((n.setLink k { x with replays := x.replays + 1 }).add (plPid k) F.PL_REPLAY_COUNT))) ∧
  (∀ (s : State) (k : Fin 4) (good : Bool), s.dev.r (plPid k) F.PL_STAT_STATE ≠ 3 →
    Completes (.pintleReplayEnd k good) s s.dev) ∧
  (∀ (s : State) (k : Fin 4) (v : Word), let n := s.dev.after .ward (plPid k) 0x040 (withBit v 0)
    s.dev.accepts .ward (plPid k) 0x040 (withBit v 0) = true →
    (n.r (plPid k) F.PL_STAT_STATE = 2 → Completes (.pintleRetrain k v) s (n.linkTrain k)) ∧
    (n.r (plPid k) F.PL_STAT_STATE = 3 →
      Completes (.pintleRetrain k v) s (n.setLink k { n.link k with retrain := true })) ∧
    (n.r (plPid k) F.PL_STAT_STATE ≠ 2 → n.r (plPid k) F.PL_STAT_STATE ≠ 3 → Completes (.pintleRetrain k v) s n))

/-! ### Boot, the lock, the ward restart, the mailboxes (R123 to R160) -/

/-- Power-good (R123, R129, R130, R504): with MAIN_EN high its rise starts every die afresh and the boot ROM; a failed
self-test ends the boot with FAILCODE 8, a wrong descriptor with 1; an image that passes is taken, and one that fails
gives its code and the other slot its turn. A rise that is not awaited changes nothing. The lock (R60, R143): an accepted
LOCK on a table that is not locked, in a boot that has not failed, shows LOCKED and the lock time, locks the pages that
the table names, makes the LOCK record, leaves START, builds the slot wheel, and ends the package-level recoveries; on a
locked table and after a failed boot it changes nothing more. A LOCK without the key, with the table not loaded, or with
the crossbar in TEST is not accepted. The watchdog and the ward restart (R152 to R154): a kick starts the countdown again;
an expiry with EN set and the countdown over restarts the ward after the lock and fails a boot before it; a lock-step
mismatch and a request restart it with causes 2 and 3; a restart that runs already takes no second event. A restart opens
WARD_RESTART on region level, ends the mailbox requests in WAIT with RESTART, discards the pending sets of the ward's
pages, shows its state, cause, count and time, resets cluster 0, and closes every session.
Where it rests on a choice or a reading of the model, not on a rule: log entries 5, 6, 16, 30, 31, 32, 33 and 92. -/
def Obligations.BootLockAndRestartComplete : Prop :=
  (∀ (s : State) (selfTest quad : Bool), s.dev.boot.mainEn = true → s.dev.boot.powerGood = false →
    let n := s.dev.diesFresh false
    let r := ({ n with boot := { n.boot with powerGood := true, quad := quad } } : Dev).release
    (selfTest = false → Completes (.powerGoodRise selfTest quad) s (r.bootFail 8)) ∧
    (selfTest = true → r.descOk r.boot.quad = false → Completes (.powerGoodRise selfTest quad) s (r.bootFail 1)) ∧
    (selfTest = true → r.descOk r.boot.quad = true → Completes (.powerGoodRise selfTest quad) s
      (match r.imageFail (r.slotBase r.firstSlot) with
      | none => r.romAccept r.firstSlot
      | some c =>
        let f := (r.failCode c).w bootPid F.BOOT_STAT_FALLBACK 1
        match f.imageFail (f.slotBase (1 - r.firstSlot)) with
        | none => f.romAccept (1 - r.firstSlot)
        | some e => f.bootFail e))) ∧
  (∀ (s : State) (selfTest quad : Bool), (s.dev.boot.mainEn = false ∨ s.dev.boot.powerGood = true) →
    Completes (.powerGoodRise selfTest quad) s s.dev) ∧
  (∀ (s : State) (ag : Agent) (key : BitVec 16), s.dev.accepts ag htPid 0x040 (keyed key 1) = true →
    let n := s.dev.after ag htPid 0x040 (keyed key 1)
    (n.locked = false → n.bootStage ≠ 15 → Completes (.hingeTableLock ag key) s n.lockEffects.closePackage) ∧
    ((n.locked = true ∨ n.bootStage = 15) → Completes (.hingeTableLock ag key) s n)) ∧
  (∀ (s : State) (ag : Agent) (key : BitVec 16), s.dev.accepts ag htPid 0x040 (keyed key 1) = true →
    key = theKey ∧ s.dev.on htPid F.HT_STAT_LOADED = true ∧ s.dev.r xbPid F.XB_MODE_MODE ≠ 2) ∧
  (∀ d : Dev, d.lockEffects.r bootPid F.BOOT_STAT_STAGE = 3) ∧
  (∀ s : State, Completes .watchdogKick s
    { s.dev with boot := { s.dev.boot with kicked := s.dev.now, kickMs := s.dev.wdgMs } }) ∧
  (∀ s : State, let d := s.dev
    let past := d.on wdgPid F.WDG_CTRL_EN = true ∧ d.boot.kicked + d.boot.kickMs * 1000000 ≤ d.now
    (¬past → Completes .wardWatchdogExpiry s d) ∧
    (past → d.locked = true → Completes .wardWatchdogExpiry s (d.restartBegin 1)) ∧
    (past → d.locked = false → d.bootStage ≠ 15 → Completes .wardWatchdogExpiry s (d.bootFail 9)) ∧
    (past → d.locked = false → d.bootStage = 15 → Completes .wardWatchdogExpiry s d)) ∧
  (∀ s : State, Completes .lockstepCompareFail s (s.dev.restartBegin 2)) ∧
  (∀ (s : State) (ag : Agent) (key : BitVec 16), s.dev.accepts ag wdgPid 0x048 (keyed key 1) = true →
    Completes (.wardRestartRequest ag key) s ((s.dev.after ag wdgPid 0x048 (keyed key 1)).restartBegin 3)) ∧
  (∀ (d : Dev) (c : Nat), d.boot.restart.isSome = true → d.restartBegin c = d) ∧
  (∀ (d : Dev) (c : Nat), d.boot.restart = none →
    let o := d.openFault 10 3 wdgPid c
    let m := o.upTo 5 (fun c d => if d.mbState c = 1 then d.mbDone c 1 [] else d)
    let p := (m.pages.filter (fun e => decide (e.1 < 0x80))).foldl (fun d e => d.discardPend e.1) m
    let w := ((p.w bootPid F.WR_STAT_STATE 1).w bootPid F.WR_STAT_CAUSE c).addSat bootPid F.WR_STAT_COUNT
    let t := (w.w64 bootPid F.WR_LAST_LO_TIME F.WR_LAST_HI_TIME w.now).targetReset 0
    d.restartBegin c = { t with
      spdm := t.spdm.map (fun e => (e.1, { e.2 with sessions := [], phase := 0 }))
      boot := { t.boot with restart := some t.now, wrStep := 1, answered := false } })

/-- The ward mailboxes (R148 to R151): GO outside WAIT takes the request record's tag, counts it, and waits for ward
firmware until its deadline, 10 ms where it names none; a malformed record and a ward restart answer at once; GO in WAIT
is not accepted. Ward firmware reads a request once. A response by the number of the request in WAIT, in time, ends it,
another is counted as late; a deadline that has passed ends it with DEADLINE.
Where it rests on a choice or a reading of the model, not on a rule: log entries 5, 6, 28, 33 and 91. -/
def Obligations.MailboxesComplete : Prop :=
  (∀ (s : State) (ag : Agent) (c : Fin 5), s.dev.accepts ag (mbPid c) 0x0C0 1 = true →
    let n := s.dev.after ag (mbPid c) 0x0C0 1
    let x := n.mbox? c
    let t := n.w (mbPid c) F.MB_STAT_TAG (le (n.mbReq c) 2 2)
    let t : Dev := { t with mbox := tabPut t.mbox {} c { x with count := x.count + 1 } }
    let wait : Dev := { t with
      mbox := tabPut t.mbox {} c { count := x.count + 1, deadline := t.now + 1000 *
        (if le (n.mbReq c) 4 4 = 0 then 10000 else le (n.mbReq c) 4 4) }
      mboxUnread := t.mboxUnread.filter (fun y => !(y == c.val)) ++ [c.val] }
    n.mbState c ≠ 1 ∧
    (mbFormed (n.mbReq c) = false → Completes (.mailboxGo ag c) s (t.mbDone c 4 [])) ∧
    (mbFormed (n.mbReq c) = true → t.wardRestarting = true → Completes (.mailboxGo ag c) s (t.mbDone c 1 [])) ∧
    (mbFormed (n.mbReq c) = true → t.wardRestarting = false →
      Completes (.mailboxGo ag c) s (wait.w (mbPid c) F.MB_STAT_STATE 1))) ∧
  (∀ (s : State) (c : Fin 5),
    (s.dev.mboxUnread.contains c.val = true → Completes (.mailboxRequestRead c) s
      (({ s.dev with mboxUnread := s.dev.mboxUnread.filter (fun x => !(x == c)) } : Dev).emit
        (.message c (s.dev.mbReq c)))) ∧
    (s.dev.mboxUnread.contains c.val = false → Completes (.mailboxRequestRead c) s s.dev)) ∧
  (∀ (s : State) (c : Fin 5), let late := s.dev.mbState c = 1 ∧ (s.dev.mbox? c).deadline < s.dev.now
    (late → Completes (.mailboxDeadline c) s (s.dev.mbDone c 2 [])) ∧
    (¬late → Completes (.mailboxDeadline c) s s.dev) ∧
    (∀ (number : Nat) (status : BitVec 16) (payload : List Nat),
      (late → Completes (.mailboxResponse c number status payload) s ((s.dev.mbDone c 2 []).addSat (mbPid c) F.MB_LATE_COUNT)) ∧
      (¬late → s.dev.mbState c = 1 → (s.dev.mbox? c).count = number →
        Completes (.mailboxResponse c number status payload) s
          ((s.dev.mbDone c status.toNat (payload.map (· % 256))).restartMeasure)) ∧
      (¬late → ¬(s.dev.mbState c = 1 ∧ (s.dev.mbox? c).count = number) →
        Completes (.mailboxResponse c number status payload) s (s.dev.addSat (mbPid c) F.MB_LATE_COUNT))))

/-! ### SPDM and the services (R134 to R138, R150, R304 to R307) -/

/-- The SPDM requests that negotiate and report (R133, R134, R136, R137): each, heard while the ward runs and once the
connection has come as far as it needs, is answered with its response; one that comes too early is an unexpected request,
one during a ward restart is answered BUSY, an unknown one UNSUPPORTED, another slot or part than the device has INVALID.
The orders and codes are those of the DMTF's own specification (log entry 34). The sessions (R136, R138, R154):
KEY_EXCHANGE opens one where fewer than two are open and is refused with SESSION_LIMIT_EXCEEDED otherwise; FINISH makes it
ready, proved where the requester's root is the port's ROOTHASH and that is not zero, and a failed proof ends it;
HEARTBEAT, KEY_UPDATE and END_SESSION are answered in a session that is open, and with DECRYPT_ERROR in another.
Where it rests on a choice or a reading of the model, not on a rule: log entry 34. -/
def Obligations.SpdmCompletes : Prop :=
  (∀ (s : State) (p : Fin 4) (i : BitVec 8), let last := if s.dev.spdmOn p then 2 else 0
    (s.dev.bootStage ≠ 3 → Completes (.doeDiscovery p i) s s.dev) ∧
    (s.dev.bootStage = 3 → last < i.toNat → Completes (.doeDiscovery p i) s ((s.dev.heard p).emit (.event 137 [p.val, 0xFFFF, 0, 0]))) ∧
    (s.dev.bootStage = 3 → i.toNat ≤ last → Completes (.doeDiscovery p i) s
      ((s.dev.heard p).emit (.event 137 [p.val, 1, i.toNat, if i.toNat < last then i.toNat + 1 else 0])))) ∧
  (∀ p : Fin 4,
    AnswersSpdm (.getVersion p) p 0 (fun d => (d.setSpdm p { d.spdmOf p with phase := 1, sessions := [] }).spdmSay p 0x04 0 0 [0x12]) ∧
    AnswersSpdm (.getCapabilities p) p 1 (fun d => (d.setSpdm p { d.spdmOf p with phase := 2 }).spdmSay p 0x61 0 0 [17, 0x73F6]) ∧
    (∀ asym hash dhe aead : Bool, AnswersSpdm (.negotiateAlgorithms p asym hash dhe aead) p 2 (fun d =>
      (d.setSpdm p { d.spdmOf p with phase := 3 }).spdmSay p 0x63 0 0 [b2n asym, b2n hash, b2n dhe, b2n aead])) ∧
    AnswersSpdm (.getDigests p) p 3 (fun d => d.spdmSay p 0x01 0 1 (sha384 d.chain)) ∧
    (∀ (slot : Fin 8) (off len : BitVec 16), AnswersSpdm (.getCertificate p slot off len) p 3 (fun d =>
      let part := (d.chain.drop off.toNat).take (min len.toNat 4064)
      if slot.val ≠ 0 ∨ d.chain.length ≤ off.toNat then d.spdmError p 1
      else d.spdmSay p 0x02 0 0 (bytesLE 2 part.length ++ bytesLE 2 (d.chain.length - off.toNat - part.length) ++ part))) ∧
    (∀ (op : BitVec 8) (sign : Bool), AnswersSpdm (.getMeasurements p op sign) p 3 (fun d =>
      let blocks := if op.toNat = 0 then [] else if op.toNat = 255 then (upFrom 1 7).flatMap d.measBlock else d.measBlock op.toNat
      let sig := if sign then Config.drawn 0 d.fresh ++ Config.signed d.boot.aliasKey blocks d.fresh else []
      if 7 < op.toNat ∧ op.toNat ≠ 255 then d.spdmError p 1
      else d.tick.spdmSay p 0x60 (if op.toNat = 0 then 7 else 0) 0 (blocks ++ sig))) ∧
    (∀ (slot : Fin 8) (summary : Bool), AnswersSpdm (.challenge p slot summary) p 3 (fun d =>
      let body := sha384 d.chain ++ Config.drawn 0 d.fresh ++ (if summary then sha384 ((upFrom 1 7).flatMap d.measBlock) else [])
      if slot.val ≠ 0 then d.spdmError p 1
      else d.tick.spdmSay p 0x03 0 1 (body ++ Config.signed d.boot.aliasKey body d.fresh))) ∧
    (∀ code : BitVec 8, AnswersSpdm (.unsupportedSpdmRequest p code) p 0 (fun d => d.spdmError p 7 code.toNat))) ∧
  (∀ d : Dev, let certs := Config.rootCert ++ Config.caCert ++ Config.deviceCert identityPublic Config.evaluationPart ++ d.boot.aliasCert
    d.chain = bytesLE 2 (52 + certs.length) ++ [0, 0] ++ sha384 Config.rootCert ++ certs) ∧
  (∀ (p : Fin 4) (slot : Fin 8), AnswersSpdm (.keyExchange p slot) p 3 (fun d =>
    let x := d.spdmOf p
    let body := bytesLE 4 x.next ++ [b2n ((d.rootHash p).any (fun b => !(b == 0)))] ++ Config.drawn 1 d.fresh
    if slot.val ≠ 0 then d.spdmError p 1
    else if 2 ≤ x.sessions.length then d.spdmError p 10
    else (d.tick.setSpdm p { x with sessions := x.sessions ++ [{ id := x.next }], next := x.next % (2 ^ 32 - 1) + 1 }).spdmSay p
      0x64 10 0 (body ++ Config.signed d.boot.aliasKey body d.fresh))) ∧
  (∀ (p : Fin 4) (id : BitVec 32) (root : Option (BitVec 384)) (good : Bool), AnswersSpdm (.finish p id root good) p 0 (fun d =>
    let x := d.spdmOf p
    match x.sessions.find? (fun y => y.id == id.toNat && !y.ready) with
    | none => d.spdmError p 4
    | some y =>
      if good = false then (d.setSpdm p { x with sessions := x.sessions.erase y }).spdmError p 6
      else (d.setSpdm p { x with sessions := x.sessions.map (fun y => if y.id = id.toNat then { y with
        ready := true
        mutual_ := (d.rootHash p).any (fun b => !(b == 0)) && root.map (fun r => bytesLE 48 r.toNat) == some (d.rootHash p) }
        else y) }).spdmSay p 0x65 0 0)) ∧
  (∀ (p : Fin 4) (id : BitVec 32),
    AnswersSecured (.heartbeat p id) p id.toNat (fun d => d.spdmSay p 0x68 0 0) ∧
    (∀ op : BitVec 8, AnswersSecured (.keyUpdate p id op) p id.toNat (fun d => d.spdmSay p 0x69 op.toNat 0)) ∧
    AnswersSecured (.endSession p id) p id.toNat (fun d =>
      (d.setSpdm p { d.spdmOf p with sessions := (d.spdmOf p).sessions.filter (fun x => !(x.id == id.toNat)) }).spdmSay p 0x6C 0 0))

/-- The services of groups 0 and 1 and the head services (R138, R148 to R150, R306), asked for in a mailbox or in a
session: the state, the ledger by checkpoint, the safe screen and the emergency test, and the answer to a bad payload;
without the grant, or the port's root above group 1, the answer is DENIED. The prompts (R304, R306, R307, R361):
SHOW_PROMPT of an unknown template, of a head, window, scale or flags out of range, of a window that a prompt holds, or of
regions that no port has free is a bad payload; a prompt that can be shown is kept, with its handle, and its touch regions
are written first. CLEAR_PROMPT hides one that is shown; PROMPT_STATE and GET_ENTRY answer for a prompt of the session,
GET_ENTRY erasing the codes; another handle is a bad payload. A prompt whose time is over has ended timed out.
Where it rests on a choice or a reading of the model, not on a rule: log entries 5, 34, 35 and 36. -/
def Obligations.ServicesAndPromptsComplete : Prop :=
  (∀ item : Fin 4, ServedBy (fun v => .getState v item) 1 (fun v d => d.answerVia v 1 0 (match item with
    | 0 => bytesLE 4 d.bootStage
    | 1 => bytesLE 4 (d.r bootPid F.WR_STAT_COUNT)
    | 2 => bytesLE 8 (d.r64 htPid F.HT_LOCKT_LO_TIME F.HT_LOCKT_HI_TIME)
    | 3 => bytesLE 4 (d.r ledPid F.LED_SEQ_NEXT)))) ∧
  (∀ num : BitVec 32, ServedBy (fun v => .ledgerExport v num) 0x10 (fun v d => match v with
    | .mailbox _ _ => d.answerVia v 0x10 0 (bytesLE 4 (d.r ledPid F.LED_SEQ_NEXT) ++ bytesLE 4 d.ringHead)
    | .session _ _ _ _ _ => match ckptBlock num.toNat d.ringSlots with
      | none => d.answerVia v 0x10 4 []
      | some b => (exportParts 3 (b ++ ckptEntries (le b 16 4) d.ringSlots)).foldl (fun d x => d.answerVia v 0x10 0 x) d)) ∧
  (∀ head safe : BitVec 8, ServedBy (fun v => .setSafe v head safe) 0x301 (fun v d =>
    if head.toNat < 8 ∧ safe.toNat < 2 then
      ((d.fwWrite (stkPid head.toNat) 0x040 safe.toNat).fwCommit (stkPid head.toNat)).answerVia v 0x301 0 []
    else d.answerVia v 0x301 4 [])) ∧
  (∀ (msg : BitVec 8) (secs : BitVec 16), ServedBy (fun v => .testEmergency v msg secs) 0x401 (fun v d =>
    let n := ({ d with disp := { d.disp with emgFrame := none } } : Dev).fwWrite scPid 0x040 (1 + 16 * msg.toNat)
    if msg.toNat < 16 ∧ 1 ≤ secs.toNat ∧ secs.toNat ≤ 600 then
      ({ n with emgTest := some (n.now + 1000000000 * secs.toNat) } : Dev).answerVia v 0x401 0 []
    else d.answerVia v 0x401 4 [])) ∧
  (∀ r : ShowReq, ServedBy (fun v => .showPrompt v r) 0x101 (fun v d => match v with
    | .mailbox _ _ => d
    | .session p id tag _ _ =>
      let h := r.head.toNat
      let w := r.window.toNat
      match d.tplEntry r.template.toNat with
      | none => d.answerVia v 0x101 4 []
      | some e =>
        let ports := if bit r.flags.toNat 0 then (upFrom 0 8).filter (fun t => d.touchEn t && d.touchHead t == h) else []
        let regions := ports.map (fun t => (t, d.freeRegions t ((d.tplKeys e).length + 1)))
        let bad := 8 ≤ h ∨ 8 ≤ w ∨ r.scale.toNat = 0 ∨ 4 < r.scale.toNat ∨ 8 ≤ r.flags.toNat ∨ (∃ x ∈ regions, x.2 = none) ∨
          ∃ x ∈ d.prompts, x.head = h ∧ x.win = w ∧ x.stage < 5
        let q : Prompt := {
          handle := d.nextPrompt, port := p.val, session := id.toNat, tag := tag.toNat, head := h, win := w, tpl := e
          x := r.x.toNat, y := r.y.toNat, scale := r.scale.toNat, collect := bit r.flags.toNat 2, crc := bit r.flags.toNat 1
          regions := regions.map (fun x => (x.1, x.2.getD 0)), keys := (d.tplKeys e).map (fun k => (k.code, k.flags))
          entryMax := d.tpl e 15 1, timeout := r.timeout.toNat }
        if bad then d.answerVia v 0x101 4 []
        else q.regions.foldl (fun (d : Dev) x => d.fwRegions q x.1 x.2)
          { d with prompts := d.prompts ++ [q], nextPrompt := d.nextPrompt % (2 ^ 32 - 1) + 1 })) ∧
  (∀ h : BitVec 32,
    ServedBy (fun v => .clearPrompt v h) 0x102 (fun v d => match d.promptOf v h.toNat with
      | none => d.answerVia v 0x102 4 []
      | some q =>
        if q.stage = 2 then ((d.fwHide q).setPrompt { q with stage := 3, state := 4, ends := none }).answerVia v 0x102 0 []
        else d.answerVia v 0x102 4 []) ∧
    ServedBy (fun v => .promptState v h) 0x103 (fun v d => match d.promptOf v h.toNat with
      | none => d.answerVia v 0x103 4 []
      | some q => d.answerVia v 0x103 0 [q.state, q.codes.length, if q.crc then sat 255 (d.promptMism q - q.mism) else 0]) ∧
    ServedBy (fun v => .getEntry v h) 0x201 (fun v d => match d.promptOf v h.toNat with
      | none => d.answerVia v 0x201 4 []
      | some q => (d.answerVia v 0x201 0 ([q.state, q.codes.length] ++ takePad 0 32 q.codes)).setPrompt { q with codes := [] })) ∧
  (∀ (s : State) (h : BitVec 32), Completes (.promptTimeout h) s
    (match s.dev.prompts.find? (fun q => q.handle == h.toNat) with
    | none => s.dev
    | some q => if q.state = 0 ∧ ∃ t ∈ q.ends, t ≤ s.dev.now then s.dev.setPrompt { q with state := 3, ends := none } else s.dev))

/-! ### Host ports and virtual instances (R124, R146, R162 to R174) -/

/-- Host accesses (R124, R130, R163, R164, R166, R167): a VF that is absent answers Unsupported Request and drops writes.
A read stays behind the port's own earlier writes and behind a link that trains; else it is answered: one register, or two
aligned to 8 bytes, low word first, an error response with zeros and counted, and another length aborted. A write of one
or two whole DW is as many register writes, another is dropped with ADDRESS_ERROR on the writer's home page. A
configuration request is answered with Retry until the lock, or until a boot has failed, and carried out after it.
Where it rests on a choice or a reading of the model, not on a rule: log entries 14, 15, 18, 37 and 94. -/
def Obligations.HostAccessesComplete : Prop :=
  (∀ (s : State) (p : Fin 4) (vf : Option (Fin 64)) (a : BitVec 24) (n : Nat) (w : List Word) (all : Bool) (op : CfgOp),
    s.dev.hostAgent p vf = none →
    Completes (.hostMemoryRead p vf a n) s (s.dev.emit (.completion p cplUnsupported [])) ∧
    Completes (.hostMemoryWrite p vf a w all) s s.dev ∧
    Completes (.configurationRequest p vf op) s (s.dev.emit (.completion p cplUnsupported []))) ∧
  (∀ (s : State) (p : Fin 4) (vf : Option (Fin 64)) (a : BitVec 24) (ag : Agent) (n : Nat), s.dev.hostAgent p vf = some ag →
    let pid := agentPage ag a.toNat
    let off := a.toNat % 4096
    (∀ why : HoldWhy, s.dev.readWaits ag pid off s.dev.held = some why → Completes (.hostMemoryRead p vf a n) s
      { s.dev with held := s.dev.held ++
          [{ ag := ag, pid := pid, off := off, v := 0, why := why, rd := some (.host p a.toNat n), since := s.dev.now }] }) ∧
    (s.dev.readWaits ag pid off s.dev.held = none →
      Completes (.hostMemoryRead p vf a n) s (s.dev.hostServe p ag a.toNat n))) ∧
  (∀ (d : Dev) (p : Nat) (ag : Agent) (a v : Nat) (e : Bool) (n : Dev),
    d.read ag (agentPage ag a) (a % 4096) = (v, e, n) →
    let bad := fun (d : Dev) (l : List Nat) => (d.add (hpPid p) F.HP_RDERR_COUNT).emit (.completion p cplOk l)
    (e = false → d.hostServe p ag a 1 = n.emit (.completion p cplOk [v])) ∧
    (e = true → d.hostServe p ag a 1 = bad n [0]) ∧
    (e = true → a % 8 = 0 → d.hostServe p ag a 2 = bad n [0, 0]) ∧
    (∀ (w : Nat) (f : Bool) (m : Dev), e = false → a % 8 = 0 →
      n.read ag (agentPage ag (a + 4)) ((a + 4) % 4096) = (w, f, m) →
      d.hostServe p ag a 2 = if f then bad m [0, 0] else m.emit (.completion p cplOk [v, w]))) ∧
  (∀ (d : Dev) (p : Nat) (ag : Agent) (a n : Nat), n ≠ 1 → (n ≠ 2 ∨ a % 8 ≠ 0) →
    d.hostServe p ag a n = d.emit (.completion p cplAbort [])) ∧
  (∀ (s : State) (p : Fin 4) (vf : Option (Fin 64)) (a : BitVec 24) (ag : Agent), s.dev.hostAgent p vf = some ag →
    (∀ v : Word, Completes (.hostMemoryWrite p vf a [v] true) s (s.dev.writeAt ag a.toNat v.toNat)) ∧
    (∀ v w : Word, Completes (.hostMemoryWrite p vf a [v, w] true) s
      ((s.dev.writeAt ag a.toNat v.toNat).writeAt ag (a.toNat + 4) w.toNat)) ∧
    (∀ (l : List Word) (all : Bool), (all = false ∨ l = [] ∨ 3 ≤ l.length) →
      Completes (.hostMemoryWrite p vf a l all) s (s.dev.err (homePage ag) errAddress))) ∧
  (∀ (s : State) (p : Fin 4) (vf : Option (Fin 64)) (ag : Agent) (op : CfgOp), s.dev.hostAgent p vf = some ag →
    let open_ := s.dev.locked = true ∨ s.dev.bootStage = 15
    (¬open_ → Completes (.configurationRequest p vf op) s (s.dev.emit (.completion p cplRetry []))) ∧
    (open_ → Completes (.configurationRequest p vf op) s ((s.dev.cfgApply p vf op).emit (.completion p cplOk
      (match op with
      | .read item => s.dev.cfgItem p vf.isSome (fnNo p vf) item
      | _ => []))))) ∧
  (∀ (d : Dev) (p : Fin 4) (vf : Option (Fin 64)) (on : Bool),
    let c := tabGet d.fn {} (fnNo p vf)
    let put := fun (c : FnCfg) => { d with fn := tabPut d.fn {} (fnNo p vf) c }
    d.cfgApply p vf (.msixEnable on) = put { c with msixEn := on } ∧
    d.cfgApply p vf (.functionMask on) = put { c with funcMask := on } ∧
    d.cfgApply p vf (.powerState on) = put { c with dstate := if on then 3 else 0 } ∧
    d.cfgApply p vf (.errorReporting on) = (if vf = none then put { c with uieOn := on } else d) ∧
    d.cfgApply p vf .clearError = (if vf = none then put { c with uie := false } else d) ∧
    d.cfgApply p vf .doeGo = (if vf = none ∧ d.doeWaiting.contains p.val = false then
      { d with doeWaiting := d.doeWaiting ++ [p.val] } else d))

/-- Errors on the device's own reads, and an open pilot's (R146, R168): each kind of read error is counted in its field of
`HP_DMAERR`, sets the port's error bit and answers the initiator with an error; a started command named by it ends
HOST_ERROR; an error that names none is the next read's of the port (log 74). A second-stage fault of a running pilot is
counted, stops its firmware and opens a fault; of a pilot that does not run, of firmware that is off or stopped already,
it does nothing. Functions and ports (R162, R164, R169, R423, R504): NumVFs takes its value and every VF now present goes
from OFF to STOPPED with its window at reset values (once the table is locked), every other to OFF; FLR of a VF restarts a
live VI and clears the window of a stopped one; FLR of a PF and a link that goes down end every VF, the PF's own work, its
interrupts and its mailbox; a link that comes up at a rate and a width of its port shows both.
Where it rests on a choice or a reading of the model, not on a rule: log entries 5, 37, 38, 78, 94 and 101. -/
def Obligations.FunctionsPortsAndErrorsComplete : Prop :=
  (∀ (s : State) (p : Fin 4) (cmd : Option (Fin 64 × Fin 64 × Word)),
    let failed := fun (count : FD) =>
      let n := ((s.dev.addSat (hpPid p) count).err (hpPid p) 10).emit (.errorResponse (4 + p))
      match cmd with
      | none => { n with hst := { n.hst with failNext := n.hst.failNext ++ [p.val] } }
      | some (v, c, id) => n.failCmd v c (some id.toNat) 3
    Completes (.dmaCompletionError p 0 cmd) s (failed F.HP_DMAERR_UR) ∧
    Completes (.dmaCompletionError p 1 cmd) s (failed F.HP_DMAERR_CA) ∧
    Completes (.dmaCompletionError p 2 cmd) s (failed F.HP_DMAERR_POISON) ∧
    Completes (.dmaCompletionTimeout p cmd) s (failed F.HP_DMAERR_CTO)) ∧
  (∀ (d : Dev) (v ctx id st : Nat), let named := fun (x : Cmd) =>
      x.vi == v && x.ctx == ctx && x.gen == d.gen v && x.started && x.status.isNone && x.cmdId == id
    (∀ c : Cmd, d.rend.cmds.find? named = some c → d.failCmd v ctx (some id) st =
      { d with rend := { d.rend with cmds := d.rend.cmds.map (fun x => if x.uid = c.uid then { x with status := some st } else x) } }) ∧
    (d.rend.cmds.find? named = none → d.failCmd v ctx (some id) st = d)) ∧
  (∀ (s : State) (k : Fin 3),
    let runs := bit (s.dev.r opPid F.OP_STAT_RUN) k = true ∧ s.dev.on opPid F.OP_STAT_FW = true ∧
      s.dev.boot.fwStopped.contains k.val = false
    (runs → Completes (.openStage2Fault k) s
      ((({ s.dev with boot := { s.dev.boot with fwStopped := s.dev.boot.fwStopped ++ [k.val] } } : Dev).addSat opPid
        F.OP_STAT_S2F).openFault 7 1 opPid k)) ∧
    (¬runs → Completes (.openStage2Fault k) s s.dev)) ∧
  (∀ (s : State) (p : Fin 4) (n : Fin 33),
    let e : Dev := { s.dev with hst := { s.dev.hst with sriov := tabPut s.dev.hst.sriov 0 p n } }.w (hpPid p) F.HP_VFS_NUM n
    let r := (s.dev.portVis p).foldl (fun d v =>
      if d.vfPresent v then if d.viState v = 0 && d.locked then (d.windowReset v).setViState v 1 else d
      else d.viOff v) e
    (tabGet s.dev.hst.sriov 0 p ≤ n → Completes (.vfEnable p n) s r) ∧
    (n < tabGet s.dev.hst.sriov 0 p → Completes (.vfEnable p n) s s.dev) ∧
    (n ≤ tabGet s.dev.hst.sriov 0 p → Completes (.vfDisable p n) s r) ∧
    (tabGet s.dev.hst.sriov 0 p < n → Completes (.vfDisable p n) s s.dev)) ∧
  (∀ (s : State) (v : Fin 64),
    let e : Dev := { s.dev with fn := tabPut s.dev.fn {} (4 + v) {} }
    let st := s.dev.viState v
    ((st = 3 ∨ st = 5 ∨ st = 6) → Completes (.vfFlr v) s (e.viReset v true)) ∧
    ((st = 1 ∨ st = 2) → Completes (.vfFlr v) s (e.windowReset v)) ∧
    (¬(1 ≤ st ∧ st ≤ 6 ∧ st ≠ 4) → Completes (.vfFlr v) s e)) ∧
  (∀ (s : State) (p : Fin 4),
    let gone := fun (d : Dev) =>
      let d := d.vfsChange p 0
      let d := ({ d with fn := tabPut d.fn {} p {} } : Dev).targetReset (68 + p)
      let d : Dev := { d with doeWaiting := d.doeWaiting.filter (fun x => !(x == p.val)) }
      let l := layerPage (codePf p)
      let f := flipPage (codePf p)
      ((d.workGone (codePf p)).pageReset l (lockKey l)).pageReset f (lockKey f)
    let down := ((s.dev.w (hpPid p) F.HP_LINK_DLUP 0).w (hpPid p) F.HP_LINK_SPEED 0).w (hpPid p) F.HP_LINK_WIDTH 0
    Completes (.pfFlr p) s (gone s.dev) ∧ Completes (.portDlDown p) s (gone down) ∧
    Completes (.perstAssert p) s (gone down)) ∧
  (∀ (s : State) (p : Fin 4) (speed : Fin 8) (width : Fin 16),
    let fits := 1 ≤ speed.val ∧ speed.val ≤ 5 ∧ (width.val = 1 ∨ width.val = 2 ∨ (width.val = 4 ∧ p.val < 2))
    (fits → Completes (.portDlUp p speed width) s
      (((s.dev.w (hpPid p) F.HP_LINK_DLUP 1).w (hpPid p) F.HP_LINK_SPEED speed).w (hpPid p) F.HP_LINK_WIDTH width)) ∧
    (¬fits → Completes (.portDlUp p speed width) s s.dev)) ∧
  (∀ (d : Dev) (v : Nat) (again : Bool),
    (d.viReset v again).viState v = 4 ∧ (d.viReset v again).gen v = nextGen ((d.viActions v).gen v) % 256 ∧
    ((d.viReset v again).vi v).restart = again)

/-- The requests on a virtual instance (R169 to R174), in an accepted write: with the key, CREATE from STOPPED waits for
the open world, RESET and REMOVE start a reset from a live state, QUIESCE and RESUME change between ACTIVE and the quiet
states; a wrong key, a wrong state and a stage-2 root outside the port's window are refused with their reasons. The open
world accepts or refuses the oldest CREATE, 100 ms without a decision end it, and a reset ends once no old work is left.
Where it rests on a choice or a reading of the model, not on a rule: log entries 5, 16 and 38. -/
def Obligations.InstanceRequestsComplete : Prop :=
  (∀ (s : State) (ag : Agent) (v : Fin 64) (key : BitVec 16),
    let n := fun q => s.dev.after ag (0x090 + v) 0x040 (keyed key q)
    let accepts := fun q => s.dev.accepts ag (0x090 + v) 0x040 (keyed key q) = true
    let st := fun q => (n q).viState v
    (accepts 1 → Completes (.create ag v key) s
      (if key ≠ theKey then (n 1).viRefuse v 5 else if st 1 ≠ 1 then (n 1).viRefuse v 1
      else if (n 1).rootOk v = false then (n 1).viRefuse v 2
      else ({ (n 1).setViState v 2 with hst := { (n 1).hst with creates := (n 1).hst.creates ++ [(v.val, (n 1).now)] } } : Dev).reqShow)) ∧
    (accepts 2 → Completes (.reset ag v key) s
      (if key ≠ theKey then (n 2).viRefuse v 5
      else if st 2 = 3 ∨ st 2 = 5 ∨ st 2 = 6 then (n 2).viReset v true else (n 2).viRefuse v 1)) ∧
    (accepts 3 → Completes (.remove ag v key) s
      (if key ≠ theKey then (n 3).viRefuse v 5
      else if st 3 = 3 ∨ st 3 = 5 ∨ st 3 = 6 then (n 3).viReset v false else (n 3).viRefuse v 1)) ∧
    (accepts 4 → Completes (.quiesce ag v key) s
      (if key ≠ theKey then (n 4).viRefuse v 5
      else if st 4 = 3 then ((n 4).setViState v 5).quiesced v else (n 4).viRefuse v 1)) ∧
    (accepts 5 → Completes (.resume ag v key) s
      (if key ≠ theKey then (n 5).viRefuse v 5
      else if st 5 = 5 ∨ st 5 = 6 then (n 5).setViState v 3 else (n 5).viRefuse v 1))) ∧
  (∀ (s : State) (ag : Agent) (key : BitVec 16),
    let a := s.dev.after ag 0x084 0x054 (keyed key 1)
    let r := s.dev.after ag 0x084 0x054 (keyed key 2)
    (s.dev.accepts ag 0x084 0x054 (keyed key 1) = true →
      ∃ (v t : Nat) (rest : List (Nat × Nat)), a.hst.creates = (v, t) :: rest ∧
        Completes (.createAccept ag key) s (((a.dropCreate v).setViState v 3).add 0x084 F.PP_CREATED_COUNT)) ∧
    (s.dev.accepts ag 0x084 0x054 (keyed key 2) = true →
      ∃ (v t : Nat) (rest : List (Nat × Nat)), r.hst.creates = (v, t) :: rest ∧
        Completes (.createRefuse ag key) s (((r.dropCreate v).setViState v 1).viRefuse v 3))) ∧
  (∀ s : State,
    (s.dev.hst.creates = [] → Completes .createTimeout s s.dev) ∧
    (∀ (v t : Nat) (rest : List (Nat × Nat)), s.dev.hst.creates = (v, t) :: rest →
      (s.dev.now < t + 100000000 → Completes .createTimeout s s.dev) ∧
      (t + 100000000 ≤ s.dev.now → Completes .createTimeout s (((s.dev.dropCreate v).setViState v 1).viRefuse v 4)))) ∧
  (∀ (s : State) (v : Fin 64),
    (s.dev.viState v = 4 → s.dev.viQuiet v = true →
      Completes (.viResetComplete v) s (s.dev.setViState v (if (s.dev.vi v).restart then 3 else 1))) ∧
    ((s.dev.viState v ≠ 4 ∨ s.dev.viQuiet v = false) → Completes (.viResetComplete v) s s.dev)) ∧
  (∀ (d : Dev) (v reason : Nat), reason < 8 →
    (d.viRefuse v reason).r (vihPid v) F.VIH_STAT_REFUSE = reason ∧ (d.viRefuse v reason).viState v = d.viState v)

/-! ### Contexts, commands, translation (R175 to R194, R238 to R243) -/

/-- Contexts (R175, R179, R181, R182, R266): enabling one runs it with empty queues at the positions of its registers,
disabling it drains it; a doorbell of a running context sets its tail or head, one with an index that its ring does not
have is an error of the context, one of a context that does not run is an error of the page; the next waiting context
takes a free slot, or that of the context it evicts, which waits again where it has entries left; a share period ends the
charges of the last.
Where it rests on a choice or a reading of the model, not on a rule: log entries 5, 16 and 39. -/
def Obligations.ContextsComplete : Prop :=
  (∀ (s : State) (v c : Fin 64) (x : Word),
    let on := s.dev.after (.vi v) 1 (0x800 + 32 * c) (withBit x 0)
    let off := s.dev.after (.vi v) 1 (0x800 + 32 * c) (withoutBit x 0)
    let starts := s.dev.rises (ctxPid v) (withBit x 0) F.CTX_CTRL_ENABLE c = true ∧ on.ctxState v c = 0
    let stops := s.dev.falls (ctxPid v) (withoutBit x 0) F.CTX_CTRL_ENABLE c = true ∧ off.ctxState v c ≠ 0
    (s.dev.accepts (.vi v) 1 (0x800 + 32 * c) (withBit x 0) = true →
      (starts → Completes (.contextEnable v c x) s
        ((((on.setCtx v c { sqTail := on.r (ctxPid v) F.CTX_SQ_HEAD_INDEX c, cqHead := on.r (ctxPid v) F.CTX_CQ_TAIL_INDEX c }).w
          (ctxPid v) F.CTX_CTRL_STATE 1 c).w (ctxPid v) F.CTX_CTRL_ERR 0 c).ctxEnShow v)) ∧
      (¬starts → Completes (.contextEnable v c x) s on)) ∧
    (s.dev.accepts (.vi v) 1 (0x800 + 32 * c) (withoutBit x 0) = true →
      (stops → Completes (.contextDisable v c x) s
        ((({ off with hst := { off.hst with waitRes := off.hst.waitRes.filter (fun k => !(k == ctxKey v c)) } } : Dev).w
          (ctxPid v) F.CTX_CTRL_STATE 3 c).ctxDrained v c)) ∧
      (¬stops → Completes (.contextDisable v c x) s off))) ∧
  (∀ (s : State) (v c : Fin 64) (x : Word), s.dev.accepts (.vi v) 2 (0x040 + 4 * c) x.toNat = true →
    let n := s.dev.after (.vi v) 2 (0x040 + 4 * c) x.toNat
    (n.bellOk v c = false → Completes (.sqDoorbell v c x) s (n.err (viPage v 2) 10)) ∧
    (n.bellOk v c = true → n.sqSize v c ≤ x.toNat % 2 ^ 12 → Completes (.sqDoorbell v c x) s (n.ctxError v c 1)) ∧
    (n.bellOk v c = true → x.toNat % 2 ^ 12 < n.sqSize v c →
      let m := n.setCtx v c { n.ctxSt v c with sqTail := x.toNat % 2 ^ 12 }
      Completes (.sqDoorbell v c x) s ((if m.unfetched v c then m.needRes v c else m).ctxShow v c))) ∧
  (∀ (s : State) (v c : Fin 64) (x : Word), s.dev.accepts (.vi v) 2 (0x140 + 4 * c) x.toNat = true →
    let n := s.dev.after (.vi v) 2 (0x140 + 4 * c) x.toNat
    let size := n.cqSize v c
    let head := x.toNat % 2 ^ 14
    let tail := n.r (ctxPid v) F.CTX_CQ_TAIL_INDEX c
    let old := (n.ctxSt v c).cqHead
    (n.bellOk v c = false → Completes (.cqDoorbell v c x) s (n.err (viPage v 2) 10)) ∧
    (n.bellOk v c = true → (size ≤ head ∨ (tail + size - old) % size < (head + size - old) % size) →
      Completes (.cqDoorbell v c x) s (n.ctxError v c 1)) ∧
    (n.bellOk v c = true → head < size → (head + size - old) % size ≤ (tail + size - old) % size →
      Completes (.cqDoorbell v c x) s (n.setCtx v c { n.ctxSt v c with cqHead := head }))) ∧
  (∀ s : State,
    (s.dev.waitOrder.find? (fun k => (s.dev.slotFor k).isSome) = none → Completes .contextSwapIn s s.dev) ∧
    (∀ (k : Nat) (out : Option Nat), s.dev.waitOrder.find? (fun k => (s.dev.slotFor k).isSome) = some k →
      s.dev.slotFor k = some out →
      let w : Dev := { s.dev with hst := { s.dev.hst with waitRes := s.dev.hst.waitRes.filter (fun x => !(x == k)) } }
      let n := match out with
        | some x => w.evict x
        | none => w
      let n : Dev := { n with hst := { n.hst with resident := k :: n.hst.resident, lastRes := k / 64 } }
      Completes .contextSwapIn s ((n.setResident k 1).add (ctxPid (k / 64)) F.CTX_RES_SWAPINS))) ∧
  (∀ s : State, Completes .sharePeriodStart s s.dev.shareStart ∧ s.dev.shareStart.rend.charge = [] ∧
    s.dev.shareStart.rend.cmds = s.dev.rend.cmds ∧ s.dev.shareStart.hst = s.dev.hst)

/-- Fetch and completion (R172, R176 to R180, R201, R242, R243): the context of a VI whose turn it is fetches its next
entry, whose command takes its place behind those in flight; a read that faults or ends in an error is an error of the
context; of another context nothing is fetched. A decided command without running items completes: its entry in the CQ,
its fence, its period, its interrupt once the entry is written; one of a former generation is discarded and counted; one
not decided does not complete. The job of a released period entry waits until its context can take it and is resident, and
is then its next command.
Where it rests on a choice or a reading of the model, not on a rule: log entries 5, 6 and 39. -/
def Obligations.CommandFlowCompletes : Prop :=
  (∀ (s : State) (v c : Fin 64),
    let p := ctxPid v
    let h := s.dev.r p F.CTX_SQ_HEAD_INDEX c
    let f : Dev := { s.dev with hst := { s.dev.hst with lastFetch := tabPut s.dev.hst.lastFetch 63 v c } }
    (s.dev.fetchNext v ≠ some c.val → Completes (.sqEntryFetch v c) s s.dev) ∧
    (∀ (n : Dev) (st : Option Nat) (e : List Nat), s.dev.fetchNext v = some c.val →
      f.vmRead v (f.gen v) (f.r p F.CTX_CTRL_ASPACE c) c
        (s.dev.r p F.CTX_SQ_LO_BASE c * 64 + s.dev.r p F.CTX_SQ_HI_BASE c * 2 ^ 32 + 64 * h) 64 = (n, st, e) →
      let m := n.w p F.CTX_SQ_HEAD_INDEX ((h + 1) % n.sqSize v c) c
      (st ≠ none → Completes (.sqEntryFetch v c) s (n.ctxError v c 2)) ∧
      (st = none → Completes (.sqEntryFetch v c) s
        (m.launch v c (le e 4 4) ((h + 1) % n.sqSize v c) e none (!entryOk v (m.r p F.CTX_CTRL_ENGINE c) e) (le e 40 1))))) ∧
  (∀ (s : State) (v c : Fin 64) (g : BitVec 8),
    let mine := s.dev.rend.cmds.filter (fun x => x.vi == v.val && x.ctx == c.val && x.gen == g.toNat)
    (mine = [] → Completes (.commandComplete v c g) s s.dev) ∧
    (∀ (x : Cmd) (rest : List Cmd), mine = x :: rest →
      ((x.status = none ∨ 0 < x.running) → Completes (.commandComplete v c g) s s.dev) ∧
      (∀ st : Nat, x.status = some st → x.running = 0 → g.toNat ≠ s.dev.gen v →
        Completes (.commandComplete v c g) s
          (((s.dev.dropCmd x.uid).add (vihPid v) F.VIH_STALE_COUNT).add (hpPid (s.dev.viPort v)) F.HP_STALE_COUNT)) ∧
      (∀ st : Nat, x.status = some st → x.running = 0 → g.toNat = s.dev.gen v →
        let w := s.dev.cqWrite x st
        let f := match x.fence.bind fencePlace with
          | some (pid, i) => w.1.paySignal x.uid pid i (fenceStatus st)
          | none => w.1
        let p := match x.period with
          | some e => f.perFinish e (fenceStatus st)
          | none => f
        let m := if st = 3 then p.addSat (viPage v 0) F.VIC_DMAERR_COUNT else p
        let n := if m.on (ctxPid v) F.CTX_CTRL_CQ_IRQ c = true ∧ w.2 = true then m.evtCq v c else m
        Completes (.commandComplete v c g) s ((((n.dropCmd x.uid).ctxDrained v c).ctxShow v c).quiesced v).settleWaits))) ∧
  (∀ (s : State) (e : Fin 256),
    let v := s.dev.r (perPage e) F.PE_CTRL_OWNER (e % 64)
    let j := s.dev.r (perPage e) F.PE_TARGET_HANDLE (e % 64)
    let q := viPage v 4
    let c := s.dev.a q F.RQ_JOB_CFG_CTX j
    let asks := s.dev.rend.releases.contains e.val = true ∧ (s.dev.ctxState v c = 1 ∨ s.dev.ctxState v c = 2) ∧
      s.dev.ctxRoom v c = true ∧ s.dev.viActive v = true
    (¬asks → Completes (.periodicJobInsert e) s s.dev) ∧
    (asks → s.dev.hst.resident.contains (ctxKey v c) = false → Completes (.periodicJobInsert e) s (s.dev.needRes v c)) ∧
    (∀ (n : Dev) (st : Option Nat) (bs : List Nat), asks → s.dev.hst.resident.contains (ctxKey v c) = true →
      let m : Dev := { s.dev with rend := { s.dev.rend with releases := s.dev.rend.releases.erase e.val } }
      m.vmRead v (m.gen v) (m.ctxAsp v c) c (m.a q F.RQ_JOB_LO_ADDR j * 64 + m.a q F.RQ_JOB_HI_ADDR j * 2 ^ 32) 64 = (n, st, bs) →
      let rec_ := if 1 ≤ n.a q F.RQ_JOB_CFG_SLICE_MS j ∧ n.a q F.RQ_JOB_CFG_SLICE_MS j ≤ 16
        then slotRecord bs (n.a q F.RQ_JOB_CFG_SLICE_MS j) else bs
      let good := st = none ∧ j < 16 ∧ n.a q F.RQ_JOB_CFG_VALID j = 1 ∧
        le bs 0 2 = s.dev.r (perPage e) F.PE_CTRL_KIND (e % 64) + 1 ∧ entryOk v (n.r (ctxPid v) F.CTX_CTRL_ENGINE c) rec_ = true
      let w := n.launch v c (n.a q F.RQ_JOB_ID_CMD_ID j) (n.r (ctxPid v) F.CTX_SQ_HEAD_INDEX c) rec_ (some e.val)
        (!decide good) (n.a q F.RQ_JOB_CFG_SLICE_MS j)
      let run := n.rend.cmds.takeWhile (fun y => !(y.vi == v && y.ctx == c) || y.started)
      ∀ x : Cmd, w.cmdOf n.rend.nextUid = some x →
        Completes (.periodicJobInsert e) s { w with rend := { w.rend with
          cmds := run ++ [{ x with status := if st.isSome then st else x.status }] ++ n.rend.cmds.drop run.length } }))

/-- Accesses and walks (R172, R184, R186 to R191, R193): a stale access does nothing and reads zeros; one beyond 48 bits
and one that an entry does not permit fault, end the command that it is for with FAULT, and read zeros; a hit is logged
where the log is active and reads or writes the translated place; a miss leaves a walk in flight. The walk whose turn it
is ends by filling an entry, through which its access is performed, or in a fault, and without effect if its generation
has gone.
Where it rests on a choice or a reading of the model, not on a rule: log entries 5, 28, 40, 101 and 102. -/
def Obligations.TranslationCompletes : Prop :=
  (∀ (s : State) (v : Fin 64) (g : BitVec 8) (c : Fin 64) (asp : Fin 16) (cmd : Option Word) (a : BitVec 64) (write : Bool)
      (bs : List Nat),
    let k : Walk := { vi := v, gen := g.toNat, asp := asp, ctx := c, addr := a.toNat, write := write
                      data := asBytes (bs.take (4096 - a.toNat % 4096)), cmd := cmd.map (·.toNat) }
    let acc := Instr.translationAccess v g ⟨c, cmd⟩ asp a write bs
    (g.toNat ≠ s.dev.gen v → Completes acc s (if write then s.dev else s.dev.emit (.data (List.replicate k.data.length 0)))) ∧
    (g.toNat = s.dev.gen v → 2 ^ 48 ≤ a.toNat → Completes acc s ((s.dev.xlatFault v asp c a.toNat write 6 1 0).accessFails k 2)) ∧
    (g.toNat = s.dev.gen v → a.toNat < 2 ^ 48 → s.dev.tlbFind v asp a.toNat = none →
      Completes acc s { s.dev with hst := { s.dev.hst with walks := s.dev.hst.walks ++ [k] } }) ∧
    (∀ e : TlbEntry, g.toNat = s.dev.gen v → a.toNat < 2 ^ 48 → s.dev.tlbFind v asp a.toNat = some e →
      Completes acc s (s.dev.accessBy k e))) ∧
  (∀ (d : Dev) (k : Walk) (e : TlbEntry),
    let place := e.out + k.addr % 2 ^ e.size
    let first := if k.write then e.w1 else e.r1
    (k.write = false → (e.r1 && e.r2) = true → d.accessBy k e =
      let r := (d.tlbTouch e e).placeRd 0 k.vi e.tgt place k.data.length
      if r.2.2 then r.1.emit (.data r.2.1) else r.1.accessFails k 3) ∧
    (k.write = true → (e.w1 && e.w2) = true → d.accessBy k e =
      let n := if d.on (vihPid k.vi) F.VIH_DL_STAT_ACTIVE = true ∧ e.logged = false
        then (d.dlAppend k.vi e.gpa).tlbTouch e { e with logged := true } else d.tlbTouch e e
      let r := n.placeWr 0 k.vi e.tgt place k.data
      if r.2 then r.1 else r.1.accessFails k 3) ∧
    ((if k.write then e.w1 && e.w2 else e.r1 && e.r2) = false → d.accessBy k e =
      (d.xlatFault k.vi e.asp k.ctx k.addr k.write 2 (if first then 2 else 1) (e.gpa + k.addr % 2 ^ e.size)).accessFails k 2) ∧
    (∀ st : Nat, d.accessFails k st =
      (if k.write then d.failCmd k.vi k.ctx k.cmd st
       else (d.failCmd k.vi k.ctx k.cmd st).emit (.data (List.replicate k.data.length 0))))) ∧
  (∀ (s : State) (fails : Option (Fin 24)),
    (s.dev.nextWalk = none → Completes (.tableWalkComplete fails) s s.dev) ∧
    (∀ k : Walk, s.dev.nextWalk = some k →
      let n : Dev := { s.dev with hst := { s.dev.hst with walks := s.dev.hst.walks.erase k, lastWalk := k.vi } }
      (k.gen ≠ s.dev.gen k.vi → Completes (.tableWalkComplete fails) s
        (if k.write then n else n.emit (.data (List.replicate k.data.length 0)))) ∧
      (∀ (m : Dev) (r : TlbEntry ⊕ WalkRes), k.gen = s.dev.gen k.vi →
        ({ n with hst := { n.hst with failRead := fails.map (·.val) } } : Dev).walkBoth k.vi k.asp k.addr = (m, r) →
        let m : Dev := { m with hst := { m.hst with failRead := none } }
        (∀ e : TlbEntry, r = .inl e → Completes (.tableWalkComplete fails) s ((m.tlbFill e).accessBy k e)) ∧
        (∀ kind st gpa : Nat, r = .inr (.bad kind st gpa) → Completes (.tableWalkComplete fails) s
          ((m.xlatFault k.vi k.asp k.ctx k.addr k.write kind st gpa).accessFails k 2))))) ∧
  (∀ (d m : Dev) (v asp a out size tgt : Nat) (r w : Bool), d.walkBoth v asp a ≠ (m, .inr (.leaf out size r w tgt)))

/-- Invalidations and the dirty log (R192 to R194): GO fixes the range, shows BUSY and drops the entries; the completion
drops those filled meanwhile, clears BUSY and counts. Enabling the log takes its ring and drops the VI's entries, and it
is active at its own completion; disabling stops it; CLEAR makes every page of the VI loggable again.
Where it rests on a choice or a reading of the model, not on a rule: log entries 5, 16 and 40. -/
def Obligations.InvalidationsComplete : Prop :=
  (∀ (s : State) (ag : Agent) (v : Fin 64) (x : Word), s.dev.accepts ag (0x090 + v) 0x058 (withBit x 0) = true →
    let n := s.dev.after ag (0x090 + v) 0x058 (withBit x 0)
    let i : Inval := { scope := bits (withBit x 0) 1 1
                       first := n.r (vihPid v) F.VIH_INV_LO_ADDR + n.r (vihPid v) F.VIH_INV_HI_ADDR * 2 ^ 20
                       pages := if bits (withBit x 0) 16 16 = 0 then 65536 else bits (withBit x 0) 16 16 }
    Completes (.s2Invalidate ag v x) s
      (((n.setVi v { n.vi v with inv2 := some i }).w (vihPid v) F.VIH_INV_STAT_BUSY 1).xlatDrop (fun e => e.inS2 v i))) ∧
  (∀ (s : State) (v : Fin 64) (x : Word), s.dev.accepts (.vi v) 11 0x0C8 (withBit x 0) = true →
    let n := s.dev.after (.vi v) 11 0x0C8 (withBit x 0)
    let q := viPage v 0xB
    let i : Inval := { scope := bits (withBit x 0) 1 2, asp := bits (withBit x 0) 4 4
                       first := n.r q F.S1_INV_LO_ADDR + n.r q F.S1_INV_HI_ADDR * 2 ^ 20
                       pages := if bits (withBit x 0) 16 16 = 0 then 65536 else bits (withBit x 0) 16 16 }
    Completes (.s1Invalidate v x) s
      (((n.setVi v { n.vi v with inv1 := some i }).w q F.S1_INV_STAT_BUSY 1).xlatDrop (fun e => e.inS1 v i))) ∧
  (∀ (s : State) (v : Fin 64),
    Completes (.invalidationComplete v 0) s
      (match (s.dev.vi v).inv1 with
      | none => s.dev
      | some i => ((((s.dev.setVi v { s.dev.vi v with inv1 := none }).xlatDrop (fun e => e.inS1 v i)).w (viPage v 0xB)
          F.S1_INV_STAT_BUSY 0).add (viPage v 0xB) F.S1_INV_STAT_COUNT)) ∧
    Completes (.invalidationComplete v 1) s
      (match (s.dev.vi v).inv2 with
      | none => s.dev
      | some i => ((((s.dev.setVi v { s.dev.vi v with inv2 := none }).xlatDrop (fun e => e.inS2 v i)).w (vihPid v)
          F.VIH_INV_STAT_BUSY 0).add (vihPid v) F.VIH_INV_STAT_COUNT)) ∧
    Completes (.invalidationComplete v 2) s
      (if (s.dev.vi v).dlWait then
        ((s.dev.setVi v { s.dev.vi v with dlWait := false }).xlatDrop (fun e => e.vi == v.val)).w (vihPid v) F.VIH_DL_STAT_ACTIVE 1
       else s.dev)) ∧
  (∀ (d : Dev) (v : Nat) (i : Inval) (e : TlbEntry),
    (e.inS1 v i = true ↔ e.vi = v ∧ (i.scope = 2 ∨ (e.asp = i.asp ∧ (i.scope = 1 ∨
      (e.base * 2 ^ e.size < i.first * 4096 + i.pages * 4096 ∧ i.first * 4096 < e.base * 2 ^ e.size + 2 ^ e.size))))) ∧
    (e.inS2 v i = true ↔ e.vi = v ∧ (i.scope = 1 ∨
      (e.gpa < i.first * 4096 + i.pages * 4096 ∧ i.first * 4096 < e.gpa + 2 ^ e.size))) ∧
    (∀ sel : TlbEntry → Bool, (d.xlatDrop sel).hst.tlb = d.hst.tlb.filter (fun e => !sel e))) ∧
  (∀ (s : State) (ag : Agent) (v : Fin 64) (x : Word),
    let on := s.dev.after ag (0x090 + v) 0x068 (withBit x 0)
    let off := s.dev.after ag (0x090 + v) 0x068 (withoutBit x 0)
    let clr := s.dev.after ag (0x090 + v) 0x068 (withBit x 16)
    let rises := fun w => s.dev.rises (vihPid v) w F.VIH_DL_CTRL_EN = true
    let falls := fun w => s.dev.falls (vihPid v) w F.VIH_DL_CTRL_EN = true
    (s.dev.accepts ag (0x090 + v) 0x068 (withBit x 0) = true →
      let d := if rises (withBit x 0) then on.dlEnable v else on
      Completes (.dirtyLogEnable ag v x) s (if bit (withBit x 0) 16 then d.dlClear v else d)) ∧
    (s.dev.accepts ag (0x090 + v) 0x068 (withoutBit x 0) = true →
      let d := if falls (withoutBit x 0) then off.dlDisable v else off
      Completes (.dirtyLogDisable ag v x) s (if bit (withoutBit x 0) 16 then d.dlClear v else d)) ∧
    (s.dev.accepts ag (0x090 + v) 0x068 (withBit x 16) = true →
      let d := if rises (withBit x 16) then clr.dlEnable v else if falls (withBit x 16) then clr.dlDisable v else clr
      Completes (.dirtyLogClear ag v x) s (d.dlClear v))) ∧
  (∀ (d : Dev) (v : Nat),
    d.dlEnable v = (d.setVi v { d.vi v with
      dlWait := true, dlBase := d.r (vihPid v) F.VIH_DL_LO_BASE * 4096 + d.r (vihPid v) F.VIH_DL_HI_BASE * 2 ^ 32
      dlLog2 := d.r (vihPid v) F.VIH_DL_CTRL_LOG2 }).xlatDrop (fun e => e.vi == v) ∧
    d.dlDisable v = (d.setVi v { d.vi v with dlWait := false }).w (vihPid v) F.VIH_DL_STAT_ACTIVE 0 ∧
    ((d.dlClear v).vi v).dlHalt = false ∧
    (d.dlClear v).hst.tlb = d.hst.tlb.map (fun e => { e with logged := e.logged && !(e.vi == v) }))

/-- The start of a context's oldest command (R240 to R256, R265 to R267): NOP and SIGNAL complete OK, WAIT registers its
waiter, RESIDENCY_SYNC takes the map's bytes as they are, a COMPUTE whose container passes is split into slices, and a
RENDER goes on to binning unless it ends at the first check that it fails: the read of its descriptor, the descriptor, the
reads of its records, its containers, its signature headers; a read that faults gives FAULT and one that ends in an error
HOST_ERROR. Where the context has no such command to start, nothing happens. A job's own deadline and a WAIT's limit,
reached, give it its status.
Where it rests on a choice or a reading of the model, not on a rule: log entries 5, 6 and 44. -/
def Obligations.CommandStartsComplete : Prop :=
  (∀ (s : State) (v c : Fin 64),
    (s.dev.startable v c 0 = none → Completes (.nop v c) s s.dev) ∧
    (s.dev.startable v c 1 = none → Completes (.render v c) s s.dev) ∧
    (s.dev.startable v c 2 = none → Completes (.compute v c) s s.dev) ∧
    (s.dev.startable v c 3 = none → Completes (.wait v c) s s.dev) ∧
    (s.dev.startable v c 4 = none → Completes (.signal v c) s s.dev) ∧
    (s.dev.startable v c 5 = none → Completes (.residencySync v c) s s.dev) ∧
    (∀ x : Cmd, s.dev.startable v c 0 = some x →
      Completes (.nop v c) s (s.dev.setCmd { x with started := true, status := some 0 })) ∧
    (∀ x : Cmd, s.dev.startable v c 4 = some x →
      Completes (.signal v c) s (s.dev.setCmd { x with started := true, status := some 0 })) ∧
    (∀ x : Cmd, s.dev.startable v c 3 = some x → Completes (.wait v c) s
      (match fencePlace (le x.entry 8 4) with
      | some (pid, i) => (s.dev.setCmd { x with started := true, began := some s.dev.now }).fenceWait x.uid pid i (le x.entry 12 4)
      | none => s.dev))) ∧
  (∀ (s : State) (v c : Fin 64) (x : Cmd) (n : Dev) (st : Option Nat) (bs : List Nat), s.dev.startable v c 5 = some x →
    let asp := s.dev.ctxAsp v c
    let a := le x.entry 8 8
    s.dev.vmRead v x.gen asp c a (le x.entry 16 4) = (n, st, bs) →
    let other := fun (m : Nat × Nat × Nat × List Nat) =>
      !(m.1 == v.val && m.2.1 == asp && decide (a ≤ m.2.2.1) && decide (m.2.2.1 + m.2.2.2.length ≤ a + le x.entry 16 4))
    (st = none → Completes (.residencySync v c) s
      (({ n with rend := { n.rend with resMaps := (v.val, asp, a, bs) :: n.rend.resMaps.filter other } } : Dev).setCmd
        { x with started := true, status := some 0 })) ∧
    (∀ k : Nat, st = some k → Completes (.residencySync v c) s (n.setCmd { x with started := true, status := some k }))) ∧
  (∀ (s : State) (v c : Fin 64) (x : Cmd) (n : Dev) (st : Option Nat) (pass : Bool) (binds : List Nat) (flags : Nat),
    s.dev.startable v c 2 = some x →
    s.dev.container v x.gen (s.dev.ctxAsp v c) c 2 (le x.entry 8 8) = (n, st, pass, binds, flags) →
    (st ≠ none → Completes (.compute v c) s (n.setCmd { x with started := true, status := st })) ∧
    (st = none → pass = false → Completes (.compute v c) s (n.setCmd { x with started := true, status := some 20 })) ∧
    (st = none → pass = true → Completes (.compute v c) s (n.setCmd { x with started := true, job := some {
      binds := binds, total := ceilDiv (groupsOf x.entry) (le x.entry 36 4), sliceMs := (x.job.map (·.sliceMs)).getD 16 } }))) ∧
  (∀ (s : State) (v c : Fin 64) (x : Cmd) (n : Dev) (st : Option Nat) (j : List Nat), s.dev.startable v c 1 = some x →
    let asp := s.dev.ctxAsp v c
    s.dev.vmRead v x.gen asp c (le x.entry 8 8) 256 = (n, st, j) →
    let j := periodDesc x.period j
    let y := { x with started := true, began := some n.now }
    (st ≠ none → Completes (.render v c) s (n.setCmd { y with status := st })) ∧
    (st = none → descOk v j = false → Completes (.render v c) s (n.setCmd { y with status := some 4 })) ∧
    (∀ (m : Dev) (st1 : Option Nat) (bs : List Nat), st = none → descOk v j = true →
      n.vmRead v x.gen asp c (le j 16 8) (64 * le j 24 4) = (m, st1, bs) →
      (st1 ≠ none → Completes (.render v c) s ((m.add (viPage v 4) F.RQ_SKIPREC_COUNT 0).setCmd { y with status := st1 })) ∧
      (∀ (k : Dev) (draws : DrawSet), st1 = none →
        m.checkDraws v x.gen asp c j ((upFrom 0 (le j 24 4)).map (fun k => (bs.drop (64 * k)).take 64)) = (k, draws) →
        let k := k.add (viPage v 4) F.RQ_SKIPREC_COUNT draws.skipped
        (draws.st ≠ none → Completes (.render v c) s (k.setCmd { y with status := draws.st })) ∧
        (∀ (q : Dev) (use : List Bool) (st2 : Option Nat), draws.st = none →
          k.sigStart v x.gen asp c j (x.period.any (fun e => (tabGet k.per {} e).noSig)) (upFrom 0 (jobColors j)) = (q, use, st2) →
          (st2 ≠ none → Completes (.render v c) s (q.setCmd { y with status := st2 })) ∧
          (st2 = none → Completes (.render v c) s
            (q.setCmd { y with job := some { desc := j, sigUse := use, draws := draws.draws } })))))) ∧
  (∀ (s : State) (v c : Fin 64), let oldest := (s.dev.ctxCmds v c).head?
    (∀ (x : Cmd) (us : Nat), oldest = some x → x.deadlineUs = some us → x.started = true → x.status = none →
      s.dev.limitMet x us = true →
      Completes (.jobDeadline v c) s
        ((s.dev.setCmd { x with status := some 16, job := x.job.map (fun j => { j with lists := [], todo := [] }) }).add (viPage v 4)
          F.RQ_DROPS_COUNT)) ∧
    ((∀ (x : Cmd) (us : Nat), oldest = some x → x.deadlineUs = some us → x.started = true → x.status = none →
      s.dev.limitMet x us = false) → Completes (.jobDeadline v c) s s.dev) ∧
    (∀ x : Cmd, oldest = some x → x.op = 3 → x.started = true → x.status = none → s.dev.limitMet x (le x.entry 16 4) = true →
      let n := s.dev.setCmd { x with status := some 18 }
      Completes (.waitTimeout v c) s
        { n with rend := { n.rend with waiters := n.rend.waiters.filter (fun w => !(w.who == x.uid)) } }) ∧
    ((∀ x : Cmd, oldest = some x → x.op = 3 → x.started = true → x.status = none → s.dev.limitMet x (le x.entry 16 4) = false) →
      Completes (.waitTimeout v c) s s.dev))

/-- The render clusters and the fences (R239, R257 to R268, R270): a free cluster takes the next ready item of the command
that goes next, with its limit and, for a slice, its workgroups; an item that ends in time frees its cluster, is charged,
and leaves what its batch, tile or slice leaves, nothing where its generation has gone; an item over its limit takes its
cluster down and opens a unit-level fault, at its end or before. A signal adds one to VALUE, shows STATUS and satisfies
the waiters that VALUE has reached; an owed signal out of time is paid as BROKEN; a draining quad without items powers
down.
Where it rests on a choice or a reading of the model, not on a rule: log entries 5, 6, 28, 44, 79, 103, 104, 105, 106, 107 and 108. -/
def Obligations.RenderClustersComplete : Prop :=
  (∀ (s : State) (k : Fin 16),
    let free := s.dev.quadOn (k / 4) = true ∧ s.dev.itemOn k = none ∧ s.dev.r (rcPid k) F.RC_STAT_STATE = 1 ∧
      s.dev.isolated (rcPid k) = false
    (¬free → Completes (.workItemDispatch k) s s.dev) ∧ (s.dev.nextWork = none → Completes (.workItemDispatch k) s s.dev) ∧
    (∀ x : Cmd, s.dev.nextWork = some x → (s.dev.readyItem x = none ∨ x.job = none) → Completes (.workItemDispatch k) s s.dev) ∧
    (∀ (x : Cmd) (kind i : Nat) (j : Job), free → s.dev.nextWork = some x → s.dev.readyItem x = some (kind, i) → x.job = some j →
      let per := le x.entry 36 4
      let item : Item := if kind = 2 then
          { uid := x.uid, kind := kind, index := i, start := s.dev.now, since := s.dev.now, limit := j.sliceMs
            group := groupAt x.entry (i * per), groups := min per (groupsOf x.entry - i * per) }
        else { uid := x.uid, kind := kind, index := i, start := s.dev.now, since := s.dev.now, limit := s.dev.itemMs }
      let j := if kind = 2 then { j with next := j.next + 1 } else if kind = 0 then { j with binning := true }
        else { j with todo := j.todo.drop 1 }
      let began := if x.began.isSome then x.began else some s.dev.now
      let n := (s.dev.setCmd { x with running := x.running + 1, job := some j, began := began }).setItem k (some item)
      let n : Dev := { n with rend := { n.rend with lastVi := x.vi, lastCtx := tabPut n.rend.lastCtx 63 x.vi x.ctx } }
      Completes (.workItemDispatch k) s
        ((((n.w (rcPid k) F.RC_STAT_STATE 2).w (rcPid k) F.RC_STAT_KIND kind).w (rcPid k) F.RC_STAT_VI x.vi).w (rcPid k)
          F.RC_STAT_CTX x.ctx).rndShow)) ∧
  (∀ (s : State) (k : Fin 16) (r : ItemResult), s.dev.itemOn k = none →
    Completes (.workItemEnd k r) s s.dev ∧ Completes (.itemAbort k) s s.dev) ∧
  (∀ (s : State) (k : Fin 16) (i : Item) (r : ItemResult), s.dev.itemOn k = some i →
    let past := i.start + i.limit * 1000000 < s.dev.now
    let n := (s.dev.chargeItem k).freeCluster k
    (past → Completes (.itemAbort k) s (s.dev.abortItem k i)) ∧ (¬past → Completes (.itemAbort k) s s.dev) ∧
    (i.kind ≠ resultKind r → Completes (.workItemEnd k r) s s.dev) ∧
    (i.kind = resultKind r → past → Completes (.workItemEnd k r) s (s.dev.abortItem k i)) ∧
    (i.kind = resultKind r → ¬past → n.cmdOf i.uid = none → Completes (.workItemEnd k r) s n) ∧
    (∀ x : Cmd, i.kind = resultKind r → ¬past → n.cmdOf i.uid = some x →
      let y := { x with running := x.running - 1 }
      (x.job = none → Completes (.workItemEnd k r) s (n.setCmd y)) ∧
      (∀ j : Job, x.job = some j →
        (x.gen ≠ n.gen x.vi → Completes (.workItemEnd k r) s (n.setCmd { y with status := some (x.status.getD 2) })) ∧
        (x.gen = n.gen x.vi → Completes (.workItemEnd k r) s
          (match r with
          | .bin verts => if x.status.isSome then n.setCmd y else n.binEnd y j verts
          | .tile frags => n.tileEnd y j i.index frags
          | .slice acc => n.sliceEnd y j acc))))) ∧
  (∀ (d : Dev) (k : Nat) (i : Item),
    let n := (d.chargeItem k).setItem k none
    let v := (n.itemVi i).getD 0
    let n := match n.cmdOf i.uid with
      | some x => n.setCmd { x with running := x.running - 1, status := some (x.status.getD 17) }
      | none => n
    d.abortItem k i = ((((((n.w (rcPid k) F.RC_STAT_STATE 0).addSat (rcPid k) F.RC_ABORT_COUNT).add rndPid F.RND_ABORTS_COUNT).err
      (rcPid k) 10).err rndPid 10).rndShow).openFault 1 1 (rcPid k) v) ∧
  (∀ (s : State) (ag : Agent) (page : BitVec 12) (i : Fin 192) (v : Word),
    let pid := agentPageNo ag page.toNat
    let n := s.dev.after ag page.toNat (0x408 + 16 * i) (withBit v 0)
    s.dev.accepts ag page.toNat (0x408 + 16 * i) (withBit v 0) = true →
    (kindOf pid).any (fun k => k.1 == .fence || k.1 == .viFences) = true →
    Completes (.fncSignalWrite ag page i v) s (n.fenceSignal pid i 0)) ∧
  (∀ (s : State) (page : PageRef) (i : Fin 192), let pid := PageRef.pid page
    (s.dev.owed pid i = [] → Completes (.fenceTimeout page i) s s.dev) ∧
    (∀ (o : Owe) (rest : List Owe), s.dev.owed pid i = o :: rest →
      (s.dev.now < o.since + o.tmo * 1000000 → Completes (.fenceTimeout page i) s s.dev) ∧
      (o.since + o.tmo * 1000000 ≤ s.dev.now → Completes (.fenceTimeout page i) s
        ((((s.dev.setOwed pid i rest).err pid 10).addSat pid F.FNC_SUM_BROKEN).fenceSignal pid i 2)))) ∧
  (∀ (d : Dev) (pid i st : Nat), st < 4 →
    let v := (d.r pid F.FNC_VAL_VALUE i + 1) % 2 ^ 32
    (d.fenceSignal pid i st).r pid F.FNC_VAL_VALUE i = v ∧ (d.fenceSignal pid i st).r pid F.FNC_STAT_STATUS i = st ∧
    (d.fenceSignal pid i st).rend.waiters = d.rend.waiters.map (fun w =>
      if w.fence == fenceKey pid i && w.got.isNone && reached v w.target then { w with got := some st } else w)) ∧
  (∀ (s : State) (q : Fin 4),
    (bit (s.dev.r rndPid F.RND_STAT_DRAINING) q = true → Completes (.renderQuadDrained q) s (s.dev.quadDrained q).renderOff) ∧
    (bit (s.dev.r rndPid F.RND_STAT_DRAINING) q = false → Completes (.renderQuadDrained q) s s.dev))


/-! ### DRAM, ECC, repair (R204 to R237) -/

/-- Training, refresh and the memory's temperature (R206, R207, R211, R213, R214, R474): START in a state that is not
SERVICE starts training; it ends in SERVICE with the capacity, or in FAILED with the first cause that it meets. In
SERVICE, drift of a WCK oscillator, read each retraining period, asks for a correction step, done where the Bolt slots
allow it; a bank without pending work is closed at the end of its hold in page mode 2; a refresh that is due is owed, at
most eight of them, and done as the slots allow; MR4, polled each period, sets the rate, and above the limit MEM_TEMP is
open until it has been within limits for 1 s. DRAM requests (R10, R11, R19, R107, R144, R145, R206, R208, R219): a request
has the class and the tag of its path; one whose class its port may not issue ends in an error response with
ADDRESS_ERROR, one inside a carve-out that its world does not reach in an error response, and so one out of the installed
capacity or outside SERVICE, and one that touches a check region or a zone being filled; another waits in its channel, a
Bolt read only within the limits of R19. A request that is issued leaves its channel and is answered: a read with its
bytes, and either with an error response where the controller gives one.
Where it rests on a choice or a reading of the model, not on a rule: log entries 5, 6, 26, 28, 32, 41, 42 and 102. -/
def Obligations.DramServiceCompletes : Prop :=
  (∀ (s : State) (ag : Agent), s.dev.accepts ag mcPid 0x044 1 = true →
    let n := s.dev.after ag mcPid 0x044 1
    ((n.r mcPid F.MC_TRAIN_STATE = 0 ∨ n.r mcPid F.MC_TRAIN_STATE = 3) →
      Completes (.dramTrainingStart ag) s (n.w mcPid F.MC_TRAIN_STATE 1)) ∧
    (¬(n.r mcPid F.MC_TRAIN_STATE = 0 ∨ n.r mcPid F.MC_TRAIN_STATE = 3) → Completes (.dramTrainingStart ag) s n)) ∧
  (∀ (s : State) (r : TrainResult),
    let n := (s.dev.w mcPid F.MC_TRAIN_STATE 2).w mcPid F.MC_STAT_CAP (8 * 2 ^ s.dev.r mcPid F.MC_CFG_DENS)
    let n := (n.w mcPid F.MC_REF_RFM (b2n r.raaMax.isSome)).phyLoadAll 0 r.phy
    (s.dev.r mcPid F.MC_TRAIN_STATE ≠ 1 → Completes (.dramTrainingEnd r) s s.dev.afterTraining) ∧
    (s.dev.r mcPid F.MC_TRAIN_STATE = 1 → s.dev.trainCause r = 0 → Completes (.dramTrainingEnd r) s
      ({ n with mc := { n.mc with raaMax := r.raaMax.getD 0 } } : Dev).afterTraining) ∧
    (s.dev.r mcPid F.MC_TRAIN_STATE = 1 → s.dev.trainCause r ≠ 0 → Completes (.dramTrainingEnd r) s
      (((s.dev.w mcPid F.MC_TRAIN_STATE 3).w mcPid F.MC_TRAIN_FAIL (s.dev.trainCause r)).err mcPid 12).afterTraining)) ∧
  (∀ (s : State) (c : Fin 8) (x : BitVec 10),
    let due := s.dev.memService = true ∧ tabGet s.dev.mc.wckNext 0 c ≤ s.dev.now
    let t := s.dev.now + 1000000 * max 1 (s.dev.r mcPid F.MC_RETRAIN_PERIOD)
    let n : Dev := { s.dev with mc := { s.dev.mc with wckNext := tabPut s.dev.mc.wckNext 0 c t } }
    let asked : Dev := { n with mc := { n.mc with wck := tabPut n.mc.wck none c (some x.toNat) } }
    (∀ drift : Bool, ¬due → Completes (.wckOscillatorRead c drift x) s s.dev) ∧
    (due → Completes (.wckOscillatorRead c true x) s (asked.wckStep c)) ∧
    (due → Completes (.wckOscillatorRead c false x) s (n.wckStep c))) ∧
  (∀ (d : Dev) (c : Nat),
    (tabGet d.mc.wck none c = none → d.wckStep c = d) ∧ (d.boltClear 100 = false → d.wckStep c = d) ∧
    (∀ delay : Nat, tabGet d.mc.wck none c = some delay → d.boltClear 100 = true → d.wckStep c =
      (({ d with mc := { d.mc with wck := tabPut d.mc.wck none c none } } : Dev).w phyPid F.PHY_WCK_DELAY delay c).addSat phyPid
        F.PHY_CORR_COUNT 1 c)) ∧
  (∀ (s : State) (c : Fin 8) (b : Fin 16),
    let past := s.dev.pageMode = 2 ∧ s.dev.bankBusy c b = false ∧ tabGet s.dev.mc.hold 0 (16 * c.val + b.val) ≤ s.dev.now
    (past → Completes (.pageHoldExpiry c b) s
      { s.dev with mc := { s.dev.mc with rows := tabDel s.dev.mc.rows (16 * c.val + b.val) } }) ∧
    (¬past → Completes (.pageHoldExpiry c b) s s.dev)) ∧
  (∀ (s : State) (c p : Fin 8), let owed := s.dev.owedOf c p
    let more : Dev := { s.dev with mc := { s.dev.mc with owed := tabPut s.dev.mc.owed 0 (8 * c.val + p.val) (owed + 1) } }
    (s.dev.memService = false → Completes (.refreshDue c p) s s.dev) ∧
    (s.dev.memService = true → owed < 8 → Completes (.refreshDue c p) s (more.maintain c)) ∧
    (s.dev.memService = true → 8 ≤ owed → Completes (.refreshDue c p) s ((s.dev.refresh c p 8).maintain c))) ∧
  (∀ (s : State) (rate : Fin 32) (hot : Bool),
    let due := s.dev.memService = true ∧ s.dev.mc.mr4Next ≤ s.dev.now
    let t := s.dev.now + 1000000 * max 1 (s.dev.r mcPid F.MC_REF_POLL)
    let n := ({ s.dev with mc := { s.dev.mc with mr4Next := t } } : Dev).w mcPid F.MC_REF_RATE rate
    let isOpen := n.flt.faults.filter (fun f => f.cause == 11 && f.pid == mcPid)
    let warm := ({ n with mc := { n.mc with coolSince := none } } : Dev).err mcPid 10
    (¬due → Completes (.mr4Poll rate hot) s s.dev) ∧
    (due → isOpen = [] → Completes (.mr4Poll rate false) s n) ∧
    (due → isOpen = [] → Completes (.mr4Poll rate true) s (warm.openFault 11 3 mcPid rate)) ∧
    (due → isOpen ≠ [] → Completes (.mr4Poll rate true) s warm) ∧
    (due → isOpen ≠ [] → n.mc.coolSince = none → Completes (.mr4Poll rate false) s
      { n with mc := { n.mc with coolSince := some s.dev.now } }) ∧
    (∀ t : Nat, due → isOpen ≠ [] → n.mc.coolSince = some t → s.dev.now < t + 1000000000 →
      Completes (.mr4Poll rate false) s n) ∧
    (∀ t : Nat, due → isOpen ≠ [] → n.mc.coolSince = some t → t + 1000000000 ≤ s.dev.now →
      Completes (.mr4Poll rate false) s
        (isOpen.foldl (fun d f => d.closeFault f) { n with mc := { n.mc with coolSince := none } }))) ∧
  (∀ (s : State) (p : Fin 25) (path : Traffic) (a : BitVec 64) (len : Fin 65) (write : Bool) (l : List Nat),
    let req := Instr.dramRequest p path a len write l
    let bs : Option (List Nat) := if write then some (asBytes l) else none
    let n := min len.val (64 - a.toNat % 64)
    let c := s.dev.pathClass p path
    let refused := s.dev.tagRefused (s.dev.portTag p path % 4) a.toNat n = true
    (portAllows p c = false → Completes req s ((s.dev.emit (.errorResponse p)).err (portHome p) errAddress)) ∧
    (portAllows p c = true → refused → Completes req s (s.dev.emit (.errorResponse p))) ∧
    (∀ (m : Dev) (go : Bool), portAllows p c = true → ¬refused → s.dev.mcAdmit a.toNat n = (m, go) →
      let from_ := m.carried p c a.toNat
      let q : DramReq := { port := p, owner := wheelOwner p c, addr := a.toNat, len := n, data := bs
                           since := (from_.map (·.since)).getD m.now, fab := from_.isSome }
      let bolt := wheelOwner p c = 1 ∧ bs = none ∧ from_ = none
      let full := 16 ≤ m.boltReads.length ∨ 8 ≤ m.chanReads a.toNat
      let queued : Dev := { m with mc := { m.mc with reqs := m.mc.reqs ++ [q] } }
      (go = false → Completes req s (m.emit (.errorResponse p))) ∧
      (go = true → ¬(bolt ∧ full) → Completes req s queued) ∧
      (go = true → bolt → full → 8 ≤ m.chanReads a.toNat →
        Completes req s { m with mc := { m.mc with wardHeld := m.mc.wardHeld ++ [q] } }) ∧
      (go = true → bolt → full → m.chanReads a.toNat < 8 → Completes req s (m.boltLimit.emit (.errorResponse p))))) ∧
  (∀ (d : Dev) (a n : Nat),
    (d.capacity < a + n → d.mcAdmit a n = ((d.add mcPid F.MC_ADDRERR_COUNT).err mcPid errAddress, false)) ∧
    (a + n ≤ d.capacity → d.memService = false → d.mcAdmit a n = (d, false)) ∧
    (a + n ≤ d.capacity → d.memService = true → d.inCheck a n = true →
      d.mcAdmit a n = (d.add mcPid F.MC_ADDRERR_COUNT, false)) ∧
    (a + n ≤ d.capacity → d.memService = true → d.inCheck a n = false → d.mcAdmit a n = (d, !d.inInit a n))) ∧
  (∀ (d : Dev) (q : DramReq), q.job = .access →
    let n : Dev := { d with mc := { d.mc with reqs := d.mc.reqs.erase q } }
    let next := fun (d : Dev) => d.wardGo [] d.mc.wardHeld
    (∀ (m : Dev) (bs : List Nat) (ok : Bool), q.data = none → n.mcRead q.owner q.addr q.len = (m, bs, ok) →
      let r := m.emit (if ok then .completion q.port 0 bs else .errorResponse q.port)
      d.issue q = next (if q.owner = 1 ∧ q.fab = false then r.dramMeasure q.since else r)) ∧
    (∀ (m : Dev) (bs : List Nat) (ok : Bool), q.data = some bs → n.mcWrite q.owner q.addr (bs.take q.len) = (m, ok) →
      d.issue q = next (if ok then m else m.emit (.errorResponse q.port))))

/-- ECC zones, scrubbing, repair and the diagnostic (R213, R219, R223, R226 to R230): a filled zone is ON; the oldest
corrected word is written back with its check byte; a scrub step that is due requests the next line as Bulk, and the line
read is scrubbed, the last one counting a pass; a remap entry whose copy ends is ACTIVE, and one that was given up IDLE;
an SRAM's spare serves. A diagnostic operation on a word that is in the ward carve-out and in an ON zone reads it raw, or
stores data, check byte or both, cancelling the write-backs of its line; on another word its RESULT is 1.
Where it rests on a choice or a reading of the model, not on a rule: log entries 5, 16, 42 and 102. -/
def Obligations.MemoryRepairCompletes : Prop :=
  (∀ (s : State) (z : Fin 16),
    (s.dev.zoneState z = 1 → Completes (.zoneInitComplete z) s
      ((((s.dev.unback (s.dev.zoneBase z) (s.dev.zoneSize z)).zoneFill z (s.dev.zoneBase z) (s.dev.zoneSize z / 8)).w ezPid
        F.EZ_STAT_STATE 2 z).err ezPid 11)) ∧
    (s.dev.zoneState z ≠ 1 → Completes (.zoneInitComplete z) s s.dev)) ∧
  (∀ s : State,
    (s.dev.mc.wback = [] → Completes .eccWriteBack s s.dev) ∧
    (∀ (a w c : Nat) (rest : List (Nat × Nat × Nat)), s.dev.mc.wback = (a, w, c) :: rest →
      let n : Dev := { s.dev with mc := { s.dev.mc with wback := rest } }
      Completes .eccWriteBack s (match s.dev.zoneAt 2 a with
        | none => n
        | some z => ((n.burst 0 a).dramWrN a (bytesLE 8 w)).dramWr (n.zoneChk z + (a - n.zoneBase z) / 8) c))) ∧
  (∀ s : State,
    let idle := s.dev.on ezPid F.EZ_SCRUB_EN = false ∨ s.dev.memService = false ∨ (∃ q ∈ s.dev.mc.reqs, q.job = .scrub) ∨
      s.dev.scrubDue = false
    (idle → Completes .scrubStep s s.dev) ∧
    (∀ l : Nat, ¬idle → s.dev.scrubLine s.dev.scrubPos = some l →
      let q : DramReq := { port := 0, owner := 0, addr := l, len := 64, data := none, since := s.dev.now, job := .scrub }
      Completes .scrubStep s (({ s.dev with mc := { s.dev.mc with
        scrub := some s.dev.scrubPass, reqs := s.dev.mc.reqs ++ [q] } } : Dev).opportunity (s.dev.chanOf l))) ∧
    (¬idle → s.dev.scrubLine s.dev.scrubPos = none → Completes .scrubStep s
      (match s.dev.scrubLine 0 with
      | some l => s.dev.w64 ezPid F.EZ_SCRPOS_LO_ADDR F.EZ_SCRPOS_HI_ADDR (l / 64)
      | none => s.dev))) ∧
  (∀ (d : Dev) (l : Nat), let n := (d.bursts 0 l 64 false).scrubWords l
    let pass := n.scrubPass
    let again : Dev := { n with mc := { n.mc with scrub := some (pass.1 + pass.2, n.scrubNs) } }
    (∀ m : Nat, n.scrubLine (l + 64) = some m → d.scrubRead l = n.w64 ezPid F.EZ_SCRPOS_LO_ADDR F.EZ_SCRPOS_HI_ADDR (m / 64)) ∧
    (n.scrubLine (l + 64) = none → d.scrubRead l = (again.w64 ezPid F.EZ_SCRPOS_LO_ADDR F.EZ_SCRPOS_HI_ADDR
      ((again.scrubLine 0).getD 0 / 64)).add ezPid F.EZ_SCRPASS_COUNT)) ∧
  (∀ (s : State) (e : Fin 32), let st := s.dev.r rmpPid F.RMP_DST_STATE e
    let c := s.dev.copyRest e 32
    let done : Dev := { c with mc := { c.mc with
      copied := tabDel c.mc.copied e, reqs := c.mc.reqs.filter (fun q => !(q.job == .copy e)) } }
    let gone : Dev := { done with mc := { done.mc with remap := tabDel done.mc.remap e } }
    (st = 1 → Completes (.remapCopyComplete e) s ((done.w rmpPid F.RMP_DST_STATE 2 e).err rmpPid 10)) ∧
    (st = 3 → Completes (.remapCopyComplete e) s ((gone.w rmpPid F.RMP_DST_STATE 0 e).err rmpPid 10)) ∧
    (st ≠ 1 → st ≠ 3 → Completes (.remapCopyComplete e) s s.dev)) ∧
  (∀ (s : State) (m : Fin 6) (e : Fin 8), Completes (.sramSpareCopyComplete m e) s
    { s.dev with mc := { s.dev.mc with srCopy := s.dev.mc.srCopy.erase (8 * m.val + e.val) } }) ∧
  (∀ (s : State) (ag : Agent),
    let n := fun op => s.dev.after ag dgPid 0x054 (keyed theKey op)
    let fin := fun (d : Dev) r => (d.w dgPid F.DG_STAT_DONE 1).w dgPid F.DG_STAT_RESULT r
    let serves := fun (op : Nat) (i : Instr) (f : Dev → Nat → Nat → Dev) =>
      s.dev.accepts ag dgPid 0x054 (keyed theKey op) = true →
      let n := n op
      let a := n.r64 dgPid F.DG_ADDR_LO_ADDR F.DG_ADDR_HI_ADDR * 8
      (n.zoneAt 2 a = none → Completes i s (fin n 1)) ∧
      (∀ z : Nat, n.zoneAt 2 a = some z → within a 8 n.wardBase n.wardSize = false → Completes i s (fin n 1)) ∧
      (∀ z : Nat, n.zoneAt 2 a = some z → within a 8 n.wardBase n.wardSize = true → Completes i s (fin (f n z a) 0))
    let data := fun (d : Dev) => bytesLE 8 (d.r64 dgPid F.DG_DATA_LO_DATA F.DG_DATA_HI_DATA)
    serves 1 (.readRaw ag theKey) (fun d z a =>
      ((d.w dgPid F.DG_STAT_SYNDROME (d.syndrome z a)).w dgPid F.DG_STAT_RAWCHECK (d.storedCheck z a)).w64 dgPid
        F.DG_RDATA_LO_DATA F.DG_RDATA_HI_DATA (d.storedWord a)) ∧
    serves 2 (.writeDataOnly ag theKey) (fun d _ a => (d.unback a 8).dramWrN a (data d)) ∧
    serves 3 (.writeCheckOnly ag theKey) (fun d z a => (d.unback a 8).dramWr (d.checkAddr z a) (d.r dgPid F.DG_CHECK_CHECK)) ∧
    serves 4 (.writeBoth ag theKey) (fun d z a =>
      (((d.unback a 8).dramWrN a (data d)).dramWr (d.checkAddr z a) (d.r dgPid F.DG_CHECK_CHECK))))


/-! ### Layers, bands, the strike plane (R275 to R303) -/

/-- Layer pipes (R280, R286, R291, R292, R296): a coefficient pair goes to the place that `LP_COEF_ADDR` names, and the
place moves on; HOLD set holds the sets accepted from then on, and HOLD cleared makes the head's held sets ordinary ones;
GO replaces a queued flip and queues one of the buffer that the registers give, waiting for its fence, and ends it where
the fence is not one of the owner's; the walk of a flip ends it or makes it READY; a drag delta that waits for a pipe
reaches it once.
Where it rests on a choice or a reading of the model, not on a rule: log entries 5, 16, 22, 46, 88 and 109. -/
def Obligations.LayerPipesComplete : Prop :=
  (∀ (s : State) (ag : Agent) (page : BitVec 12) (q : Fin 48) (v : Word),
    let pid := agentPageNo ag page.toNat
    let n := s.dev.after ag page.toNat (0x130 + 64 * q) v.toNat
    let p := n.lpPage q
    let i := n.r p F.LP_COEF_ADDR_INDEX q
    let b := n.r p F.LP_COEF_ADDR_CBANK q
    s.dev.accepts ag page.toNat (0x130 + 64 * q) v.toNat = true →
    (kindOf pid).any (fun k => k.1 == .layerCtl || k.1 == .viLayers) = true →
    (i < 767 → Completes (.coefWrite ag page q v) s
      ((n.setPipe q (((n.pipe q).setCoef b i (bits v.toNat 0 10)).setCoef b (i + 1) (bits v.toNat 16 10))).w p
        F.LP_COEF_ADDR_INDEX ((i + 2) % 768) q)) ∧
    (i = 767 → Completes (.coefWrite ag page q v) s
      ((n.setPipe q ((n.pipe q).setCoef b i (bits v.toNat 0 10))).w p F.LP_COEF_ADDR_INDEX 0 q)) ∧
    (768 ≤ i → Completes (.coefWrite ag page q v) s n)) ∧
  (∀ (s : State) (ag : Agent) (h : Fin 8) (v : Word),
    (s.dev.accepts ag (0x200 + h) 0x044 (withBit v 0) = true →
      Completes (.layerHoldSet ag h v) s (s.dev.after ag (0x200 + h) 0x044 (withBit v 0))) ∧
    (s.dev.accepts ag (0x200 + h) 0x044 (withoutBit v 0) = true →
      let n := s.dev.after ag (0x200 + h) 0x044 (withoutBit v 0)
      Completes (.layerHoldClear ag h v) s
        (if s.dev.falls (hcPid h) (withoutBit v 0) F.HC_GROUP_HOLD then n.holdClear h else n))) ∧
  (∀ (s : State) (ag : Agent) (page : BitVec 12) (q : Fin 48) (v : Word),
    s.dev.accepts ag page.toNat (0x118 + 32 * q) (withBit v 0) = true →
    (kindOf (agentPageNo ag page.toNat)).any (fun k => k.1 == .flips || k.1 == .viFlips) = true →
    let a := s.dev.after ag page.toNat (0x118 + 32 * q) (withBit v 0)
    let n := if (a.pipe q).flip.isSome then a.flipEnd q 1 0 else a
    let g := a.flPage q
    let l := n.layer n.cntRd q
    let handle := n.r g F.FL_FENCE_HANDLE q
    let b : Buf := { fmt := l.fmt, width := l.width, height := l.height, pitch := l.pitch
                     addr := n.r g F.FL_ADDR_LO_ADDR q * 256 + n.r g F.FL_ADDR_HI_ADDR q * 2 ^ 32
                     chroma := n.r g F.FL_CHROMA_OFFSET q * 256 }
    let y : Flip := { buf := b, adjX := sx 16 (n.r g F.FL_ADJ_DX q), adjY := sx 16 (n.r g F.FL_ADJ_DY q) }
    let f := fun x : Option Nat => (n.setPipe q { n.pipe q with flip := some { y with fate := x } }).w g F.FL_STAT_STATE 1 q
    (handle = noFence → Completes (.flipGo ag page q v) s (f (some 0))) ∧
    (∀ pid i : Nat, handle ≠ noFence → (f none).ownFence ((f none).pipeOwner q) handle = some (pid, i) →
      Completes (.flipGo ag page q v) s
        ((f none).fenceWait (flipUid g q) pid i ((f none).r g F.FL_TARGET_VALUE q))) ∧
    (handle ≠ noFence → (f none).ownFence ((f none).pipeOwner q) handle = none →
      Completes (.flipGo ag page q v) s ((f none).flipEnd q 2 3))) ∧
  (∀ (s : State) (q : Fin 48), (s.dev.pipe q).flip = none → Completes (.flipWalkEnd q) s s.dev) ∧
  (∀ (s : State) (q : Fin 48) (f : Flip), (s.dev.pipe q).flip = some f →
    (f.walked = true → Completes (.flipWalkEnd q) s s.dev) ∧
    (f.walked = false → s.dev.pipeOwner q % 4 ≠ 3 → Completes (.flipWalkEnd q) s
      ((s.dev.setPipe q { s.dev.pipe q with flip := some { f with walked := true } }).flipReady q)) ∧
    (∀ (n : Dev) (r : MapRes), f.walked = false → s.dev.pipeOwner q % 4 = 3 →
      let v := s.dev.pipeOwner q / 16 % 64
      let l := s.dev.layer s.dev.cntRd q
      s.dev.bufWalk v l.aspace (!l.best) f.buf.ranges [] = (n, r) →
      Completes (.flipWalkEnd q) s (match r with
        | .full => n.flipEnd q 4 0
        | .host => n.flipEnd q 6 0
        | .fault k st g a => (n.xlatFault v l.aspace 0 a false k st g).flipEnd q 3 0
        | .entries m =>
          (n.setPipe q { n.pipe q with flip := some { f with walked := true, buf := { f.buf with map := m } } }).flipReady q))) ∧
  (∀ (s : State) (t : Fin 8) (q : Fin 48), Completes (.warpTouchDelta t q) s
    (match (s.dev.touch t).deltas.find? (fun e => e.1 == q.val) with
    | none => s.dev
    | some e => (s.dev.setTouch t { s.dev.touch t with deltas := (s.dev.touch t).deltas.erase e }).warpDelta t q e.2.1 e.2.2))

/-- Bands and boundaries (R229, R283 to R287, R297, R300 to R303, R340): a pipe fetches its next band while its head
scans, the bands before are fetched and composed, and the band has not started; else nothing happens. At the deadline
composition starts: a layer whose band is not complete shows its fill colour and is counted where it has a buffer, LATE
for a Latch layer and a drop for another. A band whose words of strike SRAM are sound and whose results agree leaves as
composed, else in the alarm colour with a fault of the compositor pair. At the layer boundary of a head that scans the
held, compose and layer sets and the READY flips take effect and band 0 is fetched; at its strike boundary the strike and
CRC sets, the emergency window and forcing do.
Where it rests on a choice or a reading of the model, not on a rule: log entries 5, 28, 46 and 49. -/
def Obligations.BandsAndBoundariesComplete : Prop :=
  (∀ (s : State) (q : Fin 48) (k : Nat), let h := s.dev.pipeHead q
    let hs := s.dev.head h
    let p := s.dev.pipe q
    let may := s.dev.pipeUsable q = true ∧ (s.dev.layer s.dev.actRd q).enable = true ∧ s.dev.scanning h = true ∧ 1 ≤ k ∧
      k < s.dev.bandsOf h ∧ ((∃ x ∈ p.bands, x.band + 1 = k) ∨ k ≤ hs.composed ∨ p.cur = none) ∧ k ≤ hs.composed + 1 ∧
      (∀ x ∈ p.bands, x.band ≠ k) ∧ hs.started ≤ k
    (may → Completes (.bandFetchStart q k) s (s.dev.fetchBand q k)) ∧ (¬may → Completes (.bandFetchStart q k) s s.dev)) ∧
  (∀ (s : State) (h : Fin 8) (k : Nat) (late : List (Fin 48)), let d := s.dev
    let starts := d.scanning h = true ∧ k = (d.head h).started ∧ k < d.bandsOf h
    let shown := (d.enabledPipes d.actRd h).filter (fun p => !((d.layer d.actRd p).linesIn k (readTiming d.actRd h).vact).isEmpty)
    let fills := shown.filter (fun p => !((d.pipe p).bands.any (fun x => x.band == k && x.ok) &&
      (!(late.map (·.val)).contains p || (!(d.layer d.actRd p).best && d.latchHolds))))
    let n := (fills.filter (fun p => (d.pipe p).cur.isSome)).foldl (fun n p =>
      if (d.layer d.actRd p).best then
        (((n.addSat (d.lpPage p) F.LP_STAT_DROPS 1 p).err (d.lpPage p) 10).addSat (hcPid h) F.HC_BANDS_DROPS).err (hcPid h) 10
      else (((n.addSat (d.lpPage p) F.LP_STAT_LATE 1 p).err (d.lpPage p) errLate).addSat (hcPid h) F.HC_BANDS_LATE).err (hcPid h)
        errLate) d
    (starts → Completes (.bandFetchDeadline h k late) s (n.setHead h { d.head h with started := k + 1, fill := fills })) ∧
    (¬starts → Completes (.bandFetchDeadline h k late) s d)) ∧
  (∀ (s : State) (h : Fin 8) (k : Nat) (bad : Bool),
    ((k ≠ (s.dev.head h).composed ∨ (s.dev.head h).started ≤ k) → Completes (.bandComposeEnd h k bad) s s.dev) ∧
    (∀ (n : Dev) (sound : Bool), k = (s.dev.head h).composed → k < (s.dev.head h).started →
      s.dev.strikeWords (s.dev.strikeUse h k) = (n, sound) →
      let done := fun (rows : List (List Pix)) =>
        let d := n.setHead h { s.dev.head h with
          composed := k + 1, inject := false, rows := tabPut (s.dev.head h).rows [] k rows }
        (d.headPipes h).foldl (fun d p =>
          d.setPipe p { d.pipe p with bands := (d.pipe p).bands.filter (fun x => decide (k < x.band)) }) d
      let alarm := done ((n.composeBand h k).map (fun l => l.map (fun _ => bgPix (n.a (stkPid h) F.STK_ALARM_RGB))))
      let good := bad = false ∧ (s.dev.head h).inject = false ∧ sound = true
      (good → Completes (.bandComposeEnd h k bad) s (done (n.composeBand h k))) ∧
      (¬good → Completes (.bandComposeEnd h k bad) s
        (((((alarm.addSat (stkPid h) F.STK_STAT_MISMATCH).addSat scPid F.SC_MISM_COUNT).w scPid F.SC_MISM_HEAD h).err scPid
          10).openFault 2 1 (stkPid h) h)))) ∧
  (∀ (s : State) (h : Fin 8) (sets : List PageRef) (flips : List (Fin 48)) (a b : Bool), s.dev.scanning h = false →
    Completes (.layerBoundary h sets flips) s s.dev ∧ Completes (.strikeBoundary h a b) s s.dev) ∧
  (∀ (s : State) (h : Fin 8) (sets : List PageRef) (flips : List (Fin 48)), s.dev.scanning h = true →
    let late := sets.map PageRef.pid
    let n := if (s.dev.head h).newMode then s.dev.applyHeld h else s.dev
    let n := (n.composeApply h (!late.contains (hcPid h))).applyLayers h late
    let taken := (n.enabledPipes n.actRd h).filter (fun p =>
      n.r (n.flPage p) F.FL_STAT_STATE p == 2 && !(flips.map (·.val)).contains p)
    let m := taken.foldl (fun d p => d.flipTake p) n
    let t := (m.stamp (hdPid h)).1
    let m := (m.stamp (hdPid h)).2
    let x : HeadSt := { m.head h with newMode := false, started := 0, composed := 0, fill := [] }
    let x := if taken.isEmpty then x else
      { x with flipT := t, flipF := (m.r (hdPid h) F.HD_FRAME_COUNT + 1) % 2 ^ 32, flipP := taken }
    let m := m.setHead h x
    Completes (.layerBoundary h sets flips) s
      ((m.enabledPipes m.actRd h).foldl (fun d p => (d.setPipe p { d.pipe p with bands := [] }).fetchBand p 0) m)) ∧
  (∀ (s : State) (h : Fin 8) (inTime crcInTime : Bool), s.dev.scanning h = true →
    let n := if inTime = true ∧ (s.dev.ctl (stkPid h)).pend.isSome = true then
        if s.dev.blockFault (stkPid h) then s.dev.discardPend (stkPid h) else s.dev.strikeApply h
      else s.dev
    let n := (n.crcApply h crcInTime).emgApply h
    ((n.head h).release = true → Completes (.strikeBoundary h inTime crcInTime) s
      (((n.setHead h { n.head h with forced := false, release := false }).w (crPid h) F.CR_STAT_FORCED 0).showSafe h)) ∧
    ((n.head h).release = false → n.on (crPid h) F.CR_STAT_FORCED = true → Completes (.strikeBoundary h inTime crcInTime) s
      ((n.setHead h { n.head h with forced := true }).showSafe h)) ∧
    ((n.head h).release = false → n.on (crPid h) F.CR_STAT_FORCED = false →
      Completes (.strikeBoundary h inTime crcInTime) s (n.showSafe h))) ∧
  (∀ (s : State) (ag : Agent) (m : Fin 16),
    (s.dev.accepts ag scPid 0x040 (1 + 16 * m) = true →
      let n := s.dev.after ag scPid 0x040 (1 + 16 * m)
      Completes (.emergencyShow ag m) s n ∧ n.r scPid F.SC_EMG_ON = 1 ∧ n.r scPid F.SC_EMG_MSG = m) ∧
    (s.dev.accepts ag scPid 0x040 (16 * m) = true →
      let n := s.dev.after ag scPid 0x040 (16 * m)
      Completes (.emergencyRemove ag m) s n ∧ n.r scPid F.SC_EMG_ON = 0)) ∧
  (∀ (s : State) (ag : Agent) (h : Fin 8), s.dev.accepts ag scPid 0x050 (256 + h) = true →
    let n := s.dev.after ag scPid 0x050 (256 + h)
    Completes (.scInject ag h) s (n.setHead h { n.head h with inject := true }))


/-! ### Heads, links, AUX, CRC rectangles (R315 to R346) -/

/-- Heads (R322 to R329, R351): EN set on a stopped head that the hinge table enables starts its PLL, and while STOPPING
takes the place of the clear; EN cleared stops a head that does not send frames, and asks a running one to stop at its end
of active; the lock starts frames. The end of active ends a stop, or applies the pending set whose check ended in time,
with a retiming where a mode field changes. A frame is counted, timed and sent to the touch ports; a head without frames
sends a strobe each 16,666,667 ns that keeps the count. Reads of the frame time and of the flip record load their latches.
Where it rests on a choice or a reading of the model, not on a rule: log entries 5, 16, 50, 51 and 76. -/
def Obligations.HeadsComplete : Prop :=
  (∀ (s : State) (ag : Agent) (h : Fin 8) (v : Word), let p := hdPid h
    let n := s.dev.after ag (0x280 + h) 0x040 (withBit v 0)
    let m := s.dev.after ag (0x280 + h) 0x040 (withoutBit v 0)
    let st := fun (d : Dev) => d.r p F.HD_STAT_STATE
    (s.dev.accepts ag (0x280 + h) 0x040 (withBit v 0) = true → Completes (.headEnable ag h v) s
      (if s.dev.rises p (withBit v 0) F.HD_CTRL_EN = false then n
       else if st n = 0 ∧ n.headEn h = true then n.w p F.HD_STAT_STATE 1
       else if st n = 4 then n.w p F.HD_STAT_STATE 2 else n)) ∧
    (s.dev.accepts ag (0x280 + h) 0x040 (withoutBit v 0) = true → Completes (.headDisable ag h v) s
      (if s.dev.falls p (withoutBit v 0) F.HD_CTRL_EN = false then m
       else if st m = 1 ∨ st m = 3 then m.headStop h
       else if st m = 2 then m.w p F.HD_STAT_STATE 4 else m))) ∧
  (∀ (d : Dev) (h : Nat), let x := (d.stopApply h).w (hdPid h) F.HD_STAT_STATE 0
    d.headStop h = x.setHead h { x.head h with video := false }) ∧
  (∀ (s : State) (h : Fin 8), Completes (.headPllLock h) s
    (if s.dev.r (hdPid h) F.HD_STAT_STATE = 1 then s.dev.w (hdPid h) F.HD_STAT_STATE 2 else s.dev)) ∧
  (∀ (s : State) (h : Fin 8) (t : Bool), let p := hdPid h
    let st := s.dev.r p F.HD_STAT_STATE
    let due := st = 2 ∧ t = true ∧ (s.dev.ctl p).pend.isSome = true
    let moved := s.dev.cntRd p F.HD_HACT_ACTIVE 0 ≠ s.dev.a p F.HD_HACT_ACTIVE ∨ s.dev.cntRd p F.HD_VACT_ACTIVE 0 ≠ s.dev.a p F.HD_VACT_ACTIVE
    let n := s.dev.applyPend p (fun _ => true)
    let n := if moved then n.setHead h { n.head h with newMode := true } else n
    let r := n.w p F.HD_STAT_STATE 3
    let r := r.setHead h { r.head h with video := false }
    (st = 4 → Completes (.headEndOfActive h t) s (s.dev.headStop h)) ∧
    (st ≠ 4 → ¬due → Completes (.headEndOfActive h t) s s.dev) ∧
    (due → s.dev.blockFault p = true → Completes (.headEndOfActive h t) s (s.dev.discardPend p)) ∧
    (due → s.dev.blockFault p = false → modeDiffers s.dev.cntRd s.dev.actRd h = false → Completes (.headEndOfActive h t) s n) ∧
    (due → s.dev.blockFault p = false → modeDiffers s.dev.cntRd s.dev.actRd h = true → Completes (.headEndOfActive h t) s
      (if r.linkIsUp h = true ∧
          carries (readTiming r.actRd h) (r.r (dpPid h) F.DP_STAT_RATE) (r.r (dpPid h) F.DP_STAT_LANES) = false
       then r.trainLink h else r))) ∧
  (∀ (s : State) (h : Fin 8),
    (s.dev.r (hdPid h) F.HD_STAT_STATE = 3 → s.dev.linkState h ≠ 1 → Completes (.retimingComplete h) s
      (((s.dev.w (hdPid h) F.HD_STAT_STATE 2).addSat (hdPid h) F.HD_RETIME_COUNT).err (hdPid h) 11)) ∧
    ((s.dev.r (hdPid h) F.HD_STAT_STATE ≠ 3 ∨ s.dev.linkState h = 1) → Completes (.retimingComplete h) s s.dev)) ∧
  (∀ (s : State) (h : Fin 8),
    let t := (s.dev.stamp (hdPid h)).1
    let n := ((s.dev.stamp (hdPid h)).2.add (hdPid h) F.HD_FRAME_COUNT).err (hdPid h) 10
    let up := n.linkIsUp h
    let n := n.setHead h { n.head h with
      ftime := t, video := up, sent := if up then ((n.head h).sent <|> some t) else (n.head h).sent }
    (s.dev.scanning h = true → Completes (.frameStart h) s
      (((n.emit (.event 326 [h.val, n.r (hdPid h) F.HD_FRAME_COUNT])).frameMeasures h t).touchStrobe h)) ∧
    (s.dev.scanning h = false → Completes (.frameStart h) s s.dev)) ∧
  (∀ (s : State) (h : Fin 8),
    let due := s.dev.r (hdPid h) F.HD_STAT_STATE ≤ 1 ∧ s.dev.r pmPid F.PM_STAT_STATE ≤ 1 ∧
      (s.dev.head h).strobeAt + 16666667 ≤ s.dev.now
    let n := s.dev.setHead h { s.dev.head h with strobeAt := s.dev.now }
    (due → Completes (.stoppedFrameStrobe h) s ((n.emit (.event 326 [h.val, n.r (hdPid h) F.HD_FRAME_COUNT])).touchStrobe h)) ∧
    (¬due → Completes (.stoppedFrameStrobe h) s s.dev)) ∧
  (∀ (s : State) (ag : Agent) (h : Fin 8), let pid := agentPageNo ag (0x280 + h)
    let reads := fun (i : Instr) (off : Nat) =>
      (∀ why : HoldWhy, s.dev.readWaits ag pid off s.dev.held = some why → Completes i s { s.dev with held := s.dev.held ++
        [{ ag := ag, pid := pid, off := off, v := 0, why := why, rd := some .own, since := s.dev.now }] }) ∧
      (∀ (v : Nat) (e : Bool) (n : Dev), s.dev.readWaits ag pid off s.dev.held = none → s.dev.read ag pid off = (v, e, n) →
        Completes i s (n.emit (if e then .errorResponse (n.agentFab ag) else .read v)))
    reads (.hdFrameRead ag h) 0x064 ∧ reads (.hdFliptRead ag h) 0x070) ∧
  (∀ (d : Dev) (h : Fin 8), (d.latchFrame h).r (hdPid h) F.HD_FTIME_LO_TIME = (d.head h).ftime % 2 ^ 32 ∧
    (d.latchFlip h).r (hdPid h) F.HD_FLIPF_FRAME = (d.head h).flipF % 2 ^ 32)

/-- CRC rectangles (R337 to R340): a rectangle that is not enabled, or whose head does not scan, or whose lines are not
all composed, is not compared; a frame that is not sent is skipped; one that matches clears its RUN and its bit of
FAILMASK; a mismatch counts, and where its run reaches THRESH it acts, ACTION 2 forcing the safe screen; a release waits
for the next strike boundary.
Where it rests on a choice or a reading of the model, not on a rule: log entries 5, 16 and 22. -/
def Obligations.CrcRectanglesComplete : Prop :=
  (∀ (s : State) (h : Fin 8) (r : Fin 16) (o : Option Word), let p := crPid h
    let done := fun (d : Dev) => Completes (.crcRectangleFinal h r o) s d
    let final := (o.map (·.toNat)) <|> s.dev.rectCrc h r
    ((s.dev.a p F.CR_CFG_EN r ≠ 1 ∨ s.dev.scanning h = false) → done s.dev) ∧
    (s.dev.a p F.CR_CFG_EN r = 1 → s.dev.scanning h = true → (s.dev.head h).video = false → done (s.dev.crcCount h true)) ∧
    (s.dev.a p F.CR_CFG_EN r = 1 → s.dev.scanning h = true → (s.dev.head h).video = true → final = none → done s.dev) ∧
    (∀ c : Nat, s.dev.a p F.CR_CFG_EN r = 1 → s.dev.scanning h = true → (s.dev.head h).video = true → final = some c →
      c = s.dev.a p F.CR_EXP_CRC r →
      let n := s.dev.crcCount h false
      let n := ((n.w p F.CR_LAST_CRC c r).w p F.CR_RSTAT_MATCH 1 r).w p F.CR_RSTAT_RUN 0 r
      let m := n.r p F.CR_STAT_FAILMASK
      done (n.w p F.CR_STAT_FAILMASK (m - (if bit m r then 2 ^ r.val else 0)))) ∧
    (∀ c : Nat, s.dev.a p F.CR_CFG_EN r = 1 → s.dev.scanning h = true → (s.dev.head h).video = true → final = some c →
      c ≠ s.dev.a p F.CR_EXP_CRC r →
      let run := s.dev.r p F.CR_RSTAT_RUN r
      let n := s.dev.crcCount h false
      let n := ((n.w p F.CR_LAST_CRC c r).w p F.CR_RSTAT_MATCH 0 r).w p F.CR_RSTAT_RUN (sat 15 (run + 1)) r
      let n := (n.w p F.CR_STAT_FAILMASK (n.r p F.CR_STAT_FAILMASK ||| 2 ^ r.val)).addSat p F.CR_RSTAT_MISM 1 r
      done (if sat 15 (run + 1) = max 1 (n.a p F.CR_CFG_THRESH r) ∧ run < max 1 (n.a p F.CR_CFG_THRESH r) then n.crcAction h r
       else n))) ∧
  (∀ (d : Dev) (h : Fin 8) (r : Nat), d.a (crPid h) F.CR_CFG_ACTION r = 2 →
    (d.crcAction h r).r (crPid h) F.CR_STAT_FORCED = 1 ∧ (d.crcAction h r).r (hcPid h) F.HC_STAT_SAFE = 1 ∧
    (d.crcAction h r).r (crPid h) F.CR_FFRAME_FRAME = d.r (hdPid h) F.HD_FRAME_COUNT % 2 ^ 32) ∧
  (∀ (s : State) (ag : Agent) (h : Fin 8) (v : Word), s.dev.accepts ag (0x290 + h) 0x040 (withBit v 2) = true →
    let n := s.dev.after ag (0x290 + h) 0x040 (withBit v 2)
    Completes (.crcRelease ag h v) s (n.setHead h { n.head h with release := true }))

/-- Links and panels (R330 to R336): a plug is counted, and trains a link that is idle with AUTO; an unplug ends the link,
with its cause where it trained; a pulse on HPD while UP is the owner's event, or trains again; training that succeeds on
a rate that carries the mode brings the link UP, one that fails falls back, and where nothing is left fails; RETRAIN
trains; an AUX request is refused for the addresses that the device configures, else runs as it was asked for and shows
its end, with the data of a read; the backlight comes on after its delay from the first frame of the link.
Where it rests on a choice or a reading of the model, not on a rule: log entries 5, 16, 28 and 50. -/
def Obligations.DisplayLinksComplete : Prop :=
  (∀ (s : State) (h : Fin 8) (k : SinkCaps), let p := dpPid h
    (s.dev.on p F.DP_STAT_HPD = true → Completes (.plug h k) s s.dev) ∧
    (s.dev.on p F.DP_STAT_HPD = false →
      let x := s.dev.head h
      let n := s.dev.setHead h { x with
        sink := some k, early := x.early || (x.safeDue && decide (s.dev.now ≤ s.dev.disp.bootAt + 250000000)) }
      let n := ((n.w p F.DP_STAT_HPD 1).addSat p F.DP_EVENTS_PLUG).err p 10
      Completes (.plug h k) s
        (if n.on p F.DP_CTRL_AUTO = true ∧ (n.linkState h = 0 ∨ n.linkState h = 3) then n.trainLink h else n)) ∧
    (s.dev.on p F.DP_STAT_HPD = false → Completes (.unplug h) s s.dev) ∧
    (s.dev.on p F.DP_STAT_HPD = true →
      let n := ((s.dev.w p F.DP_STAT_HPD 0).addSat p F.DP_EVENTS_UNPLUG).err p 10
      let n := ((if n.linkState h = 1 then n.w p F.DP_STAT_CAUSE 5 else n).w p F.DP_STAT_STATE 0).noVideo h
      Completes (.unplug h) s (n.setHead h { n.head h with sink := none }))) ∧
  (∀ (s : State) (h : Fin 8), let p := dpPid h
    (s.dev.linkState h = 2 → Completes (.irqHpd h true) s ((s.dev.addSat p F.DP_EVENTS_IRQ).err p 10) ∧
      Completes (.irqHpd h false) s
        ((((s.dev.addSat p F.DP_EVENTS_LOST).err p 11).w p F.DP_STAT_STATE 1).noVideo h)) ∧
    (∀ good : Bool, s.dev.linkState h ≠ 2 → Completes (.irqHpd h good) s s.dev)) ∧
  (∀ (s : State) (ag : Agent) (h : Fin 8) (v : Word), s.dev.accepts ag (0x500 + h) 0x040 (withBit v 1) = true →
    let n := s.dev.after ag (0x500 + h) 0x040 (withBit v 1)
    Completes (.dpRetrain ag h v) s (if n.linkState h = 1 then n else n.trainLink h)) ∧
  (∀ (s : State) (h : Fin 8) (o : TrainOutcome) (ms : Nat), s.dev.linkState h ≠ 1 →
    Completes (.dpTrainingAttemptEnd h o ms) s s.dev) ∧
  (∀ (s : State) (h : Fin 8) (ms : Nat), s.dev.linkState h = 1 →
    let p := dpPid h
    let t := readTiming s.dev.actRd h
    let n := (s.dev.add p F.DP_TRAIN_COUNT).w p F.DP_TRAIN_MS (sat 65535 ms)
    let n := n.setHead h { n.head h with tries := (n.head h).tries + 1 }
    let fails := fun (o : TrainOutcome) (cause : Nat) => Completes (.dpTrainingAttemptEnd h o ms) s
      (match n.fallback h with
      | some (r, l) => if carries t r l then (n.w p F.DP_STAT_RATE r).w p F.DP_STAT_LANES l
        else ((n.w p F.DP_STAT_STATE 3).w p F.DP_STAT_CAUSE cause).err p 12
      | none => ((n.w p F.DP_STAT_STATE 3).w p F.DP_STAT_CAUSE cause).err p 12)
    Completes (.dpTrainingAttemptEnd h .success ms) s
      (if carries t (n.r p F.DP_STAT_RATE) (n.r p F.DP_STAT_LANES) then
        ((n.w p F.DP_STAT_STATE 2).w p F.DP_STAT_CAUSE 0).w p F.DP_STAT_SSC
          (b2n ((n.sinkOf h).downspread && n.on p F.DP_CTRL_SSC))
       else (n.w p F.DP_STAT_STATE 3).w p F.DP_STAT_CAUSE 3) ∧
    Completes (.dpTrainingAttemptEnd h .noAux ms) s (((n.w p F.DP_STAT_STATE 3).w p F.DP_STAT_CAUSE 4).err p 12) ∧
    fails .crFail 1 ∧ fails .eqFail 2) ∧
  (∀ (s : State) (ag : Agent) (h : Fin 8) (v : Word), s.dev.accepts ag (0x500 + h) 0x050 (withBit v 0) = true →
    let p := dpPid h
    let n := s.dev.after ag (0x500 + h) 0x050 (withBit v 0)
    let len := n.r p F.DP_AUX_CMD_LEN + 1
    let ty := n.r p F.DP_AUX_CMD_TYPE
    let addr := n.r p F.DP_AUX_CMD_ADDR
    let q := (n.setHead h { n.head h with aux := some (ty, len) }).w p F.DP_AUX_STAT_BUSY 1
    (n.on p F.DP_AUX_STAT_BUSY = true → Completes (.auxGo ag h v) s n) ∧
    (n.on p F.DP_AUX_STAT_BUSY = false → auxRefused ty addr len = true →
      Completes (.auxGo ag h v) s ((n.w p F.DP_AUX_STAT_RESULT 4).err p 13)) ∧
    (n.on p F.DP_AUX_STAT_BUSY = false → auxRefused ty addr len = false → Completes (.auxGo ag h v) s
      (q.emit (.aux h (ty + 4 * q.r p F.DP_AUX_CMD_MOT) addr (if ty % 2 = 0 then q.auxBytes h len else []))))) ∧
  (∀ (s : State) (h : Fin 8) (o : AuxOutcome), (s.dev.head h).aux = none → Completes (.auxTransactionEnd h o) s s.dev) ∧
  (∀ (s : State) (h : Fin 8) (ty len : Nat), (s.dev.head h).aux = some (ty, len) →
    let p := dpPid h
    let n := ((s.dev.setHead h { s.dev.head h with aux := none }).w p F.DP_AUX_STAT_BUSY 0).err p 13
    Completes (.auxTransactionEnd h .nack) s (n.w p F.DP_AUX_STAT_RESULT 1) ∧
    Completes (.auxTransactionEnd h .defer) s (n.w p F.DP_AUX_STAT_RESULT 2) ∧
    Completes (.auxTransactionEnd h .timeout) s (n.w p F.DP_AUX_STAT_RESULT 3) ∧
    (∀ (bs : List Nat) (k : Fin 17),
      let a := (n.w p F.DP_AUX_STAT_RESULT 0).w p F.DP_AUX_STAT_ACKED k
      let m := takePad 0 16 (bs.take len ++ (a.auxBytes h 16).drop (min len bs.length))
      Completes (.auxTransactionEnd h (.ack bs k)) s (if ty % 2 = 1 then
        forAll (upFrom 0 4) (fun j d => d.w p F.DP_AUX_DATA_DATA (ofBytesLE ((m.drop (4 * j)).take 4)) j) a else a))) ∧
  (∀ (s : State) (h : Fin 8), let due := s.dev.blenMay h = true ∧
      ∃ t ∈ (s.dev.head h).sent, t + 1000000 * s.dev.r (dpPid h) F.DP_PANEL_BLDELAY ≤ s.dev.now
    (due → Completes (.backlightDelayExpiry h) s (s.dev.setHead h { s.dev.head h with blen := true })) ∧
    (¬due → Completes (.backlightDelayExpiry h) s s.dev))


/-! ### Touch (R350 to R371) -/

/-- Touch ports (R350 to R356, R362, R371): EN set on a port that is OFF begins capture, EN cleared ends every contact and
stops it; RECAL and DUMP wait for a scan frame, the dump with its address. A scan frame starts when it is due in a state
that scans, a running one then having overrun; it takes the settings, and its end, after all its drive steps, takes the
raw values: capture adds them up and after BASE_FR frames gives the baselines. After 50 ms without a strobe the port scans
free. HOLD_S seconds after its DOWN a contact is taken into the baselines. Ward firmware reads records once, oldest first.
Where it rests on a choice or a reading of the model, not on a rule: log entries 5, 6, 16, 28, 52, 53, 95 and 110. -/
def Obligations.TouchPortsComplete : Prop :=
  (∀ (s : State) (ag : Agent) (t : Fin 8) (v : Word) (c : Instr) (w : Nat),
    ((c = .touchPortEnable ag t v ∧ w = withBit v 0) ∨ (c = .touchPortDisable ag t v ∧ w = withoutBit v 0) ∨
      (c = .recal ag t v ∧ w = withBit v 1) ∨ (c = .dump ag t v ∧ w = withBit v 2)) →
    s.dev.accepts ag (0x580 + 16 * t) 0x040 w = true →
    let p := tsPid t
    let n := s.dev.after ag (0x580 + 16 * t) 0x040 w
    let x : TouchSt := { mbox := (n.touch t).mbox, lossy := (n.touch t).lossy, lastId := (n.touch t).lastId
                         whole := n.windows t, strobeAt := (n.touch t).strobeAt }
    let e := if s.dev.rises p w F.TS_CTRL_EN = true ∧ n.touchState t = 0 then
        ((n.setTouch t x).w p F.TS_STAT_SYNCED (b2n (n.windows t))).enterCapture t
      else if s.dev.rises p w F.TS_CTRL_EN = false ∧ s.dev.falls p w F.TS_CTRL_EN = true ∧ n.touchState t ≠ 0 then n.touchLeave t 0
      else n
    let r := if bit w 1 then e.setTouch t { e.touch t with recal := true } else e
    let a := r.r p F.TS_DUMP_LO_ADDR * 64 + r.r p F.TS_DUMP_HI_ADDR * 2 ^ 32
    Completes c s (if bit w 2 then r.setTouch t { r.touch t with dump := some a } else r)) ∧
  (∀ (d : Dev) (t : Fin 8), (d.enterCapture t).touchState t = 1 ∧
    ((d.enterCapture t).touch t).need = max 1 (d.r (tsPid t) F.TS_TRACK_BASE_FR)) ∧
  (∀ (s : State) (t : Fin 8), let st := s.dev.touchState t
    let due := st ≠ 0 ∧ (st = 3 → s.dev.touchWake t = true) ∧ s.dev.scanDue t = true
    let n := if st = 3 then s.dev.overrun t else (s.dev.overrun t).touchBoundary t
    let m := if (n.touch t).recal = true ∧ st = 2 then (n.endTracks t 1 true).enterCapture t else n
    (¬due → Completes (.scanFrameStart t) s s.dev) ∧
    (due → Completes (.scanFrameStart t) s
      ((m.setTouch t { m.touch t with
        scanning := true, recal := false, cfg := m.touchCfg t, startAt := m.now, endAt := m.now + m.scanNs t
        since := (m.touch t).since + 1, headAt := m.r (hdPid (m.touchHead t)) F.HD_STAT_STATE
        en := m.on (m.trPage t) F.TR_CTRL_EN t }).touchShow t))) ∧
  (∀ (s : State) (t : Fin 8),
    let n := ((s.dev.setTouch t { s.dev.touch t with scanning := false }).addSat (tsPid t) F.TS_EVENTS_OVERRUN).err (tsPid t) 10
    Completes (.scanFrameOverrun t) s (if (s.dev.touch t).scanning then n else s.dev)) ∧
  (∀ (s : State) (t : Fin 8) (raw : List Nat) (ns : Nat), let p := tsPid t
    let ends := (s.dev.touch t).scanning = true ∧ (s.dev.touch t).endAt ≤ s.dev.now
    let raw' := takePad 0 (s.dev.nodeCount t) raw
    let time := (s.dev.stamp p).1
    let n := (((s.dev.stamp p).2.w64 p F.TS_SCANT_LO_TIME F.TS_SCANT_HI_TIME time).add p F.TS_SCANCNT_COUNT).touchDump t raw'
    let n := n.setTouch t { n.touch t with scanning := false, last := raw' }
    let sum := (upFrom 0 (n.nodeCount t)).map (fun k => (n.touch t).acc.getD k 0 + raw'.getD k 0)
    let base := sum.map (fun y => y / ((n.touch t).capN + 1))
    let caps := (n.touch t).capN + 1
    let done := fun (d : Dev) => Completes (.scanFrameEnd t raw ns) s d
    (¬ends → done s.dev) ∧
    (ends → n.touchState t = 1 → caps < (n.touch t).need → done (n.setTouch t { n.touch t with acc := sum, capN := caps })) ∧
    (ends → n.touchState t = 1 → (n.touch t).need ≤ caps →
      done ((n.setTouch t { n.touch t with acc := [], capN := 0, anti := [], base := base }).w p F.TS_STAT_STATE 2)) ∧
    (ends → n.touchState t = 2 → done (n.runFrame t raw' ns time)) ∧
    (ends → n.touchState t = 3 → done (n.standbyFrame t raw' time)) ∧
    (ends → n.touchState t ≠ 1 → n.touchState t ≠ 2 → n.touchState t ≠ 3 → done n)) ∧
  (∀ (s : State) (t : Fin 8), let n := s.dev.setTouch t { s.dev.touch t with lost := true, whole := false }
    Completes (.strobeLossTimeout t) s
      (if (s.dev.touch t).strobeAt + 50000000 ≤ s.dev.now then n.w (tsPid t) F.TS_STAT_SYNCED 0 else s.dev)) ∧
  (∀ (s : State) (t : Fin 8) (i : BitVec 8), let p := tsPid t
    let x := s.dev.touch t
    let kept := x.tracks.find? (fun k => k.id == i.toNat && (k.kind == 1 || k.kind == 2))
    let scan := s.dev.r p F.TS_SCANCNT_COUNT
    let time := s.dev.r64 p F.TS_SCANT_LO_TIME F.TS_SCANT_HI_TIME
    (kept = none → Completes (.forcedRecalibration t i) s s.dev) ∧
    (∀ k : Track, kept = some k →
      let due := s.dev.touchState t = 2 ∧ k.downAt + 1000000000 * x.cfg.holdS ≤ s.dev.now
      let ring := ringOf (s.dev.drive t) (s.dev.sense t) k.nodes
      let g := (s.dev.addRec t scan (time % 2 ^ 32) {} k 2 1 0).1
      let keep := x.tracks.map (fun j => if j.id == i.toNat then ({ j with nodes := ring }).ghost true else j)
      let n := s.dev.setTouch t { x with base := rebase x.base x.last ring }
      (¬due → Completes (.forcedRecalibration t i) s s.dev) ∧
      (due → Completes (.forcedRecalibration t i) s
        (((n.addSat p F.TS_EVENTS_RECAL).err p 12).touchDeliver t 0 x.queued { g with keep := keep } false scan time)))) ∧
  (∀ (s : State) (t : Fin 8) (k : Nat), let rs := (s.dev.touch t).mbox.take k
    let n := rs.foldl (fun d r => d.emit (.message (16 + t) r)) s.dev
    Completes (.wardTouchMailboxRead t k) s
      (rs.foldl (fun d r => d.keyRecord t r)
        ((n.setTouch t { s.dev.touch t with mbox := (s.dev.touch t).mbox.drop k }).touchShow t))) ∧
  (∀ raw base k : Nat, trackNode k base base = base ∧ (base ≤ raw → base ≤ trackNode k base raw ∧ trackNode k base raw ≤ raw) ∧
    (raw ≤ base → raw ≤ trackNode k base raw ∧ trackNode k base raw ≤ base))

/-! ### Haptic drive (R376 to R391) -/

/-- Triggers and drive (R380 to R385): a word reaches its channel by the doorbell, its block, the ward world's register or
a touch port's direct path. A Latch trigger is dropped on a channel that is not enabled, and dropped with error 12 where
reserved bits are set or it may not name the effect; it starts from IDLE, waits and ends the effect that plays, waits in
CHECK and BRAKE, and is dropped in other states. A STOP ends an effect. A Bolt trigger is suppressed during a ward restart
and lost in OFF and FAULT, late in CHECK, or without its effect; it waits in CHECK and else starts at once. A sample
drives an effect or the brake; a brake that is over ends, and no drive exceeds 0.95 of VHAP.
Where it rests on a choice or a reading of the model, not on a rule: log entries 5, 16, 55 and 56. -/
def Obligations.HapticDriveCompletes : Prop :=
  (∀ (s : State) (h : Fin 8) (v : Fin 64) (w : Word) (stop : Bool), let x := setBits w.toNat 24 1 (b2n stop)
    s.dev.accepts (.vi v) 2 (0x400 + 4 * h) x = true →
    Completes (if stop then .hapticStop h (.doorbell v w) else .hapticTrigger h (.doorbell v w)) s
      ((s.dev.after (.vi v) 2 (0x400 + 4 * h) x).latchTrig h x)) ∧
  (∀ (s : State) (h : Fin 8) (ag : Agent) (page : BitVec 12) (w : Word) (stop : Bool),
    let x := setBits w.toNat 24 1 (b2n stop)
    let off := blockOff ag h 0x0C
    s.dev.accepts ag page.toNat off x = true → s.dev.place (agentPageNo ag page.toNat) off = (haPid h, 0x10C) →
    Completes (if stop then .hapticStop h (.register ag page w) else .hapticTrigger h (.register ag page w)) s
      ((s.dev.after ag page.toNat off x).latchTrig h x)) ∧
  (∀ (s : State) (h : Fin 8) (w : Word), let x := setBits (setBits w.toNat 24 1 0) 0 3 h
    s.dev.accepts .ward hbPid 0x040 x = true →
    Completes (.hapticTrigger h (.ward w)) s
      ((s.dev.after .ward hbPid 0x040 x).boltTrig h (bits w.toNat 8 8) (bits w.toNat 16 8) none)) ∧
  (∀ (s : State) (h : Fin 8) (w : Word), let x := setBits (setBits w.toNat 24 1 1) 0 3 h
    let n := s.dev.after .ward hbPid 0x040 x
    s.dev.accepts .ward hbPid 0x040 x = true →
    Completes (.hapticStop h (.ward w)) s (if n.hapState h = 3 ∨ n.hapState h = 4 then n.effectEnd h else n)) ∧
  (∀ (s : State) (h t : Fin 8), let x := s.dev.touch t
    let first := x.trigs.find? (fun x => match x.1 with | .click _ => true | _ => false)
    Completes (.hapticStop h (.click t)) s s.dev ∧
    (s.dev.touchHap t ≠ some h.val ∨ first = none → Completes (.hapticTrigger h (.click t)) s s.dev) ∧
    (∀ e since, s.dev.touchHap t = some h.val → first = some (.click e, since) → Completes (.hapticTrigger h (.click t)) s
      ((s.dev.setTouch t { x with trigs := x.trigs.erase (.click e, since) }).latchTrig h e))) ∧
  (∀ (s : State) (t : Fin 8), let x := s.dev.touch t
    let first := x.trigs.find? (fun x => match x.1 with | .bolt _ => true | _ => false)
    (first = none → Completes (.hapticBoltTrigger (.touch t)) s s.dev) ∧
    (∀ e since, first = some (.bolt e, since) →
      let n := s.dev.setTouch t { x with trigs := x.trigs.erase (.bolt e, since) }
      (∀ h, n.touchHap t = some h → Completes (.hapticBoltTrigger (.touch t)) s (n.boltTrig h e 255 (some (since, t)))) ∧
      (n.touchHap t = none → Completes (.hapticBoltTrigger (.touch t)) s n))) ∧
  (∀ (s : State) (w : Word), let x := withoutBit w 24
    s.dev.accepts .ward hbPid 0x040 x = true →
    Completes (.hapticBoltTrigger (.ward w)) s
      ((s.dev.after .ward hbPid 0x040 x).boltTrig (bits w.toNat 0 3) (bits w.toNat 8 8) (bits w.toNat 16 8) none)) ∧
  (∀ (d : Dev) (h : Fin 8) (w : Nat), let e := bits w 0 8
    let g := if bits w 8 8 = 0 then 255 else bits w 8 8
    let stop := bit w 24
    let waits := fun (d : Dev) => (d.setChan h { d.chan h with pend := some (e, g, bits w 16 4) }).pendShow h
    let wrong := bits w 20 4 ≠ 0 ∨ bits w 25 7 ≠ 0 ∨ (stop = false ∧ d.mayName h e = false)
    (d.on (haPid h) F.HA_CTRL_EN = false → d.latchTrig h w = d.dropTrig h) ∧
    (d.on (haPid h) F.HA_CTRL_EN = true → wrong → d.latchTrig h w = (d.dropTrig h).hapErr h 12) ∧
    (d.on (haPid h) F.HA_CTRL_EN = true → ¬wrong → stop = true → d.latchTrig h w =
      if d.hapState h = 3 then d.effectEnd h else if d.hapState h = 4 then d.dropTrig h else d) ∧
    (d.on (haPid h) F.HA_CTRL_EN = true → ¬wrong → stop = false → d.latchTrig h w =
      if (d.effect e).isNone = true then d.dropTrig h
      else if d.hapState h = 2 then d.hapStart h e g (bits w 16 4) false none
      else if d.hapState h = 3 then (waits d).effectEnd h
      else if d.hapState h = 1 ∨ d.hapState h = 5 then waits (if (d.chan h).pend.isSome then d.dropTrig h else d)
      else d.dropTrig h)) ∧
  (∀ (d : Dev) (h : Fin 8) (e gain : Nat) (since : Option (Nat × Nat)), let st := d.hapState h
    let g := if gain = 0 then 255 else gain
    let x := d.chan h
    let lost := st = 0 ∨ st = 6 ∨ (st = 1 ∧ x.checkAt + 1000000 < d.now) ∨ 64 ≤ e ∨ (d.effect e).isNone = true
    d.boltTrig h e gain since =
      if d.wardRestarting = true then d
      else if lost then (d.addSat hbPid F.HB_LOST_FAULTED).err hbPid 10
      else if st = 1 then (d.setChan h { x with held := some (e, g, since) }).pendShow h
      else if x.pend.isSome = true then
        (((d.setChan h { x with pend := none }).dropTrig h).pendShow h).hapStart h e g 0 true since
      else d.hapStart h e g 0 true since) ∧
  (∀ (d : Dev) (h : Fin 8), let x := d.chan h
    let y := d.setChan h { x with pend := none }
    (x.pend = none → d.brakeDone h = ((d.setChan h { x with emf := 0 }).setHap h 2).hapBoundary h) ∧
    (∀ e g r, x.pend = some (e, g, r) → d.brakeDone h =
      if (d.effect e).isSome = true then (y.hapStart h e g r false none).pendShow h
      else (((y.dropTrig h).setHap h 2).pendShow h).hapBoundary h)) ∧
  (∀ (s : State) (h : Fin 8) (emf : Int) (mv : Nat), let n := s.dev.showVhap mv
    let x := n.chan h
    let below := if emf.natAbs < 5 * x.cfg.thr then x.below + 1 else 0
    (n.hapState h = 3 ∨ n.hapState h = 4 → Completes (.hapticSampleTick h emf mv) s (n.playSample h emf mv)) ∧
    (n.hapState h = 5 → Completes (.hapticSampleTick h emf mv) s
      ((n.setChan h { x with emf := emf, braked := x.braked + 1, below := below }).emit
        (.drive h (x.cfg.brakeVolts emf) x.cfg.limitMa))) ∧
    (n.hapState h ≠ 3 → n.hapState h ≠ 4 → n.hapState h ≠ 5 → Completes (.hapticSampleTick h emf mv) s n)) ∧
  (∀ (c : HapCfg) (sample : Int) (gain k vhap : Nat),
    -(950 * (vhap : Int)) ≤ c.volts sample gain k vhap ∧ c.volts sample gain k vhap ≤ 950 * vhap) ∧
  (∀ (s : State) (h : Fin 8), let x := s.dev.chan h
    Completes (.brakeEnd h) s
      (if s.dev.hapState h = 5 ∧ (2 ≤ x.below ∨ 8 * x.cfg.brkMs ≤ x.braked) then s.dev.brakeDone h else s.dev))

/-- Checks, faults and loads of the actuators (R378, R385, R388, R411): CHECK from IDLE and CLEAR of a latched fault start
a coil check, whose resistance is shown and decides between a short, an open coil and service; a fault of a running
channel turns its bridge off, discards what waits and is shown; a recovery time, 100 ms after a STALL, starts a check;
VHAP out of range is one SUPPLY fault; a load runs from its GO, its effect no longer valid, and ends with its result.
Where it rests on a choice or a reading of the model, not on a rule: log entries 5, 6, 16, 28, 55 and 112. -/
def Obligations.HapticFaultsAndLoadsComplete : Prop :=
  (∀ (s : State) (h : Fin 8) (ag : Agent) (page : BitVec 12) (v : Word) (c : Instr) (w : Nat),
    ((c = .coilCheckRequest ag page h v ∧ w = withBit v 2) ∨ (c = .actuatorFaultClear ag page h v ∧ w = withBit v 1)) →
    s.dev.accepts ag page.toNat (blockOff ag h 0) w = true →
    s.dev.place (agentPageNo ag page.toNat) (blockOff ag h 0) = (haPid h, 0x100) →
    let checks := fun (d : Dev) => (d.setChan h { d.chan h with emf := 0, checkAt := d.now }).setHap h 1
    let n := s.dev.after ag page.toNat (blockOff ag h 0) w
    let n := if bit w 1 = true ∧ n.hapState h = 6 ∧ (n.chan h).latched = true then checks n else n
    Completes c s (if bit w 2 = true ∧ n.hapState h = 2 then checks n else n)) ∧
  (∀ (s : State) (h : Fin 8) (r : Nat), s.dev.hapState h ≠ 1 → Completes (.coilCheckEnd h r) s s.dev) ∧
  (∀ (s : State) (h : Fin 8) (r : Nat), s.dev.hapState h = 1 →
    let n := (s.dev.w (haPid h) F.HA_STAT_RES (sat 255 (r / 250))).closeCause 3 (haPid h)
    let m := (n.setChan h { n.chan h with latched := false }).w (haPid h) F.HA_STAT_FAULT 0
    let good := n.hap.supplyOut = false ∧ 2000 ≤ r ∧ r ≤ 32000
    let done := fun (d : Dev) => Completes (.coilCheckEnd h r) s d
    (n.hap.supplyOut = true → done (n.hapFault h 5)) ∧
    (n.hap.supplyOut = false → r < 2000 → done (n.hapFault h 1)) ∧
    (n.hap.supplyOut = false → 32000 < r → done (n.hapFault h 2)) ∧
    (good → (m.chan h).held = none → done (m.brakeDone h)) ∧
    (∀ e g since, good → (m.chan h).held = some (e, g, since) →
      let m := if (m.chan h).pend.isSome = true then m.dropTrig h else m
      done (((m.setChan h { m.chan h with held := none, pend := none }).hapStart h e g 0 true since).pendShow h))) ∧
  (∀ (s : State) (h : Fin 8), let x := s.dev.chan h
    let checks := (s.dev.setChan h { x with emf := 0, checkAt := s.dev.now }).setHap h 1
    let open_ := fun c => s.dev.hapState h = 6 ∧ s.dev.r (haPid h) F.HA_STAT_FAULT = c ∧ x.latched = false
    Completes (.actuatorOvercurrent h) s (s.dev.hapFault h 1) ∧
    Completes (.actuatorMissing h) s (if s.dev.hapState h = 3 ∨ s.dev.hapState h = 4 then s.dev.hapFault h 2 else s.dev) ∧
    Completes (.stallRecoveryTimeout h) s
      (if open_ 3 ∧ x.stalls.all (fun t => decide (t + 100000000 ≤ s.dev.now)) = true then checks else s.dev) ∧
    Completes (.bridgeOvertemp ⟨h, by omega⟩) s (s.dev.hapFault h 4) ∧
    Completes (.bridgeOvertemp ⟨8 + h, by omega⟩) s (s.dev.stageFault h 3) ∧
    Completes (.bridgeTempRecovered ⟨h, by omega⟩) s (if open_ 4 then checks else s.dev) ∧
    Completes (.bridgeTempRecovered ⟨8 + h, by omega⟩) s
      (if s.dev.stageState h = 3 ∧ s.dev.r (spPid h) F.SP_STAT_FAULT = 3 then s.dev.stageRecover h else s.dev)) ∧
  (∀ (d : Dev) (h c : Nat), d.hapState h = 0 ∨ d.hapState h = 6 → d.hapFault h c = d) ∧
  (∀ (s : State) (mv : Nat), let n := s.dev.showVhap mv
    let out := mv < 9500 ∨ 14500 < mv
    let m : Dev := { n with hap := { n.hap with supplyOut := true } }
    let k : Dev := { n with hap := { n.hap with supplyOut := false } }
    let k := (k.flt.faults.filter (fun f => f.cause == 3 && f.pid == supPid)).foldl (fun d f => d.closeFault f) k
    Completes (.vhapOutOfRange mv) s (if out ∧ n.hap.supplyOut = false then
      forAll (upFrom 0 8) (fun k d => (d.hapFault k 5).stageFault k 4) (m.openFault 3 3 supPid 0x500) else n) ∧
    Completes (.vhapRecovered mv) s (if ¬out ∧ n.hap.supplyOut = true then
      forAll (upFrom 0 8) (fun k d =>
        let d := d.hapRecover k 5
        if d.stageState k = 3 ∧ d.r (spPid k) F.SP_STAT_FAULT = 4 then d.stageRecover k else d) k else n)) ∧
  (∀ (s : State) (h : Fin 8) (ag : Agent) (page : BitVec 12) (v : Word), page ≠ 0x808 → let off := blockOff ag h 0x28
    let w := withBit v 0
    s.dev.accepts ag page.toNat off w = true → s.dev.place (agentPageNo ag page.toNat) off = (haPid h, 0x128) →
    let n := s.dev.after ag page.toNat off w
    let p := haPid h
    let code := n.hapOwner h
    let slot := bits w 8 5
    let l : HapLoad := { issuer := code, effect := slotEffect h slot, offset := n.r p F.HA_LD_GEOM_OFFSET
                         length := n.r p F.HA_LD_GEOM_LENGTH, bolt := false, noBrake := bit w 16, noOd := bit w 17
                         addr := n.r p F.HA_LD_LO_ADDR * 64 + n.r p F.HA_LD_HI_ADDR * 2 ^ 32
                         asp := n.r p F.HA_CTRL_ASPACE, gen := n.gen (code / 16 % 64) }
    let m := if slot < 24 then n.setEffect (64 + 24 * h + slot) none else n
    Completes (.effectLoadGo ag page h v) s ((m.setChan h { m.chan h with load := some l }).w p F.HA_LD_STAT_BUSY 1)) ∧
  (∀ (s : State) (h : Fin 8) (v : Word), let w := withBit v 0
    s.dev.accepts .ward hbPid 0x05C w = true →
    let n := s.dev.after .ward hbPid 0x05C w
    let l : HapLoad := { issuer := codeWard, effect := some (bits w 8 6), offset := n.r hbPid F.HB_LD_GEOM_OFFSET
                         length := n.r hbPid F.HB_LD_GEOM_LENGTH, bolt := bit w 16, noBrake := bit w 17, noOd := bit w 18
                         addr := n.r hbPid F.HB_LD_LO_ADDR * 64 + n.r hbPid F.HB_LD_HI_ADDR * 2 ^ 32, asp := 0, gen := 0 }
    let m := n.setEffect (bits w 8 6) none
    Completes (.effectLoadGo .ward 0x808 h v) s
      (({ m with hap := { m.hap with load := some l } } : Dev).w hbPid F.HB_LD_STAT_BUSY 1)) ∧
  (∀ (s : State) (h : Fin 9) (bad : Bool), (if h.val = 8 then s.dev.hap.load else (s.dev.chan h).load) = none →
    Completes (.effectLoadEnd h bad) s s.dev) ∧
  (∀ (s : State) (l : HapLoad) (bad : Bool) (n : Dev) (r : Nat), s.dev.hap.load = some l →
    ({ s.dev with hap := { s.dev.hap with load := none } } : Dev).loadFinish l bad = (n, r) →
    let n := (n.w hbPid F.HB_LD_STAT_BUSY 0).w hbPid F.HB_LD_STAT_RESULT r
    Completes (.effectLoadEnd 8 bad) s (if r = 0 then n else n.err hbPid 11)) ∧
  (∀ (s : State) (h : Fin 8) (l : HapLoad) (bad : Bool) (n : Dev) (r : Nat), (s.dev.chan h).load = some l →
    (s.dev.setChan h { s.dev.chan h with load := none }).loadFinish l bad = (n, r) →
    let n := (n.w (haPid h) F.HA_LD_STAT_BUSY 0).w (haPid h) F.HA_LD_STAT_RESULT r
    Completes (.effectLoadEnd h.castSucc bad) s (if r = 0 then n else n.hapErr h 11))

/-! ### Audio (R392 to R415) -/

/-- Ticks, blocks and gains of the audio engine (R392, R396, R398, R401): in S0 and S1 a tick plays every stream, runs the
programs, hands every sink the outputs of 16 ticks before, and owes a block boundary after every 16th; in deeper states it
does nothing. A boundary moves streams, swaps and sources on once; a free stream without a block waits, ends or underruns,
and a paced one plays silence in the place of what was not filled in time. A gain that has waited 480 ticks takes its
register's value.
Where it rests on a choice or a reading of the model, not on a rule: log entries 5, 6, 57 and 58. -/
def Obligations.AudioTicksAndGainsComplete : Prop :=
  (∀ (s : State) (t : Nat), s.dev.audioRuns = false → Completes (.audioSampleTick t) s s.dev) ∧
  (∀ (s : State) (t : Nat) (n : Dev) (outs : List Int), s.dev.audioRuns = true →
    (forAll (upFrom 0 96) (fun k d => d.streamTick (s.dev.aud.tick % 16) k) s.dev).programs = (n, outs) →
    let m : Dev := { n with aud := { n.aud with delayed := (outs :: n.aud.delayed).take 16 } }
    let m := forAll (upFrom 0 12) (fun k d => d.sinkTick (n.aud.delayed.getD 15 []) t k) m
    Completes (.audioSampleTick t) s
      { m with aud := { m.aud with tick := m.aud.tick + 1, blockDue := (m.aud.tick + 1) % 16 == 0 } }) ∧
  (∀ (s : State), (s.dev.aud.blockDue = false ∨ s.dev.audioRuns = false) → Completes .audioBlockBoundary s s.dev) ∧
  (∀ (s : State), s.dev.aud.blockDue = true → s.dev.audioRuns = true →
    let d : Dev := { s.dev with aud := { s.dev.aud with blockDue := false } }
    let d := forAll (upFrom 0 96) (fun k d =>
      if d.stState k = 0 then
        if (d.stream k).play.isEmpty && (d.stream k).hand.isNone then d else d.setStream k ((d.stream k).advance true)
      else match (d.stream k).pace with
        | some p => d.pacedBoundary k p
        | none => d.freeBoundary k) d
    let d := d.w aePid F.AE_STAT_PLAYING ((upFrom 0 96).filter (fun k => d.stState k == 2)).length
    Completes .audioBlockBoundary s (forAll sinkChannels (fun c d => d.sourceBoundary c) d.swapBoundary)) ∧
  (∀ (d : Dev) (k : Nat), d.on (d.stPage k) F.ST_CTRL_EN k = false →
    d.freeBoundary k = (d.setStream k ((d.stream k).advance true)).w (d.stPage k) F.ST_STAT_STATE 0 k) ∧
  (∀ (d : Dev) (k : Nat), d.on (d.stPage k) F.ST_CTRL_EN k = true → d.avail k < 16 →
    let g := d.setStream k ((d.stream k).advance true)
    (d.stState k ≠ 2 → d.freeBoundary k = g) ∧
    (d.stState k = 2 → (d.stream k).eos = true → d.freeBoundary k =
      (g.setStream k { g.stream k with eos := false }).w (d.stPage k) F.ST_STAT_STATE 1 k) ∧
    (d.stState k = 2 → (d.stream k).eos = false → d.freeBoundary k =
      ((g.w (d.stPage k) F.ST_STAT_STATE 3 k).addSat (d.stPage k) F.ST_STAT_UNDER 1 k).err (d.stPage k) 13)) ∧
  (∀ (d : Dev) (k : Nat), d.on (d.stPage k) F.ST_CTRL_EN k = true → 16 ≤ d.avail k →
    d.freeBoundary k = if d.stState k = 2 then d.takeBlock k false else (d.w (d.stPage k) F.ST_STAT_STATE 2 k).takeBlock k true) ∧
  (∀ (d : Dev) (k j : Nat), let x := d.stream k
    let n := min (if x.playFilled then d.rblk k else d.filledBlocks k j) (x.playCap.getD (d.rblk k))
    let upto := d.regionStart k j + 16 * min (x.block + 1) (d.rblk k)
    d.pacedBoundary k j =
      if d.on (d.stPage k) F.ST_CTRL_EN k = false then
        (d.setStream k { x.advance true with pace := none }).w (d.stPage k) F.ST_STAT_STATE 0 k
      else if x.block < n then (d.setStream k { x with block := x.block + 1 }).takeBlock k x.hand.isNone
      else (d.setStream k { x.advance true with block := x.block + 1 }).w (d.stPage k) F.ST_STAT_RIDX (upto % d.ringFrames k) k) ∧
  (∀ (g : GainSt) (reg n : Nat) (x : Int), g.wait = some n →
    (g.step reg 0).now = reg ∧ (0 < x → g.prev < 0 → (g.step reg x).now = reg) ∧
    (x < 0 → 0 < g.prev → (g.step reg x).now = reg) ∧
    (x ≠ 0 → 0 ≤ x * g.prev → g.step reg x = { g with wait := some (n + 1), prev := x })) ∧
  (∀ (s : State) (g : Fin 224),
    let late := fun (x : GainSt) => x.wait.any (fun n => decide (480 ≤ n))
    let done := fun (d : Dev) => Completes (.gainStepTimeout g) s d
    (g.val < 96 → let x := s.dev.stream g
      let y := { x.gain with now := s.dev.r (s.dev.stPage g) F.ST_GAIN_GAIN g, wait := none }
      done (if late x.gain = true then s.dev.setStream g { x with gain := y } else s.dev)) ∧
    (96 ≤ g.val → g.val < 128 → let j := g.val - 96
      let x := tabGet s.dev.aud.live {} j
      let y : GainSt := { x with now := s.dev.r aePid F.AE_LG_GAIN j, wait := none }
      let z : Aud := { s.dev.aud with live := tabPut s.dev.aud.live {} j y }
      done (if late x = true then { s.dev with aud := z } else s.dev)) ∧
    (128 ≤ g.val → let c := g.val - 128
      let x := s.dev.sinkCh c
      let y := { x.gain with now := s.dev.r (skPid (c / 8)) F.SK_SRC_GAIN (c % 8), wait := none }
      done (if late x.gain = true then s.dev.setSink c { x with gain := y } else s.dev)))

/-- Streams (R394 to R397): a pointer word outside the ring, or with its reserved bits set, only sets the error bit;
another moves the write index and EOS, and on a paced stream it tells whether the region playing and the region of the
period's work are filled, which ends that work. EN rising clears the read index and waits for data; EN falling stops the
stream at its next block.
Where it rests on a choice or a reading of the model, not on a rule: log entries 16, 57 and 77. -/
def Obligations.StreamsComplete : Prop :=
  (∀ (s : State) (v : Fin 64) (k : Fin 96) (x : Word), s.dev.accepts (.vi v) 2 (0x800 + 4 * k) x.toNat = true →
    Completes (.streamPointerWrite (.doorbell v) k x) s ((s.dev.after (.vi v) 2 (0x800 + 4 * k) x.toNat).pointer k x.toNat)) ∧
  (∀ (s : State) (ag : Agent) (page : BitVec 12) (k : Fin 96) (x : Word),
    let pid := agentPageNo ag page.toNat
    let n := s.dev.after ag page.toNat (0x200 + 4 * k) x.toNat
    (kindOf pid).any (fun k => k.1 == .streams) = true →
    s.dev.accepts ag page.toNat (0x200 + 4 * k) x.toNat = true →
    Completes (.streamPointerWrite (.register ag page) k x) s (n.pointer k x.toNat)) ∧
  (∀ (d : Dev) (k x : Nat), (bits x 16 15 ≠ 0 ∨ d.ringFrames k ≤ x % 65536) → d.pointer k x = d.err (d.stPage k) 14) ∧
  (∀ (d : Dev) (k x : Nat), bits x 16 15 = 0 → x % 65536 < d.ringFrames k →
    let n := d.setStream k { d.stream k with widx := x % 65536, eos := bit x 31 }
    let y := n.stream k
    (y.pace = none → d.pointer k x = n) ∧
    (∀ j, y.pace = some j →
      let full := 16 * n.rblk k
      let play := y.playFilled || decide (full ≤ n.regionDist k j)
      let m := fun b => n.setStream k { y with workFilled := b, playFilled := play }
      ((y.workFilled = true ∨ full ≤ n.regionDist k (j + 1)) → d.pointer k x = (m true).perFinishNamed 3 k) ∧
      (y.workFilled = false → n.regionDist k (j + 1) < full → d.pointer k x = m false))) ∧
  (∀ (s : State) (ag : Agent) (page : BitVec 12) (k : Fin 96) (v : Word),
    let pid := agentPageNo ag page.toNat
    let off := 0x800 + 16 * k.val
    (kindOf pid).any (fun k => k.1 == .streams || k.1 == .viHapticAudio) = true →
    s.dev.place pid off = (pid, off) →
    (s.dev.accepts ag page.toNat off (withBit v 0) = true →
      let n := s.dev.after ag page.toNat off (withBit v 0)
      (s.dev.rises pid (withBit v 0) F.ST_CTRL_EN k = true → n.stState k = 0 →
        Completes (.streamEnable ag page k v) s
          (((n.w (n.stPage k) F.ST_STAT_RIDX 0 k).w (n.stPage k) F.ST_STAT_STATE 1 k).w (n.stPage k) F.ST_STAT_ERR 0 k)) ∧
      (s.dev.rises pid (withBit v 0) F.ST_CTRL_EN k = false ∨ n.stState k ≠ 0 → Completes (.streamEnable ag page k v) s n)) ∧
    (s.dev.accepts ag page.toNat off (withoutBit v 0) = true →
      Completes (.streamDisable ag page k v) s (s.dev.after ag page.toNat off (withoutBit v 0))))

/-- The Tumbler program, sinks and tones (R401 to R408): a program load takes the idle bank, whose VALID falls, and its
end says what its image is worth; SWAP waits for a block boundary and fades over 128 ticks. A new source waits for a
block, ramps out over 64 ticks, switches and ramps in; one written meanwhile takes the place of the target or waits. A
tone load takes its tone out of the store; a trigger of a resident tone plays on a stage that runs, is lost elsewhere, and
is suppressed during a ward restart.
Where it rests on a choice or a reading of the model, not on a rule: log entries 5, 16, 57, 58 and 59. -/
def Obligations.ProgramsSinksAndTonesComplete : Prop :=
  (∀ (s : State) (ag : Agent) (v : Word), s.dev.accepts ag 0x600 0x04C (withBit v 0) = true →
    let n := s.dev.after ag 0x600 0x04C (withBit v 0)
    let l := (n.idleBank, n.r aePid F.TP_LD_LO_ADDR * 64 + n.r aePid F.TP_LD_HI_ADDR * 2 ^ 32, bits (withBit v 0) 16 15)
    Completes (.tumblerLoadGo ag v) s ((({ n with aud := { n.aud with load := some l } } : Dev).setValid n.idleBank false).w aePid
      F.TP_LD_STAT_BUSY 1)) ∧
  (∀ (s : State) (bad : Bool), s.dev.aud.load = none → Completes (.tumblerLoadEnd bad) s s.dev) ∧
  (∀ (s : State) (b a n : Nat) (bad : Bool), s.dev.aud.load = some (b, a, n) →
    let d : Dev := { s.dev with aud := { s.dev.aud with load := none } }
    let c := (d.ownerRegion codeOpen).1
    let done := fun (d : Dev) (r : Nat) => (d.w aePid F.TP_LD_STAT_BUSY 0).w aePid F.TP_LD_STAT_RESULT r
    (25920 < n → Completes (.tumblerLoadEnd bad) s ((done d 1).err aePid 10)) ∧
    (n ≤ 25920 → ((d.ownerRegion codeOpen).2 < a + n ∨ bad = true) →
      Completes (.tumblerLoadEnd bad) s ((done d 4).err aePid 10)) ∧
    (∀ (m : Dev) (bs : List Nat), n ≤ 25920 → a + n ≤ (d.ownerRegion codeOpen).2 → bad = false →
      d.mcRead 0 (c + a) n = (m, bs, true) →
      (imgResult bs n = 0 → Completes (.tumblerLoadEnd bad) s (done ((m.setBank b (imgBank bs)).setValid b true) 0)) ∧
      (imgResult bs n ≠ 0 → Completes (.tumblerLoadEnd bad) s ((done m (imgResult bs n)).err aePid 10))) ∧
    (∀ (m : Dev) (bs : List Nat), n ≤ 25920 → a + n ≤ (d.ownerRegion codeOpen).2 → bad = false →
      d.mcRead 0 (c + a) n = (m, bs, false) → Completes (.tumblerLoadEnd bad) s ((done m 4).err aePid 10))) ∧
  (∀ (s : State) (ag : Agent) (v : Word), s.dev.accepts ag 0x600 0x040 (withBit v 0) = true →
    let n := s.dev.after ag 0x600 0x040 (withBit v 0)
    Completes (.swap ag v) s { n with aud := { n.aud with swap := true } }) ∧
  (∀ (s : State), s.dev.fading = true → 128 ≤ s.dev.aud.fade →
    Completes .crossfadeEnd s ((({ s.dev with aud := { s.dev.aud with fade := 0 } } : Dev).w aePid F.TP_BANK_ACTIVE
      (1 - s.dev.r aePid F.TP_BANK_ACTIVE)).w aePid F.TP_BANK_XFADE 0)) ∧
  (∀ (s : State), (s.dev.fading = false ∨ s.dev.aud.fade < 128) → Completes .crossfadeEnd s s.dev) ∧
  (∀ (s : State) (ag : Agent) (k : Fin 12) (c : Fin 8) (v : Word), s.dev.accepts ag (0x620 + k) (0x100 + 16 * c) v.toNat = true →
    let n := s.dev.after ag (0x620 + k) (0x100 + 16 * c) v.toNat
    let m := n.sourceWrite (8 * k + c) (bits v.toNat 0 8)
    let src := s.dev.r (skPid k) F.SK_SRC_SRC c = bits v.toNat 0 8
    let gain := s.dev.r (skPid k) F.SK_SRC_GAIN c = bits v.toNat 16 16
    (src → gain → Completes (.sinkSourceWrite ag k c v) s n) ∧
    (¬ src → gain → Completes (.sinkSourceWrite ag k c v) s m) ∧
    (src → ¬ gain → Completes (.sinkSourceWrite ag k c v) s (n.sinkGain (8 * k + c))) ∧
    (¬ src → ¬ gain → Completes (.sinkSourceWrite ag k c v) s (m.sinkGain (8 * k + c)))) ∧
  (∀ (d : Dev) (c src : Nat), let x := d.sinkCh c
    (x.ramp = 0 → d.sourceWrite c src = d.setSink c { x with due := some src }) ∧
    (x.ramp = 1 → d.sourceWrite c src = d.setSink c { x with target := src }) ∧
    (x.ramp = 2 → d.sourceWrite c src = d.setSink c { x with held := some src })) ∧
  (∀ (s : State) (k : Fin 12) (c : Fin 8), let i := 8 * k.val + c.val
    let x := s.dev.sinkCh i
    (x.ramp = 1 → 64 ≤ x.n → Completes (.routeRampSwitch k c) s (s.dev.setSink i { x with src := x.target, ramp := 2, n := 0 })) ∧
    ((x.ramp ≠ 1 ∨ x.n < 64) → Completes (.routeRampSwitch k c) s s.dev) ∧
    (x.ramp = 2 → 64 ≤ x.n → x.held = none → Completes (.routeRampEnd k c) s (s.dev.setSink i { x with ramp := 0, n := 0 })) ∧
    (∀ t, x.ramp = 2 → 64 ≤ x.n → x.held = some t →
      Completes (.routeRampEnd k c) s (s.dev.setSink i { x with ramp := 1, n := 0, target := t, held := none })) ∧
    ((x.ramp ≠ 2 ∨ x.n < 64) → Completes (.routeRampEnd k c) s s.dev)) ∧
  (∀ (s : State) (w : Word), s.dev.accepts .ward 0x630 0x040 w.toNat = true →
    Completes (.toneTrigger (.ward w)) s
      ((s.dev.after .ward 0x630 0x040 w.toNat).toneTrig (bits w.toNat 0 3) (bits w.toNat 8 6) none)) ∧
  (∀ (s : State) (t : Fin 8), let x := s.dev.touch t
    let first := x.trigs.find? (fun x => match x.1 with | .tone .. => true | _ => false)
    (first = none → Completes (.toneTrigger (.touch t)) s s.dev) ∧
    (∀ n k since, first = some (.tone n k, since) → Completes (.toneTrigger (.touch t)) s
      ((s.dev.setTouch t { x with trigs := x.trigs.erase (.tone n k, since) }).toneTrig k n (some t.val)))) ∧
  (∀ (d : Dev) (k t : Nat) (touch : Option Nat), let lost := (d.addSat tnPid F.TN_LOST_FAULTED).err tnPid 10
    (d.wardRestarting = true → d.toneTrig k t touch = d) ∧
    (d.wardRestarting = false → (d.tone t = none ∨ d.r (spPid k) F.SP_STAT_STATE ≠ 2 ∨ d.sinkEn k = false) →
      d.toneTrig k t touch = lost) ∧
    (∀ x, d.wardRestarting = false → d.tone t = some x → d.r (spPid k) F.SP_STAT_STATE = 2 → d.sinkEn k = true →
      let y := d.setSpk k { d.speaker k with tone := some (x, 0), toneId := t, duck := d.duckReg k, since := some (d.now, touch) }
      d.toneTrig k t touch = (y.add tnPid F.TN_COUNT_STARTS).w (spPid k) F.SP_STAT_TONE 1)) ∧
  (∀ (s : State) (ag : Agent) (v : Word), s.dev.accepts ag 0x630 0x05C (withBit v 0) = true →
    let n := s.dev.after ag 0x630 0x05C (withBit v 0)
    let t := bits (withBit v 0) 8 6
    let l := (t, bits (withBit v 0) 16 8, 16 * bits (withBit v 0) 24 8, n.r tnPid F.TN_LD_GEOM_OFFSET,
      n.r tnPid F.TN_LD_LO_ADDR * 64 + n.r tnPid F.TN_LD_HI_ADDR * 2 ^ 32)
    Completes (.toneLoadGo ag v) s
      ((({ n with aud := { n.aud with toneLoad := some l } } : Dev).setTone t none).w tnPid F.TN_LD_STAT_BUSY 1)) ∧
  (∀ (s : State) (bad : Bool), s.dev.aud.toneLoad = none → Completes (.toneLoadEnd bad) s s.dev) ∧
  (∀ (s : State) (t level len off a : Nat) (bad : Bool), s.dev.aud.toneLoad = some (t, level, len, off, a) →
    let d : Dev := { s.dev with aud := { s.dev.aud with toneLoad := none } }
    let done := fun (d : Dev) (r : Nat) => (d.w tnPid F.TN_LD_STAT_BUSY 0).w tnPid F.TN_LD_STAT_RESULT r
    let room := 1 ≤ len ∧ len ≤ 2400 ∧ off + len ≤ 153056
    let hits := ∃ u x, u < 64 ∧ u ≠ t ∧ d.tone u = some x ∧ overlap off len x.offset x.length = true
    (¬ room → Completes (.toneLoadEnd bad) s ((done d 1).err tnPid 11)) ∧
    (room → hits → Completes (.toneLoadEnd bad) s ((done d 2).err tnPid 11)) ∧
    (∀ (m : Dev) (bs : List Nat) (ok : Bool), room → ¬ hits → d.loadBytes codeWard 0 0 a (2 * len) = (m, bs, ok) →
      ((ok = false ∨ bad = true) → Completes (.toneLoadEnd bad) s ((done m 4).err tnPid 11)) ∧
      (ok = true → bad = false → Completes (.toneLoadEnd bad) s
        (done ((m.poolSamples off bs).setTone t (some { offset := off, length := len, level := level })) 0))))

/-- Speaker stages (R410, R411): EN rising in OFF ramps a stage up where the engine runs and its sink is enabled, and the
ramp ends in RUN 10 ms later; EN falling turns it off with a fall of 48 ticks; a fault of a stage in RAMP or RUN turns the
bridge off at once, is counted, and opens a unit fault; CLEAR of a latched one ramps up again, or leaves the stage off. A
stage that starts while VHAP is out of range meets the SUPPLY fault.
Where it rests on a choice or a reading of the model, not on a rule: log entries 5, 16, 59 and 112. -/
def Obligations.SpeakersComplete : Prop :=
  (∀ (s : State) (ag : Agent) (k : Fin 8) (v : Word) (c : Instr) (w : Nat),
    ((c = .speakerEnable ag k v ∧ w = withBit v 0) ∨ (c = .speakerDisable ag k v ∧ w = withoutBit v 0) ∨
      (c = .speakerFaultClear ag k v ∧ w = withBit v 1)) →
    s.dev.accepts ag (0x880 + k) 0x040 w = true →
    let p := spPid k
    let n := s.dev.after ag (0x880 + k) 0x040 w
    let off := (n.setSpk k { n.speaker k with tone := none, fall := if n.stageState k = 3 then 0 else 48, since := none }).w p
      F.SP_STAT_TONE 0
    let up := s.dev.rises p w F.SP_CTRL_EN = true
    let down := s.dev.rises p w F.SP_CTRL_EN = false ∧ s.dev.falls p w F.SP_CTRL_EN = true
    let m := if up ∧ n.stageState k = 0 ∧ n.audioRuns = true ∧ n.sinkEn k = true then n.stageStart k
      else if down ∧ n.stageState k ≠ 0 then off.w p F.SP_STAT_STATE 0 else n
    Completes c s (if bit w 1 = true ∧ m.stageState k = 3 ∧ (m.speaker k).latched = true then m.stageRecover k else m)) ∧
  (∀ (s : State) (k : Fin 8), Completes (.speakerRampEnd k) s
    (if s.dev.stageState k = 1 ∧ (s.dev.speaker k).rampAt + 10000000 ≤ s.dev.now then s.dev.w (spPid k) F.SP_STAT_STATE 2
     else s.dev)) ∧
  (∀ (s : State) (k : Fin 8), s.dev.stageState k ≠ 1 → s.dev.stageState k ≠ 2 →
    Completes (.speakerOvercurrent k) s s.dev ∧ Completes (.speakerDcFault k) s s.dev) ∧
  (∀ (s : State) (k : Fin 8), (s.dev.stageState k = 1 ∨ s.dev.stageState k = 2) →
    let p := spPid k
    let d := ((s.dev.setSpk k { s.dev.speaker k with tone := none, fall := 0, since := none }).w p F.SP_STAT_TONE 0).w p
      F.SP_STAT_STATE 3
    let d := (d.setSpk k { d.speaker k with latched := true }).emit (.drive (16 + k) 0)
    Completes (.speakerOvercurrent k) s
      ((((d.w p F.SP_STAT_FAULT 1).err p 10).addSat p F.SP_FAULTS_SHORT).openFault 4 1 p (k + 256) true) ∧
    Completes (.speakerDcFault k) s
      ((((d.w p F.SP_STAT_FAULT 2).err p 10).addSat p F.SP_FAULTS_DC).openFault 4 1 p (k + 512) true)) ∧
  (∀ (d : Dev) (k : Nat), let p := spPid k
    let n := ((d.setSpk k { d.speaker k with latched := false }).w p F.SP_STAT_FAULT 0).closeCause 4 p
    let ramp := (d.setSpk k { d.speaker k with up := 0, fall := 0, latched := false, rampAt := d.now }).w p F.SP_STAT_STATE 1
    d.stageStart k = (if d.hap.supplyOut = true then ramp.stageFault k 4 else ramp) ∧
    d.stageRecover k = if n.on p F.SP_CTRL_EN = true ∧ n.audioRuns = true ∧ n.sinkEn k = true then n.stageStart k
      else n.w p F.SP_STAT_STATE 0)

/-! ### Interrupts and check values (R419 to R436) -/

/-- Levels, decisions, claims and completions (R419, R424 to R430): the controller takes a source's level; a decision
assigns every source in order and then signals every target; a claim by the page's own agent returns the highest of the
sources that signal its target and puts it in service; a completion ends the service of each bit's source and samples its
level; an unmask sends a message that still stands; a pending source that has had no enabled target for 1 ms is reported
once.
Where it rests on a choice or a reading of the model, not on a rule: log entries 5, 6, 16 and 60. -/
def Obligations.InterruptsComplete : Prop :=
  (∀ (s : State) (q : Fin 512),
    Completes (.interruptLevelChange q) s (s.dev.setSrc q { s.dev.src q with level := s.dev.srcLevel q })) ∧
  (∀ (s : State), Completes .interruptDecision s
    (forAll (upFrom 0 72) (fun t d => d.signal t) (s.dev.sources.foldl (fun d q => d.assign q) s.dev))) ∧
  (∀ (d : Dev) (q : Nat), let en := d.srcEnabled q
    let x := { d.src q with alone := if d.srcPending q = true ∧ en = [] then ((d.src q).alone <|> some d.now) else none }
    let moves := d.setSrc q (match nextTarget x.last en with
      | some u => { x with asg := some u, last := u, orphan := false }
      | none => { x with asg := none })
    (d.srcPending q = true → (∀ t, x.asg = some t → d.assign q = if en.contains t then d.setSrc q x else moves) ∧
      (x.asg = none → d.assign q = moves)) ∧
    (d.srcPending q = false → d.assign q = d.setSrc q (if x.svc.isSome then x else { x with asg := none, orphan := false }))) ∧
  (∀ (last : Nat) (en : List Nat) (u : Nat), last < 127 → en.Pairwise (· < ·) → nextTarget last en = some u →
    u ∈ en ∧ (last < u → ∀ x ∈ en, last < x → u ≤ x) ∧ (u ≤ last → (∀ x ∈ en, x ≤ last) ∧ ∀ x ∈ en, u ≤ x)) ∧
  (∀ (d : Dev) (t : Nat), t < 72 →
    let rise : Dev := { d with irq := { d.irq with lines := d.irq.lines ++ [t] } }
    let fall : Dev := { d with irq := { d.irq with lines := d.irq.lines.filter (fun u => !(u == t)) } }
    (d.irq.lines.contains t = d.signalled t → d.signal t = d) ∧
    (d.irq.lines.contains t = false → d.signalled t = true →
      (t ≤ 3 → d.signal t = (rise.emit (.line t)).add (tgtPage t) F.IR_TSTAT_SIGNALS) ∧
      (3 < t → d.on (tgtPage t) F.MX_CTRL_MASK = true → d.signal t = rise.w (tgtPage t) F.MX_PBA_PEND 1) ∧
      (3 < t → d.on (tgtPage t) F.MX_CTRL_MASK = false → d.signal t =
        (rise.emit (.msix t (d.msixAddr t) (d.msixData t))).add (tgtPage t) F.IR_TSTAT_SIGNALS)) ∧
    (d.irq.lines.contains t = true → d.signalled t = false →
      (t ≤ 3 → d.signal t = fall) ∧ (3 < t → d.signal t = fall.w (tgtPage t) F.MX_PBA_PEND 0))) ∧
  (∀ (s : State) (ag : Agent) (page : BitVec 12) (t : Nat), let pid := agentPageNo ag page.toNat
    s.dev.implemented pid = true → s.dev.visible ag pid = true → s.dev.isolated pid = false →
    s.dev.readWaits ag pid 0x060 s.dev.held = none → tabFind s.dev.latch (latchKey pid 0x060) = none → pageTarget pid = some t →
    let n := if owns (s.dev.owner pid) (s.dev.agentCode ag) = true then s.dev.claim t else s.dev
    Completes (.interruptClaim ag page) s (n.emit (.read (n.word pid 0x060)))) ∧
  (∀ (d : Dev) (t : Nat),
    (d.claimable t = none →
      d.claim t = ((d.w (tgtPage t) F.IR_CLAIM_VALID 0).w (tgtPage t) F.IR_CLAIM_SOURCE 0).w (tgtPage t) F.IR_CLAIM_PRIO 0) ∧
    (∀ q, d.claimable t = some q →
      let n := ((d.w (tgtPage t) F.IR_CLAIM_VALID 1).w (tgtPage t) F.IR_CLAIM_SOURCE q).w (tgtPage t) F.IR_CLAIM_PRIO (d.srcPrio q)
      let n := n.w (tgtPage t) F.IR_INSVC_PRIO (n.r (tgtPage t) F.IR_INSVC_PRIO ||| 2 ^ d.srcPrio q)
      d.claim t = n.setSrc q { d.src q with svc := some (t, d.srcPrio q), orphan := false })) ∧
  (∀ (d : Dev) (t q : Nat), d.claimable t = some q →
    q ∈ d.sources ∧ (d.src q).asg = some t ∧ d.srcPending q = true ∧ d.runPrio t < d.srcPrio q ∧
    ∀ x ∈ d.sources, (d.src x).asg = some t → d.srcPending x = true → d.runPrio t < d.srcPrio x →
      d.srcPrio x < d.srcPrio q ∨ (d.srcPrio x = d.srcPrio q ∧ q ≤ x)) ∧
  (∀ (s : State) (ag : Agent) (page : BitVec 12) (b : BitVec 16) (t : Nat), let pid := agentPageNo ag page.toNat
    pageTarget pid = some t → s.dev.accepts ag page.toNat 0x064 b.toNat = true →
    Completes (.interruptComplete ag page b) s
      (forAll (upFrom 0 16) (fun k d => if b.toNat.testBit k then d.completeAt t k else d) (s.dev.after ag page.toNat 0x064 b.toNat))) ∧
  (∀ (d : Dev) (t k : Nat),
    (d.sources.find? (fun q => (d.src q).svc == some (t, k)) = none → d.completeAt t k = d) ∧
    (∀ q, d.sources.find? (fun q => (d.src q).svc == some (t, k)) = some q →
      let n := d.w (tgtPage t) F.IR_INSVC_PRIO (d.r (tgtPage t) F.IR_INSVC_PRIO &&& (65535 - 2 ^ k))
      d.completeAt t k = n.setSrc q { d.src q with svc := none, asg := none, level := n.srcLevel q })) ∧
  (∀ (s : State) (ag : Agent) (a : BitVec 24) (v : Word) (t : Nat), let pid := agentPage ag a.toNat
    a.toNat % 4096 = 0x80C → pageTarget pid = some t → s.dev.takes ag pid 0x80C (withoutBit v 0) = true →
    let n := s.dev.written ag pid 0x80C (withoutBit v 0)
    (s.dev.falls pid (withoutBit v 0) F.MX_CTRL_MASK = false → Completes (.msixUnmask ag a v) s n) ∧
    (s.dev.falls pid (withoutBit v 0) F.MX_CTRL_MASK = true → n.on (tgtPage t) F.MX_PBA_PEND = false →
      Completes (.msixUnmask ag a v) s n) ∧
    (s.dev.falls pid (withoutBit v 0) F.MX_CTRL_MASK = true → n.on (tgtPage t) F.MX_PBA_PEND = true →
      let m := n.w (tgtPage t) F.MX_PBA_PEND 0
      (m.signalled t = true → Completes (.msixUnmask ag a v) s
        ((m.emit (.msix t (m.msixAddr t) (m.msixData t))).add (tgtPage t) F.IR_TSTAT_SIGNALS)) ∧
      (m.signalled t = false → Completes (.msixUnmask ag a v) s m))) ∧
  (∀ (s : State) (q : Fin 512), let x := s.dev.src q
    let due := s.dev.srcPending q = true ∧ s.dev.srcEnabled q = [] ∧ x.orphan = false ∧
      x.alone.any (fun t => decide (t + 1000000 ≤ s.dev.now)) = true
    let n := s.dev.setSrc q { x with orphan := true, asg := none }
    Completes (.orphan q) s (if due then
      ((n.w 0x335 F.IR_ORPHAN_SOURCE q).w 0x335 F.IR_ORPHAN_PENDING 1).addSat 0x335 F.IR_ORPHAN_COUNT else s.dev))

/-- Check values (R433 to R436): GO in the mode that the command names starts a run. A run whose settings do not fit reads
nothing and ends RANGE; a stream ends with the register and the value after its bytes, from INIT or from the run before;
messages are checked in order, and the alive counter of a message whose CRC is right is classified; a read error ends the
run.
Where it rests on a choice or a reading of the model, not on a rule: log entries 4, 5, 16, 28 and 62. -/
def Obligations.CheckValuesComplete : Prop :=
  (∀ (s : State) (ag : Agent) (e : Fin 8), s.dev.accepts ag (0x020 + e) 0x05C 1 = true →
    let n := s.dev.after ag (0x020 + e) 0x05C 1
    let go := (n.w (cvPid e) F.CV_STAT_BUSY 1).w (cvPid e) F.CV_STAT_DONEMSG 0
    (s.dev.r (cvPid e) F.CV_CFG_MODE = 0 → Completes (.checkValueStream ag e) s go) ∧
    (s.dev.r (cvPid e) F.CV_CFG_MODE = 1 → Completes (.checkValueMessages ag e) s go)) ∧
  (∀ (s : State) (ag : Agent) (e : Fin 8),
    (s.dev.r (cvPid e) F.CV_CFG_MODE ≠ 0 → Completes (.checkValueStream ag e) s s.dev) ∧
    (s.dev.r (cvPid e) F.CV_CFG_MODE ≠ 1 → Completes (.checkValueMessages ag e) s s.dev)) ∧
  (∀ (s : State) (e : Fin 8) (bad : Option Nat), s.dev.on (cvPid e) F.CV_STAT_BUSY = false →
    Completes (.checkValueRunEnd e bad) s s.dev) ∧
  (∀ (s : State) (e : Fin 8) (bad : Option Nat), s.dev.on (cvPid e) F.CV_STAT_BUSY = true →
    let p := cvPid e
    let ends := fun (d : Dev) (res : Nat) => ((d.w p F.CV_STAT_BUSY 0).w p F.CV_STAT_RESULT res).err p 13
    let src := s.dev.r64 p F.CV_SRC_LO_ADDR F.CV_SRC_HI_ADDR
    (s.dev.cvRangeOk e = false → Completes (.checkValueRunEnd e bad) s (ends s.dev 1)) ∧
    (∀ (n : Dev) (bs : List Nat) (ok : Bool), s.dev.cvRangeOk e = true → s.dev.r p F.CV_CFG_MODE = 0 →
      s.dev.cvRead (s.dev.r p F.CV_CFG_SPACE) src (s.dev.r p F.CV_LEN_BYTES) = (n, bs, ok) →
      ((ok = false ∨ bad ≠ none) → Completes (.checkValueRunEnd e bad) s (ends n 2)) ∧
      (ok = true → bad = none →
        let poly := n.r p F.CV_CFG_POLY
        let run := cvRun poly (if n.on p F.CV_CFG_CONT then n.r p F.CV_RUN_VALUE else n.r p F.CV_INIT_VALUE) bs
        Completes (.checkValueRunEnd e bad) s
          (ends ((n.w p F.CV_RUN_VALUE run).w p F.CV_RESULT_VALUE (cvFinal poly run)) 0))) ∧
    (∀ (n : Dev) (ok : Bool), s.dev.cvRangeOk e = true → s.dev.r p F.CV_CFG_MODE ≠ 0 →
      s.dev.cvMessages e bad 0 (s.dev.r p F.CV_MSG_COUNT) = (n, ok) →
      Completes (.checkValueRunEnd e bad) s (ends n (if ok then 0 else 2)))) ∧
  (∀ (d : Dev) (e k : Nat) (m : List Nat), let p := cvPid e
    let poly := d.r p F.CV_CFG_POLY
    let off := d.r p F.CV_MSG_CRCOFF
    let run := cvRun poly (d.r p F.CV_INIT_VALUE) (m.take off)
    let n := ((d.w p F.CV_RUN_VALUE run).w p F.CV_RESULT_VALUE (cvFinal poly run)).w p F.CV_STAT_DONEMSG (k + 1)
    let aw := cvAlive (n.r p F.CV_CFG_AWIDTH)
    let same := ofBytesLE ((m.drop off).take (cvWidth poly / 8)) = cvFinal poly run
    (¬ same → d.cvMessage e k m = (n.addSat p F.CV_COUNT_CRCERR).err p 10) ∧
    (same → aw = 0 → d.cvMessage e k m = n) ∧
    (same → aw ≠ 0 → d.cvMessage e k m =
      n.cvClassify e (ofBytesLE ((m.drop (n.r p F.CV_AOFF_AOFF)).take aw)) aw)) ∧
  (∀ (d : Dev) (e c aw : Nat), let p := cvPid e
    let last := d.r p F.CV_ALAST_LAST
    (d.r p F.CV_CFG_AVALID = 0 → d.cvClassify e c aw = (d.w p F.CV_ALAST_LAST c).w p F.CV_CFG_AVALID 1) ∧
    (d.r p F.CV_CFG_AVALID ≠ 0 → c = (last + 1) % 2 ^ (8 * aw) →
      d.cvClassify e c aw = (d.w p F.CV_ALAST_LAST c).addSat p F.CV_COUNT_OK) ∧
    (d.r p F.CV_CFG_AVALID ≠ 0 → c ≠ (last + 1) % 2 ^ (8 * aw) → c = last →
      d.cvClassify e c aw = (d.addSat p F.CV_ALCNT_REPEAT).err p 11) ∧
    (d.r p F.CV_CFG_AVALID ≠ 0 → c ≠ (last + 1) % 2 ^ (8 * aw) → c ≠ last →
      d.cvClassify e c aw = ((d.w p F.CV_ALAST_LAST c).addSat p F.CV_ALCNT_JUMP).err p 12)) ∧
  (∀ (poly init : Nat) (a b : List Nat), cvRun poly init (a ++ b) = cvRun poly (cvRun poly init a) b)

/-! ### Power (R442 to R459, R504, R505) -/

/-- Changes and rails (R446 to R450, R453, R454): a change starts when none runs and the device is awake, a ward request
before a pending set and a pending set before the change that the cap asks for; a set for S1 with Bolt work armed ends
REFUSED, a ward sleep with an active port ends 4. A bus transaction that ends goes on to the next; a NAK is repeated up to
twice, and a third, or its time out, fails it; an acknowledgement, ignored for 50 us, puts the rail's level in force, and
its timeout leaves the rail UNSURE and ends the change. A ward request takes the wake enables. An entry that has waited
100 ms for the ledger is undone and ends 5.
Where it rests on a choice or a reading of the model, not on a rule: log entries 5, 6, 16, 28, 63, 64 and 65. -/
def Obligations.PowerChangesComplete : Prop :=
  (∀ s : State, (s.dev.pm.run.isSome = true ∨ s.dev.boot.down = true ∨ 2 ≤ s.dev.pmState) →
    Completes .powerChangeStart s s.dev) ∧
  (∀ s : State, s.dev.pm.run = none → s.dev.boot.down = false → s.dev.pmState < 2 →
    (∀ t : Nat, s.dev.pm.wardPend = some t → let p : Pm := { s.dev.pm with wardPend := none, thermPend := false }
      let n : Dev := { s.dev with pm := p }
      Completes .powerChangeStart s (n.changeStart n.setLevels t true)) ∧
    (s.dev.pm.wardPend = none → (s.dev.ctl pmPid).pend.isSome = true →
      let p : Pm := { s.dev.pm with thermPend := false }
      let n := ({ s.dev with pm := p } : Dev).applyPend pmPid (fun _ => true)
      Completes .powerChangeStart s (n.changeStart n.setLevels (n.a pmPid F.PM_SLEEP_TARGET) false)) ∧
    (s.dev.pm.wardPend = none → (s.dev.ctl pmPid).pend = none → s.dev.pm.thermPend = true →
      let p : Pm := { s.dev.pm with thermPend := false }
      let n : Dev := { s.dev with pm := p }
      Completes .powerChangeStart s (n.changeStart n.setLevels n.pmState false)) ∧
    (s.dev.pm.wardPend = none → (s.dev.ctl pmPid).pend = none → s.dev.pm.thermPend = false →
      Completes .powerChangeStart s s.dev)) ∧
  (∀ (d : Dev) (ls : List Nat) (t : Nat) (ward : Bool),
    (t = 1 → ward = false → d.boltArmed = true → d.changeStart ls t ward = d.pmEnd 3 0) ∧
    (2 ≤ t → ward = true → d.portsActive = true → d.changeStart ls t ward = d.pmEnd 4 0) ∧
    ((t ≠ 1 ∨ ward = true ∨ d.boltArmed = false) → (t < 2 ∨ ward = false ∨ d.portsActive = false) →
      let c : Change := { levels := d.capped ls, old := d.levelsNow, target := t, ward := ward, rails := d.railsUp (d.capped ls) }
      let p : Pm := { d.pm with run := some c }
      d.changeStart ls t ward = ({ d with pm := p } : Dev).w pmPid F.PM_STAT_PHASE 1)) ∧
  (∀ (s : State) (b : BusOutcome), s.dev.pm.bus = [] →
    Completes (.pmbusTransactionEnd b) s s.dev ∧ Completes .pmbusTimeout s s.dev) ∧
  (∀ (s : State) (o : BusOp) (rest : List BusOp) (x : BitVec 16), s.dev.pm.bus = o :: rest →
    let n := s.dev.busNext
    let awaits := fun (lv mv : Nat) =>
      let p : Pm := { n.pm with
        ack := some (o.rail, lv, mv), ackAt := (n.now, 50000 + 100000 * max 1 (n.r rlPid F.RG_TMO_ACK)) }
      ({ n with pm := p } : Dev).w rlPid F.RG_STAT_ACK 0 o.rail
    let p : Pm := { n.pm with mode := tabPut n.pm.mode none o.rail (some (sx 5 x.toNat)) }
    let m : Dev := { n with pm := p }
    let linear := x.toNat / 32 % 8 = 0
    let lv := n.r pmPid (railField o.rail)
    Completes (.pmbusTransactionEnd (.ok x)) s
      (if o.code = 0x20 ∧ linear then (if o.forChange then m.railWrite o.rail (m.wantLevel o.rail) else m)
       else if o.code = 0x20 then (if o.forChange then n.railFail o.rail else n)
       else if o.code = 0x21 then awaits (n.wantLevel o.rail) (railMv o.rail (n.wantLevel o.rail))
       else if o.code = 0x01 then awaits lv (if o.value = 0 then 0 else railMv o.rail lv)
       else if o.code = 0x79 then n.w rlPid F.RG_SW_STATUS x.toNat o.rail
       else n)) ∧
  (∀ (s : State) (o : BusOp) (rest : List BusOp), s.dev.pm.bus = o :: rest →
    let p : Pm := { s.dev.pm with bus := { o with tries := o.tries + 1 } :: rest }
    let n := (s.dev.addSat rlPid F.RG_ERR_BUS 1 o.rail).busNext (fun x => !(o.forChange && x.forChange))
    let m := if o.code = 3 then n else n.busOp o.rail 3 0 false
    let fails := if o.forChange then m.railFail o.rail else m
    Completes (.pmbusTransactionEnd .nak) s (if o.tries < 2 then
      ({ s.dev with pm := p } : Dev).emit (.pmbus o.rail (s.dev.r rlPid F.RG_CFG_ADDR o.rail) o.code o.value) else fails) ∧
    Completes .pmbusTimeout s (if s.dev.pm.busAt.1 + s.dev.pm.busAt.2 ≤ s.dev.now then fails else s.dev)) ∧
  (∀ (s : State) (r : Fin 3), let p : Pm := { s.dev.pm with ack := none }
    let n := (({ s.dev with pm := p } : Dev).w rlPid F.RG_STAT_ACK 1 r)
    (s.dev.pm.ack = none → Completes (.regulatorAck r) s s.dev) ∧
    (∀ q lv mv : Nat, s.dev.pm.ack = some (q, lv, mv) → Completes (.regulatorAck r) s
      (if q = r.val ∧ s.dev.pm.ackAt.1 + 50000 ≤ s.dev.now then
        (((n.w rlPid F.RG_STAT_MV mv r).w rlPid F.RG_STAT_UNSURE 0 r).w rlPid F.RG_STAT_FAILS 0 r).w pmPid (railField r) lv
       else s.dev))) ∧
  (∀ s : State, s.dev.pm.ack = none → Completes .regulatorAckTimeout s s.dev) ∧
  (∀ (s : State) (r lv mv : Nat), s.dev.pm.ack = some (r, lv, mv) → Completes .regulatorAckTimeout s
    (if s.dev.pm.ackAt.1 + s.dev.pm.ackAt.2 ≤ s.dev.now then
      ((s.dev.addSat rlPid F.RG_ERR_ACK 1 r).busOp r 0x79 0 false).railFail r else s.dev)) ∧
  (∀ (d : Dev) (r : Nat), (d.railFail r).pm.run = none ∧ (d.railFail r).r pmPid F.PM_STAT_RESULT = 1 ∧
    (d.railFail r).r pmPid F.PM_STAT_PHASE = 0 ∧ (r < 3 → (d.railFail r).on rlPid F.RG_STAT_UNSURE r = true)) ∧
  (∀ (s : State) (ag : Agent) (t : Fin 8), s.dev.accepts ag 0x390 0x04C (keyed theKey t) = true →
    let n := s.dev.after ag 0x390 0x04C (keyed theKey t)
    (2 ≤ t.val → n.portsActive = true → Completes (.pmWardReq ag t) s
      ((((n.w pmPid F.PM_STAT_RESULT 4).w pmPid F.PM_EVT_DONE 1).err pmPid 10).pmLog 1 4)) ∧
    ((t.val < 2 ∨ n.portsActive = false) →
      let p : Pm := { n.pm with wardPend := some t.val, wakeEn := if t.val = 0 then n.pm.wakeEn else n.wakeMask }
      Completes (.pmWardReq ag t) s (({ n with pm := p } : Dev).supersede pmPid).changeNext)) ∧
  (∀ s : State, s.dev.pm.run = none → Completes .sleepLedgerTimeout s s.dev) ∧
  (∀ (s : State) (c : Change), s.dev.pm.run = some c →
    let due := s.dev.r pmPid F.PM_STAT_PHASE = 5 ∧ c.step = 3 ∧ c.since + 100000000 ≤ s.dev.now
    Completes .sleepLedgerTimeout s (if due then (s.dev.undoEntry c).pmEnd 5 0 else s.dev))

/-- Gates and the thermal cap (R450, R451): OFF rising in `PM_GATE` powers the region down and falling powers it up, a bit
that rises in RSTHOLD puts its cluster in reset and one that falls frees it; the sensor at its limit raises THERM once,
with a record, an event and a change under the cap, and 5 degrees below it the cap ends. Wake sources and the supply
(R455, R457 to R459, R504, R505): a wake source is raised; the I2C target wakes on its own address alone, and the alarm
where it is enabled and the crystal runs; the crystal's stop and start hold and resume the counter; VDD_HINGE's rise
starts the hinge domain afresh with MAIN_EN, and its loss resets every die; power-good's fall resets the dies, or ends the
FAULT_N of a system-level fault.
Where it rests on a choice or a reading of the model, not on a rule: log entries 5, 16, 28, 66 and 67. -/
def Obligations.GatesWakesAndSupplyComplete : Prop :=
  (∀ (s : State) (ag : Agent) (g : Fin 16) (v : Word) (c : Instr) (w : Nat),
    ((c = .regionPowerOff ag g v ∧ w = withBit v 0) ∨ (c = .regionClockStop ag g v ∧ w = withBit v 1) ∨
      (c = .clusterResetHold ag g v ∧ w = v.toNat)) →
    s.dev.accepts ag 0x390 (0x100 + 4 * g) w = true →
    let n := s.dev.after ag 0x390 (0x100 + 4 * g) w
    let m := if s.dev.rises pmPid w F.PM_GATE_OFF g = true then n.regionOff g
      else if s.dev.falls pmPid w F.PM_GATE_OFF g = true then n.regionOn g else n
    let held := fun (k : Nat) => bit (s.dev.r pmPid F.PM_GATE_RSTHOLD g) k
    Completes c s ((upFrom 0 8).foldl (fun d k =>
      if bit w (8 + k) = true ∧ held k = false then d.clusterHold g k
      else if bit w (8 + k) = false ∧ held k = true then d.clusterFree g k else d) m)) ∧
  (∀ (s : State) (t : Int), let n := s.dev.w pmPid F.PM_THERM_TEMP (ux 8 t)
    ((n.on pmPid F.PM_THERM_ACTIVE = true ∨ t < (n.r pmPid F.PM_THERM_LIMIT : Nat)) → Completes (.thermalLimit t) s n) ∧
    (n.on pmPid F.PM_THERM_ACTIVE = false → (n.r pmPid F.PM_THERM_LIMIT : Nat) ≤ t →
      let m := (((n.w pmPid F.PM_THERM_ACTIVE 1).w pmPid F.PM_EVT_THERM 1).err pmPid 12).pmLog 6 0
      let p : Pm := { m.pm with thermPend := (m.ctl pmPid).pend.isNone }
      Completes (.thermalLimit t) s ({ m with pm := p } : Dev).changeNext) ∧
    (t ≤ (n.r pmPid F.PM_THERM_LIMIT : Nat) - 5 → Completes (.thermalClear t) s (n.w pmPid F.PM_THERM_ACTIVE 0)) ∧
    ((n.r pmPid F.PM_THERM_LIMIT : Nat) - 5 < t → Completes (.thermalClear t) s n)) ∧
  (∀ (s : State) (k : Fin 5),
    (k.val = 0 → Completes (.wakeEvent k) s s.dev) ∧
    (k.val ≠ 0 → Completes (.wakeEvent k) s { s.dev with wakes := s.dev.wakes ++ [k.val] })) ∧
  (∀ (s : State) (a : BitVec 7),
    ((s.dev.on wkPid F.WK_I2C_EN = false ∨ s.dev.r wkPid F.WK_I2C_ADDR ≠ a.toNat) → Completes (.i2cWakeMatch a) s s.dev) ∧
    (s.dev.on wkPid F.WK_I2C_EN = true → s.dev.r wkPid F.WK_I2C_ADDR = a.toNat → Completes (.i2cWakeMatch a) s
      (({ s.dev with wakes := s.dev.wakes ++ [1] } : Dev).addSat wkPid F.WK_STAT_MATCHES))) ∧
  (∀ s : State,
    ((s.dev.on wkPid F.RTC_CTRL_ALM_EN = false ∨ s.dev.on wkPid F.RTC_CTRL_OSC_OK = false) → Completes .rtcAlarm s s.dev) ∧
    (s.dev.on wkPid F.RTC_CTRL_ALM_EN = true → s.dev.on wkPid F.RTC_CTRL_OSC_OK = true →
      let r : Rtc := { count := s.dev.r64 wkPid F.RTC_ALM_LO_COUNT F.RTC_ALM_HI_COUNT, since := s.dev.now }
      Completes .rtcAlarm s ((({ s.dev with rtc := r, wakes := s.dev.wakes ++ [2] } : Dev).w wkPid F.RTC_CTRL_ALM_FIRED 1).err
        wkPid 10))) ∧
  (∀ s : State, let r : Rtc := { count := s.dev.rtcCount, since := s.dev.now }
    Completes .rtcCrystalStop s (({ s.dev with rtc := r } : Dev).w wkPid F.RTC_CTRL_OSC_OK 0) ∧
    Completes .rtcCrystalStart s (({ s.dev with rtc := r } : Dev).w wkPid F.RTC_CTRL_OSC_OK 1)) ∧
  (∀ s : State, (s.dev.fab.hingeOn = true → Completes .hingePowerUp s s.dev) ∧
    (s.dev.fab.hingeOn = false → let f : Fabric := { s.dev.hingeGone.fab with hingeOn := true }
      Completes .hingePowerUp s (({ s.dev.hingeGone with fab := f } : Dev).setMainEn true))) ∧
  (∀ s : State, let n := ((s.dev.holdFall.diesGone true).hingeGone.wipe (fun _ => true)).outerGone
    let f : Fabric := { n.fab with hingeOn := false }
    let b : BootSt := { svn := n.boot.svn, mainEn := false }
    Completes .hingePowerLoss s { n with flt := {}, boot := b, fab := f }) ∧
  (∀ s : State, (s.dev.boot.powerGood = false → Completes .powerGoodFall s s.dev) ∧
    (s.dev.boot.powerGood = true → let b : BootSt := { s.dev.boot with powerGood := false }
      let n : Dev := { s.dev with boot := b }
      (n.boot.mainEn = false → Completes .powerGoodFall s n) ∧
      (n.boot.mainEn = true → n.boot.faultN = true → Completes .powerGoodFall s (n.setFaultN false)) ∧
      (n.boot.mainEn = true → n.boot.faultN = false → Completes .powerGoodFall s ((n.holdDrop 1).diesFresh true))))

/-! ### The Tabyr Ring (R460 to R467) -/

/-- Ports, the hold and what the node sends (R460, R462, R463, R465 to R467): a port seeks 3 ms into the hold, comes UP
from SEEK, and goes back to SEEK with its frames lost; the frame on a line leaves and the next starts, and the hold falls
with the last release frame; HOLD is set only after NODE was set, and its release sends ALERT 3 first; a GO sends the
transmit registers on both ports; BEACON, TIME and LINK_DELAY leave with the next ALIVE of their type. 64 ms after the
last TIME frame SYNC is lost.
Where it rests on a choice or a reading of the model, not on a rule: log entries 3, 5, 6, 16, 68, 96 and 113. -/
def Obligations.RingPortsAndSendsComplete : Prop :=
  (∀ (s : State) (p : Fin 2),
    Completes (.ringPortSeek p) s (if s.dev.held? = true ∧ s.dev.portState p = 0 ∧ s.dev.ring.holdAt + 3000000 ≤ s.dev.now then
      (s.dev.w rgPid F.RP_STAT_STATE 1 p).emit (.event 460 [p.val]) else s.dev) ∧
    (s.dev.portState p = 1 → Completes (.ringPortUp p) s (s.dev.w rgPid F.RP_STAT_STATE 2 p)) ∧
    (s.dev.portState p ≠ 1 → Completes (.ringPortUp p) s s.dev)) ∧
  (∀ (s : State) (p : Fin 2) (e : Nat), let n := s.dev.addSat rgPid F.RP_ERR_CODE e p
    (n.portState p ≠ 2 → Completes (.ringPortDown p e) s n) ∧
    (n.portState p = 2 → let x : RingPort := { delays := (n.port p).delays }
      let m := ((n.setPort p x).w rgPid F.RP_STAT_STATE 1 p).err rgPid 12
      (n.releasing = true → m.releasing = false → Completes (.ringPortDown p e) s m.holdFall) ∧
      ((n.releasing = false ∨ m.releasing = true) → Completes (.ringPortDown p e) s m.ringShow))) ∧
  (∀ (s : State) (p : Fin 2), (s.dev.port p).line = none → Completes (.ringFrameSent p) s s.dev) ∧
  (∀ (s : State) (p : Fin 2) (o : OutFrame), (s.dev.port p).line = some o →
    let x : RingPort := { s.dev.port p with line := none }
    let n := (s.dev.setPort p x).lineStart p s.dev.now
    (o.release = true → n.releasing = false → Completes (.ringFrameSent p) s n.holdFall) ∧
    ((o.release = false ∨ n.releasing = true) → Completes (.ringFrameSent p) s n.ringShow)) ∧
  (∀ (d : Dev), d.holdFall.on rgPid F.RB_STAT_HOLD = false ∧ d.holdFall.portState 0 = 0 ∧ d.holdFall.portState 1 = 0 ∧
    d.holdFall.on rgPid F.RB_TX_BUSY = false) ∧
  (∀ (s : State) (ag : Agent) (v : Word) (c : Instr) (w : Nat),
    ((c = .bypassHoldSet ag v ∧ w = withBit v 0) ∨ (c = .bypassHoldRelease ag v ∧ w = withoutBit v 0)) →
    s.dev.accepts ag 0x410 0x040 w = true →
    let n := s.dev.after ag 0x410 0x040 w
    let r : Ring := { n.ring with nodeSet := true }
    let n := if s.dev.r rgPid F.RB_CTRL_NODE = bits w 8 5 then n else { n with ring := r }
    let up := s.dev.rises rgPid w F.RB_CTRL_HOLD = true
    let down := ¬up ∧ s.dev.falls rgPid w F.RB_CTRL_HOLD = true
    (up → n.ring.nodeSet = true → ∃ m : Dev, Completes c s m ∧ m.on rgPid F.RB_STAT_HOLD = true ∧ m.releasing = false ∧
      m.ring.holdAt = (if n.held? = true then n.ring.holdAt else n.now) ∧
      m.ring.accepted = n.ring.accepted ∧ m.ring.seen = n.ring.seen ∧ m.ring.rx = n.ring.rx ∧ m.mems = n.mems) ∧
    (down → n.releasing = false → Completes c s (n.holdRelease 3)) ∧
    ((up → n.ring.nodeSet = false) → (down → n.releasing = true) → Completes c s n)) ∧
  (∀ d : Dev, d.held? = false → ∀ code, d.holdRelease code = d) ∧
  (∀ (d : Dev) (code : Nat), d.held? = true → let n := d.alert code true
    (n.releasing = true → d.holdRelease code = n) ∧ (n.releasing = false → d.holdRelease code = n.holdFall)) ∧
  (∀ (s : State) (ag : Agent) (v : Word), s.dev.accepts ag 0x410 0x060 (withBit v 0) = true →
    let n := s.dev.after ag 0x410 0x060 (withBit v 0)
    let b := n.txBytes
    let m := n.frMake (bits (le b 0 1) 4 1) (frType b) (le b 2 1) ((b.drop 6).take 14)
    Completes (.ringTxGo ag v) s (m.2.sendBoth { bytes := m.1, tx := true }).ringShow) ∧
  (∀ (s : State) (ag : Agent) (v : Word), s.dev.accepts ag 0x410 0x064 (withBit v 8) = true →
    let n := s.dev.after ag 0x410 0x064 (withBit v 8)
    let r : Ring := { n.ring with rx := n.ring.rx.drop 1 }
    Completes (.ringRxPop ag v) s ({ n with ring := r } : Dev).rxShow) ∧
  (∀ s : State, let fl := b2n s.dev.timeMaster + 2 * b2n s.dev.held?
    let m := s.dev.frMake s.dev.ownSlot 1 0xFF [s.dev.r 0x390 F.PM_STAT_STATE, fl]
    Completes .beaconSend s (m.2.sendBoth { bytes := m.1 }).ringShow) ∧
  (∀ s : State, let m := s.dev.frMake s.dev.ownSlot 2 0xFF []
    (s.dev.timeMaster = true → Completes .timeSend s (m.2.sendBoth { bytes := m.1 }).ringShow) ∧
    (s.dev.timeMaster = false → Completes .timeSend s s.dev)) ∧
  (∀ (s : State) (p : Fin 2), let m := s.dev.frMake s.dev.ownSlot 3 0xFF [0]
    (s.dev.portState p = 2 → Completes (.linkDelaySend p) s (m.2.portSend p s.dev.now { bytes := m.1 }).ringShow) ∧
    (s.dev.portState p ≠ 2 → Completes (.linkDelaySend p) s s.dev)) ∧
  (∀ s : State, let r : Ring := { s.dev.ring with near := 0 }
    Completes .timeSyncTimeout s (if s.dev.ring.timeAt + 64000000 ≤ s.dev.now then
      ({ s.dev with ring := r } : Dev).w dtPid F.DT_STAT_SYNC 0 else s.dev))

/-- Reception (R463 to R465, R467): an UP port's frame with a wrong CRC is counted; another is forwarded out of the other
port with TTL one less, unless it is this node's own or its TTL is spent, and tested for acceptance; a wrong MAC is
counted, a repeated ALIVE dropped. An accepted frame then takes the effect of its type: TIME sets the offset, the trim and
SYNC, LINK_DELAY answers or measures, an emergency frame of a listed and fresh source is held and raised, ALERT and
SERVICE enter the receive queue.
Where it rests on a choice or a reading of the model, not on a rule: log entries 3, 5, 28, 68, 96, 111 and 113. -/
def Obligations.RingReceptionCompletes : Prop :=
  (∀ (s : State) (p : Fin 2) (bs : List Nat) (since resid : Nat),
    let f := takePad 0 32 ((asBytes bs).map (· % 256))
    (s.dev.portState p ≠ 2 → Completes (.ringFrameForward p bs since resid) s s.dev) ∧
    (s.dev.portState p = 2 → le f 28 4 ≠ crc32c (f.take 28) →
      Completes (.ringFrameForward p bs since resid) s (s.dev.addSat rgPid F.RP_ERR_CRC 1 p)) ∧
    (s.dev.portState p = 2 → le f 28 4 = crc32c (f.take 28) →
      Completes (.ringFrameForward p bs since resid) s
        (((s.dev.frForward p (s.dev.now - since) resid f).frAccept p (s.dev.now - since) f).ringShow))) ∧
  (∀ (d : Dev) (p t0 resid : Nat) (f : List Nat),
    ((d.held? = false ∨ le f 1 1 = d.node ∨ le f 3 1 ≤ 1) → d.frForward p t0 resid f = d) ∧
    (d.held? = true → le f 1 1 ≠ d.node → 1 < le f 3 1 → d.frForward p t0 resid f =
      (d.portSend (1 - p) (t0 + resid) { bytes := putBytes f 3 [le f 3 1 - 1], follows := some (t0, p) }).add rgPid
        F.RP_FWD_COUNT 1 (1 - p))) ∧
  (∀ (d : Dev) (p t0 : Nat) (f : List Nat), let ty := frType f
    let mine := 1 ≤ ty ∧ ty ≤ 7 ∧ (le f 2 1 = 0xFF ∨ le f 2 1 = d.node) ∧ le f 1 1 ≠ d.node
    let auth := bit (d.r rgPid F.RB_CTRL_KEYEN) (bits (le f 0 1) 4 1) = true ∧ (f.drop 20).take 8 = d.frMac f
    (¬ mine → d.frAccept p t0 f = d) ∧
    (mine → ¬ auth → d.frAccept p t0 f = (d.addSat rgPid F.RB_AUTH_FAIL).err rgPid 10) ∧
    (mine → auth → d.lastAlive f = some (le f 4 2) → d.frAccept p t0 f = d) ∧
    (mine → auth → d.lastAlive f ≠ some (le f 4 2) →
      let a : InFrame := { port := p, arrived := t0, ended := d.now, bytes := f, prior := d.lastAlive f }
      let r : Ring := { d.ring with
        seen := tabIns d.ring.seen (16 * le f 1 1 + ty) (le f 4 2), accepted := d.ring.accepted ++ [a] }
      d.frAccept p t0 f = { d with ring := r })) ∧
  (∀ s : State, (s.dev.takeFrame 1 = none → Completes .beacon s s.dev) ∧ (s.dev.takeFrame 2 = none → Completes .time s s.dev) ∧
    (s.dev.takeFrame 3 = none → Completes .linkDelay s s.dev) ∧
    (s.dev.takeFrame 5 = none → Completes .emergencyClear s s.dev) ∧
    (s.dev.takeFrame 6 = none → Completes .alert s s.dev) ∧ (s.dev.takeFrame 7 = none → Completes .service s s.dev)) ∧
  (∀ (s : State) (a : InFrame) (n : Dev), s.dev.takeFrame 1 = some (a, n) → Completes .beacon s n) ∧
  (∀ (s : State) (a : InFrame) (n : Dev), s.dev.takeFrame 2 = some (a, n) →
    let ofs : Int := (a.arrived : Int) - ((le a.bytes 6 8 + le a.bytes 14 4 + n.r rgPid F.RP_DLY_NS a.port : Nat) : Int)
    let near := if -1000 ≤ ofs ∧ ofs ≤ 1000 then n.ring.near + 1 else 0
    let steered := n.fab.auto = true ∧ n.on rgPid F.RB_CTRL_TMASTER = false
    let g := n.ring.integ + 2 * ofs
    let r : Ring := { n.ring with integ := if steered then g else n.ring.integ, near := sat 16 near, timeAt := a.ended }
    let m := ({ n with ring := r } : Dev).w rgPid F.RB_TOFS_NS (ux 32 ofs)
    let m := if steered then m.w dtPid F.DT_SYNCTRIM_PPB (ux 19 (clampI (-200000) 200000 (-(50 * ofs) - g))) else m
    Completes .time s (if 16 ≤ near then m.w dtPid F.DT_STAT_SYNC 1
      else if ofs < -10000 ∨ 10000 < ofs then m.w dtPid F.DT_STAT_SYNC 0 else m)) ∧
  (∀ (s : State) (a : InFrame) (n : Dev), s.dev.takeFrame 3 = some (a, n) →
    (le a.bytes 6 1 = 0 → let m := n.frMake n.ownSlot 3 0xFF [1]
      Completes .linkDelay s (m.2.portSend a.port m.2.now { bytes := m.1, follows := some (a.arrived, a.port) })) ∧
    (le a.bytes 6 1 ≠ 0 → let x := n.port a.port
      let l := (((a.arrived - x.asked) - le a.bytes 8 4) / 2 :: x.delays).take 8
      let y : RingPort := { x with delays := l }
      Completes .linkDelay s ((n.setPort a.port y).w rgPid F.RP_DLY_NS (l.sum / l.length) a.port))) ∧
  (∀ (s : State) (ty : Nat) (d : Dev), (ty = 4 ∨ ty = 5) → d = (if ty = 4 then { s.dev with emgTest := none } else s.dev) →
    let i : Instr := if ty = 4 then .emergency else .emergencyClear
    (d.takeFrame ty = none → Completes i s d) ∧
    (∀ (a : InFrame) (n : Dev), d.takeFrame ty = some (a, n) → let src := le a.bytes 1 1
      (bit (n.r rgPid F.RB_EMGSRC_MASK) src = false → Completes i s n) ∧
      (bit (n.r rgPid F.RB_EMGSRC_MASK) src = true → n.emgFresh a = false →
        Completes i s (n.addSat rgPid F.RB_AUTH_STALE)) ∧
      (bit (n.r rgPid F.RB_EMGSRC_MASK) src = true → n.emgFresh a = true →
        let m := forAll (upFrom 0 8) (fun k d => d.w rgPid F.RB_EMG_WORD (le a.bytes (4 * k) 4) k) n
        let m := m.w64 rgPid F.RB_EMGT_LO_TIME F.RB_EMGT_HI_TIME a.ended
        let m := (((m.w rgPid F.RB_EMGSTAT_HELD 1).w rgPid F.RB_EMGSTAT_SRC src).add rgPid F.RB_EMGSTAT_COUNT).err rgPid 13
        let x : Disp := { m.disp with emgFrame := if ty = 4 then some a.ended else none }
        let m : Dev := { m with disp := x }
        let st : Nat := m.r 0x390 F.PM_STAT_STATE
        let entry : Bool := match m.pm.run with | some c => decide (0 < c.target) | none => false
        ((1 ≤ st ∧ st ≤ 3) ∨ entry = true → Completes i s { m with wakes := m.wakes ++ [4] }) ∧
        ((st = 0 ∨ 3 < st) → entry = false → Completes i s m)))) ∧
  (∀ (s : State) (a : InFrame) (n : Dev) (ty : Nat), (ty = 6 ∨ ty = 7) → s.dev.takeFrame ty = some (a, n) →
    let i : Instr := if ty = 6 then .alert else .service
    ((16 ≤ n.ring.rx.length ∨ 2 ≤ n.r 0x390 F.PM_STAT_STATE) →
      Completes i s ((n.addSat rgPid F.RB_RX_LOST).err rgPid 11)) ∧
    (n.ring.rx.length < 16 → n.r 0x390 F.PM_STAT_STATE < 2 → let r : Ring := { n.ring with rx := n.ring.rx ++ [a.bytes] }
      Completes i s ({ n with ring := r } : Dev).rxShow))

/-! ### Faults, recovery and loop-back (R473 to R494) -/

/-- Ends of recoveries, thermal faults and the log (R474 to R481, R493): a recovery of a unit, a cluster or a region
resets the element and closes the fault, one of the Drive die resets it, one of a hung render cluster frees it, and the
ward restart ends with its last step; one that a package-level recovery covers does not end so. One over its bound opens
cause 17 one level up. 125 degrees C open THERMAL on the die once; the dies come back below their limits; POP takes the
oldest record; an accepted FT_INJECT opens cause 18, on unit level, on the page; windows that have run out are gone.
Where it rests on a choice or a reading of the model, not on a rule: log entries 5, 6, 16, 24, 69, 71, 90 and 97. -/
def Obligations.FaultRecoveryCompletes : Prop :=
  (∀ (s : State) (q : BitVec 32),
    s.dev.flt.faults.find? (fun f => f.seq == q.toNat && !f.consequent && !f.latched) = none →
    Completes (.faultRecoveryEnd q) s s.dev ∧ Completes (.recoveryTimeout q) s s.dev) ∧
  (∀ (s : State) (q : BitVec 32) (f : OpenFault),
    s.dev.flt.faults.find? (fun f => f.seq == q.toNat && !f.consequent && !f.latched) = some f →
    let k := (f.unit - 0x190) / 16
    let d := s.dev
    let steps := d.restartSteps true
    let cluster := (d.w f.unit F.RC_STAT_STATE (if (d.r rndPid F.RND_STAT_POWERED).testBit k = false then 0
      else if (d.r rndPid F.RND_STAT_DRAINING).testBit k = true then 3 else 1)).rndShow
    Completes (.faultRecoveryEnd q) s
      (if f.byPackage = true ∨ 5 ≤ f.level then d
       else if f.ownRecovery = true then
         (if f.cause = 10 then (if steps.boot.wrStep = 4 then steps.restartFinish.closeFault f else steps)
          else if f.cause = 1 then cluster.closeFault f
          else if f.cause = 2 then d.closeFault f
          else d)
       else if f.level = 4 then (if d.boot.hotDrive = true then d else d.driveReset.closeFault f)
       else if unitOf f.unit / 128 = 18 then d.driveReset.closeFault f
       else (d.elementReset f.level f.unit).closeFault f) ∧
    Completes (.recoveryTimeout q) s
      (if d.recoveryOver f = true then d.openFault 17 (f.level + 1) f.pid (q.toNat % 65536) false false (some f.unit) else d)) ∧
  (∀ (d : Dev) (f : OpenFault),
    (f.ownRecovery = true → f.cause = 1 → d.recoveryBound f = some 50000) ∧
    (f.ownRecovery = true → f.cause = 6 → d.recoveryBound f = some 20000) ∧
    (f.ownRecovery = true → f.cause = 10 → d.recoveryBound f = some 150000000) ∧
    (f.ownRecovery = false → f.byPackage = false → ∀ n lv, (lv, n) ∈ [(1, 100000), (2, 1000000), (3, 10000000), (4, 20000000)] →
      f.level = lv → d.recoveryBound f = some n) ∧
    (f.byPackage = true → d.boot.hot = false → d.boot.hotDrive = false → d.boot.down = false →
      (d.recoveryOver f = true ↔ d.boot.goodAt + 500000000 ≤ d.now)) ∧
    (d.boot.hot = true → d.recoveryOver f = false)) ∧
  (∀ (s : State) (die : Fin 3) (t : Int),
    let page := if die.val = 0 then pmPid else if die.val = 1 then 0x701 else 0x703
    let unit := if die.val = 0 then pmPid else if die.val = 1 then 0x701 else supPid
    let open_ := s.dev.flt.faults.any (fun f => f.cause == 14 && unitOf f.unit / 1024 == unit / 1024)
    ((t < 125 ∨ s.dev.boot.down = true ∨ open_ = true) → Completes (.junctionOvertemp die t) s s.dev) ∧
    (125 ≤ t → s.dev.boot.down = false → open_ = false →
      Completes (.junctionOvertemp die t) s (s.dev.openFault 14 4 page (ux 8 t) false false (some unit)))) ∧
  (∀ (s : State) (c p e : Int), let cool := s.dev.boot.hotDrive = true ∧ e < 105
    let b : BootSt := { s.dev.boot with hotDrive := false }
    let fs := s.dev.flt.faults.map (fun f => if f.level = 4 ∧ unitOf f.unit / 1024 = 2 then { f with since := s.dev.now } else f)
    let x : FaultSt := { s.dev.flt with faults := fs }
    let n : Dev := if cool then { s.dev with boot := b, flt := x } else s.dev
    let b2 : BootSt := { n.boot with hot := false, due := 2 }
    Completes (.thermalResetRelease c p e) s
      (if s.dev.boot.hot = true ∧ c < 100 ∧ p < 100 ∧ e < 100 then { n with boot := b2 } else n)) ∧
  (∀ (s : State) (ag : Agent), s.dev.accepts ag 0x030 0x050 1 = true →
    let n := s.dev.after ag 0x030 0x050 1
    let f : FaultSt := { n.flt with log := n.flt.log.drop 1 }
    Completes (.faultLogPop ag) s (({ n with flt := f } : Dev).w ftPid F.FT_STAT_UNREAD (n.flt.log.drop 1).length)) ∧
  (∀ (s : State) (ag : Agent) (page : BitVec 12) (key : BitVec 16),
    s.dev.accepts ag 0x030 0x05C (keyed key (4096 + page.toNat)) = true →
    Completes (.faultInject ag page key) s
      ((s.dev.after ag 0x030 0x05C (keyed key (4096 + page.toNat))).openFault 18 1 page.toNat 0)) ∧
  (∀ s : State, let f : FaultSt := { s.dev.flt with windows := s.dev.flt.windows.filter (fun w => decide (s.dev.now < w.ends)) }
    Completes .faultWindowEnd s { s.dev with flt := f })

/-- Loop-back tests (R487 to R490): an accepted GO, with no test under way, clears the results and starts the test, after
it has stopped the instance where the table is not locked; ABORT ends a test with 5; a test that has locked and is not
over its length goes on, and the end of a test shows what it found, with the result that the errors and the measurement's
limits give.
Where it rests on a choice or a reading of the model, not on a rule: log entries 5, 16, 28 and 72. -/
def Obligations.LoopbackTestsComplete : Prop :=
  (∀ (s : State) (ag : Agent) (key : BitVec 16), s.dev.accepts ag 0x710 0x044 (keyed key 1) = true →
    let n := s.dev.after ag 0x710 0x044 (keyed key 1)
    (n.lbBusy = true → Completes (.loopbackGo ag key) s n) ∧
    (n.lbBusy = false → let m := if n.locked then n else n.lbStop
      let m := ((m.w lbPid F.LB_STAT_BUSY 1).w lbPid F.LB_STAT_RESULT 0).w lbPid F.LB_STAT_LANE 0
      let m := (((m.w lbPid F.LB_ERR_COUNT 0).w lbPid F.LB_DONE_MBIT 0).w lbPid F.LB_MEAS_VALUE 0).w lbPid F.LB_MEAS_INDEX 0
      Completes (.loopbackGo ag key) s (m.emit (.event 487 ([m.lbIface, m.lbInst, m.lbDepth] ++ m.lbSetting))))) ∧
  (∀ (s : State) (ag : Agent), s.dev.accepts ag 0x710 0x044 (keyed theKey 2) = true →
    let n := s.dev.after ag 0x710 0x044 (keyed theKey 2)
    (n.lbBusy = false → Completes (.loopbackAbort ag) s n) ∧
    (n.lbBusy = true → Completes (.loopbackAbort ag) s
      (((n.w lbPid F.LB_STAT_BUSY 0).w lbPid F.LB_STAT_RESULT 5).err lbPid 10))) ∧
  (∀ (s : State) (locked : Bool) (errors : Nat) (lane : Fin 128) (done : Nat) (value index : BitVec 16),
    (s.dev.lbBusy = false → Completes (.loopbackEnd locked errors lane done value index) s s.dev) ∧
    (s.dev.lbBusy = true → let r := s.dev.lbResult locked errors value.toNat index.toNat
      let so := (s.dev.w lbPid F.LB_ERR_COUNT (sat (2 ^ 32 - 1) errors)).w lbPid F.LB_DONE_MBIT done
      let short := locked = true ∧ s.dev.lbCounted = true ∧ done < max 1 (s.dev.r lbPid F.LB_LEN_MBIT)
      let n := so.w lbPid F.LB_STAT_LANE (if r = 2 ∨ r = 3 then lane else 0)
      let n := (n.w lbPid F.LB_MEAS_VALUE value.toNat).w lbPid F.LB_MEAS_INDEX index.toNat
      Completes (.loopbackEnd locked errors lane done value index) s
        (if short then so else ((n.w lbPid F.LB_STAT_BUSY 0).w lbPid F.LB_STAT_RESULT r).err lbPid 10))) ∧
  (∀ (d : Dev) (locked : Bool) (errors value index : Nat), ¬ (d.lbIface = 1 ∧ d.lbDepth = 3) →
    (locked = false → d.lbResult locked errors value index = 3) ∧
    (locked = true → 0 < errors → d.lbResult locked errors value index = 2) ∧
    (locked = true → errors = 0 → d.lbRange index = none → d.lbResult locked errors value index = 1) ∧
    (∀ lo hi : Nat, locked = true → errors = 0 → d.lbRange index = some (lo, hi) →
      d.lbResult locked errors value index = if lo ≤ value ∧ value ≤ hi then 1 else 4))
end

