-- ==== Sys2Proof/Laws/Map.lean ====
section
/-! SUPPORT. The register map lists no bit twice: two fields of one register of a page have different keys. -/

namespace Sys2Proof.Machine

open Sys2Proof

/-- Two descriptors that never lie at one bit address: other lowest bits, runs of registers that do not meet, or one stride
with other remainders. -/
def FD.apart (f g : FD) : Bool :=
  !(f.lo == g.lo) || decide (f.off + f.stride * (f.n - 1) < g.off) || decide (g.off + g.stride * (g.n - 1) < f.off) ||
  (f.stride == g.stride && decide (0 < f.stride) && !(f.off % f.stride == g.off % f.stride))

/-- A descriptor as the tables have them: the offset and the stride are whole words, the field lies in its word, and there is
at least one register. -/
def FD.tidy (f : FD) : Bool :=
  f.off % 4 == 0 && f.stride % 4 == 0 && decide (f.lo + f.w ≤ 32) && decide (0 < f.w) && decide (1 ≤ f.n)

/-- Every two descriptors of a list are apart. -/
def mapApart : List FD → Bool
  | [] => true
  | f :: r => r.all (fun g => f.apart g) && mapApart r

theorem index_at {f : FD} {o i : Nat} (h : f.index? o = some i) (hn : 1 ≤ f.n) : f.at i = o ∧ i < f.n := by
  unfold FD.index? at h
  unfold FD.at
  split at h
  · rename_i h1; cases h; simp [h1]; omega
  · split at h
    · cases h
    · rename_i h1 h2
      split at h
      · rename_i h3
        cases h
        refine ⟨?_, h3.2⟩
        have : f.off ≤ o := by omega
        have hm := Nat.div_add_mod (o - f.off) f.stride
        rw [h3.1] at hm
        omega
      · cases h

theorem apart_at {f g : FD} {o i j : Nat} (h : f.apart g = true) (hf : 1 ≤ f.n) (hg : 1 ≤ g.n)
    (hi : f.index? o = some i) (hj : g.index? o = some j) : f.lo ≠ g.lo := by
  obtain ⟨ai, li⟩ := index_at hi hf
  obtain ⟨aj, lj⟩ := index_at hj hg
  unfold FD.at at ai aj
  have mi : f.stride * i ≤ f.stride * (f.n - 1) := Nat.mul_le_mul_left _ (by omega)
  have mj : g.stride * j ≤ g.stride * (g.n - 1) := Nat.mul_le_mul_left _ (by omega)
  unfold FD.apart at h
  simp only [Bool.or_eq_true, Bool.and_eq_true, Bool.not_eq_true', beq_eq_false_iff_ne, decide_eq_true_eq, beq_iff_eq] at h
  rcases h with ((h | h) | h) | ⟨⟨h, _⟩, h'⟩
  · exact h
  · omega
  · omega
  · exfalso
    apply h'
    have e : f.off + f.stride * i = g.off + f.stride * j := by rw [ai, h, aj]
    have := congrArg (· % f.stride) e
    simpa [Nat.add_mul_mod_self_left] using this

theorem mapApart_at {l : List FD} (h : mapApart l = true) (ht : l.all FD.tidy = true) {o : Nat} :
    (l.filterMap (fun f => (f.index? o).map (fun i => (f, i)))).Pairwise (fun x y => x.1.lo ≠ y.1.lo) := by
  induction l with
  | nil => exact List.Pairwise.nil
  | cons f r ih =>
    simp only [mapApart, List.all_cons, Bool.and_eq_true] at h ht
    have ihr := ih h.2 ht.2
    cases hi : f.index? o with
    | none => simpa [hi] using ihr
    | some i =>
      simp only [List.filterMap_cons, hi, Option.map_some]
      refine List.Pairwise.cons ?_ ihr
      intro y hy
      rw [List.mem_filterMap] at hy
      obtain ⟨g, hg, hy⟩ := hy
      cases hj : g.index? o with
      | none => simp [hj] at hy
      | some j =>
        simp only [hj, Option.map_some, Option.some.injEq] at hy
        subst hy
        have tf : 1 ≤ f.n := by have := ht.1; simp [FD.tidy] at this; omega
        have tg : 1 ≤ g.n := by have := List.all_eq_true.mp ht.2 g hg; simp [FD.tidy] at this; omega
        exact apart_at (List.all_eq_true.mp h.1 g hg) tf tg hi hj

/-- The map of every block is tidy and lists no bit twice. -/
theorem fields_apart (k : PageKind) : mapApart k.fields = true := by cases k <;> decide +kernel
theorem fields_tidy (k : PageKind) : k.fields.all FD.tidy = true := by cases k <;> decide +kernel

/-- Two fields of one register have different lowest bits. -/
theorem regFields_pairwise (p off : Nat) : (regFields p off).Pairwise (fun x y => x.1.lo ≠ y.1.lo) := by
  unfold regFields
  split
  · exact List.Pairwise.nil
  · split
    · exact mapApart_at (fields_apart _) (fields_tidy _)
    · exact List.Pairwise.nil

/-- A field of a register lies in its word. -/
theorem regFields_tidy {p off : Nat} {x : FD × Nat} (h : x ∈ regFields p off) :
    x.1.tidy = true ∧ x.1.at x.2 = off / 4 * 4 := by
  unfold regFields at h
  split at h
  · cases h
  · rename_i k i _
    split at h
    · unfold fieldsAt at h
      rw [List.mem_filterMap] at h
      obtain ⟨f, hf, hx⟩ := h
      cases hj : f.index? (off / 4 * 4) with
      | none => simp [hj] at hx
      | some j =>
        simp only [hj, Option.map_some, Option.some.injEq] at hx
        subst hx
        have t := List.all_eq_true.mp (fields_tidy k) f hf
        exact ⟨t, (index_at hj (by simp [FD.tidy] at t; omega)).1⟩
    · cases h

end Sys2Proof.Machine
end

