-- ==== Sys2Proof/Laws/State.lean ====
section
/-! SUPPORT. What the shared updates of the device leave unchanged: one lemma for each field and update. -/

namespace Sys2Proof.Machine

open Sys2Proof

/-! ### `Dev.w` -/

@[simp] theorem Dev.w_act (d : Dev) (p : Nat) (f : FD) (v i : Nat) : (d.w p f v i).act = d.act := rfl
@[simp] theorem Dev.w_errEn (d : Dev) (p : Nat) (f : FD) (v i : Nat) : (d.w p f v i).errEn = d.errEn := rfl
@[simp] theorem Dev.w_pages (d : Dev) (p : Nat) (f : FD) (v i : Nat) : (d.w p f v i).pages = d.pages := rfl
@[simp] theorem Dev.w_held (d : Dev) (p : Nat) (f : FD) (v i : Nat) : (d.w p f v i).held = d.held := rfl
@[simp] theorem Dev.w_hinge (d : Dev) (p : Nat) (f : FD) (v i : Nat) : (d.w p f v i).hinge = d.hinge := rfl
@[simp] theorem Dev.w_led (d : Dev) (p : Nat) (f : FD) (v i : Nat) : (d.w p f v i).led = d.led := rfl
@[simp] theorem Dev.w_flt (d : Dev) (p : Nat) (f : FD) (v i : Nat) : (d.w p f v i).flt = d.flt := rfl
@[simp] theorem Dev.w_fab (d : Dev) (p : Nat) (f : FD) (v i : Nat) : (d.w p f v i).fab = d.fab := rfl
@[simp] theorem Dev.w_per (d : Dev) (p : Nat) (f : FD) (v i : Nat) : (d.w p f v i).per = d.per := rfl
@[simp] theorem Dev.w_irq (d : Dev) (p : Nat) (f : FD) (v i : Nat) : (d.w p f v i).irq = d.irq := rfl
@[simp] theorem Dev.w_fn (d : Dev) (p : Nat) (f : FD) (v i : Nat) : (d.w p f v i).fn = d.fn := rfl
@[simp] theorem Dev.w_mems (d : Dev) (p : Nat) (f : FD) (v i : Nat) : (d.w p f v i).mems = d.mems := rfl
@[simp] theorem Dev.w_mc (d : Dev) (p : Nat) (f : FD) (v i : Nat) : (d.w p f v i).mc = d.mc := rfl
@[simp] theorem Dev.w_hst (d : Dev) (p : Nat) (f : FD) (v i : Nat) : (d.w p f v i).hst = d.hst := rfl
@[simp] theorem Dev.w_rend (d : Dev) (p : Nat) (f : FD) (v i : Nat) : (d.w p f v i).rend = d.rend := rfl
@[simp] theorem Dev.w_disp (d : Dev) (p : Nat) (f : FD) (v i : Nat) : (d.w p f v i).disp = d.disp := rfl
@[simp] theorem Dev.w_tch (d : Dev) (p : Nat) (f : FD) (v i : Nat) : (d.w p f v i).tch = d.tch := rfl
@[simp] theorem Dev.w_hap (d : Dev) (p : Nat) (f : FD) (v i : Nat) : (d.w p f v i).hap = d.hap := rfl
@[simp] theorem Dev.w_aud (d : Dev) (p : Nat) (f : FD) (v i : Nat) : (d.w p f v i).aud = d.aud := rfl
@[simp] theorem Dev.w_ring (d : Dev) (p : Nat) (f : FD) (v i : Nat) : (d.w p f v i).ring = d.ring := rfl
@[simp] theorem Dev.w_pm (d : Dev) (p : Nat) (f : FD) (v i : Nat) : (d.w p f v i).pm = d.pm := rfl
@[simp] theorem Dev.w_boot (d : Dev) (p : Nat) (f : FD) (v i : Nat) : (d.w p f v i).boot = d.boot := rfl
@[simp] theorem Dev.w_mbox (d : Dev) (p : Nat) (f : FD) (v i : Nat) : (d.w p f v i).mbox = d.mbox := rfl
@[simp] theorem Dev.w_rtc (d : Dev) (p : Nat) (f : FD) (v i : Nat) : (d.w p f v i).rtc = d.rtc := rfl
@[simp] theorem Dev.w_spdm (d : Dev) (p : Nat) (f : FD) (v i : Nat) : (d.w p f v i).spdm = d.spdm := rfl
@[simp] theorem Dev.w_prompts (d : Dev) (p : Nat) (f : FD) (v i : Nat) : (d.w p f v i).prompts = d.prompts := rfl
@[simp] theorem Dev.w_nextPrompt (d : Dev) (p : Nat) (f : FD) (v i : Nat) : (d.w p f v i).nextPrompt = d.nextPrompt := rfl
@[simp] theorem Dev.w_emgTest (d : Dev) (p : Nat) (f : FD) (v i : Nat) : (d.w p f v i).emgTest = d.emgTest := rfl
@[simp] theorem Dev.w_wakes (d : Dev) (p : Nat) (f : FD) (v i : Nat) : (d.w p f v i).wakes = d.wakes := rfl
@[simp] theorem Dev.w_doeWaiting (d : Dev) (p : Nat) (f : FD) (v i : Nat) : (d.w p f v i).doeWaiting = d.doeWaiting := rfl
@[simp] theorem Dev.w_mboxUnread (d : Dev) (p : Nat) (f : FD) (v i : Nat) : (d.w p f v i).mboxUnread = d.mboxUnread := rfl
@[simp] theorem Dev.w_bmonClr (d : Dev) (p : Nat) (f : FD) (v i : Nat) : (d.w p f v i).bmonClr = d.bmonClr := rfl
@[simp] theorem Dev.w_latch (d : Dev) (p : Nat) (f : FD) (v i : Nat) : (d.w p f v i).latch = d.latch := rfl
@[simp] theorem Dev.w_emitted (d : Dev) (p : Nat) (f : FD) (v i : Nat) : (d.w p f v i).emitted = d.emitted := rfl
@[simp] theorem Dev.w_fresh (d : Dev) (p : Nat) (f : FD) (v i : Nat) : (d.w p f v i).fresh = d.fresh := rfl

/-! ### `Dev.wa` -/

@[simp] theorem Dev.wa_regs (d : Dev) (p : Nat) (f : FD) (v i : Nat) : (d.wa p f v i).regs = d.regs := rfl
@[simp] theorem Dev.wa_errEn (d : Dev) (p : Nat) (f : FD) (v i : Nat) : (d.wa p f v i).errEn = d.errEn := rfl
@[simp] theorem Dev.wa_pages (d : Dev) (p : Nat) (f : FD) (v i : Nat) : (d.wa p f v i).pages = d.pages := rfl
@[simp] theorem Dev.wa_held (d : Dev) (p : Nat) (f : FD) (v i : Nat) : (d.wa p f v i).held = d.held := rfl
@[simp] theorem Dev.wa_hinge (d : Dev) (p : Nat) (f : FD) (v i : Nat) : (d.wa p f v i).hinge = d.hinge := rfl
@[simp] theorem Dev.wa_led (d : Dev) (p : Nat) (f : FD) (v i : Nat) : (d.wa p f v i).led = d.led := rfl
@[simp] theorem Dev.wa_flt (d : Dev) (p : Nat) (f : FD) (v i : Nat) : (d.wa p f v i).flt = d.flt := rfl
@[simp] theorem Dev.wa_fab (d : Dev) (p : Nat) (f : FD) (v i : Nat) : (d.wa p f v i).fab = d.fab := rfl
@[simp] theorem Dev.wa_per (d : Dev) (p : Nat) (f : FD) (v i : Nat) : (d.wa p f v i).per = d.per := rfl
@[simp] theorem Dev.wa_irq (d : Dev) (p : Nat) (f : FD) (v i : Nat) : (d.wa p f v i).irq = d.irq := rfl
@[simp] theorem Dev.wa_fn (d : Dev) (p : Nat) (f : FD) (v i : Nat) : (d.wa p f v i).fn = d.fn := rfl
@[simp] theorem Dev.wa_mems (d : Dev) (p : Nat) (f : FD) (v i : Nat) : (d.wa p f v i).mems = d.mems := rfl
@[simp] theorem Dev.wa_mc (d : Dev) (p : Nat) (f : FD) (v i : Nat) : (d.wa p f v i).mc = d.mc := rfl
@[simp] theorem Dev.wa_hst (d : Dev) (p : Nat) (f : FD) (v i : Nat) : (d.wa p f v i).hst = d.hst := rfl
@[simp] theorem Dev.wa_rend (d : Dev) (p : Nat) (f : FD) (v i : Nat) : (d.wa p f v i).rend = d.rend := rfl
@[simp] theorem Dev.wa_disp (d : Dev) (p : Nat) (f : FD) (v i : Nat) : (d.wa p f v i).disp = d.disp := rfl
@[simp] theorem Dev.wa_tch (d : Dev) (p : Nat) (f : FD) (v i : Nat) : (d.wa p f v i).tch = d.tch := rfl
@[simp] theorem Dev.wa_hap (d : Dev) (p : Nat) (f : FD) (v i : Nat) : (d.wa p f v i).hap = d.hap := rfl
@[simp] theorem Dev.wa_aud (d : Dev) (p : Nat) (f : FD) (v i : Nat) : (d.wa p f v i).aud = d.aud := rfl
@[simp] theorem Dev.wa_ring (d : Dev) (p : Nat) (f : FD) (v i : Nat) : (d.wa p f v i).ring = d.ring := rfl
@[simp] theorem Dev.wa_pm (d : Dev) (p : Nat) (f : FD) (v i : Nat) : (d.wa p f v i).pm = d.pm := rfl
@[simp] theorem Dev.wa_boot (d : Dev) (p : Nat) (f : FD) (v i : Nat) : (d.wa p f v i).boot = d.boot := rfl
@[simp] theorem Dev.wa_mbox (d : Dev) (p : Nat) (f : FD) (v i : Nat) : (d.wa p f v i).mbox = d.mbox := rfl
@[simp] theorem Dev.wa_rtc (d : Dev) (p : Nat) (f : FD) (v i : Nat) : (d.wa p f v i).rtc = d.rtc := rfl
@[simp] theorem Dev.wa_spdm (d : Dev) (p : Nat) (f : FD) (v i : Nat) : (d.wa p f v i).spdm = d.spdm := rfl
@[simp] theorem Dev.wa_prompts (d : Dev) (p : Nat) (f : FD) (v i : Nat) : (d.wa p f v i).prompts = d.prompts := rfl
@[simp] theorem Dev.wa_nextPrompt (d : Dev) (p : Nat) (f : FD) (v i : Nat) : (d.wa p f v i).nextPrompt = d.nextPrompt := rfl
@[simp] theorem Dev.wa_emgTest (d : Dev) (p : Nat) (f : FD) (v i : Nat) : (d.wa p f v i).emgTest = d.emgTest := rfl
@[simp] theorem Dev.wa_wakes (d : Dev) (p : Nat) (f : FD) (v i : Nat) : (d.wa p f v i).wakes = d.wakes := rfl
@[simp] theorem Dev.wa_doeWaiting (d : Dev) (p : Nat) (f : FD) (v i : Nat) : (d.wa p f v i).doeWaiting = d.doeWaiting := rfl
@[simp] theorem Dev.wa_mboxUnread (d : Dev) (p : Nat) (f : FD) (v i : Nat) : (d.wa p f v i).mboxUnread = d.mboxUnread := rfl
@[simp] theorem Dev.wa_bmonClr (d : Dev) (p : Nat) (f : FD) (v i : Nat) : (d.wa p f v i).bmonClr = d.bmonClr := rfl
@[simp] theorem Dev.wa_latch (d : Dev) (p : Nat) (f : FD) (v i : Nat) : (d.wa p f v i).latch = d.latch := rfl
@[simp] theorem Dev.wa_emitted (d : Dev) (p : Nat) (f : FD) (v i : Nat) : (d.wa p f v i).emitted = d.emitted := rfl
@[simp] theorem Dev.wa_fresh (d : Dev) (p : Nat) (f : FD) (v i : Nat) : (d.wa p f v i).fresh = d.fresh := rfl

/-! ### `Dev.add` -/

@[simp] theorem Dev.add_act (d : Dev) (p : Nat) (f : FD) (n i : Nat) : (d.add p f n i).act = d.act := rfl
@[simp] theorem Dev.add_errEn (d : Dev) (p : Nat) (f : FD) (n i : Nat) : (d.add p f n i).errEn = d.errEn := rfl
@[simp] theorem Dev.add_pages (d : Dev) (p : Nat) (f : FD) (n i : Nat) : (d.add p f n i).pages = d.pages := rfl
@[simp] theorem Dev.add_held (d : Dev) (p : Nat) (f : FD) (n i : Nat) : (d.add p f n i).held = d.held := rfl
@[simp] theorem Dev.add_hinge (d : Dev) (p : Nat) (f : FD) (n i : Nat) : (d.add p f n i).hinge = d.hinge := rfl
@[simp] theorem Dev.add_led (d : Dev) (p : Nat) (f : FD) (n i : Nat) : (d.add p f n i).led = d.led := rfl
@[simp] theorem Dev.add_flt (d : Dev) (p : Nat) (f : FD) (n i : Nat) : (d.add p f n i).flt = d.flt := rfl
@[simp] theorem Dev.add_fab (d : Dev) (p : Nat) (f : FD) (n i : Nat) : (d.add p f n i).fab = d.fab := rfl
@[simp] theorem Dev.add_per (d : Dev) (p : Nat) (f : FD) (n i : Nat) : (d.add p f n i).per = d.per := rfl
@[simp] theorem Dev.add_irq (d : Dev) (p : Nat) (f : FD) (n i : Nat) : (d.add p f n i).irq = d.irq := rfl
@[simp] theorem Dev.add_fn (d : Dev) (p : Nat) (f : FD) (n i : Nat) : (d.add p f n i).fn = d.fn := rfl
@[simp] theorem Dev.add_mems (d : Dev) (p : Nat) (f : FD) (n i : Nat) : (d.add p f n i).mems = d.mems := rfl
@[simp] theorem Dev.add_mc (d : Dev) (p : Nat) (f : FD) (n i : Nat) : (d.add p f n i).mc = d.mc := rfl
@[simp] theorem Dev.add_hst (d : Dev) (p : Nat) (f : FD) (n i : Nat) : (d.add p f n i).hst = d.hst := rfl
@[simp] theorem Dev.add_rend (d : Dev) (p : Nat) (f : FD) (n i : Nat) : (d.add p f n i).rend = d.rend := rfl
@[simp] theorem Dev.add_disp (d : Dev) (p : Nat) (f : FD) (n i : Nat) : (d.add p f n i).disp = d.disp := rfl
@[simp] theorem Dev.add_tch (d : Dev) (p : Nat) (f : FD) (n i : Nat) : (d.add p f n i).tch = d.tch := rfl
@[simp] theorem Dev.add_hap (d : Dev) (p : Nat) (f : FD) (n i : Nat) : (d.add p f n i).hap = d.hap := rfl
@[simp] theorem Dev.add_aud (d : Dev) (p : Nat) (f : FD) (n i : Nat) : (d.add p f n i).aud = d.aud := rfl
@[simp] theorem Dev.add_ring (d : Dev) (p : Nat) (f : FD) (n i : Nat) : (d.add p f n i).ring = d.ring := rfl
@[simp] theorem Dev.add_pm (d : Dev) (p : Nat) (f : FD) (n i : Nat) : (d.add p f n i).pm = d.pm := rfl
@[simp] theorem Dev.add_boot (d : Dev) (p : Nat) (f : FD) (n i : Nat) : (d.add p f n i).boot = d.boot := rfl
@[simp] theorem Dev.add_mbox (d : Dev) (p : Nat) (f : FD) (n i : Nat) : (d.add p f n i).mbox = d.mbox := rfl
@[simp] theorem Dev.add_rtc (d : Dev) (p : Nat) (f : FD) (n i : Nat) : (d.add p f n i).rtc = d.rtc := rfl
@[simp] theorem Dev.add_spdm (d : Dev) (p : Nat) (f : FD) (n i : Nat) : (d.add p f n i).spdm = d.spdm := rfl
@[simp] theorem Dev.add_prompts (d : Dev) (p : Nat) (f : FD) (n i : Nat) : (d.add p f n i).prompts = d.prompts := rfl
@[simp] theorem Dev.add_nextPrompt (d : Dev) (p : Nat) (f : FD) (n i : Nat) : (d.add p f n i).nextPrompt = d.nextPrompt := rfl
@[simp] theorem Dev.add_emgTest (d : Dev) (p : Nat) (f : FD) (n i : Nat) : (d.add p f n i).emgTest = d.emgTest := rfl
@[simp] theorem Dev.add_wakes (d : Dev) (p : Nat) (f : FD) (n i : Nat) : (d.add p f n i).wakes = d.wakes := rfl
@[simp] theorem Dev.add_doeWaiting (d : Dev) (p : Nat) (f : FD) (n i : Nat) : (d.add p f n i).doeWaiting = d.doeWaiting := rfl
@[simp] theorem Dev.add_mboxUnread (d : Dev) (p : Nat) (f : FD) (n i : Nat) : (d.add p f n i).mboxUnread = d.mboxUnread := rfl
@[simp] theorem Dev.add_bmonClr (d : Dev) (p : Nat) (f : FD) (n i : Nat) : (d.add p f n i).bmonClr = d.bmonClr := rfl
@[simp] theorem Dev.add_latch (d : Dev) (p : Nat) (f : FD) (n i : Nat) : (d.add p f n i).latch = d.latch := rfl
@[simp] theorem Dev.add_emitted (d : Dev) (p : Nat) (f : FD) (n i : Nat) : (d.add p f n i).emitted = d.emitted := rfl
@[simp] theorem Dev.add_fresh (d : Dev) (p : Nat) (f : FD) (n i : Nat) : (d.add p f n i).fresh = d.fresh := rfl

/-! ### `Dev.addSat` -/

@[simp] theorem Dev.addSat_act (d : Dev) (p : Nat) (f : FD) (n i : Nat) : (d.addSat p f n i).act = d.act := rfl
@[simp] theorem Dev.addSat_errEn (d : Dev) (p : Nat) (f : FD) (n i : Nat) : (d.addSat p f n i).errEn = d.errEn := rfl
@[simp] theorem Dev.addSat_pages (d : Dev) (p : Nat) (f : FD) (n i : Nat) : (d.addSat p f n i).pages = d.pages := rfl
@[simp] theorem Dev.addSat_held (d : Dev) (p : Nat) (f : FD) (n i : Nat) : (d.addSat p f n i).held = d.held := rfl
@[simp] theorem Dev.addSat_hinge (d : Dev) (p : Nat) (f : FD) (n i : Nat) : (d.addSat p f n i).hinge = d.hinge := rfl
@[simp] theorem Dev.addSat_led (d : Dev) (p : Nat) (f : FD) (n i : Nat) : (d.addSat p f n i).led = d.led := rfl
@[simp] theorem Dev.addSat_flt (d : Dev) (p : Nat) (f : FD) (n i : Nat) : (d.addSat p f n i).flt = d.flt := rfl
@[simp] theorem Dev.addSat_fab (d : Dev) (p : Nat) (f : FD) (n i : Nat) : (d.addSat p f n i).fab = d.fab := rfl
@[simp] theorem Dev.addSat_per (d : Dev) (p : Nat) (f : FD) (n i : Nat) : (d.addSat p f n i).per = d.per := rfl
@[simp] theorem Dev.addSat_irq (d : Dev) (p : Nat) (f : FD) (n i : Nat) : (d.addSat p f n i).irq = d.irq := rfl
@[simp] theorem Dev.addSat_fn (d : Dev) (p : Nat) (f : FD) (n i : Nat) : (d.addSat p f n i).fn = d.fn := rfl
@[simp] theorem Dev.addSat_mems (d : Dev) (p : Nat) (f : FD) (n i : Nat) : (d.addSat p f n i).mems = d.mems := rfl
@[simp] theorem Dev.addSat_mc (d : Dev) (p : Nat) (f : FD) (n i : Nat) : (d.addSat p f n i).mc = d.mc := rfl
@[simp] theorem Dev.addSat_hst (d : Dev) (p : Nat) (f : FD) (n i : Nat) : (d.addSat p f n i).hst = d.hst := rfl
@[simp] theorem Dev.addSat_rend (d : Dev) (p : Nat) (f : FD) (n i : Nat) : (d.addSat p f n i).rend = d.rend := rfl
@[simp] theorem Dev.addSat_disp (d : Dev) (p : Nat) (f : FD) (n i : Nat) : (d.addSat p f n i).disp = d.disp := rfl
@[simp] theorem Dev.addSat_tch (d : Dev) (p : Nat) (f : FD) (n i : Nat) : (d.addSat p f n i).tch = d.tch := rfl
@[simp] theorem Dev.addSat_hap (d : Dev) (p : Nat) (f : FD) (n i : Nat) : (d.addSat p f n i).hap = d.hap := rfl
@[simp] theorem Dev.addSat_aud (d : Dev) (p : Nat) (f : FD) (n i : Nat) : (d.addSat p f n i).aud = d.aud := rfl
@[simp] theorem Dev.addSat_ring (d : Dev) (p : Nat) (f : FD) (n i : Nat) : (d.addSat p f n i).ring = d.ring := rfl
@[simp] theorem Dev.addSat_pm (d : Dev) (p : Nat) (f : FD) (n i : Nat) : (d.addSat p f n i).pm = d.pm := rfl
@[simp] theorem Dev.addSat_boot (d : Dev) (p : Nat) (f : FD) (n i : Nat) : (d.addSat p f n i).boot = d.boot := rfl
@[simp] theorem Dev.addSat_mbox (d : Dev) (p : Nat) (f : FD) (n i : Nat) : (d.addSat p f n i).mbox = d.mbox := rfl
@[simp] theorem Dev.addSat_rtc (d : Dev) (p : Nat) (f : FD) (n i : Nat) : (d.addSat p f n i).rtc = d.rtc := rfl
@[simp] theorem Dev.addSat_spdm (d : Dev) (p : Nat) (f : FD) (n i : Nat) : (d.addSat p f n i).spdm = d.spdm := rfl
@[simp] theorem Dev.addSat_prompts (d : Dev) (p : Nat) (f : FD) (n i : Nat) : (d.addSat p f n i).prompts = d.prompts := rfl
@[simp] theorem Dev.addSat_nextPrompt (d : Dev) (p : Nat) (f : FD) (n i : Nat) : (d.addSat p f n i).nextPrompt = d.nextPrompt := rfl
@[simp] theorem Dev.addSat_emgTest (d : Dev) (p : Nat) (f : FD) (n i : Nat) : (d.addSat p f n i).emgTest = d.emgTest := rfl
@[simp] theorem Dev.addSat_wakes (d : Dev) (p : Nat) (f : FD) (n i : Nat) : (d.addSat p f n i).wakes = d.wakes := rfl
@[simp] theorem Dev.addSat_doeWaiting (d : Dev) (p : Nat) (f : FD) (n i : Nat) : (d.addSat p f n i).doeWaiting = d.doeWaiting := rfl
@[simp] theorem Dev.addSat_mboxUnread (d : Dev) (p : Nat) (f : FD) (n i : Nat) : (d.addSat p f n i).mboxUnread = d.mboxUnread := rfl
@[simp] theorem Dev.addSat_bmonClr (d : Dev) (p : Nat) (f : FD) (n i : Nat) : (d.addSat p f n i).bmonClr = d.bmonClr := rfl
@[simp] theorem Dev.addSat_latch (d : Dev) (p : Nat) (f : FD) (n i : Nat) : (d.addSat p f n i).latch = d.latch := rfl
@[simp] theorem Dev.addSat_emitted (d : Dev) (p : Nat) (f : FD) (n i : Nat) : (d.addSat p f n i).emitted = d.emitted := rfl
@[simp] theorem Dev.addSat_fresh (d : Dev) (p : Nat) (f : FD) (n i : Nat) : (d.addSat p f n i).fresh = d.fresh := rfl

/-! ### `Dev.w64` -/

@[simp] theorem Dev.w64_act (d : Dev) (p : Nat) (lo hi : FD) (v i : Nat) : (d.w64 p lo hi v i).act = d.act := rfl
@[simp] theorem Dev.w64_errEn (d : Dev) (p : Nat) (lo hi : FD) (v i : Nat) : (d.w64 p lo hi v i).errEn = d.errEn := rfl
@[simp] theorem Dev.w64_pages (d : Dev) (p : Nat) (lo hi : FD) (v i : Nat) : (d.w64 p lo hi v i).pages = d.pages := rfl
@[simp] theorem Dev.w64_held (d : Dev) (p : Nat) (lo hi : FD) (v i : Nat) : (d.w64 p lo hi v i).held = d.held := rfl
@[simp] theorem Dev.w64_hinge (d : Dev) (p : Nat) (lo hi : FD) (v i : Nat) : (d.w64 p lo hi v i).hinge = d.hinge := rfl
@[simp] theorem Dev.w64_led (d : Dev) (p : Nat) (lo hi : FD) (v i : Nat) : (d.w64 p lo hi v i).led = d.led := rfl
@[simp] theorem Dev.w64_flt (d : Dev) (p : Nat) (lo hi : FD) (v i : Nat) : (d.w64 p lo hi v i).flt = d.flt := rfl
@[simp] theorem Dev.w64_fab (d : Dev) (p : Nat) (lo hi : FD) (v i : Nat) : (d.w64 p lo hi v i).fab = d.fab := rfl
@[simp] theorem Dev.w64_per (d : Dev) (p : Nat) (lo hi : FD) (v i : Nat) : (d.w64 p lo hi v i).per = d.per := rfl
@[simp] theorem Dev.w64_irq (d : Dev) (p : Nat) (lo hi : FD) (v i : Nat) : (d.w64 p lo hi v i).irq = d.irq := rfl
@[simp] theorem Dev.w64_fn (d : Dev) (p : Nat) (lo hi : FD) (v i : Nat) : (d.w64 p lo hi v i).fn = d.fn := rfl
@[simp] theorem Dev.w64_mems (d : Dev) (p : Nat) (lo hi : FD) (v i : Nat) : (d.w64 p lo hi v i).mems = d.mems := rfl
@[simp] theorem Dev.w64_mc (d : Dev) (p : Nat) (lo hi : FD) (v i : Nat) : (d.w64 p lo hi v i).mc = d.mc := rfl
@[simp] theorem Dev.w64_hst (d : Dev) (p : Nat) (lo hi : FD) (v i : Nat) : (d.w64 p lo hi v i).hst = d.hst := rfl
@[simp] theorem Dev.w64_rend (d : Dev) (p : Nat) (lo hi : FD) (v i : Nat) : (d.w64 p lo hi v i).rend = d.rend := rfl
@[simp] theorem Dev.w64_disp (d : Dev) (p : Nat) (lo hi : FD) (v i : Nat) : (d.w64 p lo hi v i).disp = d.disp := rfl
@[simp] theorem Dev.w64_tch (d : Dev) (p : Nat) (lo hi : FD) (v i : Nat) : (d.w64 p lo hi v i).tch = d.tch := rfl
@[simp] theorem Dev.w64_hap (d : Dev) (p : Nat) (lo hi : FD) (v i : Nat) : (d.w64 p lo hi v i).hap = d.hap := rfl
@[simp] theorem Dev.w64_aud (d : Dev) (p : Nat) (lo hi : FD) (v i : Nat) : (d.w64 p lo hi v i).aud = d.aud := rfl
@[simp] theorem Dev.w64_ring (d : Dev) (p : Nat) (lo hi : FD) (v i : Nat) : (d.w64 p lo hi v i).ring = d.ring := rfl
@[simp] theorem Dev.w64_pm (d : Dev) (p : Nat) (lo hi : FD) (v i : Nat) : (d.w64 p lo hi v i).pm = d.pm := rfl
@[simp] theorem Dev.w64_boot (d : Dev) (p : Nat) (lo hi : FD) (v i : Nat) : (d.w64 p lo hi v i).boot = d.boot := rfl
@[simp] theorem Dev.w64_mbox (d : Dev) (p : Nat) (lo hi : FD) (v i : Nat) : (d.w64 p lo hi v i).mbox = d.mbox := rfl
@[simp] theorem Dev.w64_rtc (d : Dev) (p : Nat) (lo hi : FD) (v i : Nat) : (d.w64 p lo hi v i).rtc = d.rtc := rfl
@[simp] theorem Dev.w64_spdm (d : Dev) (p : Nat) (lo hi : FD) (v i : Nat) : (d.w64 p lo hi v i).spdm = d.spdm := rfl
@[simp] theorem Dev.w64_prompts (d : Dev) (p : Nat) (lo hi : FD) (v i : Nat) : (d.w64 p lo hi v i).prompts = d.prompts := rfl
@[simp] theorem Dev.w64_nextPrompt (d : Dev) (p : Nat) (lo hi : FD) (v i : Nat) : (d.w64 p lo hi v i).nextPrompt = d.nextPrompt := rfl
@[simp] theorem Dev.w64_emgTest (d : Dev) (p : Nat) (lo hi : FD) (v i : Nat) : (d.w64 p lo hi v i).emgTest = d.emgTest := rfl
@[simp] theorem Dev.w64_wakes (d : Dev) (p : Nat) (lo hi : FD) (v i : Nat) : (d.w64 p lo hi v i).wakes = d.wakes := rfl
@[simp] theorem Dev.w64_doeWaiting (d : Dev) (p : Nat) (lo hi : FD) (v i : Nat) : (d.w64 p lo hi v i).doeWaiting = d.doeWaiting := rfl
@[simp] theorem Dev.w64_mboxUnread (d : Dev) (p : Nat) (lo hi : FD) (v i : Nat) : (d.w64 p lo hi v i).mboxUnread = d.mboxUnread := rfl
@[simp] theorem Dev.w64_bmonClr (d : Dev) (p : Nat) (lo hi : FD) (v i : Nat) : (d.w64 p lo hi v i).bmonClr = d.bmonClr := rfl
@[simp] theorem Dev.w64_latch (d : Dev) (p : Nat) (lo hi : FD) (v i : Nat) : (d.w64 p lo hi v i).latch = d.latch := rfl
@[simp] theorem Dev.w64_emitted (d : Dev) (p : Nat) (lo hi : FD) (v i : Nat) : (d.w64 p lo hi v i).emitted = d.emitted := rfl
@[simp] theorem Dev.w64_fresh (d : Dev) (p : Nat) (lo hi : FD) (v i : Nat) : (d.w64 p lo hi v i).fresh = d.fresh := rfl

/-! ### `Dev.err` -/

@[simp] theorem Dev.err_act (d : Dev) (p b : Nat) : (d.err p b).act = d.act := by unfold Dev.err; split <;> rfl
@[simp] theorem Dev.err_pages (d : Dev) (p b : Nat) : (d.err p b).pages = d.pages := by unfold Dev.err; split <;> rfl
@[simp] theorem Dev.err_held (d : Dev) (p b : Nat) : (d.err p b).held = d.held := by unfold Dev.err; split <;> rfl
@[simp] theorem Dev.err_hinge (d : Dev) (p b : Nat) : (d.err p b).hinge = d.hinge := by unfold Dev.err; split <;> rfl
@[simp] theorem Dev.err_led (d : Dev) (p b : Nat) : (d.err p b).led = d.led := by unfold Dev.err; split <;> rfl
@[simp] theorem Dev.err_flt (d : Dev) (p b : Nat) : (d.err p b).flt = d.flt := by unfold Dev.err; split <;> rfl
@[simp] theorem Dev.err_fab (d : Dev) (p b : Nat) : (d.err p b).fab = d.fab := by unfold Dev.err; split <;> rfl
@[simp] theorem Dev.err_per (d : Dev) (p b : Nat) : (d.err p b).per = d.per := by unfold Dev.err; split <;> rfl
@[simp] theorem Dev.err_irq (d : Dev) (p b : Nat) : (d.err p b).irq = d.irq := by unfold Dev.err; split <;> rfl
@[simp] theorem Dev.err_fn (d : Dev) (p b : Nat) : (d.err p b).fn = d.fn := by unfold Dev.err; split <;> rfl
@[simp] theorem Dev.err_mems (d : Dev) (p b : Nat) : (d.err p b).mems = d.mems := by unfold Dev.err; split <;> rfl
@[simp] theorem Dev.err_mc (d : Dev) (p b : Nat) : (d.err p b).mc = d.mc := by unfold Dev.err; split <;> rfl
@[simp] theorem Dev.err_hst (d : Dev) (p b : Nat) : (d.err p b).hst = d.hst := by unfold Dev.err; split <;> rfl
@[simp] theorem Dev.err_rend (d : Dev) (p b : Nat) : (d.err p b).rend = d.rend := by unfold Dev.err; split <;> rfl
@[simp] theorem Dev.err_disp (d : Dev) (p b : Nat) : (d.err p b).disp = d.disp := by unfold Dev.err; split <;> rfl
@[simp] theorem Dev.err_tch (d : Dev) (p b : Nat) : (d.err p b).tch = d.tch := by unfold Dev.err; split <;> rfl
@[simp] theorem Dev.err_hap (d : Dev) (p b : Nat) : (d.err p b).hap = d.hap := by unfold Dev.err; split <;> rfl
@[simp] theorem Dev.err_aud (d : Dev) (p b : Nat) : (d.err p b).aud = d.aud := by unfold Dev.err; split <;> rfl
@[simp] theorem Dev.err_ring (d : Dev) (p b : Nat) : (d.err p b).ring = d.ring := by unfold Dev.err; split <;> rfl
@[simp] theorem Dev.err_pm (d : Dev) (p b : Nat) : (d.err p b).pm = d.pm := by unfold Dev.err; split <;> rfl
@[simp] theorem Dev.err_boot (d : Dev) (p b : Nat) : (d.err p b).boot = d.boot := by unfold Dev.err; split <;> rfl
@[simp] theorem Dev.err_mbox (d : Dev) (p b : Nat) : (d.err p b).mbox = d.mbox := by unfold Dev.err; split <;> rfl
@[simp] theorem Dev.err_rtc (d : Dev) (p b : Nat) : (d.err p b).rtc = d.rtc := by unfold Dev.err; split <;> rfl
@[simp] theorem Dev.err_spdm (d : Dev) (p b : Nat) : (d.err p b).spdm = d.spdm := by unfold Dev.err; split <;> rfl
@[simp] theorem Dev.err_prompts (d : Dev) (p b : Nat) : (d.err p b).prompts = d.prompts := by unfold Dev.err; split <;> rfl
@[simp] theorem Dev.err_nextPrompt (d : Dev) (p b : Nat) : (d.err p b).nextPrompt = d.nextPrompt := by unfold Dev.err; split <;> rfl
@[simp] theorem Dev.err_emgTest (d : Dev) (p b : Nat) : (d.err p b).emgTest = d.emgTest := by unfold Dev.err; split <;> rfl
@[simp] theorem Dev.err_wakes (d : Dev) (p b : Nat) : (d.err p b).wakes = d.wakes := by unfold Dev.err; split <;> rfl
@[simp] theorem Dev.err_doeWaiting (d : Dev) (p b : Nat) : (d.err p b).doeWaiting = d.doeWaiting := by unfold Dev.err; split <;> rfl
@[simp] theorem Dev.err_mboxUnread (d : Dev) (p b : Nat) : (d.err p b).mboxUnread = d.mboxUnread := by unfold Dev.err; split <;> rfl
@[simp] theorem Dev.err_bmonClr (d : Dev) (p b : Nat) : (d.err p b).bmonClr = d.bmonClr := by unfold Dev.err; split <;> rfl
@[simp] theorem Dev.err_latch (d : Dev) (p b : Nat) : (d.err p b).latch = d.latch := by unfold Dev.err; split <;> rfl
@[simp] theorem Dev.err_emitted (d : Dev) (p b : Nat) : (d.err p b).emitted = d.emitted := by unfold Dev.err; split <;> rfl
@[simp] theorem Dev.err_fresh (d : Dev) (p b : Nat) : (d.err p b).fresh = d.fresh := by unfold Dev.err; split <;> rfl

/-! ### `Dev.emit` -/

@[simp] theorem Dev.emit_regs (d : Dev) (o : Out) : (d.emit o).regs = d.regs := rfl
@[simp] theorem Dev.emit_act (d : Dev) (o : Out) : (d.emit o).act = d.act := rfl
@[simp] theorem Dev.emit_errEn (d : Dev) (o : Out) : (d.emit o).errEn = d.errEn := rfl
@[simp] theorem Dev.emit_pages (d : Dev) (o : Out) : (d.emit o).pages = d.pages := rfl
@[simp] theorem Dev.emit_held (d : Dev) (o : Out) : (d.emit o).held = d.held := rfl
@[simp] theorem Dev.emit_hinge (d : Dev) (o : Out) : (d.emit o).hinge = d.hinge := rfl
@[simp] theorem Dev.emit_led (d : Dev) (o : Out) : (d.emit o).led = d.led := rfl
@[simp] theorem Dev.emit_flt (d : Dev) (o : Out) : (d.emit o).flt = d.flt := rfl
@[simp] theorem Dev.emit_fab (d : Dev) (o : Out) : (d.emit o).fab = d.fab := rfl
@[simp] theorem Dev.emit_per (d : Dev) (o : Out) : (d.emit o).per = d.per := rfl
@[simp] theorem Dev.emit_irq (d : Dev) (o : Out) : (d.emit o).irq = d.irq := rfl
@[simp] theorem Dev.emit_fn (d : Dev) (o : Out) : (d.emit o).fn = d.fn := rfl
@[simp] theorem Dev.emit_mems (d : Dev) (o : Out) : (d.emit o).mems = d.mems := rfl
@[simp] theorem Dev.emit_mc (d : Dev) (o : Out) : (d.emit o).mc = d.mc := rfl
@[simp] theorem Dev.emit_hst (d : Dev) (o : Out) : (d.emit o).hst = d.hst := rfl
@[simp] theorem Dev.emit_rend (d : Dev) (o : Out) : (d.emit o).rend = d.rend := rfl
@[simp] theorem Dev.emit_disp (d : Dev) (o : Out) : (d.emit o).disp = d.disp := rfl
@[simp] theorem Dev.emit_tch (d : Dev) (o : Out) : (d.emit o).tch = d.tch := rfl
@[simp] theorem Dev.emit_hap (d : Dev) (o : Out) : (d.emit o).hap = d.hap := rfl
@[simp] theorem Dev.emit_aud (d : Dev) (o : Out) : (d.emit o).aud = d.aud := rfl
@[simp] theorem Dev.emit_ring (d : Dev) (o : Out) : (d.emit o).ring = d.ring := rfl
@[simp] theorem Dev.emit_pm (d : Dev) (o : Out) : (d.emit o).pm = d.pm := rfl
@[simp] theorem Dev.emit_boot (d : Dev) (o : Out) : (d.emit o).boot = d.boot := rfl
@[simp] theorem Dev.emit_mbox (d : Dev) (o : Out) : (d.emit o).mbox = d.mbox := rfl
@[simp] theorem Dev.emit_rtc (d : Dev) (o : Out) : (d.emit o).rtc = d.rtc := rfl
@[simp] theorem Dev.emit_spdm (d : Dev) (o : Out) : (d.emit o).spdm = d.spdm := rfl
@[simp] theorem Dev.emit_prompts (d : Dev) (o : Out) : (d.emit o).prompts = d.prompts := rfl
@[simp] theorem Dev.emit_nextPrompt (d : Dev) (o : Out) : (d.emit o).nextPrompt = d.nextPrompt := rfl
@[simp] theorem Dev.emit_emgTest (d : Dev) (o : Out) : (d.emit o).emgTest = d.emgTest := rfl
@[simp] theorem Dev.emit_wakes (d : Dev) (o : Out) : (d.emit o).wakes = d.wakes := rfl
@[simp] theorem Dev.emit_doeWaiting (d : Dev) (o : Out) : (d.emit o).doeWaiting = d.doeWaiting := rfl
@[simp] theorem Dev.emit_mboxUnread (d : Dev) (o : Out) : (d.emit o).mboxUnread = d.mboxUnread := rfl
@[simp] theorem Dev.emit_bmonClr (d : Dev) (o : Out) : (d.emit o).bmonClr = d.bmonClr := rfl
@[simp] theorem Dev.emit_latch (d : Dev) (o : Out) : (d.emit o).latch = d.latch := rfl
@[simp] theorem Dev.emit_fresh (d : Dev) (o : Out) : (d.emit o).fresh = d.fresh := rfl

/-! ### `Dev.tick` -/

@[simp] theorem Dev.tick_regs (d : Dev) : (d.tick).regs = d.regs := rfl
@[simp] theorem Dev.tick_act (d : Dev) : (d.tick).act = d.act := rfl
@[simp] theorem Dev.tick_errEn (d : Dev) : (d.tick).errEn = d.errEn := rfl
@[simp] theorem Dev.tick_pages (d : Dev) : (d.tick).pages = d.pages := rfl
@[simp] theorem Dev.tick_held (d : Dev) : (d.tick).held = d.held := rfl
@[simp] theorem Dev.tick_hinge (d : Dev) : (d.tick).hinge = d.hinge := rfl
@[simp] theorem Dev.tick_led (d : Dev) : (d.tick).led = d.led := rfl
@[simp] theorem Dev.tick_flt (d : Dev) : (d.tick).flt = d.flt := rfl
@[simp] theorem Dev.tick_fab (d : Dev) : (d.tick).fab = d.fab := rfl
@[simp] theorem Dev.tick_per (d : Dev) : (d.tick).per = d.per := rfl
@[simp] theorem Dev.tick_irq (d : Dev) : (d.tick).irq = d.irq := rfl
@[simp] theorem Dev.tick_fn (d : Dev) : (d.tick).fn = d.fn := rfl
@[simp] theorem Dev.tick_mems (d : Dev) : (d.tick).mems = d.mems := rfl
@[simp] theorem Dev.tick_mc (d : Dev) : (d.tick).mc = d.mc := rfl
@[simp] theorem Dev.tick_hst (d : Dev) : (d.tick).hst = d.hst := rfl
@[simp] theorem Dev.tick_rend (d : Dev) : (d.tick).rend = d.rend := rfl
@[simp] theorem Dev.tick_disp (d : Dev) : (d.tick).disp = d.disp := rfl
@[simp] theorem Dev.tick_tch (d : Dev) : (d.tick).tch = d.tch := rfl
@[simp] theorem Dev.tick_hap (d : Dev) : (d.tick).hap = d.hap := rfl
@[simp] theorem Dev.tick_aud (d : Dev) : (d.tick).aud = d.aud := rfl
@[simp] theorem Dev.tick_ring (d : Dev) : (d.tick).ring = d.ring := rfl
@[simp] theorem Dev.tick_pm (d : Dev) : (d.tick).pm = d.pm := rfl
@[simp] theorem Dev.tick_boot (d : Dev) : (d.tick).boot = d.boot := rfl
@[simp] theorem Dev.tick_mbox (d : Dev) : (d.tick).mbox = d.mbox := rfl
@[simp] theorem Dev.tick_rtc (d : Dev) : (d.tick).rtc = d.rtc := rfl
@[simp] theorem Dev.tick_spdm (d : Dev) : (d.tick).spdm = d.spdm := rfl
@[simp] theorem Dev.tick_prompts (d : Dev) : (d.tick).prompts = d.prompts := rfl
@[simp] theorem Dev.tick_nextPrompt (d : Dev) : (d.tick).nextPrompt = d.nextPrompt := rfl
@[simp] theorem Dev.tick_emgTest (d : Dev) : (d.tick).emgTest = d.emgTest := rfl
@[simp] theorem Dev.tick_wakes (d : Dev) : (d.tick).wakes = d.wakes := rfl
@[simp] theorem Dev.tick_doeWaiting (d : Dev) : (d.tick).doeWaiting = d.doeWaiting := rfl
@[simp] theorem Dev.tick_mboxUnread (d : Dev) : (d.tick).mboxUnread = d.mboxUnread := rfl
@[simp] theorem Dev.tick_bmonClr (d : Dev) : (d.tick).bmonClr = d.bmonClr := rfl
@[simp] theorem Dev.tick_latch (d : Dev) : (d.tick).latch = d.latch := rfl
@[simp] theorem Dev.tick_emitted (d : Dev) : (d.tick).emitted = d.emitted := rfl

/-! ### `Dev.setCtl` -/

@[simp] theorem Dev.setCtl_regs (d : Dev) (p : Nat) (c : PageCtl) : (d.setCtl p c).regs = d.regs := rfl
@[simp] theorem Dev.setCtl_act (d : Dev) (p : Nat) (c : PageCtl) : (d.setCtl p c).act = d.act := rfl
@[simp] theorem Dev.setCtl_errEn (d : Dev) (p : Nat) (c : PageCtl) : (d.setCtl p c).errEn = d.errEn := rfl
@[simp] theorem Dev.setCtl_held (d : Dev) (p : Nat) (c : PageCtl) : (d.setCtl p c).held = d.held := rfl
@[simp] theorem Dev.setCtl_hinge (d : Dev) (p : Nat) (c : PageCtl) : (d.setCtl p c).hinge = d.hinge := rfl
@[simp] theorem Dev.setCtl_led (d : Dev) (p : Nat) (c : PageCtl) : (d.setCtl p c).led = d.led := rfl
@[simp] theorem Dev.setCtl_flt (d : Dev) (p : Nat) (c : PageCtl) : (d.setCtl p c).flt = d.flt := rfl
@[simp] theorem Dev.setCtl_fab (d : Dev) (p : Nat) (c : PageCtl) : (d.setCtl p c).fab = d.fab := rfl
@[simp] theorem Dev.setCtl_per (d : Dev) (p : Nat) (c : PageCtl) : (d.setCtl p c).per = d.per := rfl
@[simp] theorem Dev.setCtl_irq (d : Dev) (p : Nat) (c : PageCtl) : (d.setCtl p c).irq = d.irq := rfl
@[simp] theorem Dev.setCtl_fn (d : Dev) (p : Nat) (c : PageCtl) : (d.setCtl p c).fn = d.fn := rfl
@[simp] theorem Dev.setCtl_mems (d : Dev) (p : Nat) (c : PageCtl) : (d.setCtl p c).mems = d.mems := rfl
@[simp] theorem Dev.setCtl_mc (d : Dev) (p : Nat) (c : PageCtl) : (d.setCtl p c).mc = d.mc := rfl
@[simp] theorem Dev.setCtl_hst (d : Dev) (p : Nat) (c : PageCtl) : (d.setCtl p c).hst = d.hst := rfl
@[simp] theorem Dev.setCtl_rend (d : Dev) (p : Nat) (c : PageCtl) : (d.setCtl p c).rend = d.rend := rfl
@[simp] theorem Dev.setCtl_disp (d : Dev) (p : Nat) (c : PageCtl) : (d.setCtl p c).disp = d.disp := rfl
@[simp] theorem Dev.setCtl_tch (d : Dev) (p : Nat) (c : PageCtl) : (d.setCtl p c).tch = d.tch := rfl
@[simp] theorem Dev.setCtl_hap (d : Dev) (p : Nat) (c : PageCtl) : (d.setCtl p c).hap = d.hap := rfl
@[simp] theorem Dev.setCtl_aud (d : Dev) (p : Nat) (c : PageCtl) : (d.setCtl p c).aud = d.aud := rfl
@[simp] theorem Dev.setCtl_ring (d : Dev) (p : Nat) (c : PageCtl) : (d.setCtl p c).ring = d.ring := rfl
@[simp] theorem Dev.setCtl_pm (d : Dev) (p : Nat) (c : PageCtl) : (d.setCtl p c).pm = d.pm := rfl
@[simp] theorem Dev.setCtl_boot (d : Dev) (p : Nat) (c : PageCtl) : (d.setCtl p c).boot = d.boot := rfl
@[simp] theorem Dev.setCtl_mbox (d : Dev) (p : Nat) (c : PageCtl) : (d.setCtl p c).mbox = d.mbox := rfl
@[simp] theorem Dev.setCtl_rtc (d : Dev) (p : Nat) (c : PageCtl) : (d.setCtl p c).rtc = d.rtc := rfl
@[simp] theorem Dev.setCtl_spdm (d : Dev) (p : Nat) (c : PageCtl) : (d.setCtl p c).spdm = d.spdm := rfl
@[simp] theorem Dev.setCtl_prompts (d : Dev) (p : Nat) (c : PageCtl) : (d.setCtl p c).prompts = d.prompts := rfl
@[simp] theorem Dev.setCtl_nextPrompt (d : Dev) (p : Nat) (c : PageCtl) : (d.setCtl p c).nextPrompt = d.nextPrompt := rfl
@[simp] theorem Dev.setCtl_emgTest (d : Dev) (p : Nat) (c : PageCtl) : (d.setCtl p c).emgTest = d.emgTest := rfl
@[simp] theorem Dev.setCtl_wakes (d : Dev) (p : Nat) (c : PageCtl) : (d.setCtl p c).wakes = d.wakes := rfl
@[simp] theorem Dev.setCtl_doeWaiting (d : Dev) (p : Nat) (c : PageCtl) : (d.setCtl p c).doeWaiting = d.doeWaiting := rfl
@[simp] theorem Dev.setCtl_mboxUnread (d : Dev) (p : Nat) (c : PageCtl) : (d.setCtl p c).mboxUnread = d.mboxUnread := rfl
@[simp] theorem Dev.setCtl_bmonClr (d : Dev) (p : Nat) (c : PageCtl) : (d.setCtl p c).bmonClr = d.bmonClr := rfl
@[simp] theorem Dev.setCtl_latch (d : Dev) (p : Nat) (c : PageCtl) : (d.setCtl p c).latch = d.latch := rfl
@[simp] theorem Dev.setCtl_emitted (d : Dev) (p : Nat) (c : PageCtl) : (d.setCtl p c).emitted = d.emitted := rfl
@[simp] theorem Dev.setCtl_fresh (d : Dev) (p : Nat) (c : PageCtl) : (d.setCtl p c).fresh = d.fresh := rfl

/-! ### `Dev.cellWr` -/

@[simp] theorem Dev.cellWr_regs (d : Dev) (a v : Nat) : (d.cellWr a v).regs = d.regs := rfl
@[simp] theorem Dev.cellWr_act (d : Dev) (a v : Nat) : (d.cellWr a v).act = d.act := rfl
@[simp] theorem Dev.cellWr_errEn (d : Dev) (a v : Nat) : (d.cellWr a v).errEn = d.errEn := rfl
@[simp] theorem Dev.cellWr_pages (d : Dev) (a v : Nat) : (d.cellWr a v).pages = d.pages := rfl
@[simp] theorem Dev.cellWr_held (d : Dev) (a v : Nat) : (d.cellWr a v).held = d.held := rfl
@[simp] theorem Dev.cellWr_hinge (d : Dev) (a v : Nat) : (d.cellWr a v).hinge = d.hinge := rfl
@[simp] theorem Dev.cellWr_led (d : Dev) (a v : Nat) : (d.cellWr a v).led = d.led := rfl
@[simp] theorem Dev.cellWr_flt (d : Dev) (a v : Nat) : (d.cellWr a v).flt = d.flt := rfl
@[simp] theorem Dev.cellWr_fab (d : Dev) (a v : Nat) : (d.cellWr a v).fab = d.fab := rfl
@[simp] theorem Dev.cellWr_per (d : Dev) (a v : Nat) : (d.cellWr a v).per = d.per := rfl
@[simp] theorem Dev.cellWr_irq (d : Dev) (a v : Nat) : (d.cellWr a v).irq = d.irq := rfl
@[simp] theorem Dev.cellWr_fn (d : Dev) (a v : Nat) : (d.cellWr a v).fn = d.fn := rfl
@[simp] theorem Dev.cellWr_mc (d : Dev) (a v : Nat) : (d.cellWr a v).mc = d.mc := rfl
@[simp] theorem Dev.cellWr_hst (d : Dev) (a v : Nat) : (d.cellWr a v).hst = d.hst := rfl
@[simp] theorem Dev.cellWr_rend (d : Dev) (a v : Nat) : (d.cellWr a v).rend = d.rend := rfl
@[simp] theorem Dev.cellWr_disp (d : Dev) (a v : Nat) : (d.cellWr a v).disp = d.disp := rfl
@[simp] theorem Dev.cellWr_tch (d : Dev) (a v : Nat) : (d.cellWr a v).tch = d.tch := rfl
@[simp] theorem Dev.cellWr_hap (d : Dev) (a v : Nat) : (d.cellWr a v).hap = d.hap := rfl
@[simp] theorem Dev.cellWr_aud (d : Dev) (a v : Nat) : (d.cellWr a v).aud = d.aud := rfl
@[simp] theorem Dev.cellWr_ring (d : Dev) (a v : Nat) : (d.cellWr a v).ring = d.ring := rfl
@[simp] theorem Dev.cellWr_pm (d : Dev) (a v : Nat) : (d.cellWr a v).pm = d.pm := rfl
@[simp] theorem Dev.cellWr_boot (d : Dev) (a v : Nat) : (d.cellWr a v).boot = d.boot := rfl
@[simp] theorem Dev.cellWr_mbox (d : Dev) (a v : Nat) : (d.cellWr a v).mbox = d.mbox := rfl
@[simp] theorem Dev.cellWr_rtc (d : Dev) (a v : Nat) : (d.cellWr a v).rtc = d.rtc := rfl
@[simp] theorem Dev.cellWr_spdm (d : Dev) (a v : Nat) : (d.cellWr a v).spdm = d.spdm := rfl
@[simp] theorem Dev.cellWr_prompts (d : Dev) (a v : Nat) : (d.cellWr a v).prompts = d.prompts := rfl
@[simp] theorem Dev.cellWr_nextPrompt (d : Dev) (a v : Nat) : (d.cellWr a v).nextPrompt = d.nextPrompt := rfl
@[simp] theorem Dev.cellWr_emgTest (d : Dev) (a v : Nat) : (d.cellWr a v).emgTest = d.emgTest := rfl
@[simp] theorem Dev.cellWr_wakes (d : Dev) (a v : Nat) : (d.cellWr a v).wakes = d.wakes := rfl
@[simp] theorem Dev.cellWr_doeWaiting (d : Dev) (a v : Nat) : (d.cellWr a v).doeWaiting = d.doeWaiting := rfl
@[simp] theorem Dev.cellWr_mboxUnread (d : Dev) (a v : Nat) : (d.cellWr a v).mboxUnread = d.mboxUnread := rfl
@[simp] theorem Dev.cellWr_bmonClr (d : Dev) (a v : Nat) : (d.cellWr a v).bmonClr = d.bmonClr := rfl
@[simp] theorem Dev.cellWr_latch (d : Dev) (a v : Nat) : (d.cellWr a v).latch = d.latch := rfl
@[simp] theorem Dev.cellWr_emitted (d : Dev) (a v : Nat) : (d.cellWr a v).emitted = d.emitted := rfl
@[simp] theorem Dev.cellWr_fresh (d : Dev) (a v : Nat) : (d.cellWr a v).fresh = d.fresh := rfl

/-! ### What an update sets -/

@[simp] theorem Dev.emit_emitted (d : Dev) (o : Out) : (d.emit o).emitted = d.emitted ++ [o] := rfl
@[simp] theorem Dev.tick_fresh (d : Dev) : d.tick.fresh = d.fresh + 1 := rfl
@[simp] theorem Dev.r_emit (d : Dev) (o : Out) (p : Nat) (f : FD) (i : Nat) : (d.emit o).r p f i = d.r p f i := rfl
@[simp] theorem Dev.r_wa (d : Dev) (q : Nat) (g : FD) (v j p : Nat) (f : FD) (i : Nat) : (d.wa q g v j).r p f i = d.r p f i := rfl
@[simp] theorem Dev.a_w (d : Dev) (q : Nat) (g : FD) (v j p : Nat) (f : FD) (i : Nat) : (d.w q g v j).a p f i = d.a p f i := rfl
@[simp] theorem Dev.r_setCtl (d : Dev) (q : Nat) (c : PageCtl) (p : Nat) (f : FD) (i : Nat) : (d.setCtl q c).r p f i = d.r p f i := rfl
@[simp] theorem Dev.r_cellWr (d : Dev) (a v p : Nat) (f : FD) (i : Nat) : (d.cellWr a v).r p f i = d.r p f i := rfl
@[simp] theorem Dev.r_tick (d : Dev) (p : Nat) (f : FD) (i : Nat) : d.tick.r p f i = d.r p f i := rfl

end Sys2Proof.Machine
end

