-- ==== Sys2Proof/Laws/Tab.lean ====
section
/-! SUPPORT. The laws of sparse tables, of register fields and of memories: what is read after a write, and the canonical
form. -/

namespace Sys2Proof

variable {α : Type}

theorem tabFind_del_same (t : Tab α) (k : Nat) : tabFind (tabDel t k) k = none := by
  induction t with
  | nil => rfl
  | cons e r ih =>
    obtain ⟨a, x⟩ := e
    by_cases h : a = k <;> simp [tabDel, tabFind, h, ih]

theorem tabFind_del_other (t : Tab α) {k j : Nat} (h : j ≠ k) : tabFind (tabDel t k) j = tabFind t j := by
  induction t with
  | nil => rfl
  | cons e r ih =>
    obtain ⟨a, x⟩ := e
    by_cases ha : a = k
    · have : a ≠ j := fun c => h (c ▸ ha)
      simp [tabDel, tabFind, ha, ih, ha ▸ this]
    · by_cases hj : a = j <;> simp [tabDel, tabFind, ha, hj, ih]
      all_goals (subst hj; simp [ha, tabFind])

theorem tabFind_ins_same (t : Tab α) (k : Nat) (v : α) : tabFind (tabIns t k v) k = some v := by
  induction t with
  | nil => simp [tabIns, tabFind]
  | cons e r ih =>
    obtain ⟨a, x⟩ := e
    by_cases h1 : k < a
    · simp [tabIns, tabFind, h1]
    · by_cases h2 : a = k <;> simp [tabIns, tabFind, h1, h2, ih]

theorem tabFind_ins_other (t : Tab α) {k j : Nat} (v : α) (h : j ≠ k) : tabFind (tabIns t k v) j = tabFind t j := by
  have hk : k ≠ j := fun c => h c.symm
  induction t with
  | nil => simp [tabIns, tabFind, hk]
  | cons e r ih =>
    obtain ⟨a, x⟩ := e
    by_cases h1 : k < a
    · simp [tabIns, tabFind, h1, hk]
    · by_cases h2 : a = k
      · subst h2; simp [tabIns, tabFind, hk]
      · by_cases h3 : a = j
        · subst h3; simp [tabIns, tabFind, h1, h2]
        · simp [tabIns, tabFind, h1, h2, h3, ih]

/-- The value of a key after it is written. -/
theorem tabGet_put_same [DecidableEq α] (t : Tab α) (d : α) (k : Nat) (v : α) : tabGet (tabPut t d k v) d k = v := by
  by_cases h : v = d <;> simp [tabPut, tabGet, h, tabFind_del_same, tabFind_ins_same]

/-- The value of a key after another one is written. -/
theorem tabGet_put_other [DecidableEq α] (t : Tab α) (d d' : α) {k j : Nat} (v : α) (h : j ≠ k) :
    tabGet (tabPut t d k v) d' j = tabGet t d' j := by
  by_cases hv : v = d <;> simp [tabPut, tabGet, hv, tabFind_del_other t h, tabFind_ins_other t v h]

/-! ### The canonical form -/

theorem tabSorted_weaken : ∀ (t : Tab α) {a b : Nat}, b ≤ a → tabSorted (some a) t = true → tabSorted (some b) t = true
  | [], _, _, _, _ => rfl
  | (x, _) :: r, a, b, hb, h => by
    simp only [tabSorted, Bool.and_eq_true, decide_eq_true_eq] at h ⊢
    exact ⟨by omega, h.2⟩

theorem tabSorted_del : ∀ (t : Tab α) (b : Option Nat) (k : Nat), tabSorted b t = true → tabSorted b (tabDel t k) = true
  | [], _, _, _ => rfl
  | (a, x) :: r, b, k, h => by
    simp only [tabSorted, Bool.and_eq_true] at h
    have ih := tabSorted_del r (some a) k h.2
    by_cases ha : a = k
    · simp only [tabDel, ha, if_true]
      subst ha
      match b, h.1 with
      | none, _ =>
        cases hd : tabDel r a with
        | nil => rfl
        | cons e t =>
          rw [hd] at ih
          obtain ⟨c, y⟩ := e
          simp only [tabSorted, Bool.and_eq_true, decide_eq_true_eq, true_and] at ih ⊢
          exact ih.2
      | some n, hn =>
        exact tabSorted_weaken _ (by have := of_decide_eq_true hn; omega) ih
    · simp only [tabDel, ha, if_false, tabSorted, Bool.and_eq_true]
      exact ⟨h.1, ih⟩

theorem tabSorted_ins_some : ∀ (t : Tab α) (b k : Nat) (v : α), tabSorted (some b) t = true → b < k →
    tabSorted (some b) (tabIns t k v) = true
  | [], b, k, v, _, hb => by simp [tabIns, tabSorted, hb]
  | (a, x) :: r, b, k, v, h, hb => by
    simp only [tabSorted, Bool.and_eq_true, decide_eq_true_eq] at h
    by_cases h1 : k < a
    · simp [tabIns, tabSorted, h1, h.2, hb]
    · by_cases h2 : a = k
      · subst h2; simp [tabIns, tabSorted, h.2, hb]
      · simp [tabIns, tabSorted, h1, h2, tabSorted_ins_some r a k v h.2 (by omega), h.1]

theorem tabSorted_ins (t : Tab α) (k : Nat) (v : α) (h : tabSorted none t = true) :
    tabSorted none (tabIns t k v) = true := by
  cases t with
  | nil => rfl
  | cons e r =>
    obtain ⟨a, x⟩ := e
    simp only [tabSorted, Bool.true_and] at h
    by_cases h1 : k < a
    · simp [tabIns, tabSorted, h1, h]
    · by_cases h2 : a = k
      · subst h2; simp [tabIns, tabSorted, h]
      · simp [tabIns, tabSorted, h1, h2, tabSorted_ins_some r a k v h (by omega)]

theorem all_del (p : Nat × α → Bool) : ∀ (t : Tab α) (k : Nat), t.all p = true → (tabDel t k).all p = true
  | [], _, _ => rfl
  | (a, x) :: r, k, h => by
    simp only [List.all_cons, Bool.and_eq_true] at h
    by_cases ha : a = k <;> simp only [tabDel, ha, if_true, if_false, List.all_cons, Bool.and_eq_true]
    · exact all_del p r k h.2
    · exact ⟨h.1, all_del p r k h.2⟩

theorem all_ins (p : Nat × α → Bool) : ∀ (t : Tab α) (k : Nat) (v : α), t.all p = true → p (k, v) = true →
    (tabIns t k v).all p = true
  | [], k, v, _, hv => by simp [tabIns, hv]
  | (a, x) :: r, k, v, h, hv => by
    simp only [List.all_cons, Bool.and_eq_true] at h
    by_cases h1 : k < a
    · simp only [tabIns, h1, if_true, List.all_cons, Bool.and_eq_true]
      exact ⟨hv, h.1, h.2⟩
    · by_cases h2 : a = k
      · simp only [tabIns, h2, Nat.lt_irrefl, if_true, if_false, List.all_cons, Bool.and_eq_true]
        exact ⟨hv, h.2⟩
      · simp only [tabIns, h1, h2, if_false, List.all_cons, Bool.and_eq_true]
        exact ⟨h.1, all_ins p r k v h.2 hv⟩

/-- A write keeps the canonical form of a table. -/
theorem tabOk_put [DecidableEq α] (t : Tab α) (d : α) (k : Nat) (v : α) (h : tabOk t d = true) :
    tabOk (tabPut t d k v) d = true := by
  simp only [tabOk, Bool.and_eq_true] at h ⊢
  by_cases hv : v = d
  · simp only [tabPut, hv, if_true]
    exact ⟨tabSorted_del t none k h.1, all_del _ t k h.2⟩
  · simp only [tabPut, hv, if_false]
    exact ⟨tabSorted_ins t k v h.1, all_ins _ t k v h.2 (by simpa using hv)⟩

end Sys2Proof

namespace Sys2Proof.Machine

open Sys2Proof

/-! ### Register fields -/

/-- A field after it is written holds the value, cut to its width. -/
theorem r_w_same (d : Dev) (p : Nat) (f : FD) (v i : Nat) : (d.w p f v i).r p f i = v % 2 ^ f.w :=
  tabGet_put_same _ _ _ _

/-- A field of another key is not touched. -/
theorem r_w_other (d : Dev) (p q : Nat) (f g : FD) (v i j : Nat) (h : fieldKey q g j ≠ fieldKey p f i) :
    (d.w p f v i).r q g j = d.r q g j :=
  tabGet_put_other _ _ _ _ h

/-- A field of another page is not touched, when the written field lies within its page. -/
theorem fieldKey_page (p : Nat) (f : FD) (i : Nat) (ho : f.at i * 8 + f.lo < 32768) :
    keyPage (fieldKey p f i) = p := by
  unfold keyPage fieldKey; omega

theorem r_w_page (d : Dev) (p q : Nat) (f g : FD) (v i j : Nat) (hf : f.at i * 8 + f.lo < 32768)
    (hg : g.at j * 8 + g.lo < 32768) (h : q ≠ p) : (d.w p f v i).r q g j = d.r q g j :=
  r_w_other d p q f g v i j (fun c => h (by rw [← fieldKey_page q g j hg, ← fieldKey_page p f i hf, c]))

/-! ### Memories -/

/-- A byte after it is written. -/
theorem memRd_memWr_same (m : List Host.Cell) (a v : Nat) : memRd (memWr m a v) a = v % 256 := by
  simp [memRd, memWr, tabGet_put_same]

/-- A byte at another address. -/
theorem memRd_memWr_other (m : List Host.Cell) {a b : Nat} (v : Nat) (h : b ≠ a) : memRd (memWr m a v) b = memRd m b := by
  simp [memRd, memWr, tabGet_put_other _ _ _ _ h]

/-- A byte write keeps the canonical form. -/
theorem memOk_memWr (m : List Host.Cell) (a v : Nat) (h : memOk m = true) : memOk (memWr m a v) = true :=
  tabOk_put _ _ _ _ h

theorem memOk_memWrN (m : List Host.Cell) (a : Nat) (bs : List Nat) (h : memOk m = true) : memOk (memWrN m a bs) = true := by
  induction bs generalizing m a with
  | nil => exact h
  | cons b r ih => exact ih _ _ (memOk_memWr m a b h)

/-- The bytes outside the run that is written are unchanged. -/
theorem memRd_memWrN_other (m : List Host.Cell) (a b : Nat) (bs : List Nat) (h : b < a ∨ a + bs.length ≤ b) :
    memRd (memWrN m a bs) b = memRd m b := by
  induction bs generalizing m a with
  | nil => rfl
  | cons x r ih =>
    have hl : (x :: r).length = r.length + 1 := rfl
    rw [hl] at h
    rw [show memWrN m a (x :: r) = memWrN (memWr m a x) (a + 1) r from rfl, ih _ _ (by omega),
      memRd_memWr_other m x (by omega)]

/-- A store to a DRAM cell keeps the canonical form of the DRAM list. -/
theorem dramOk_cellWr (d : Dev) (a v : Nat) (h : d.mems.dramOk = true) : (d.cellWr a v).mems.dramOk = true := by
  by_cases hl : d.mems.lost = 0
  · simp only [Mems.dramOk, hl, if_true] at h
    simpa [Dev.cellWr, Mems.dramOk, hl] using memOk_memWr _ a v h
  · simp only [Mems.dramOk, hl, if_false] at h
    simpa [Dev.cellWr, Mems.dramOk, hl] using tabSorted_ins _ a (BitVec.ofNat 8 v) h

theorem dramOk_dramWr (d : Dev) (a v : Nat) (h : d.mems.dramOk = true) : (d.dramWr a v).mems.dramOk = true := by
  unfold Dev.dramWr
  cases d.mirrorAt a with
  | none => exact dramOk_cellWr d _ v h
  | some b => exact dramOk_cellWr _ b v (dramOk_cellWr d _ v h)

theorem dramOk_dramWrN (d : Dev) (a : Nat) (bs : List Nat) (h : d.mems.dramOk = true) :
    (d.dramWrN a bs).mems.dramOk = true := by
  induction bs generalizing d a with
  | nil => exact h
  | cons b r ih => exact ih _ _ (dramOk_dramWr d a b h)

/-- A run of bytes in host memory keeps its canonical form. -/
theorem memOk_hostWrN (d : Dev) (p a : Nat) (bs : List Nat) (h : memOk d.mems.host = true) :
    memOk (d.hostWrN p a bs).mems.host = true := by
  induction bs generalizing d a with
  | nil => exact h
  | cons b r ih => exact ih _ _ (memOk_memWr _ _ b h)

end Sys2Proof.Machine
end

