-- ==== Sys2Proof/Laws/Write.lean ====
section
/-! SUPPORT. What an accepted register write does, in one lemma for the pages of the register space and one for a VI's
window. -/

namespace Sys2Proof.Machine

open Sys2Proof

/-- An accepted write has one outcome: its register part, and then what it starts. -/
theorem write_takes {d : Dev} {ag : Agent} {pid off v : Nat} (h : d.takes ag pid off v = true) (ho : off % 4 = 0) :
    d.write ag pid off v = (d.written ag pid off v).startedBy d (d.place pid off).1 (d.place pid off).2 v := by
  have e : off / 4 * 4 = off := by omega
  unfold Dev.takes Dev.sends at h
  simp only [Bool.and_eq_true, Bool.not_eq_true'] at h
  obtain ⟨⟨⟨⟨h1, h2⟩, h3⟩, hl⟩, h4⟩ := h
  have h3' : (d.implemented pid && d.isolated (d.place pid off).1) = false := h3
  unfold Dev.write Dev.sendWrite Dev.decideWrite Dev.written
  simp only [e, h1, h2, h3', hl, Bool.false_eq_true, if_false]
  revert h4
  cases d.fate ag pid off v with
  | accepted ch acts sh =>
    intro h4
    simp only [Bool.not_eq_true'] at h4
    simp only [h4, Bool.false_eq_true, if_false]
    rfl
  | _ => intro h4; cases h4

/-- The same by the page that the agent names. -/
theorem put_accepts {d : Dev} {ag : Agent} {page off v : Nat} (h : d.accepts ag page off v = true) (ho : off % 4 = 0) :
    d.put ag page off v = (d.after ag page off v).startedBy d (d.place (agentPageNo ag page) off).1
      (d.place (agentPageNo ag page) off).2 v :=
  write_takes h ho

/-- A write that is accepted is at an implemented page. -/
theorem implemented_of_takes {d : Dev} {ag : Agent} {pid off v : Nat} (h : d.takes ag pid off v = true) :
    d.implemented pid = true := by
  cases hi : d.implemented pid with
  | true => rfl
  | false =>
    exfalso
    unfold Dev.takes Dev.fate at h
    simp [hi] at h

/-- An agent that reaches a page beyond its window names it by its page index. -/
theorem agentPageNo_flat {d : Dev} {ag : Agent} {page off v : Nat} (h : d.accepts ag page off v = true)
    (hp : 16 ≤ page) : agentPageNo ag page = page := by
  cases ag with
  | vi i =>
    exfalso
    have hi := implemented_of_takes h
    have hn : ¬ page < 16 := by omega
    simp only [agentPageNo, hn, if_false] at hi
    have hk : kindOf 0xFFFF = none := by decide
    simp [Dev.implemented, hk] at hi
  | _ => rfl

/-- The page is none of those that show registers of another page. -/
def ownRegs (k : PageKind) : Bool := !(k == .viHapticAudio || k == .viPeriods || k == .viIrq)

theorem place_own {d : Dev} {p off i : Nat} {k : PageKind} (hk : kindOf p = some (k, i)) (ho : ownRegs k = true) :
    d.place p off = (p, off) := by
  unfold Dev.place
  rw [hk]
  cases k <;> first | rfl | (simp [ownRegs] at ho)

/-- An accepted write at a page of the register space. -/
theorem put_flat {d : Dev} {ag : Agent} {page off v i : Nat} {k : PageKind} (h : d.accepts ag page off v = true)
    (hp : 16 ≤ page) (ho : off % 4 = 0) (hk : kindOf page = some (k, i)) (hw : ownRegs k = true) :
    d.put ag page off v = (d.after ag page off v).effect? d k i page off v := by
  rw [put_accepts h ho, agentPageNo_flat h hp, place_own hk hw]
  simp only [Dev.startedBy, hk]

/-- The block of a window page. -/
theorem kindOf_viPage : ∀ (v : Fin 64) (w : Fin 12), kindOf (viPage v w) = (windowKind w).map (fun k => (k, v.val)) := by
  decide +kernel

/-- An accepted write of a VI at a page of its window. -/
theorem put_vi {d : Dev} {v : Fin 64} {page off w : Nat} {k : PageKind} (h : d.accepts (.vi v) page off w = true)
    (hp : page < 12) (ho : off % 4 = 0) (hk : windowKind page = some k) (hw : ownRegs k = true) :
    d.put (.vi v) page off w = (d.after (.vi v) page off w).effect? d k v.val (viPage v page) off w := by
  have hk' : kindOf (viPage v page) = some (k, v.val) := by
    have := kindOf_viPage v ⟨page, hp⟩
    simpa [hk] using this
  have hn : agentPageNo (.vi v) page = viPage v page := by simp [agentPageNo, show page < 16 by omega]
  rw [put_accepts h ho, hn, place_own hk' hw]
  simp only [Dev.startedBy, hk']

/-! ### Words with one bit set or clear -/

theorem bit_withBit (v : Word) (i : Nat) : bit (withBit v i) i = true := by
  unfold bit withBit setBits bits
  have hp : 0 < 2 ^ i := Nat.two_pow_pos i
  rw [Nat.testBit_eq_decide_div_mod_eq]
  simp only [Nat.pow_one, decide_eq_true_eq, Nat.one_mod, Nat.one_mul]
  rcases Nat.mod_two_eq_zero_or_one (v.toNat / 2 ^ i) with h | h
  · rw [h, Nat.zero_mul, Nat.sub_zero, Nat.add_div_right _ hp]; omega
  · rw [h, Nat.one_mul]
    have : 2 ^ i ≤ v.toNat := by
      apply Nat.le_of_not_lt; intro c
      rw [Nat.div_eq_of_lt c] at h; cases h
    rw [Nat.sub_add_cancel this, h]

theorem bit_withoutBit (v : Word) (i : Nat) : bit (withoutBit v i) i = false := by
  unfold bit withoutBit setBits bits
  have hp : 0 < 2 ^ i := Nat.two_pow_pos i
  rw [Nat.testBit_eq_decide_div_mod_eq]
  simp only [Nat.pow_one, decide_eq_false_iff_not, Nat.zero_mod, Nat.zero_mul, Nat.add_zero]
  rcases Nat.mod_two_eq_zero_or_one (v.toNat / 2 ^ i) with h | h
  · rw [h, Nat.zero_mul, Nat.sub_zero]; omega
  · rw [h, Nat.one_mul]
    have e := Nat.div_add_mod v.toNat (2 ^ i)
    have q : v.toNat / 2 ^ i = 2 * (v.toNat / 2 ^ i / 2) + 1 := by omega
    have k : v.toNat - 2 ^ i = v.toNat % 2 ^ i + 2 ^ i * (2 * (v.toNat / 2 ^ i / 2)) := by
      have : 2 ^ i * (v.toNat / 2 ^ i) = 2 ^ i * (2 * (v.toNat / 2 ^ i / 2)) + 2 ^ i := by
        conv => lhs; rw [q]
        rw [Nat.mul_add, Nat.mul_one]
      omega
    rw [k, Nat.add_mul_div_left _ _ hp, Nat.div_eq_of_lt (Nat.mod_lt _ hp)]
    omega

end Sys2Proof.Machine
end

