-- ==== Sys2Proof/Machine/Balls.lean ====
section
/-! DEFINITION. The state of the output balls while PWR_GOOD is low and while a die is held in reset (R498), read from
State. -/

namespace Sys2Proof.Machine

/-- The groups of output balls of R498. -/
inductive Ball where
  | transmitter | panel | tdm | flashClock | flashReset | flashSelect | haptic | speaker | dramCommand | dramReset
  | mainEn | bypHold | faultN
  deriving DecidableEq, Repr

/-- How a ball is driven: `owner` is by the block that owns it, as its chapter says. -/
inductive BallState where
  | idle | low | high | highZ | owner
  deriving DecidableEq, Repr

/-- Every die is held in reset, or PWR_GOOD is low. -/
def Dev.ballsHeld (d : Dev) : Bool := !d.boot.powerGood || d.boot.down

/-- The state of a ball (R498). MAIN_EN, BYP_HOLD and FAULT_N belong to the hinge domain, which the dies' reset leaves
running; the bridges are the Drive die's, which a thermal fault may hold alone (R477). -/
def Dev.ball (d : Dev) (b : Ball) : BallState :=
  match b with
  | .transmitter => if d.ballsHeld then .idle else .owner
  | .panel | .tdm | .flashClock | .flashReset | .dramCommand | .dramReset => if d.ballsHeld then .low else .owner
  | .flashSelect => if d.ballsHeld then .high else .owner
  | .haptic | .speaker => if d.ballsHeld || d.boot.hotDrive then .highZ else .owner
  | .mainEn => if d.boot.mainEn then .high else .low
  | .bypHold => if d.held? then .high else .low
  | .faultN => if d.boot.faultN then .low else .highZ

end Sys2Proof.Machine
end

