-- ==== Sys2Proof/WellFormed.lean ====
section
/-! DEFINITION. What a command's operands must be, beyond their types, for it to describe something that can happen to the
device. A command that is not well formed still has the meaning that the machine gives its operands. -/

namespace Sys2Proof

/-- Every number is a byte. -/
def bytesOk (l : List Nat) : Bool := l.all (fun b => decide (b < 256))

/-- A fragment's colours are those of at most eight targets of four components. -/
def ItemResult.wf : ItemResult → Bool
  | .bin _ => true
  | .tile frags => frags.all (fun f => decide (f.colours.length ≤ 32))
  | .slice _ => true

/-- Training reports on the eight channels; a refresh-management threshold is not 0. -/
def TrainResult.wf (r : TrainResult) : Bool :=
  r.dens.length == 8 && r.phy.length == 8 && !(r.raaMax == some 0)

/-- An AUX transaction carries at most 16 bytes, and acknowledges no more than it carried. -/
def AuxOutcome.wf : AuxOutcome → Bool
  | .ack bytes acked => bytesOk bytes && decide (bytes.length ≤ 16) && decide (acked.val ≤ 16)
  | _ => true

/-- A request has a beat at least, and a write no more bytes than its beats carry. -/
def FabricAccess.wf (a : FabricAccess) : Bool :=
  decide (1 ≤ a.beats) && (match a.data with
    | none => true
    | some l => bytesOk l && decide (l.length ≤ 64 * a.beats))

/-- The operands of a command are well formed. -/
def Instr.wf : Instr → Bool
  | .registerWrite _ _ _ => true
  | .ledgerEntryFreed => true
  | .ledgerWaitTimeout => true
  | .ledgerDrainEnable _ => true
  | .ledgerDrainEntry => true
  | .ledgerCkptSigned _ => true
  | .ledgerDrainCheckpoint => true
  | .commitNow _ _ _ => true
  | .commitAtBoundary _ _ _ => true
  | .commitRevert _ _ _ => true
  | .commitRequestDeferredAccept _ => true
  | .commitCheckEnd _ => true
  | .commitBoundary _ _ => true
  | .pageLock _ _ => true
  | .periodArm _ _ _ => true
  | .periodDisarm _ _ _ => true
  | .periodBoundary _ => true
  | .periodWorkComplete _ => true
  | .periodDeadline _ => true
  | .bmonClear _ => true
  | .clockDroop _ _ => true
  | .clockSettled _ => true
  | .crossingAckTimeout _ _ => true
  | .fabricRequest _ _ access => access.wf
  | .responseTimeout _ _ _ => true
  | .lateResponse _ _ => true
  | .arbitrationDecision _ _ => true
  | .bulkAging _ => true
  | .crossbarTestEnter _ => true
  | .crossbarTestLeave _ => true
  | .crossbarDrainDone => true
  | .slotWheelWrap _ => true
  | .dramCommandOpportunity _ => true
  | .referenceTick => true
  | .deviceTimeStep _ => true
  | .pintleResetRelease _ => true
  | .pintleTrainingComplete _ _ => true
  | .pintleTrainingFail _ lanes => lanes.all (fun x => lanes.count x == 1)
  | .pintleCrcError _ => true
  | .pintleReplayEnd _ _ => true
  | .pintleRetrain _ _ => true
  | .powerGoodRise _ _ => true
  | .hingeTableLock _ _ => true
  | .watchdogKick => true
  | .wardWatchdogExpiry => true
  | .lockstepCompareFail => true
  | .wardRestartRequest _ _ => true
  | .mailboxGo _ _ => true
  | .mailboxRequestRead _ => true
  | .mailboxResponse _ _ _ payload => bytesOk payload && decide (payload.length ≤ 48)
  | .mailboxDeadline _ => true
  | .doeDiscovery _ _ => true
  | .getVersion _ => true
  | .getCapabilities _ => true
  | .negotiateAlgorithms _ _ _ _ _ => true
  | .getDigests _ => true
  | .getCertificate _ _ _ _ => true
  | .challenge _ _ _ => true
  | .getMeasurements _ _ _ => true
  | .keyExchange _ _ => true
  | .finish _ _ _ _ => true
  | .heartbeat _ _ => true
  | .keyUpdate _ _ _ => true
  | .endSession _ _ => true
  | .getState _ _ => true
  | .ledgerExport _ _ => true
  | .showPrompt _ _ => true
  | .clearPrompt _ _ => true
  | .promptState _ _ => true
  | .promptTimeout _ => true
  | .getEntry _ _ => true
  | .setSafe _ _ _ => true
  | .testEmergency _ _ _ => true
  | .openStage2Fault _ => true
  | .hostMemoryRead _ _ _ dws => decide (1 ≤ dws)
  | .hostMemoryWrite _ _ _ data _ => !data.isEmpty
  | .dmaCompletionError _ _ _ => true
  | .dmaCompletionTimeout _ _ => true
  | .vfEnable _ _ => true
  | .vfDisable _ _ => true
  | .vfFlr _ => true
  | .pfFlr _ => true
  | .portDlDown _ => true
  | .perstAssert _ => true
  | .create _ _ _ => true
  | .reset _ _ _ => true
  | .remove _ _ _ => true
  | .quiesce _ _ _ => true
  | .resume _ _ _ => true
  | .createAccept _ _ => true
  | .createRefuse _ _ => true
  | .createTimeout => true
  | .viResetComplete _ => true
  | .sqDoorbell _ _ _ => true
  | .cqDoorbell _ _ _ => true
  | .sqEntryFetch _ _ => true
  | .commandComplete _ _ _ => true
  | .contextEnable _ _ _ => true
  | .contextDisable _ _ _ => true
  | .contextSwapIn => true
  | .sharePeriodStart => true
  | .translationAccess _ _ _ _ _ _ data => bytesOk data && !data.isEmpty
  | .tableWalkComplete _ => true
  | .s2Invalidate _ _ _ => true
  | .s1Invalidate _ _ => true
  | .invalidationComplete _ _ => true
  | .dirtyLogEnable _ _ _ => true
  | .dirtyLogDisable _ _ _ => true
  | .dirtyLogClear _ _ _ => true
  | .dramTrainingStart _ => true
  | .dramTrainingEnd result => result.wf
  | .wckOscillatorRead _ _ _ => true
  | .dramRequest _ _ _ len write data => decide (1 ≤ len.val) && (!write || (bytesOk data && data.length == len.val))
  | .eccWriteBack => true
  | .pageHoldExpiry _ _ => true
  | .refreshDue _ _ => true
  | .mr4Poll _ _ => true
  | .zoneInitComplete _ => true
  | .scrubStep => true
  | .remapCopyComplete _ => true
  | .sramSpareCopyComplete _ _ => true
  | .readRaw _ _ => true
  | .writeDataOnly _ _ => true
  | .writeCheckOnly _ _ => true
  | .writeBoth _ _ => true
  | .nop _ _ => true
  | .render _ _ => true
  | .compute _ _ => true
  | .wait _ _ => true
  | .signal _ _ => true
  | .residencySync _ _ => true
  | .periodicJobInsert _ => true
  | .workItemDispatch _ => true
  | .workItemEnd _ result => result.wf
  | .itemAbort _ => true
  | .jobDeadline _ _ => true
  | .fncSignalWrite _ _ _ _ => true
  | .fenceTimeout _ _ => true
  | .waitTimeout _ _ => true
  | .renderQuadDrained _ => true
  | .coefWrite _ _ _ _ => true
  | .layerHoldSet _ _ _ => true
  | .layerHoldClear _ _ _ => true
  | .flipGo _ _ _ _ => true
  | .flipWalkEnd _ => true
  | .layerBoundary _ _ _ => true
  | .strikeBoundary _ _ _ => true
  | .bandFetchStart _ _ => true
  | .bandFetchDeadline _ _ pipes => pipes.all (fun x => pipes.count x == 1)
  | .bandComposeEnd _ _ _ => true
  | .warpTouchDelta _ _ => true
  | .emergencyShow _ _ => true
  | .emergencyRemove _ _ => true
  | .scInject _ _ => true
  | .headEnable _ _ _ => true
  | .headDisable _ _ _ => true
  | .headPllLock _ => true
  | .headEndOfActive _ _ => true
  | .retimingComplete _ => true
  | .frameStart _ => true
  | .stoppedFrameStrobe _ => true
  | .hdFrameRead _ _ => true
  | .hdFliptRead _ _ => true
  | .crcRectangleFinal _ _ _ => true
  | .crcRelease _ _ _ => true
  | .plug _ _ => true
  | .unplug _ => true
  | .irqHpd _ _ => true
  | .dpRetrain _ _ _ => true
  | .dpTrainingAttemptEnd _ _ _ => true
  | .auxGo _ _ _ => true
  | .auxTransactionEnd _ outcome => outcome.wf
  | .backlightDelayExpiry _ => true
  | .scanFrameStart _ => true
  | .scanFrameEnd _ raw _ => raw.all (fun x => decide (x < 65536))
  | .scanFrameOverrun _ => true
  | .strobeLossTimeout _ => true
  | .touchPortEnable _ _ _ => true
  | .touchPortDisable _ _ _ => true
  | .recal _ _ _ => true
  | .dump _ _ _ => true
  | .forcedRecalibration _ _ => true
  | .hapticTrigger _ _ => true
  | .hapticBoltTrigger _ => true
  | .hapticStop _ _ => true
  | .hapticSampleTick _ _ _ => true
  | .brakeEnd _ => true
  | .coilCheckRequest _ _ _ _ => true
  | .coilCheckEnd _ _ => true
  | .actuatorFaultClear _ _ _ _ => true
  | .actuatorOvercurrent _ => true
  | .actuatorMissing _ => true
  | .stallRecoveryTimeout _ => true
  | .bridgeOvertemp _ => true
  | .bridgeTempRecovered _ => true
  | .vhapOutOfRange _ => true
  | .vhapRecovered _ => true
  | .effectLoadGo _ _ _ _ => true
  | .effectLoadEnd _ _ => true
  | .audioSampleTick _ => true
  | .audioBlockBoundary => true
  | .gainStepTimeout _ => true
  | .streamPointerWrite _ _ _ => true
  | .streamEnable _ _ _ _ => true
  | .streamDisable _ _ _ _ => true
  | .tumblerLoadGo _ _ => true
  | .tumblerLoadEnd _ => true
  | .swap _ _ => true
  | .crossfadeEnd => true
  | .sinkSourceWrite _ _ _ _ => true
  | .routeRampSwitch _ _ => true
  | .routeRampEnd _ _ => true
  | .toneTrigger _ => true
  | .toneLoadGo _ _ => true
  | .toneLoadEnd _ => true
  | .speakerEnable _ _ _ => true
  | .speakerDisable _ _ _ => true
  | .speakerRampEnd _ => true
  | .speakerOvercurrent _ => true
  | .speakerDcFault _ => true
  | .speakerFaultClear _ _ _ => true
  | .interruptLevelChange _ => true
  | .interruptDecision => true
  | .interruptClaim _ _ => true
  | .interruptComplete _ _ _ => true
  | .msixUnmask _ _ _ => true
  | .orphan _ => true
  | .checkValueStream _ _ => true
  | .checkValueMessages _ _ => true
  | .checkValueRunEnd _ _ => true
  | .powerChangeStart => true
  | .pmbusTransactionEnd _ => true
  | .pmbusTimeout => true
  | .regulatorAck _ => true
  | .regulatorAckTimeout => true
  | .pmWardReq _ _ => true
  | .regionPowerOff _ _ _ => true
  | .regionClockStop _ _ _ => true
  | .clusterResetHold _ _ _ => true
  | .thermalLimit _ => true
  | .thermalClear _ => true
  | .sleepLedgerTimeout => true
  | .wakeEvent source => !(source.val == 0)
  | .i2cWakeMatch _ => true
  | .rtcAlarm => true
  | .hingePowerUp => true
  | .hingePowerLoss => true
  | .ringPortSeek _ => true
  | .ringPortUp _ => true
  | .ringPortDown _ _ => true
  | .ringFrameForward _ bytes _ _ => bytesOk bytes && bytes.length == 32
  | .beacon => true
  | .time => true
  | .linkDelay => true
  | .emergency => true
  | .emergencyClear => true
  | .alert => true
  | .service => true
  | .beaconSend => true
  | .timeSend => true
  | .linkDelaySend _ => true
  | .timeSyncTimeout => true
  | .bypassHoldSet _ _ => true
  | .bypassHoldRelease _ _ => true
  | .ringTxGo _ _ => true
  | .ringRxPop _ _ => true
  | .faultRecoveryEnd _ => true
  | .recoveryTimeout _ => true
  | .junctionOvertemp _ _ => true
  | .thermalResetRelease _ _ _ => true
  | .faultLogPop _ => true
  | .faultInject _ _ _ => true
  | .loopbackGo _ _ => true
  | .loopbackAbort _ => true
  | .loopbackEnd _ _ _ _ _ _ => true
  | .powerGoodFall => true
  | .configurationRequest _ _ _ => true
  | .portDlUp _ _ _ => true
  | .wardTouchMailboxRead _ _ => true
  | .ringFrameSent _ => true
  | .faultWindowEnd => true
  | .rtcCrystalStop => true
  | .rtcCrystalStart => true
  | .unsupportedSpdmRequest _ _ => true

end Sys2Proof
end

