-- ==== Sys2Proof/Tests/Slice0.lean ====
section
/-! SUPPORT. Tests. For each statement with hypotheses, `witness_<statement>` shows states and operands that meet them,
clause by clause; `test_<what>` are small checks against values taken from the spec. -/

namespace Sys2Proof.Tests

open Sys2Proof Sys2Proof.Machine

set_option Elab.async false

/-! ### Small states -/

/-- The device out of reset, before any boot stage: power is good and no die is held. -/
def up : Dev := { State.reset.dev with boot := { State.reset.dev.boot with down := false, powerGood := true } }

/-- The state of a device with no command waiting. -/
def st (d : Dev) : State := { dev := d, pending := [] }

/-- The outcome is a next state. -/
def runs (o : Host.Outcome State Fault Refusal) : Bool :=
  match o with
  | .next _ => true
  | _ => false

/-- A ledger entry. -/
def anEntry : LEntry := { time := 1, page := 2, off := 0x40, kind := 0, origin := 1, old := 0, new := 1, seq := 0 }

/-- A hinge table for two VIs on port A: a DP head 0 of four slots with pipe 0 and touch port 0, haptic channel 0 and sink
0 of VI 0, port A with SPDM and every grant, and no PAGE entry. -/
def table : List Host.Cell :=
  [(0x006, 1#8), (0x080, 1#8), (0x081, 4#8), (0x084, 2#8), (0x100, 3#8), (0x102, 0x38#8), (0x1C0, 3#8), (0x1C2, 0x18#8), (0x1C3, 8#8),
   (0x1E0, 3#8), (0x1E2, 1#8), (0x200, 3#8), (0x202, 1#8), (0x270, 0xFF#8), (0x271, 0xFF#8), (0x274, 1#8), (0x803, 0x80#8)]

/-- The device in service: the table is locked, memory of 16 GiB is in SERVICE, the crossbar runs, the two VIs are ACTIVE. -/
def live : Dev :=
  ((((((({ up with hinge := table }).w htPid F.HT_STAT_LOADED 1).w htPid F.HT_STAT_LOCKED 1).w bootPid F.BOOT_STAT_STAGE 3).w mcPid F.MC_TRAIN_STATE 2).w
    mcPid F.MC_STAT_CAP 16).w xbPid F.XB_MODE_MODE 1).w (vihPid 0) F.VIH_STAT_STATE 3 |>.w (vihPid 1) F.VIH_STAT_STATE 3

def key : BitVec 16 := theKey

/-! ### The machine as a whole and its local laws -/

theorem witness_EveryStepShowsState :
    ShowsState State.reset ∧ ShowsState { st up with pending := [.alert] } ∧
    runs (step { st up with pending := [.pmbusTimeout] }) = true ∧ runs (exec .contextSwapIn State.reset) = true := by
  unfold ShowsState Dev.showsHighest Dev.showsIsolation; decide +kernel

theorem witness_CalmDeviceSettles :
    up.calm = true ∧ fieldKey ledPid F.LED_SEQ_NEXT 0 ≠ fieldKey ftPid F.FT_STAT_HIGHEST 0 ∧
    fieldKey ledPid F.LED_SEQ_NEXT 0 ≠ fieldKey xbPid F.XB_ISO_ISO 0 := by decide +kernel

theorem witness_FieldReadAfterWrite : fieldKey ledPid F.LED_SEQ_NEXT 0 ≠ fieldKey xbPid F.XB_ISO_ISO 0 := by decide +kernel

theorem witness_BytesAfterStore :
    up.reaches 0 1 = false ∧ up.mems.dramOk = true ∧ 2 ^ 64 - 1 + [7].length ≤ 2 ^ 64 ∧
    (2 ^ 64 - 2 < 2 ^ 64 ∧ 2 ^ 64 - 2 < 2 ^ 64 - 1) ∧ memOk up.mems.host = true := by decide +kernel

theorem witness_DramStoresKeepOtherBytes :
    (up.mcWrite 0 (2 ^ 60) [1]).2 = false ∧
    ((∀ x ∈ wordsOf 5 [1, 2].length, up.zoneAt 2 x = none) ∧ ∀ i < [1, 2].length, up.reaches (5 + i) 4 = false) ∧
    (∀ x ∈ wordsOf 5 [1, 2].length, (∀ i < 8, up.reaches (x + i) 8 = false) ∧
      ∀ z ∈ up.zoneAt 2 x, up.reaches (up.checkAddr z x) 8 = false) ∧ up.mems.dramOk = true := by decide +kernel

/-- `MC_CFG.GRAIN` at both ends of its range. -/
theorem witness_DramDecodeIsABijection :
    (8 ≤ (up.w mcPid F.MC_CFG_GRAIN 8).r mcPid F.MC_CFG_GRAIN ∧ (up.w mcPid F.MC_CFG_GRAIN 8).r mcPid F.MC_CFG_GRAIN ≤ 14) ∧
    (up.w mcPid F.MC_CFG_GRAIN 14).r mcPid F.MC_CFG_GRAIN = 14 ∧ (7 : Nat) < 8 := by decide +kernel

theorem witness_SyndromeDecoding :
    weight8 0x80 = 1 ∧ (3 ≠ 0 ∧ weight8 3 ≠ 1 ∧ dataColumns.contains 3 = false) ∧ 2 ^ 64 - 1 < 2 ^ 64 ∧ (63 : Nat) < 64 ∧
    (7 : Nat) < 8 ∧ (34 : Nat) < 35 := by decide +kernel

/-- DRAM with the check byte of a zero word at address 64, and with one and two wrong bits in the word. -/
def oneWrong : Dev := (up.dramWr 64 1).dramWr (up.checkAddr 0 64) (checkByte 0 64)
def twoWrong : Dev := (up.dramWr 64 3).dramWr (up.checkAddr 0 64) (checkByte 0 64)

theorem witness_EccReadCorrects :
    (oneWrong.storedCheck 0 64 = checkByte 0 64 ∧ oneWrong.storedWord 64 = 0 ^^^ 2 ^ 0) ∧
    (twoWrong.storedCheck 0 64 = checkByte 0 64 ∧ twoWrong.storedWord 64 = 0 ^^^ 2 ^ 0 ^^^ 2 ^ 1) := by decide +kernel

/-! ### Register writes and the ledger -/

/-- An earlier write of the ward firmware waits; the page of speaker stage 0; the link to its die trains. -/
def stuck : Dev := { up with held := [{ ag := .ward, pid := ledPid, off := 0x040, v := 0, why := .ledger, since := 0 }] }
def spk : Nat := spPid 0
def training : Dev := up.w (plPid 3) F.PL_STAT_STATE 1

theorem witness_RegisterWriteCompletes :
    (0x010040#24).toNat % 4 = 0 ∧
    up.takes .ward (agentPage .ward (0x010040#24).toNat) ((0x010040#24).toNat % 4096) 1 = true ∧
    up.isolated (up.agentUnit .ward) = false ∧ (up.openFault 0 2 (up.agentUnit .ward) 0).isolated (up.agentUnit .ward) = true ∧
    (stuck.held.any (fun h => h.rd.isNone && sameOrigin h.ag .ward) = true) ∧
    ((live.openFault 0 2 0x280 0).isolated (up.agentUnit .ward) = false ∧ (live.openFault 0 2 0x280 0).implemented 0x280 = true ∧
      (live.openFault 0 2 0x280 0).isolated (up.place 0x280 0x040).1 = true) ∧
    (training.isolated (training.agentUnit .ward) = false ∧ training.isolated (training.place spk 0x040).1 = false ∧
      training.linkHolds (training.place spk 0x040).1 = true ∧ up.linkHolds (up.place spk 0x040).1 = false) := by decide +kernel

theorem witness_AcceptedWriteSetsItsRegister :
    up.takes .ward ledPid 0x040 1 = true ∧ (F.LED_CTRL_DRAIN_EN, 0) ∈ regFields (up.place ledPid 0x040).1 (up.place ledPid 0x040).2 ∧
    F.LED_CTRL_DRAIN_EN.acc = .rw := by decide +kernel

theorem witness_AcceptedWriteIsRecorded :
    up.takes .ward ledPid 0x040 1 = true ∧ recorded ledPid 0x040 = true ∧
    (match up.fate .ward ledPid 0x040 1 with | .accepted true _ _ => true | _ => false) = true := by decide +kernel

theorem witness_UnchangingWriteLeavesNoTrace :
    (match up.fate .ward ledPid 0x040 0xC00 with | .accepted false _ _ => true | _ => false) = true := by decide +kernel

theorem witness_UnseenWriteIsDropped :
    up.implemented 0xFFF = false ∧ (up.implemented ledPid = true ∧ up.visible (.openWorld 0) ledPid = false) ∧
    (ftPid ≠ homePage (.openWorld 0) ∧ ftPid ≠ ledPid ∧ F.FT_STAT_HIGHEST.at 0 * 8 + F.FT_STAT_HIGHEST.lo < 32768) := by
  decide +kernel

/-! ### The ledger's events, commits, periods -/

def ledLive : Dev := (live.w ledPid F.LED_CTRL_DRAIN_EN 1).w ledPid F.LED_RING_SIZE_LOG2 12
def aCkpt : Ckpt := { num := 0, first := 0, time := 0, hash := [] }
def heldAt (off : Nat) : Held := { ag := .ward, pid := ledPid, off := off, v := 0, why := .ledger, since := 0 }
def lost : Dev := { up with led := { up.led with lostSince := true } }
def ready : Dev := { ledLive with led := { ledLive.led with store := [anEntry] } }
/-- The ring lies beyond DRAM: its stores end in an error response. -/
def noRing : Dev := ready.w ledPid F.LED_RING_HI_BASE 0xFF
def signed : Dev := { ledLive with led := { ledLive.led with signed := [(aCkpt, [])] } }
def unsigned : Dev := { up with led := { up.led with waiting := [aCkpt] } }

def late : Dev := { up with held := [heldAt 0x040, heldAt 0x020], fab := { up.fab with count := 10000 * 24000000000 } }
def waitsLong (d : Dev) (h : Held) : Bool := h.why == .ledger && decide (h.since + 10000 ≤ d.now)

theorem witness_LedgerCommandsComplete :
    (up.led.lostSince = false ∧ lost.led.lostSince = true ∧ lost.led.room 1 = true) ∧
    (late.held.find? (waitsLong late) = some (heldAt 0x040) ∧ (heldAt 0x040).off ≠ 0x020) ∧
    (({ late with held := [heldAt 0x020] } : Dev).held.find? (waitsLong late) = some (heldAt 0x020) ∧ (heldAt 0x020).off = 0x020) ∧
    (({ up with held := [heldAt 0x040] } : Dev).held.find? (waitsLong up) = none) ∧
    (up.accepts .ward ledPid 0x040 (withBit 0xC00#32 0) = true ∧ up.rises ledPid (withBit 0xC00#32 0) F.LED_CTRL_DRAIN_EN = true ∧
      (up.after .ward ledPid 0x040 (withBit 0xC00#32 0)).led.started = none) ∧
    (ledLive.accepts .ward ledPid 0x040 (withBit 0xC01#32 0) = true ∧
      ledLive.rises ledPid (withBit 0xC01#32 0) F.LED_CTRL_DRAIN_EN = false) ∧
    (ready.led.store = [anEntry] ∧ ready.canDrain = true ∧ up.canDrain = false ∧
      (ready.ringWrite ownLedger ready.ringBase ready.ringSize ready.ringHead anEntry.bytes).2 = true ∧
      (noRing.canDrain = true ∧
        (noRing.ringWrite ownLedger noRing.ringBase noRing.ringSize noRing.ringHead anEntry.bytes).2 = false)) ∧
    (unsigned.accepts .ward ledPid 0x06C (withBit 0#32 0) = true ∧
      (unsigned.after .ward ledPid 0x06C (withBit 0#32 0)).led.waiting = [aCkpt]) ∧
    (signed.led.signed = [(aCkpt, [])] ∧ signed.canBlock = true ∧ up.canBlock = false ∧
      (signed.ringWrite ownLedger signed.ringBase signed.ringSize signed.ringHead (aCkpt.block [])).2 = true) := by decide +kernel

def aCheck (snap : List (Nat × Nat)) (seq : Option Nat) : Check := { now := true, v := 0, snap := snap, seq := seq }
/-- A page with a check that runs, and one with a pending set of part 0. -/
def checking (seq : Option Nat) : Dev := live.setCtl ezPid { busy := some (aCheck (live.shadow ezPid) seq) }
def badZone : Dev := (live.w ezPid F.EZ_CHK_ENABLE 1).w ezPid F.EZ_RANGE_BASE 0xFFF
def refusedSet : Dev := live.setCtl ezPid { busy := some (aCheck (badZone.shadow ezPid) (some 0)) }
def pending (pid : Nat) : Dev := live.setCtl pid { pend := some { snap := live.shadow pid, parts := [0] } }
def faultOn (pid : Nat) (d : Dev) : Dev := d.openFault 0 1 pid 0
def deferred : Dev := { live with held := [{ ag := .ward, pid := swPid, off := 0x020, v := keyed key 1, why := .busy }] }

theorem witness_CommitRequestsAndChecksComplete :
    (up.asks .ward (0x310#12).toNat (keyed key 1) = true ∧ up.asks .ward (0x310#12).toNat (keyed key 2) = true ∧
      up.asks .ward (0x310#12).toNat (keyed key 4) = true) ∧
    (up.requestBad swPid (keyed 0 1) = some 5 ∧ up.requestBad swPid (keyed key 0) = some 4) ∧
    (up.requestBad swPid (keyed key 1) = none ∧ bit (keyed key 1) 2 = false ∧ checksAtOnce swPid = false ∧
      ledgered swPid = true) ∧
    (up.requestBad (viPage 0 7) (keyed key 4) = none ∧ bit (keyed key 4) 2 = true ∧ ledgered (viPage 0 7) = true) ∧
    (faultOn 0x582 ({ live with pages := tabPut live.pages {} 0x582 { busy := some (aCheck [] none) } })).blockFault 0x582 = true ∧
    ((refusedSet.setCtl ezPid {}).blockFault ezPid = false ∧
      ((refusedSet.setCtl ezPid {}).checkSet ezPid (aCheck (badZone.shadow ezPid) (some 0)).snap).reason ≠ none ∧
      ((refusedSet.setCtl ezPid {}).checkSet ezPid (aCheck (badZone.shadow ezPid) (some 0)).snap).reason ≠ some 2) ∧
    (((checking (some 0)).setCtl ezPid {}).blockFault ezPid = false ∧
      (((checking (some 0)).setCtl ezPid {}).checkSet ezPid (live.shadow ezPid)).reason = none) ∧
    ((deferred.ctl swPid).busy = none ∧ (deferred.waitingFor swPid).isSome = true) ∧
    ((up.ctl swPid).busy = none ∧ up.waitingFor swPid = none) := by decide +kernel

theorem witness_BoundariesAndPageLocksComplete :
    (up.ctl swPid).pend = none ∧
    (((faultOn 0x582 (pending 0x582)).ctl 0x582).pend.isSome = true ∧ (faultOn 0x582 (pending 0x582)).blockFault 0x582 = true) ∧
    (((pending 0x582).ctl 0x582).pend.isSome = true ∧ (pending 0x582).blockFault 0x582 = false ∧
      kindOf 0x582 = some (.touchReports, 0)) ∧
    (((pending swPid).ctl swPid).pend.isSome = true ∧ (pending swPid).blockFault swPid = false ∧
      kindOf swPid = some (.slotWheel, 0)) ∧
    (((pending (viPage 0 7)).ctl (viPage 0 7)).pend.isSome = true ∧ (pending (viPage 0 7)).blockFault (viPage 0 7) = false ∧
      kindOf (viPage 0 7) = some (.viLayers, 0)) ∧
    (up.accepts .ward (0x310#12).toNat 0x01C 1 = true ∧ up.r swPid F.PAGE_LOCK_LOCK = 0 ∧
      recorded (agentPageNo .ward swPid) 0x01C = true) := by decide +kernel

/-- Period entry 0 with a period of 1 ms, in a state, with what its block remembers. -/
def entry0 (state kind armed : Nat) (x : PerEntry) : Dev :=
  ((((live.setPer 0 x).setPe 0 F.PE_CTRL_STATE state).setPe 0 F.PE_CTRL_KIND kind).setPe 0 F.PE_CTRL_ARMED armed).setPe 0
    F.PE_PERIOD_PERIOD 1000

def dueEntry : Dev := ((entry0 0 3 0 {}).setPe 0 F.PE_DEADLINE_DEADLINE 1000).wa aePid F.AE_SOWN_OWNER 0 0

theorem witness_ArmingAndMonitorClearComplete :
    ((dueEntry).accepts .ward (periodPage .ward) 0x800 (withBit 6#32 0) = true ∧
      (dueEntry).rises (perPage 0) (withBit 6#32 0) F.PE_CTRL_ARMED 0 = true) ∧
    ((entry0 0 2 0 {}).perState 0 = 0 ∧ 0 < (entry0 0 2 0 {}).pe 0 F.PE_PERIOD_PERIOD) ∧
    live.accepts .ward (periodPage .ward) (0x800 + 32 * 63) (withoutBit 1#32 0) = true ∧
    live.accepts .ward 0x320 0x04C 0xFF = true ∧ (7 : Nat) < 8 := by decide +kernel

theorem witness_PeriodEventsComplete :
    live.perState 255 = 0 ∧ ((entry0 1 2 0 {}).perState 0 = 1 ∧ (entry0 1 2 0 {}).pe 0 F.PE_CTRL_ARMED ≠ 1) ∧
    ((entry0 3 2 1 {}).perState 0 = 3 ∧ (entry0 3 2 1 {}).pe 0 F.PE_CTRL_ARMED = 1 ∧
      fencePlace ((entry0 3 2 1 {}).pe 0 F.PE_FENCE_FENCE) = none ∧ (entry0 3 2 1 {}).pe 0 F.PE_CTRL_KIND = 2) ∧
    ((entry0 2 2 1 {}).perState 0 = 2 ∧ (entry0 2 2 1 {}).pe 0 F.PE_CTRL_ARMED = 1) ∧
    (((entry0 2 2 1 { fin := some 0 }).per? 0).fin = some 0 ∧ ((entry0 2 2 1 { fin := some 0 }).per? 0).owes = false) ∧
    (((entry0 2 3 1 {}).per? 0).fin = none ∧ (entry0 2 3 1 {}).pe 0 F.PE_CTRL_KIND = 3 ∧
      ((entry0 2 3 1 {}).per? 0).owes = false) := by decide +kernel

/-! ### Clocks, crossings, the crossbar, the links, boot -/

def trimmed : Dev := (live.w dtPid F.DT_TRIM_PPB 0x3FFFF).w dtPid F.DT_SYNCTRIM_PPB 0x3FFFF
def auto0 (b : Nat) (d : Dev) : Dev := d.w dtPid F.DT_CTRL_AUTO b
def unitFault (pid : Nat) : Dev := live.openFault 0 2 pid 0
/-- A Bulk request of host port A. -/
def aReq (target page beats : Nat) : Req := { port := 4, cls := .bulk, target := target, page := page, beats := beats }
def inXbar (l : List Req) (d : Dev) : Dev := { d with fab := { d.fab with granted := l } }

theorem witness_ClocksCrossingsAndTimeComplete :
    (unitFault 0x582).isolated 0x582 = true ∧ live.implemented 0x34B = false ∧
    (live.isolated swPid = false ∧ live.implemented swPid = true ∧
      (inXbar [aReq 3 swPid 1] live).outstanding.find? (fun q => portUnit q.port / 16 == (8#8).toNat && reqUnit q == swPid) =
        some (aReq 3 swPid 1) ∧
      live.outstanding.find? (fun q => portUnit q.port / 16 == (8#8).toNat && reqUnit q == swPid) = none) ∧
    ((auto0 1 live).fab.hingeOn = true ∧ (auto0 1 live).on dtPid F.DT_CTRL_AUTO = true ∧
      (auto0 1 live).rate = (auto0 1 live).rateSum) ∧
    ((auto0 1 trimmed).on dtPid F.DT_CTRL_AUTO = true ∧ (auto0 1 trimmed).rate ≠ (auto0 1 trimmed).rateSum) ∧
    (auto0 0 live).on dtPid F.DT_CTRL_AUTO = false ∧
    ({ live with fab := { live.fab with hingeOn := false } } : Dev).fab.hingeOn = false ∧
    up.accepts .ward dtPid 0x054 (1#32).toNat = true := by decide +kernel

/-- Sixteen Bolt reads, two to each channel. -/
def sixteen : Dev := inXbar ((upFrom 0 16).map (fun n => { port := 0, cls := .bolt, target := 0, addr := 2048 * n })) live
def wardReq : Req := { port := 0, cls := .bolt, target := 0 }
/-- A request whose timeout of 16 us is just over, or one ns short of it. -/
def timed (ns target : Nat) : Dev :=
  let d := inXbar [{ aReq target swPid 1 with limit := 16000 }] live
  { d with fab := { d.fab with count := ns * countUnit } }
def late1 : Dev := { live with fab := { live.fab with late := [(4, 0)] } }
def dramReq : DramReq := { port := 4, owner := 0, addr := 0, len := 64, data := none }
def reqDev : Dev := { live with mc := { live.mc with reqs := [dramReq] } }
def at50 : Dev := { live with fab := { live.fab with count := 50 * countUnit, stamped := [(49, 50)] } }
def drains (m : Nat) : Dev := { live with fab := { live.fab with drainTo := some m } }

/-- A time-stamp of a cluster whose last one is of this moment is that one. -/
theorem stampIn_of_stamped (d : Dev) (c : Nat) (h : tabGet d.fab.stamped 0 c = d.now) : d.stampIn c = d.now := by
  unfold Dev.stampIn
  split
  · rfl
  · simp only [h]
    omega

theorem at50_clear : at50.boltClear upkeepNs = true := by
  have h : at50.stampIn (swPid / 16) = at50.now := stampIn_of_stamped _ _ (by decide +kernel)
  simp only [Dev.boltClear, h]
  decide +kernel

theorem live_notClear : live.boltClear upkeepNs = false := by
  have h : live.stampIn (swPid / 16) = live.now := stampIn_of_stamped _ _ (by decide +kernel)
  simp only [Dev.boltClear, h]
  decide +kernel

theorem witness_RequestsAndSlotsComplete :
    (portAllows (23 : Fin 25) (live.pathClass (23 : Fin 25) .wardOther) = false) ∧
    (portAllows (4 : Fin 25) (up.pathClass (4 : Fin 25) (.hostDma none)) = true ∧ up.modeAllows (4 : Fin 25) = false ∧
      live.modeAllows (4 : Fin 25) = true ∧ live.reqIsolated (aReq 3 swPid 1) = false ∧
      decide (strikeSize < (8 * 2 ^ 20 - 63) + 64) = true ∧ (unitFault 0x582).reqIsolated (aReq 3 0x582 1) = true) ∧
    (portAllows (0 : Fin 25) .bolt = true ∧ sixteen.modeAllows 0 = true ∧ sixteen.reqIsolated wardReq = false ∧
      wardReq.boltRead = true ∧ 16 ≤ sixteen.boltReads.length ∧ sixteen.chanReads wardReq.addr < 8) ∧
    ((drains 2).reqWaits (drains 2).fab.waiting (aReq 0 0 1) = true ∧ (drains 2).modeAllows 4 = true) ∧
    live.reqWaits live.fab.waiting (aReq 0 0 1) = false ∧
    live.held.find? (live.heldExpired 4 swPid) = none ∧
    ((timed 16000 0).outstanding.find? ((timed 16000 0).expired (4 : Fin 25) (0 : Fin 5) 0x999) =
        some { aReq 0 swPid 1 with limit := 16000 } ∧
      (timed 15999 0).outstanding.find? ((timed 15999 0).expired (4 : Fin 25) (0 : Fin 5) swPid) = none ∧
      (timed 16000 3).outstanding.find? ((timed 16000 3).expired (4 : Fin 25) (3 : Fin 5) swPid) =
        some { aReq 3 swPid 1 with limit := 16000 } ∧
      (timed 16000 3).outstanding.find? ((timed 16000 3).expired (4 : Fin 25) (3 : Fin 5) 0x999) = none) ∧
    late1.fab.late.contains ((4 : Fin 25).val, (0 : Fin 5).val) = true ∧
    live.fab.late.contains ((4 : Fin 25).val, (0 : Fin 5).val) = false ∧ (live.ctl swPid).pend = none ∧
    ((pending swPid).ctl swPid).pend ≠ none ∧
    ((((pending swPid).stamp swPid).2.add swPid F.SW_STAT_TURN).w64 swPid F.SW_WRAP_LO_TIME F.SW_WRAP_HI_TIME
        ((pending swPid).stamp swPid).1).blockFault swPid = false ∧
    (((pending swPid).openFault 1 1 swPid 0).ctl swPid).pend ≠ none ∧
    (((((pending swPid).openFault 1 1 swPid 0).stamp swPid).2.add swPid F.SW_STAT_TURN).w64 swPid F.SW_WRAP_LO_TIME
        F.SW_WRAP_HI_TIME (((pending swPid).openFault 1 1 swPid 0).stamp swPid).1).blockFault swPid = true ∧
    up.memService = false ∧
    (reqDev.memService = true ∧ reqDev.slotNow < 64 ∧ ∀ n < 64, reqDev.pick (0 : Fin 8) (reqDev.slotOwner n)
      (reqDev.mc.reqs.filter (fun q => reqDev.chanOf q.addr == (0 : Fin 8).val)) = some dramReq) ∧
    (live.memService = true ∧ live.slotNow < 64 ∧ ∀ n < 64, live.pick (7 : Fin 8) (live.slotOwner n)
      (live.mc.reqs.filter (fun q => live.chanOf q.addr == (7 : Fin 8).val)) = none) ∧
    (at50.slotNow < 64 ∧ ∀ n < 64, at50.pick (7 : Fin 8) (at50.slotOwner n)
      (at50.mc.reqs.filter (fun q => at50.chanOf q.addr == (7 : Fin 8).val)) = none) ∧
    ((upFrom 0 8).all (fun p => decide (at50.owedOf (7 : Fin 8) p ≤ 0)) = true ∧ at50.maintain (7 : Fin 8) = at50 ∧
      at50.boltClear upkeepNs = true) ∧
    (live.maintain (7 : Fin 8) = live ∧ live.boltClear upkeepNs = false) := by
  refine ⟨?_, ?_, ?_, ?_, ?_, ?_, ?_, ?_, ?_, ?_, ?_, ?_, ?_, ?_, ?_, ⟨?_, Nat.mod_lt _ (by decide), ?_⟩,
    ⟨?_, Nat.mod_lt _ (by decide), ?_⟩, ⟨Nat.mod_lt _ (by decide), ?_⟩, ⟨?_, ?_, at50_clear⟩, ⟨?_, live_notClear⟩⟩
  case refine_22 =>
    have h : (at50.wckStep (7 : Fin 8)) = at50 := by decide +kernel
    simp only [Dev.maintain, h, at50_clear, if_true]
    decide +kernel
  case refine_23 =>
    have h : (live.wckStep (7 : Fin 8)) = live := by decide +kernel
    simp only [Dev.maintain, h, live_notClear]
    decide +kernel
  all_goals decide +kernel

/-- Two Bulk requests, of host ports A and B, to DRAM. -/
def twoReqs : Dev := { live with fab := { live.fab with reqs := [aReq 0 0 1, { aReq 0 0 1 with port := 5 }] } }
def decidedOne : Dev := { live with fab := { live.fab with decided := [(0, aReq 0 0 1)] } }

theorem witness_ArbitersAndModesComplete :
    ((tabFind decidedOne.fab.decided 0).isSome = true ∧ tabFind live.fab.burst 0 = none ∧ tabFind live.fab.decided 0 = none) ∧
    (live.fab.reqs.filter (fun r => r.target == 0 && live.creditFree 0 r.cls && !live.crossIsolated (portUnit r.port)) = []) ∧
    (tabFind twoReqs.fab.burst 0 = none ∧ tabFind twoReqs.fab.decided 0 = none ∧ twoReqs.r xbPid F.XB_MODE_MODE ≠ 2 ∧
      twoReqs.fab.reqs.filter (fun r => r.target == 0 && twoReqs.creditFree 0 r.cls && !twoReqs.crossIsolated (portUnit r.port)) =
        twoReqs.fab.reqs) ∧
    ((aReq 0 0 8).target ≠ 1 ∧ (aReq 0 0 8).target ≠ 3 ∧ (aReq 0 0 8).beats ≤ 8 ∧ 8 < (aReq 0 0 9).beats) ∧
    (up.accepts .ward xbPid 0x040 (withBit 0#32 4) = true ∧ up.r xbPid F.XB_MODE_TEST_REQ = 0 ∧
      (up.after .ward xbPid 0x040 (withBit 0#32 4)).r xbPid F.XB_MODE_MODE = 0) ∧
    (live.accepts .ward xbPid 0x040 (withBit 0#32 4) = false ∧
      (up.w xbPid F.XB_MODE_TEST_REQ 1).accepts .ward xbPid 0x040 (withBit 0#32 4) = true) ∧
    (((drains 2).w xbPid F.XB_MODE_TEST_REQ 1).accepts .ward xbPid 0x040 (withoutBit 16#32 4) = true ∧
      ((drains 2).w xbPid F.XB_MODE_TEST_REQ 1).r xbPid F.XB_MODE_TEST_REQ = 1 ∧
      (((drains 2).w xbPid F.XB_MODE_TEST_REQ 1).after .ward xbPid 0x040 (withoutBit 16#32 4)).fab.drainTo = some 2) ∧
    (up.accepts .ward xbPid 0x040 (withoutBit 16#32 4) = true ∧ up.r xbPid F.XB_MODE_TEST_REQ = 0) ∧
    (drains 0).fab.drainTo = some 0 ∧ live.fab.drainTo = none := by decide +kernel

def link (k state tries replays : Nat) : Dev :=
  (live.w (plPid k) F.PL_STAT_STATE state).setLink k { attempts := tries, replays := replays }
def asked : Dev := (link 0 3 0 1).setLink 0 { replays := 1, retrain := true }

theorem witness_LinksComplete :
    ((link 3 0 0 0).r (plPid (3 : Fin 4)) F.PL_STAT_STATE = 0 ∧ (link 3 1 0 0).r (plPid (3 : Fin 4)) F.PL_STAT_STATE ≠ 0) ∧
    ((link 2 1 0 0).r (plPid (2 : Fin 4)) F.PL_STAT_STATE = 1 ∧ (link 2 2 0 0).r (plPid (2 : Fin 4)) F.PL_STAT_STATE ≠ 1) ∧
    ((link 0 1 3 0).r (plPid (0 : Fin 4)) F.PL_STAT_STATE = 1 ∧ 3 ≤ ((link 0 1 3 0).link (0 : Fin 4)).attempts) ∧
    ((link 0 1 2 0).r (plPid (0 : Fin 4)) F.PL_STAT_STATE = 1 ∧ ((link 0 1 2 0).link (0 : Fin 4)).attempts < 3 ∧
      (link 0 1 2 0).freeSpares (0 : Fin 4) ≠ 0 ∧ (link 0 1 2 0).on (plPid (0 : Fin 4)) F.PL_CTRL_SPARE_AUTO = true ∧
      ((link 0 1 2 0).w (plPid 0) F.PL_CTRL_SPARE_AUTO 0).on (plPid (0 : Fin 4)) F.PL_CTRL_SPARE_AUTO = false) ∧
    (link 0 2 0 0).r (plPid (0 : Fin 4)) F.PL_STAT_STATE = 2 ∧
    ((link 0 3 0 3).r (plPid (0 : Fin 4)) F.PL_STAT_STATE = 3 ∧ 3 ≤ ((link 0 3 0 3).link (0 : Fin 4)).replays ∧
      ((link 0 3 0 3).link (0 : Fin 4)).retrain = false ∧ ((link 0 3 0 2).link (0 : Fin 4)).replays < 3) ∧
    (asked.r (plPid (0 : Fin 4)) F.PL_STAT_STATE = 3 ∧ (asked.link (0 : Fin 4)).retrain = true) ∧
    ((link 0 2 0 0).accepts .ward (plPid (0 : Fin 4)) 0x040 (withBit 2#32 0) = true ∧
      ((link 0 2 0 0).after .ward (plPid (0 : Fin 4)) 0x040 (withBit 2#32 0)).r (plPid (0 : Fin 4)) F.PL_STAT_STATE = 2) ∧
    ((link 0 3 0 0).accepts .ward (plPid (0 : Fin 4)) 0x040 (withBit 2#32 0) = true ∧
      ((link 0 3 0 0).after .ward (plPid (0 : Fin 4)) 0x040 (withBit 2#32 0)).r (plPid (0 : Fin 4)) F.PL_STAT_STATE = 3) ∧
    ((link 0 1 0 0).accepts .ward (plPid (0 : Fin 4)) 0x040 (withBit 2#32 0) = true ∧
      ((link 0 1 0 0).after .ward (plPid (0 : Fin 4)) 0x040 (withBit 2#32 0)).r (plPid (0 : Fin 4)) F.PL_STAT_STATE = 1) := by
  decide +kernel

def flashDesc : List Nat :=
  bytesLE 4 0x46584249 ++ [1, 0, 0, 50, 0, 0, 0, 0] ++ bytesLE 4 0x10000 ++ bytesLE 4 0x20000 ++ bytesLE 4 0x10000 ++
    List.replicate 36 0

/-- Flash with a flash descriptor (R125) and no image; the CRC-32C is that of another implementation of it. -/
def described : Dev :=
  { State.reset.dev with mems := { State.reset.dev.mems with
      flash := memWrN [] 0 (flashDesc ++ bytesLE 4 0xf7ba5710) } }

/-- The device as the boot ROM starts it. -/
def rom (quad : Bool) (d : Dev) : Dev :=
  ({ d.diesFresh false with boot := { (d.diesFresh false).boot with powerGood := true, quad := quad } } : Dev).release

/-- The watchdog with EN, its countdown of 1 ms just over at a time of 1 ms. -/
def kicked (b ns : Nat) (d : Dev) : Dev :=
  let d := d.w wdgPid F.WDG_CTRL_EN b
  { d with boot := { d.boot with kicked := 0, kickMs := 1 }, fab := { d.fab with count := ns * countUnit } }
def booting : Dev := (up.w bootPid F.BOOT_STAT_STAGE 2).w htPid F.HT_STAT_LOADED 1

theorem witness_BootLockAndRestartComplete :
    (State.reset.dev.boot.mainEn = true ∧ State.reset.dev.boot.powerGood = false ∧
      (rom true State.reset.dev).descOk (rom true State.reset.dev).boot.quad = false) ∧
    (described.boot.mainEn = true ∧ described.boot.powerGood = false ∧
      (rom false described).descOk (rom false described).boot.quad = true) ∧
    live.boot.powerGood = true ∧
    (booting.accepts .ward htPid 0x040 (keyed key 1) = true ∧ (booting.after .ward htPid 0x040 (keyed key 1)).locked = false ∧
      (booting.after .ward htPid 0x040 (keyed key 1)).bootStage ≠ 15) ∧
    (live.accepts .ward htPid 0x040 (keyed key 1) = true ∧ (live.after .ward htPid 0x040 (keyed key 1)).locked = true) ∧
    ((kicked 1 1000000 live).on wdgPid F.WDG_CTRL_EN = true ∧
      (kicked 1 1000000 live).boot.kicked + (kicked 1 1000000 live).boot.kickMs * 1000000 ≤ (kicked 1 1000000 live).now ∧
      (kicked 1 1000000 live).locked = true ∧
      ¬((kicked 1 999999 live).boot.kicked + (kicked 1 999999 live).boot.kickMs * 1000000 ≤ (kicked 1 999999 live).now)) ∧
    ((kicked 1 1000000 up).on wdgPid F.WDG_CTRL_EN = true ∧
      (kicked 1 1000000 up).boot.kicked + (kicked 1 1000000 up).boot.kickMs * 1000000 ≤ (kicked 1 1000000 up).now ∧
      (kicked 1 1000000 up).locked = false ∧ (kicked 1 1000000 up).bootStage ≠ 15 ∧
      (kicked 1 1000000 (up.bootFail 8)).locked = false ∧ (kicked 1 1000000 (up.bootFail 8)).bootStage = 15) ∧
    (kicked 0 1000000 up).on wdgPid F.WDG_CTRL_EN = false ∧
    (live.restartBegin 1).boot.restart.isSome = true ∧ live.boot.restart = none ∧
    live.accepts .ward wdgPid 0x048 (keyed key 1) = true := by decide +kernel

/-! ### Mailboxes, SPDM, services -/

/-- Mailbox 4 in a state, with its first request words. -/
def box (state w1 : Nat) (d : Dev) : Dev := (d.w (mbPid 4) F.MB_STAT_STATE state).w (mbPid 4) F.MB_REQ_WORD w1 1
def restarting : Dev := live.restartBegin 1
def unread : Dev := { live with mboxUnread := [4] }
def waiting (deadline : Nat) : Dev :=
  { box 1 0 live with mbox := [(4, { count := 1, deadline := deadline })], fab := { live.fab with count := countUnit } }

theorem witness_MailboxesComplete :
    (live.accepts (.openWorld 0) (mbPid (4 : Fin 5)) 0x0C0 1 = true ∧
      (live.after (.openWorld 0) (mbPid (4 : Fin 5)) 0x0C0 1).mbState (4 : Fin 5) ≠ 1) ∧
    (mbFormed ((box 0 99 live).mbReq 4) = false ∧ mbFormed ((box 0 100 live).mbReq 4) = true ∧
      (box 0 100 live).accepts (.openWorld 0) (mbPid (4 : Fin 5)) 0x0C0 1 = true) ∧
    (restarting.accepts (.openWorld 0) (mbPid (4 : Fin 5)) 0x0C0 1 = true ∧
      (restarting.after (.openWorld 0) (mbPid (4 : Fin 5)) 0x0C0 1).wardRestarting = true) ∧
    unread.mboxUnread.contains (4 : Fin 5).val = true ∧ live.mboxUnread.contains (4 : Fin 5).val = false ∧
    ((waiting 1).mbState (4 : Fin 5) = 1 ∧ (waiting 1).now ≤ ((waiting 1).mbox? (4 : Fin 5)).deadline) ∧
    ((waiting 1).mbox? (4 : Fin 5)).count = 1 ∧ ¬((waiting 1).mbState (4 : Fin 5) = 1 ∧ ((waiting 1).mbox? (4 : Fin 5)).count = 2) ∧
    (box 1 100 live).accepts (.openWorld 0) (mbPid (4 : Fin 5)) 0x0C0 1 = false ∧
    live.mbState (4 : Fin 5) ≠ 1 ∧ (((waiting 0).mbox? (4 : Fin 5)).deadline < (waiting 0).now) := by decide +kernel

/-- Port A with a number of sessions of which the first is ready and proved. -/
def talking (phase : Nat) (l : List Session) : Dev := { live with spdm := [(0, { phase := phase, sessions := l, next := 3 })] }
def proved : Session := { id := 1, ready := true, mutual_ := true }

theorem witness_SpdmCompletes :
    (live.bootStage = 3 ∧ up.bootStage ≠ 3 ∧ live.spdmOn 0 = true ∧ 2 < (3#8).toNat ∧ (2#8).toNat ≤ 2) ∧
    (live.hears (0 : Fin 4) = true ∧ live.wardRestarting = false ∧ up.hears (0 : Fin 4) = false) ∧
    ((live.restartBegin 1).hears (0 : Fin 4) = true ∧ (live.restartBegin 1).wardRestarting = true) ∧
    ((talking 1 []).hears (0 : Fin 4) = true ∧ 1 ≤ ((talking 1 []).spdmOf (0 : Fin 4)).phase ∧
      ((talking 1 []).spdmOf (0 : Fin 4)).phase < 2) ∧
    ((talking 3 []).wardRestarting = false ∧ 3 ≤ ((talking 3 []).spdmOf (0 : Fin 4)).phase ∧ (7 : Fin 8) ≠ 0 ∧
      1 ≤ (7#8).toNat ∧ (7#8).toNat ≤ 7 ∧ ((talking 3 []).spdmOf (0 : Fin 4)).sessions.length < 2) ∧
    2 ≤ ((talking 3 [proved, proved]).spdmOf (0 : Fin 4)).sessions.length ∧
    ((talking 3 []).spdmOf (0 : Fin 4)).sessions.find? (fun x => x.id == (1#32).toNat && !x.ready) = none ∧
    ((talking 3 [{ id := 1 }]).hears (0 : Fin 4) = true ∧
      ((talking 3 [{ id := 1 }]).spdmOf (0 : Fin 4)).sessions.find? (fun x => x.id == (1#32).toNat && !x.ready) = some { id := 1 }) ∧
    ((talking 3 [proved]).session? (0 : Fin 4) (1#32).toNat).isSome = true ∧ live.session? (0 : Fin 4) (1#32).toNat = none := by
  decide +kernel

def aPrompt (stage : Nat) (ends : Option Nat) : Prompt :=
  { handle := 1, port := 0, session := 1, tag := 0, head := 0, win := 0, tpl := 64, x := 0, y := 0, scale := 1, collect := false,
    crc := false, stage := stage, ends := ends }
def granting : Dev := talking 3 [proved]
def prompting (stage : Nat) (ends : Option Nat) : Dev := { granting with prompts := [aPrompt stage ends] }
/-- The ring holds the block of checkpoint 0. -/
def exported : Dev := ((granting.dramWrN 10 [0, 0xA0]).w ledPid F.LED_RING_HEAD_OFFSET 8).w ledPid F.LED_RING_SIZE_LOG2 12
/-- Strike SRAM holds one template, of identifier 5. -/
def templates : List Host.Cell := memWrN (memWrN [] 0 (bytesLE 4 0x54584249 ++ [1])) 64 [5]
def templated : Dev := { granting with mems := { granting.mems with strike := templates } }
def showReq : ShowReq :=
  { head := 7, window := 7, template := 5, x := 0, y := 0, scale := 4, flags := 2, timeout := 0 }

/-- Mailbox 4 waits for an answer of a service group to its first request. -/
def inBox (svc : Nat) : Dev := { (box 1 0 live).w (mbPid 4) F.MB_REQ_WORD svc 0 with mbox := [(4, { count := 1 })] }

theorem witness_ServicesAndPromptsComplete :
    ((inBox 1).mbState (4 : Fin 5) = 1 ∧ ((inBox 1).mbox? (4 : Fin 5)).count = 1 ∧
      (∀ g ∈ [1, 0x10, 0x101, 0x201, 0x301, 0x401], svcGroup (le ((inBox g).mbReq (4 : Fin 5)) 0 2) = svcGroup g) ∧
      svcGroup (le ((inBox 0x201).mbReq (4 : Fin 5)) 0 2) ≠ svcGroup 1 ∧ ¬(live.mbState (4 : Fin 5) = 1)) ∧
    (recordFormed 99 0 = false ∧ recordFormed 0 4085 = false ∧ recordFormed 0 4084 = true ∧ recordFormed 100 0 = true) ∧
    (∀ g ∈ [0, 1, 2, 3, 4, 5], granting.grantsTo (0 : Fin 4) (1#32).toNat g = true) ∧
    ckptBlock 1 (granting.heard 0).ringSlots = none ∧
    (exported.grantsTo (0 : Fin 4) (1#32).toNat 1 = true ∧ (ckptBlock 0 (exported.heard 0).ringSlots).isSome = true) ∧
    ((7#8).toNat < 8 ∧ (1#8).toNat < 2 ∧ 8 ≤ (8#8).toNat ∧ (15#8).toNat < 16 ∧ 1 ≤ (600#16).toNat ∧ (600#16).toNat ≤ 600) ∧
    ((talking 3 [{ id := 1, ready := true }]).hears (0 : Fin 4) = true ∧
      (talking 3 [{ id := 1, ready := true }]).session? (0 : Fin 4) (1#32).toNat = some { id := 1, ready := true }) ∧
    granting.tplEntry showReq.template.toNat = none ∧
    (templated.grantsTo (0 : Fin 4) (1#32).toNat 2 = true ∧ templated.tplEntry showReq.template.toNat = some 64 ∧
      showReq.head.toNat < 8 ∧ showReq.window.toNat < 8 ∧ showReq.scale.toNat = 4 ∧ showReq.flags = 2 ∧
      ∀ q ∈ templated.prompts, ¬(q.head = showReq.head.toNat ∧ q.win = showReq.window.toNat ∧ q.stage < 5)) ∧
    (∀ g ∈ [2, 3], (prompting 2 none).grantsTo (0 : Fin 4) (1#32).toNat g = true) ∧
    ((prompting 2 none).prompts.find? (fun q => q.handle == (1#32).toNat && q.port == (0 : Fin 4).val && q.session == (1#32).toNat) =
      some (aPrompt 2 none)) ∧
    (aPrompt 3 none).stage ≠ 2 ∧
    ((prompting 2 (some 0)).prompts.find? (fun q => q.handle == (1#32).toNat) = some (aPrompt 2 (some 0)) ∧
      (aPrompt 2 (some 0)).state = 0 ∧ 0 ≤ (prompting 2 (some 0)).now) ∧
    (prompting 2 (some 1)).now < 1 := by decide +kernel

/-! ### Host ports, virtual instances, contexts, commands, translation -/

def vfs (n : Nat) : Dev := { live with hst := { live.hst with sriov := [(0, n)] } }
def readAt (d : Dev) (ag : Agent) (a : Nat) : Nat × Bool × Dev := d.read ag (agentPage ag a) (a % 4096)

def pfFault : Dev := live.openFault 0 2 0x260 0

/-- A write of port A's PF that waits for a check. -/
def behind : Dev := { live with held := [{ ag := .pf 0, pid := ezPid, off := 0x020, v := 0, why := .busy }] }

theorem witness_HostAccessesComplete :
    live.hostAgent 0 (some 1) = none ∧ live.hostAgent 3 none = some (.pf 3) ∧ (vfs 2).hostAgent 0 (some 1) = some (.vi 1) ∧
    (behind.hostAgent 0 none = some (.pf 0) ∧ (behind.readWaits (.pf 0) 0x401 0 behind.held).isSome = true ∧
      live.readWaits (.pf 0) 0x401 0 live.held = none) ∧
    ((readAt live (.pf 0) 0x401000).2.1 = false ∧ 0x401000 % 8 = 0 ∧
      (readAt (readAt live (.pf 0) 0x401000).2.2 (.pf 0) (0x401000 + 4)).2.1 = false) ∧
    ((readAt pfFault (.pf 0) 0x260000).2.1 = true ∧ 0x260000 % 8 = 0) ∧
    ((3 : Nat) ≠ 1 ∧ (3 : Nat) ≠ 2 ∧ (2 : Nat) ≠ 1 ∧ 0x401004 % 8 ≠ 0) ∧
    (up.hostAgent 0 none = some (.pf 0) ∧ up.locked = false ∧ up.bootStage ≠ 15) ∧
    (live.locked = true ∧ (up.bootFail 8).locked = false ∧ (up.bootFail 8).bootStage = 15) ∧
    live.doeWaiting.contains (0 : Fin 4).val = false := by decide +kernel

/-- A command of context 0 of VI 0, in flight. -/
def aCmd : Cmd := { uid := 0, vi := 0, ctx := 0, gen := 1, engine := 0, cmdId := 1, op := 0, hold := false, entry := List.replicate 64 0, sqHead := 1 }
def cmds (l : List Cmd) (d : Dev) : Dev := { d with rend := { d.rend with cmds := l } }
def pilots : Dev := (live.w opPid F.OP_STAT_RUN 7).w opPid F.OP_STAT_FW 1
def viIn (state : Nat) : Dev := live.setViState 0 state

theorem witness_FunctionsPortsAndErrorsComplete :
    ((cmds [{ aCmd with started := true }] live).rend.cmds.find? (fun x => x.vi == 0 && x.ctx == 0 &&
        x.gen == (cmds [{ aCmd with started := true }] live).gen 0 && x.started && x.status.isNone && x.cmdId == 1) =
        some { aCmd with started := true } ∧ live.rend.cmds = []) ∧
    (bit (pilots.r opPid F.OP_STAT_RUN) (2 : Fin 3) = true ∧ pilots.on opPid F.OP_STAT_FW = true ∧
      pilots.boot.fwStopped.contains (2 : Fin 3).val = false) ∧
    bit (live.r opPid F.OP_STAT_RUN) (0 : Fin 3) = false ∧
    (tabGet (vfs 2).hst.sriov 0 (0 : Fin 4) ≤ (2 : Fin 33) ∧ ((1 : Fin 33) : Nat) < tabGet (vfs 2).hst.sriov 0 (0 : Fin 4) ∧
      ((0 : Fin 33) : Nat) ≤ tabGet (vfs 2).hst.sriov 0 (0 : Fin 4)) ∧
    ([3, 5, 6].contains ((viIn 3).viState (0 : Fin 64)) = true ∧ [1, 2].contains ((viIn 2).viState (0 : Fin 64)) = true ∧
      [0, 4].contains ((viIn 4).viState (0 : Fin 64)) = true) ∧
    (1 ≤ (5 : Fin 8).val ∧ (5 : Fin 8).val ≤ 5 ∧ (4 : Fin 16).val = 4 ∧ (1 : Fin 4).val < 2 ∧ ¬((2 : Fin 4).val < 2) ∧
      ¬((6 : Fin 8).val ≤ 5)) := by decide +kernel

/-- VI 0's root in port A's window, past its end. -/
def badRoot : Dev := ((viIn 1).w (vihPid 0) F.VIH_S2_LO_TARGET 1).w (vihPid 0) F.VIH_S2_LO_BASE 0xFFFFF
def ctl (q : Nat) (d : Dev) : Dev := d.after (.pf 0) (0x090 + (0 : Fin 64)) 0x040 (keyed theKey q)
def creating : Dev := { viIn 2 with hst := { live.hst with creates := [(0, 0)] } }
def created (ns : Nat) : Dev := { creating with fab := { creating.fab with count := ns * countUnit } }
def resetting (again : Bool) : Dev := { viIn 4 with hst := { live.hst with vis := [(0, { restart := again })] } }

theorem witness_InstanceRequestsComplete :
    (∀ q ∈ [1, 2, 3, 4, 5], (viIn 1).accepts (.pf 0) (0x090 + (0 : Fin 64)) 0x040 (keyed theKey q) = true ∧
      (viIn 6).accepts (.pf 0) (0x090 + (0 : Fin 64)) 0x040 (keyed theKey q) = true) ∧
    ((ctl 1 (viIn 1)).viState (0 : Fin 64) = 1 ∧ (ctl 1 (viIn 1)).rootOk (0 : Fin 64) = true) ∧
    ((ctl 1 badRoot).viState (0 : Fin 64) = 1 ∧ (ctl 1 badRoot).rootOk (0 : Fin 64) = false ∧
      badRoot.accepts (.pf 0) (0x090 + (0 : Fin 64)) 0x040 (keyed theKey 1) = true) ∧
    ((ctl 1 live).viState (0 : Fin 64) ≠ 1 ∧ (ctl 4 live).viState (0 : Fin 64) = 3 ∧ (ctl 5 (viIn 6)).viState (0 : Fin 64) = 6) ∧
    (0#16 ≠ theKey ∧ live.accepts (.pf 0) (0x090 + (0 : Fin 64)) 0x040 (keyed 0#16 1) = true) ∧
    (creating.hst.creates = [(0, 0)] ∧ creating.accepts (.openWorld 0) 0x084 0x054 (keyed key 1) = true ∧
      creating.accepts (.openWorld 0) 0x084 0x054 (keyed key 2) = true) ∧ live.hst.creates = [] ∧
    ((created 99999999).now < 0 + 100000000 ∧ 0 + 100000000 ≤ (created 100000000).now) ∧
    ((resetting true).viState (0 : Fin 64) = 4 ∧ ((resetting true).vi (0 : Fin 64)).restart = true ∧
      (resetting true).viQuiet (0 : Fin 64) = true ∧ (cmds [aCmd] (resetting true)).viQuiet (0 : Fin 64) = false) ∧
    ((resetting false).vi (0 : Fin 64)).restart = false ∧ (5 : Nat) < 8 := by decide +kernel

/-- Context 0 of VI 0 in a state, with ENABLE, the SQ tail and the CQ head that its doorbells have set. -/
def context (state enable tail head : Nat) (d : Dev) : Dev :=
  ((d.w (ctxPid 0) F.CTX_CTRL_STATE state 0).w (ctxPid 0) F.CTX_CTRL_ENABLE enable 0).setCtx 0 0 { sqTail := tail, cqHead := head }
def sq (x : Nat) (d : Dev) : Dev := d.after (.vi 0) 2 0x040 x
def cq (x : Nat) (d : Dev) : Dev := d.after (.vi 0) 2 0x140 x
def idle : Dev := context 1 1 0 0 live
def full (wait : List Nat) (n : Nat) : Dev :=
  { idle with hinge := memWr table 6 3, hst := { idle.hst with waitRes := wait, resident := upFrom 1 n } }

theorem witness_ContextsComplete :
    (live.accepts (.vi 0) 1 (0x800 + 32 * (0 : Fin 64)) (withBit 0#32 0) = true ∧
      live.rises (ctxPid 0) (withBit 0#32 0) F.CTX_CTRL_ENABLE (0 : Fin 64) = true ∧
      (live.after (.vi 0) 1 (0x800 + 32 * (0 : Fin 64)) (withBit 0#32 0)).ctxState (0 : Fin 64) (0 : Fin 64) = 0) ∧
    (idle.accepts (.vi 0) 1 (0x800 + 32 * (0 : Fin 64)) (withoutBit 1#32 0) = true ∧
      idle.falls (ctxPid 0) (withoutBit 1#32 0) F.CTX_CTRL_ENABLE (0 : Fin 64) = true ∧
      (idle.after (.vi 0) 1 (0x800 + 32 * (0 : Fin 64)) (withoutBit 1#32 0)).ctxState (0 : Fin 64) (0 : Fin 64) ≠ 0) ∧
    (live.accepts (.vi 0) 2 0x040 15 = true ∧ (sq 15 live).bellOk (0 : Fin 64) (0 : Fin 64) = false) ∧
    (idle.accepts (.vi 0) 2 0x040 16 = true ∧ (sq 16 idle).bellOk (0 : Fin 64) (0 : Fin 64) = true ∧ (sq 16 idle).sqSize 0 0 ≤ 16 % 2 ^ 12) ∧
    (idle.accepts (.vi 0) 2 0x040 15 = true ∧ 15 % 2 ^ 12 < (sq 15 idle).sqSize 0 0) ∧
    (live.accepts (.vi 0) 2 0x140 0 = true ∧ (cq 0 live).bellOk (0 : Fin 64) (0 : Fin 64) = false) ∧
    (idle.accepts (.vi 0) 2 0x140 1 = true ∧ (cq 1 idle).bellOk (0 : Fin 64) (0 : Fin 64) = true ∧
      ((0 + (cq 1 idle).cqSize 0 0 - 0) % (cq 1 idle).cqSize 0 0 < (1 + (cq 1 idle).cqSize 0 0 - 0) % (cq 1 idle).cqSize 0 0)) ∧
    (idle.accepts (.vi 0) 2 0x140 0 = true ∧ 0 < (cq 0 idle).cqSize 0 0) ∧
    (live.waitOrder.find? (fun k => (live.slotFor k).isSome) = none) ∧
    ((full [0] 0).waitOrder.find? (fun k => ((full [0] 0).slotFor k).isSome) = some 0 ∧ (full [0] 0).slotFor 0 = some none) ∧
    ((full [0] 256).waitOrder.find? (fun k => ((full [0] 256).slotFor k).isSome) = some 0 ∧
      (full [0] 256).slotFor 0 = some (some 255)) := by decide +kernel

/-- A TLB entry of VI 0 for its first page, with permissions. -/
def tlb (r w : Bool) : TlbEntry :=
  { vi := 0, gen := 1, asp := 0, epoch := 0, base := 0, size := 12, out := 0, tgt := 0, gpa := 0, r1 := r, w1 := w, r2 := true, w2 := true }
def mapped (r w : Bool) (d : Dev) : Dev := { d with hst := { d.hst with tlb := [tlb r w], resident := [0] } }
def fetching : Dev := mapped true true (context 1 1 1 0 live)
def unmapped : Dev := mapped false true (context 1 1 1 0 live)
def fetch (d : Dev) : Dev × Option Nat × List Nat :=
  let d := { d with hst := { d.hst with lastFetch := [(0, 0)] } }
  d.vmRead (0 : Fin 64) (d.gen (0 : Fin 64)) (d.r (ctxPid 0) F.CTX_CTRL_ASPACE 0) 0
    (d.r (ctxPid 0) F.CTX_SQ_LO_BASE 0 * 64 + d.r (ctxPid 0) F.CTX_SQ_HI_BASE 0 * 2 ^ 32 + 64 * d.r (ctxPid 0) F.CTX_SQ_HEAD_INDEX 0) 64
/-- The next read of host memory of port A ends in an error. -/
def failing : Dev := { fetching with hst := { fetching.hst with failNext := [0] } }
def decided (gen : Nat) : Dev := cmds [{ aCmd with status := some 0, gen := gen }] fetching
def released (d : Dev) : Dev := { d with rend := { d.rend with releases := [255] } }

/-- A job in slot 0 of VI 0 for the period entry that is released. -/
def slotted : Dev := released (fetching.wa (viPage 0 4) F.RQ_JOB_CFG_VALID 1 0)

theorem witness_CommandFlowCompletes :
    (live.fetchNext 0 = none ∧ ∀ d ∈ [fetching, unmapped, failing], d.fetchNext (0 : Fin 64) = some (0 : Fin 64).val) ∧
    ((fetch fetching).2.1 = none ∧ (fetch unmapped).2.1 = some 2 ∧ (fetch failing).2.1 = some 3) ∧
    live.rend.cmds.filter (fun x => x.vi == (0 : Fin 64).val && x.ctx == (0 : Fin 64).val && x.gen == (1#8).toNat) = [] ∧
    ((cmds [aCmd] live).rend.cmds.filter (fun x => x.vi == (0 : Fin 64).val && x.ctx == (0 : Fin 64).val && x.gen == (1#8).toNat) =
      [aCmd] ∧ aCmd.status = none ∧ 0 < ({ aCmd with running := 1 } : Cmd).running) ∧
    ((decided 2).rend.cmds.filter (fun x => x.vi == (0 : Fin 64).val && x.ctx == (0 : Fin 64).val && x.gen == (2#8).toNat) =
      [{ aCmd with status := some 0, gen := 2 }] ∧ (2#8).toNat ≠ (decided 2).gen (0 : Fin 64)) ∧
    ((decided 1).rend.cmds.filter (fun x => x.vi == (0 : Fin 64).val && x.ctx == (0 : Fin 64).val && x.gen == (1#8).toNat) =
      [{ aCmd with status := some 0 }] ∧ (1#8).toNat = (decided 1).gen (0 : Fin 64) ∧ aCmd.running = 0) ∧
    live.rend.releases.contains (255 : Fin 256).val = false ∧
    (slotted.rend.releases.contains (255 : Fin 256).val = true ∧ slotted.r (perPage 255) F.PE_CTRL_OWNER (255 % 64) = 0 ∧
      slotted.r (perPage 255) F.PE_TARGET_HANDLE (255 % 64) = 0 ∧ slotted.a (viPage 0 4) F.RQ_JOB_CFG_CTX 0 = 0 ∧
      slotted.ctxState 0 0 = 1 ∧ slotted.ctxRoom 0 0 = true ∧ slotted.viActive 0 = true ∧
      slotted.hst.resident.contains (ctxKey 0 0) = true) ∧
    ({ slotted with hst := { slotted.hst with resident := [] } } : Dev).hst.resident.contains (ctxKey 0 0) = false := by
  decide +kernel

theorem witness_CommandFlowCompletes_job :
    let m : Dev := { slotted with rend := { slotted.rend with releases := slotted.rend.releases.erase 255 } }
    let r := m.vmRead 0 (m.gen 0) (m.ctxAsp 0 0) 0 (m.a (viPage 0 4) F.RQ_JOB_LO_ADDR 0 * 64 +
      m.a (viPage 0 4) F.RQ_JOB_HI_ADDR 0 * 2 ^ 32) 64
    r.2.1 = none ∧ r.1.a (viPage 0 4) F.RQ_JOB_CFG_VALID 0 = 1 ∧
    ((r.1.launch 0 0 0 0 r.2.2 (some 255) true 0).cmdOf r.1.rend.nextUid).isSome = true := by decide +kernel

def oneWalk : Walk := { vi := 0, gen := 1, asp := 0, ctx := 0, addr := 0, write := false }
def walking (g : Nat) (d : Dev) : Dev := { d with hst := { d.hst with walks := [{ oneWalk with gen := g }] } }
def dirty : Dev := (mapped true true live).w (vihPid 0) F.VIH_DL_STAT_ACTIVE 1

/-- Host memory of port A has the stage-2 tables of VI 0, whose first 2 MiB page they map. -/
def rooted : Dev := ((live.hostWrN 0 0 (bytesLE 8 0x1001)).hostWrN 0 0x1000 (bytesLE 8 0x2001)).hostWrN 0 0x2000 (bytesLE 8 0xF)

theorem witness_TranslationCompletes :
    (2#8).toNat ≠ live.gen (0 : Fin 64) ∧ ((1#8).toNat = live.gen (0 : Fin 64) ∧ 2 ^ 48 ≤ (0x1000000000000#64).toNat) ∧
    ((0xFFFFFFFFFFFF#64).toNat < 2 ^ 48 ∧ live.tlbFind (0 : Fin 64) (0 : Fin 16) (0xFFFFFFFFFFFF#64).toNat = none) ∧
    ((mapped true true live).tlbFind (0 : Fin 64) (0 : Fin 16) (0xFFF#64).toNat = some (tlb true true)) ∧
    (oneWalk.write = false ∧ ((tlb true true).r1 && (tlb true true).r2) = true ∧ ((tlb true true).w1 && (tlb true true).w2) = true ∧
      ((tlb false false).r1 && (tlb false false).r2) = false ∧ ((tlb false false).w1 && (tlb false false).w2) = false) ∧
    (dirty.on (vihPid (0 : Fin 64)) F.VIH_DL_STAT_ACTIVE = true ∧ (tlb true true).logged = false ∧
      (mapped true true live).on (vihPid (0 : Fin 64)) F.VIH_DL_STAT_ACTIVE = false) ∧
    live.nextWalk = none ∧
    ((walking 2 live).nextWalk = some { oneWalk with gen := 2 } ∧ (2 : Nat) ≠ (walking 2 live).gen 0) ∧
    ((walking 1 live).nextWalk = some oneWalk ∧ oneWalk.gen = (walking 1 live).gen oneWalk.vi) ∧
    ((rooted.walkBoth 0 0 0).2.isLeft = true ∧ (live.walkBoth 0 0 0).2 = .inr (.bad 1 2 0)) := by decide +kernel

/-! ### Invalidations, command starts, render clusters -/

def inval (v : Inval) : ViSt := { inv1 := some v, inv2 := some v, dlWait := true }
def invalidating : Dev := live.setVi 0 (inval {})
def logging : Dev := live.w (vihPid 0) F.VIH_DL_CTRL_EN 1

theorem witness_InvalidationsComplete :
    live.accepts (.pf 0) (0x090 + (0 : Fin 64)) 0x058 (withBit 0#32 0) = true ∧
    live.accepts (.vi 0) 11 0x0C8 (withBit 0#32 0) = true ∧
    ((invalidating.vi (0 : Fin 64)).inv1 = some {} ∧ (invalidating.vi (0 : Fin 64)).inv2 = some {} ∧
      (invalidating.vi (0 : Fin 64)).dlWait = true) ∧
    ((live.vi (0 : Fin 64)).inv1 = none ∧ (live.vi (0 : Fin 64)).inv2 = none ∧ (live.vi (0 : Fin 64)).dlWait = false) ∧
    (bit (0xC00#32).toNat 16 = false ∧ live.accepts (.pf 0) (0x090 + (0 : Fin 64)) 0x068 (withBit 0xC00#32 0) = true ∧
      live.rises (vihPid (0 : Fin 64)) (withBit 0xC00#32 0) F.VIH_DL_CTRL_EN = true) ∧
    (logging.accepts (.pf 0) (0x090 + (0 : Fin 64)) 0x068 (withoutBit 0xC01#32 0) = true ∧
      logging.falls (vihPid (0 : Fin 64)) (withoutBit 0xC01#32 0) F.VIH_DL_CTRL_EN = true) ∧
    (logging.accepts (.pf 0) (0x090 + (0 : Fin 64)) 0x068 (withBit 0xC01#32 16) = true ∧
      logging.rises (vihPid (0 : Fin 64)) (withBit 0xC01#32 16) F.VIH_DL_CTRL_EN = false ∧
      logging.falls (vihPid (0 : Fin 64)) (withBit 0xC01#32 16) F.VIH_DL_CTRL_EN = false) := by decide +kernel

/-- The oldest command of context 0, of an operation and with the 64 bytes of its entry, in a mapped address space over host
memory. -/
def opCmd (op : Nat) (entry : List Nat) : Cmd := { aCmd with op := op, entry := takePad 0 64 entry }
def hostMem (bs : List Nat) (d : Dev) : Dev := { d with mems := { d.mems with host := memWrN [] 0 bs } }
def starting (op : Nat) (entry bs : List Nat) : Dev := cmds [opCmd op entry] (hostMem bs (mapped true true live))
/-- Handle of fence 0 of VI 0, in a WAIT. -/
def waitEntry : List Nat := [3, 0, 0, 0, 0, 0, 0, 0, 0, 0, 0, 0, 1, 0, 0, 0, 100]
/-- A compute container (R250 to R252) without code; its CRC-32C is that of another implementation of it. -/
def container : List Nat :=
  takePad 0 124 (bytesLE 4 0x53584249 ++ [1, 0, 2, 0] ++ bytesLE 4 256 ++ bytesLE 4 0 ++ [1, 0, 0, 0, 1, 0, 1, 0, 1, 0]) ++ bytesLE 4 0x0d79b59f
/-- A render descriptor (R244) of one pixel with one draw record at address 256. -/
def desc : List Nat := [1, 0, 1, 0] ++ List.replicate 12 0 ++ bytesLE 8 256 ++ bytesLE 4 1 ++ List.replicate 12 0 ++ bytesLE 4 256
/-- The same job with one colour target whose signature lies at an address that is not mapped. -/
def signedDesc : List Nat :=
  takePad 0 128 (desc.take 4 ++ [1, 4] ++ desc.drop 6) ++ takePad 0 128 (bytesLE 8 0 ++ bytesLE 4 64 ++ [0, 0, 0, 0] ++ bytesLE 8 4096)
def read (d : Dev) (addr n : Nat) : Dev × Option Nat × List Nat := d.vmRead 0 1 (d.ctxAsp 0 0) 0 addr n
def checked (d : Dev) (stage addr : Nat) : Option Nat × Bool :=
  let r := d.container 0 1 (d.ctxAsp 0 0) 0 stage addr
  (r.2.1, r.2.2.1)
/-- A draw record (R247) whose containers are not there, and one that is skipped. -/
def drawing (good : Bool) : Dev :=
  starting 1 [] (takePad 0 256 desc ++ (if good then [0, 0, 0, 0, 1, 0, 0, 0, 1] else []))
def drawn (d : Dev) : Option Nat × Nat :=
  let r := d.checkDraws 0 1 0 0 (takePad 0 256 desc) [(read d 256 64).2.2]
  (r.2.st, r.2.skipped)
/-- Two ms after the start of the oldest command of context 0. -/
def begun (op : Nat) (entry : List Nat) (job : Option Job) : Cmd :=
  { opCmd op entry with started := true, began := some 0, job := job }
def after2ms (c : Cmd) (ns : Nat) : Dev :=
  let d := cmds [c] live
  { d with fab := { d.fab with count := ns * countUnit } }

theorem witness_CommandStartsComplete :
    (∀ op ∈ [0, 1, 2, 3, 4, 5], (live.startable (0 : Fin 64) (0 : Fin 64) op) = none ∧
      ((starting op [] []).startable (0 : Fin 64) (0 : Fin 64) op) = some (opCmd op [])) ∧
    ((starting 3 waitEntry []).startable (0 : Fin 64) (0 : Fin 64) 3 = some (opCmd 3 waitEntry) ∧
      fencePlace (le (opCmd 3 waitEntry).entry 8 4) = some (viPage 0 5, 0)) ∧
    ((read (starting 5 (bytesLE 8 0 ++ bytesLE 8 0 ++ [1]) []) 0 1).2.1 = none ∧ (read (cmds [opCmd 5 []] unmapped) 0 1).2.1 = some 2 ∧
      (read (cmds [opCmd 5 []] failing) 0 1).2.1 = some 3) ∧
    (checked (cmds [opCmd 2 []] unmapped) 2 0 = (some 2, false) ∧ checked (starting 2 [] []) 2 0 = (none, false) ∧
      checked (starting 2 [] container) 2 0 = (none, true)) ∧
    ((read (cmds [opCmd 1 []] unmapped) 0 256).2.1 = some 2 ∧ descOk 0 (read (starting 1 [] []) 0 256).2.2 = false ∧
      (read (drawing true) 0 256).2.1 = none ∧ descOk 0 (read (drawing true) 0 256).2.2 = true) ∧
    (descOk 0 (takePad 0 256 (desc.take 16 ++ bytesLE 8 4096 ++ desc.drop 24)) = true ∧
      (read (drawing true) 4096 64).2.1 ≠ none) ∧
    ((read (drawing true) 256 64).2.1 = none ∧ drawn (drawing true) = (some 20, 0) ∧ drawn (drawing false) = (none, 1)) ∧
    (((drawing false).sigStart 0 1 0 0 (takePad 0 256 desc) false (upFrom 0 (jobColors (takePad 0 256 desc)))).2.2 = none ∧
      descOk 0 signedDesc = true ∧
      ((drawing false).sigStart 0 1 0 0 signedDesc false (upFrom 0 (jobColors signedDesc))).2.2 ≠ none) := by
  decide +kernel

theorem witness_CommandStartsComplete_limits :
    (let c := begun 1 [] (some { desc := takePad 0 256 desc });
      ((after2ms c 100000000).ctxCmds (0 : Fin 64) (0 : Fin 64)).head? = some c ∧ c.deadlineUs = some 100000 ∧ c.started = true ∧
      c.status = none ∧ (after2ms c 100000000).limitMet c 100000 = true ∧ (after2ms c 99999999).limitMet c 100000 = false) ∧
    (let c := begun 2 (List.replicate 48 0 ++ [100]) none;
      c.deadlineUs = some 100 ∧ (after2ms c 100000).limitMet c 100 = true ∧ (begun 2 [] none).deadlineUs = none) ∧
    (let c := begun 3 waitEntry none;
      ((after2ms c 100000).ctxCmds (0 : Fin 64) (0 : Fin 64)).head? = some c ∧ c.op = 3 ∧
      (after2ms c 100000).limitMet c (le c.entry 16 4) = true ∧ (after2ms c 99999).limitMet c (le c.entry 16 4) = false) := by
  decide +kernel

/-- A render job in a phase, its command started, cluster 15 free or with an item, and its quad powered. -/
def aJob (phase : Nat) : Job := { desc := takePad 0 256 desc, phase := phase, todo := [0], total := 1 }
def jobCmd (op phase running : Nat) : Cmd := { opCmd op [] with started := true, running := running, job := some (aJob phase) }
def clusters (op phase running : Nat) (item : Option Item) : Dev :=
  (((cmds [jobCmd op phase running] live).w rndPid F.RND_STAT_POWERED 15).w (rcPid 15) F.RC_STAT_STATE 1).setItem 15 item
def anItem : Item := { uid := 0, kind := 0, index := 0, start := 0, since := 0, limit := 16 }
def atNs (ns : Nat) (d : Dev) : Dev := { d with fab := { d.fab with count := ns * countUnit } }
def draining (m : Nat) : Dev := live.w rndPid F.RND_STAT_DRAINING m
def owing : Dev := live.setOwed 0x1F4 191 [{ who := 0, since := 0, tmo := 1 }]
def freed (c : Cmd) : Dev :=
  let d := (clusters 1 0 1 (some anItem))
  let d : Dev := { d with rend := { d.rend with cmds := [c] } }
  (d.chargeItem 15).freeCluster 15

theorem witness_RenderClustersComplete :
    live.quadOn ((15 : Fin 16) / 4) = false ∧ live.nextWork = none ∧
    ((clusters 1 0 0 none).quadOn ((15 : Fin 16) / 4) = true ∧ (clusters 1 0 0 none).itemOn (15 : Fin 16) = none ∧
      (clusters 1 0 0 none).r (rcPid (15 : Fin 16)) F.RC_STAT_STATE = 1 ∧ (clusters 1 0 0 none).isolated (rcPid (15 : Fin 16)) = false ∧
      (clusters 1 0 0 none).nextWork = some (jobCmd 1 0 0) ∧ (clusters 1 0 0 none).readyItem (jobCmd 1 0 0) = some (0, 0) ∧
      (jobCmd 1 0 0).job = some (aJob 0)) ∧
    ((clusters 1 2 0 none).nextWork = some (jobCmd 1 2 0) ∧ (clusters 1 2 0 none).readyItem (jobCmd 1 2 0) = some (1, 0)) ∧
    live.itemOn (15 : Fin 16) = none ∧
    ((clusters 1 0 1 (some anItem)).itemOn (15 : Fin 16) = some anItem ∧ anItem.kind = resultKind (.bin []) ∧
      anItem.kind ≠ resultKind (.tile []) ∧
      ¬(anItem.start + anItem.limit * 1000000 < (atNs 16000000 (clusters 1 0 1 (some anItem))).now) ∧
      anItem.start + anItem.limit * 1000000 < (atNs 16000001 (clusters 1 0 1 (some anItem))).now) ∧
    ((freed (jobCmd 1 0 1)).cmdOf anItem.uid = some (jobCmd 1 0 1) ∧ (jobCmd 1 0 1).gen = (freed (jobCmd 1 0 1)).gen 0 ∧
      ({ freed (jobCmd 1 0 1) with rend := {} } : Dev).cmdOf anItem.uid = none ∧
      (freed { jobCmd 1 0 1 with gen := 2 }).cmdOf anItem.uid = some { jobCmd 1 0 1 with gen := 2 } ∧
      2 ≠ (freed { jobCmd 1 0 1 with gen := 2 }).gen 0) ∧
    (live.accepts .ward (0x1F4#12).toNat (0x408 + 16 * (191 : Fin 192)) (withBit 0#32 0) = true ∧
      (kindOf (agentPageNo .ward (0x1F4#12).toNat)).any (fun k => k.1 == .fence || k.1 == .viFences) = true) ∧
    (owing.owed (PageRef.pid (.dev 0x1F4)) (191 : Fin 192) = [{ who := 0, since := 0, tmo := 1 }] ∧
      (atNs 999999 owing).now < 0 + 1 * 1000000 ∧ 0 + 1 * 1000000 ≤ (atNs 1000000 owing).now ∧
      live.owed (PageRef.pid (.dev 0x1F4)) (191 : Fin 192) = []) ∧ (3 : Nat) < 4 ∧
    bit ((draining 8).r rndPid F.RND_STAT_DRAINING) (3 : Fin 4) = true ∧
    bit ((draining 7).r rndPid F.RND_STAT_DRAINING) (3 : Fin 4) = false := by decide +kernel

/-! ### DRAM, ECC, repair, layer pipes -/

def memTraining : Dev := live.w mcPid F.MC_TRAIN_STATE 1
def trained (failed : Fin 5) : TrainResult := { failed := failed, ms := 40, dens := [1], trfcNs := 400, raaMax := none, phy := [] }
def closing (ns : Nat) : Dev :=
  let d := atNs ns (live.w mcPid F.MC_PAGE_MODE 3)
  { d with mc := { d.mc with hold := [(127, 10)] } }
/-- A memory fault of cause 11 open on the controller, cool since a time. -/
def hotMem (since : Option Nat) : Dev :=
  let d := live.openFault 11 3 mcPid 0
  { d with mc := { d.mc with coolSince := since } }
/-- Zone 15 of 16 MiB at 16 MiB with its check region at 32 MiB, in a state; the ward carve-out is the first GiB. -/
def zone (state : Nat) (d : Dev) : Dev :=
  (((({ d with hinge := memWr (memWr table 0x14 0) 0x15 2 }.w ezPid F.EZ_STAT_STATE state 15).wa ezPid F.EZ_RANGE_BASE 1 15).wa ezPid
    F.EZ_RANGE_SIZE 1 15).wa ezPid F.EZ_CHK_CBASE 16 15)

/-- Channel 7's oscillator is read next, and MR4 polled next, at a time of 10 ns. -/
def periods (ns : Nat) (d : Dev) : Dev :=
  let d := atNs ns d
  { d with mc := { d.mc with wckNext := [(7, 10)], mr4Next := 10 } }
def owes (n : Int) : Dev := { live with mc := { live.mc with owed := [(56, n)] } }
/-- A correction step of channel 7 waits, clear of the Bolt slots. -/
def stepping : Dev := { at50 with mc := { at50.mc with wck := [(7, some 3)] } }
def eight : Dev := inXbar (List.replicate 8 { wardReq with addr := 64 }) live
def hotFaults (d : Dev) : List OpenFault := d.flt.faults.filter (fun f => f.cause == 11 && f.pid == mcPid)

theorem stepping_clear : stepping.boltClear 100 = true := by
  have h : stepping.stampIn (swPid / 16) = stepping.now := stampIn_of_stamped _ _ (by decide +kernel)
  simp only [Dev.boltClear, h]
  decide +kernel

theorem live_notClear100 : live.boltClear 100 = false := by
  have h : live.stampIn (swPid / 16) = live.now := stampIn_of_stamped _ _ (by decide +kernel)
  simp only [Dev.boltClear, h]
  decide +kernel

theorem witness_DramServiceCompletes_clear :
    stepping.boltClear 100 = true ∧ live.boltClear 100 = false ∧ tabGet stepping.mc.wck none 7 = some 3 ∧
    tabGet live.mc.wck none 7 = none := by
  refine ⟨stepping_clear, live_notClear100, ?_, ?_⟩ <;> decide +kernel

theorem witness_DramServiceCompletes :
    (up.accepts .ward mcPid 0x044 1 = true ∧ (up.after .ward mcPid 0x044 1).r mcPid F.MC_TRAIN_STATE = 0 ∧
      memTraining.accepts .ward mcPid 0x044 1 = true ∧ (memTraining.after .ward mcPid 0x044 1).r mcPid F.MC_TRAIN_STATE = 1) ∧
    (memTraining.r mcPid F.MC_TRAIN_STATE = 1 ∧ memTraining.trainCause (trained 0) = 0 ∧ memTraining.trainCause (trained 4) ≠ 0 ∧
      live.r mcPid F.MC_TRAIN_STATE ≠ 1) ∧
    (live.memService = true ∧ tabGet (periods 10 live).mc.wckNext 0 (7 : Fin 8) ≤ (periods 10 live).now ∧
      ¬(tabGet (periods 9 live).mc.wckNext 0 (7 : Fin 8) ≤ (periods 9 live).now)) ∧
    ((closing 10).pageMode = 2 ∧ (closing 10).bankBusy (7 : Fin 8) (15 : Fin 16) = false ∧
      tabGet (closing 10).mc.hold 0 (16 * (7 : Fin 8).val + (15 : Fin 16).val) ≤ (closing 10).now ∧
      ¬(tabGet (closing 9).mc.hold 0 (16 * (7 : Fin 8).val + (15 : Fin 16).val) ≤ (closing 9).now) ∧
      reqDev.bankBusy (0 : Fin 8) (0 : Fin 16) = true) ∧
    (up.memService = false ∧ (owes 7).owedOf (7 : Fin 8) (0 : Fin 8) < 8 ∧ 8 ≤ (owes 8).owedOf (7 : Fin 8) (0 : Fin 8)) ∧
    ((periods 10 live).mc.mr4Next ≤ (periods 10 live).now ∧ ¬((periods 9 live).mc.mr4Next ≤ (periods 9 live).now) ∧
      hotFaults ((periods 10 live).w mcPid F.MC_REF_RATE 31) = []) ∧
    (hotFaults (hotMem none) ≠ [] ∧ (hotMem none).memService = true ∧ (hotMem none).mc.coolSince = none ∧ (hotMem none).mc.mr4Next = 0) ∧
    (hotFaults (hotMem (some 0)) ≠ [] ∧ (hotMem (some 0)).mc.coolSince = some 0 ∧ (atNs 999999999 (hotMem (some 0))).now < 0 + 1000000000 ∧
      0 + 1000000000 ≤ (atNs 1000000000 (hotMem (some 0))).now) ∧
    (portAllows (23 : Fin 25) (live.pathClass (23 : Fin 25) .wardOther) = false) ∧
    ((zone 2 live).tagRefused ((zone 2 live).portTag (4 : Fin 25) (.hostDma none) % 4) (0x3FFFFFFF#64).toNat 1 = true) ∧
    (live.tagRefused (live.portTag (0 : Fin 25) .wardRead % 4) (64#64).toNat 64 = false ∧ (live.mcAdmit 64 64).2 = true ∧
      (up.mcAdmit 64 64).2 = false ∧ wheelOwner (0 : Fin 25) (live.pathClass (0 : Fin 25) .wardRead) = 1) ∧
    ((live.mcAdmit 64 64).1.boltReads.length < 16 ∧ (live.mcAdmit 64 64).1.chanReads 64 < 8) ∧
    (((eight.mcAdmit 96 32).1.carried 0 .bolt 96).isSome = true ∧ (eight.mcAdmit 128 32).1.carried 0 .bolt 128 = none ∧
      8 ≤ (eight.mcAdmit 128 32).1.chanReads 128) ∧
    ((sixteen.mcAdmit 64 32).1.carried 0 .bolt 64 = none ∧ 16 ≤ (sixteen.mcAdmit 64 32).1.boltReads.length ∧
      (sixteen.mcAdmit 64 32).1.chanReads 64 < 8) ∧
    (live.capacity < 0x400000000 + 1 ∧ 0x3FFFFFFFF + 1 ≤ live.capacity ∧ up.capacity = 0 ∧
      (live.w mcPid F.MC_TRAIN_STATE 1).memService = false) ∧
    (0x2000000 + 64 ≤ (zone 2 live).capacity ∧ (zone 2 live).memService = true ∧ (zone 2 live).inCheck 0x2000000 64 = true ∧
      (zone 1 live).inCheck 0x1000000 64 = false ∧ (zone 1 live).inInit 0x1000000 64 = true) ∧
    dramReq.job = .access ∧ dramReq.data = none := by decide +kernel

def wback (a : Nat) : Dev := { zone 2 live with mc := { live.mc with wback := [(a, 1, 2)] } }
/-- The scrubber stands at a line, the pass having begun at 0, at a time in hours. -/
def scrubAt (line h : Nat) : Dev :=
  let d := atNs (h * 3600000000000) ((zone 2 live).w64 ezPid F.EZ_SCRPOS_LO_ADDR F.EZ_SCRPOS_HI_ADDR line)
  { d with mc := { d.mc with scrub := some (0, 3600000000000) } }
def scrubQ : DramReq := { port := 0, owner := 0, addr := 0x1000000, len := 64, data := none, job := .scrub }
/-- The row of a line is open, and its check line cached. -/
def scrubOpen (d : Dev) (l : Nat) : Dev :=
  let d := d.w mcPid F.MC_PAGE_MODE 0
  { d with mc := { d.mc with rows := (upFrom 0 128).map (fun b => (b, rowOf (d.localOf l) + 1)), chk := [d.checkAddr 15 l / 64 * 64] } }

/-- A Bulk burst is an access to its row. -/
theorem burst_bulk (d : Dev) (a : Nat) : d.burst 0 a =
    d.rowAccess (d.chanOf a) (bankOf (d.localOf a)) (d.mappedRow (d.chanOf a) (bankOf (d.localOf a)) (rowOf (d.localOf a))) := by
  simp [Dev.burst, Dev.reclaim]

theorem bursts_line (d : Dev) (a : Nat) (h : linesOf a 64 = [a]) : d.bursts 0 a 64 false =
    (d.rowAccess (d.chanOf a) (bankOf (d.localOf a)) (d.mappedRow (d.chanOf a) (bankOf (d.localOf a)) (rowOf (d.localOf a)))).chkBurst
      0 a false := by
  simp only [Dev.bursts, h, List.foldl, burst_bulk]
def remapping (state : Nat) : Dev :=
  let d := live.w rmpPid F.RMP_DST_STATE state 31
  { d with mc := { d.mc with remap := [(31, (1, 2, 3))] } }
/-- The diagnostic names the word at an address. -/
def diag (a : Nat) (d : Dev) : Dev := d.w64 dgPid F.DG_ADDR_LO_ADDR F.DG_ADDR_HI_ADDR (a / 8)
def diagged (op : Nat) (d : Dev) : Dev := d.after .ward dgPid 0x054 (keyed theKey op)
def diagAddr (d : Dev) : Nat := d.r64 dgPid F.DG_ADDR_LO_ADDR F.DG_ADDR_HI_ADDR * 8

theorem witness_MemoryRepairCompletes :
    (zone 1 live).zoneState (15 : Fin 16) = 1 ∧ (zone 2 live).zoneState (15 : Fin 16) ≠ 1 ∧ live.mc.wback = [] ∧
    ((wback 0).mc.wback = [(0, 1, 2)] ∧ (wback 0).zoneAt 2 0 = none ∧ (wback 0x1FFFFF8).zoneAt 2 0x1FFFFF8 = some 15) ∧
    (((zone 2 live).w ezPid F.EZ_SCRUB_EN 0).on ezPid F.EZ_SCRUB_EN = false ∧ up.memService = false ∧ scrubQ.job = .scrub ∧
      (scrubAt 0x40001 0).scrubDue = false) ∧
    ((scrubAt 0x40001 1).on ezPid F.EZ_SCRUB_EN = true ∧ (scrubAt 0x40001 1).memService = true ∧ (scrubAt 0x40001 1).mc.reqs = [] ∧
      (scrubAt 0x40001 1).scrubDue = true ∧ (scrubAt 0x40001 1).scrubLine (scrubAt 0x40001 1).scrubPos = some 0x1000040) ∧
    ((scrubAt 0x80000 1).scrubDue = true ∧ (scrubAt 0x80000 1).scrubLine (scrubAt 0x80000 1).scrubPos = none) ∧
    ((remapping 1).r rmpPid F.RMP_DST_STATE (31 : Fin 32) = 1 ∧
      (remapping 3).r rmpPid F.RMP_DST_STATE (31 : Fin 32) = 3 ∧
      (remapping 2).r rmpPid F.RMP_DST_STATE (31 : Fin 32) ≠ 1 ∧ (remapping 2).r rmpPid F.RMP_DST_STATE (31 : Fin 32) ≠ 3) ∧
    (∀ op ∈ [1, 2, 3, 4], (diag 0x1000000 (zone 2 live)).accepts .ward dgPid 0x054 (keyed theKey op) = true) ∧
    (diagged 1 (diag 0 (zone 2 live))).zoneAt 2 (diagAddr (diagged 1 (diag 0 (zone 2 live)))) = none ∧
    ((diagged 1 (diag 0x1000000 { zone 2 live with hinge := table })).zoneAt 2 0x1000000 = some 15 ∧
      within 0x1000000 8 live.wardBase live.wardSize = false) ∧
    (∀ op ∈ [1, 2, 3, 4], diagAddr (diagged op (diag 0x1000000 (zone 2 live))) = 0x1000000 ∧
      (diagged op (diag 0x1000000 (zone 2 live))).zoneAt 2 0x1000000 = some 15 ∧
      within 0x1000000 8 (diagged op (diag 0x1000000 (zone 2 live))).wardBase
        (diagged op (diag 0x1000000 (zone 2 live))).wardSize = true) := by decide +kernel

theorem witness_MemoryRepairCompletes_scrub :
    ((((scrubOpen (scrubAt 0x40000 1) 0x1000000).bursts 0 0x1000000 64 false).scrubWords 0x1000000).scrubLine (0x1000000 + 64) =
      some 0x1000040) ∧
    ((((scrubOpen (scrubAt 0x7FFFF 1) 0x1FFFFC0).bursts 0 0x1FFFFC0 64 false).scrubWords 0x1FFFFC0).scrubLine (0x1FFFFC0 + 64) =
      none) := by
  rw [bursts_line _ _ (by decide +kernel), bursts_line _ _ (by decide +kernel)]
  constructor <;> decide +kernel

def coefAt (i : Nat) : Dev := live.w (viPage 0 7) F.LP_COEF_ADDR_INDEX i 0
def coefWritten (i : Nat) : Dev := (coefAt i).after (.vi 0) 7 (0x130 + 64 * (0 : Fin 48)) 1
def holding : Dev := live.w (hcPid 0) F.HC_GROUP_HOLD 1
def fenced (h : Nat) : Dev := live.w (viPage 0 8) F.FL_FENCE_HANDLE h 0
def gone (d : Dev) : Dev := d.after (.vi 0) 8 (0x118 + 32 * (0 : Fin 48)) (withBit 0#32 0)
def aBuf : Buf := { fmt := 0, width := 0, height := 0, pitch := 0, addr := 0, chroma := 0 }
def aFlip (walked : Bool) : Flip := { buf := aBuf, adjX := 0, adjY := 0, walked := walked }
def flipping (q : Nat) (walked : Bool) : Dev := live.setPipe q { live.pipe q with flip := some (aFlip walked) }
def dragging : Dev := live.setTouch 7 { live.touch 7 with deltas := [(47, 1, -1)] }

theorem witness_LayerPipesComplete :
    ((coefAt 766).accepts (.vi 0) (7#12).toNat (0x130 + 64 * (0 : Fin 48)) 1 = true ∧
      (kindOf (agentPageNo (.vi 0) (7#12).toNat)).any (fun k => k.1 == .layerCtl || k.1 == .viLayers) = true ∧
      (coefWritten 766).r ((coefWritten 766).lpPage (0 : Fin 48)) F.LP_COEF_ADDR_INDEX (0 : Fin 48) < 767 ∧
      (coefWritten 767).r ((coefWritten 767).lpPage (0 : Fin 48)) F.LP_COEF_ADDR_INDEX (0 : Fin 48) = 767 ∧
      768 ≤ (coefWritten 768).r ((coefWritten 768).lpPage (0 : Fin 48)) F.LP_COEF_ADDR_INDEX (0 : Fin 48)) ∧
    (live.accepts (.pf 0) (0x200 + (0 : Fin 8)) 0x044 (withBit 0#32 0) = true ∧
      holding.accepts (.pf 0) (0x200 + (0 : Fin 8)) 0x044 (withoutBit 1#32 0) = true ∧
      holding.falls (hcPid (0 : Fin 8)) (withoutBit 1#32 0) F.HC_GROUP_HOLD = true ∧
      live.accepts (.pf 0) (0x200 + (0 : Fin 8)) 0x044 (withoutBit 1#32 0) = true ∧
      live.falls (hcPid (0 : Fin 8)) (withoutBit 1#32 0) F.HC_GROUP_HOLD = false) ∧
    (∀ h ∈ [noFence, 0, 0x100], (fenced h).accepts (.vi 0) (8#12).toNat (0x118 + 32 * (0 : Fin 48)) (withBit 0#32 0) = true ∧
      ((gone (fenced h)).pipe (0 : Fin 48)).flip = none) ∧
    (kindOf (agentPageNo (.vi 0) (8#12).toNat)).any (fun k => k.1 == .flips || k.1 == .viFlips) = true ∧
    (gone (fenced noFence)).r ((gone (fenced noFence)).flPage (0 : Fin 48)) F.FL_FENCE_HANDLE (0 : Fin 48) = noFence ∧
    ((gone (fenced 0)).r ((gone (fenced 0)).flPage (0 : Fin 48)) F.FL_FENCE_HANDLE (0 : Fin 48) ≠ noFence ∧
      (gone (fenced 0)).ownFence ((gone (fenced 0)).pipeOwner (0 : Fin 48)) 0 = some (viPage 0 5, 0)) ∧
    (gone (fenced 0x100)).ownFence ((gone (fenced 0x100)).pipeOwner (0 : Fin 48)) 0x100 = none ∧
    (live.pipe (47 : Fin 48)).flip = none ∧ ((flipping 47 true).pipe (47 : Fin 48)).flip = some (aFlip true) ∧
    (((flipping 47 false).pipe (47 : Fin 48)).flip = some (aFlip false) ∧ (flipping 47 false).pipeOwner (47 : Fin 48) % 4 ≠ 3) ∧
    (((flipping 0 false).pipe (0 : Fin 48)).flip = some (aFlip false) ∧ (flipping 0 false).pipeOwner (0 : Fin 48) % 4 = 3) ∧
    (live.touch (7 : Fin 8)).deltas.find? (fun e => e.1 == (47 : Fin 48).val) = none ∧
    (dragging.touch (7 : Fin 8)).deltas.find? (fun e => e.1 == (47 : Fin 48).val) = some (47, 1, -1) := by decide +kernel

/-! ### Bands and boundaries, heads, CRC rectangles -/

/-- Head 0 in a state, with what its block holds. -/
def headIn (state : Nat) (x : HeadSt) : Dev := (live.w (hdPid 0) F.HD_STAT_STATE state).setHead 0 x
def scan (x : HeadSt) : Dev := (headIn 2 x).wa (viPage 0 7) F.LP_CTRL_ENABLE 1 0
def aBand (k : Nat) : BandSrc := { band := k, ax := 0, ay := 0, rows := [], crows := [], ok := true }
/-- Pipe 0 has fetched band 0, which the scanning head has not begun to compose. -/
def fetched : Dev := (scan {}).setPipe 0 { (scan {}).pipe 0 with bands := [aBand 0] }
def forcing (b : Nat) (d : Dev) : Dev := d.w (crPid 0) F.CR_STAT_FORCED b

/-- A head that has composed band 0; pipe 0 shows a buffer and has band 0. -/
def going : Dev :=
  let d := scan { composed := 1, started := 1 }
  d.setPipe 0 { d.pipe 0 with cur := some aBuf, bands := [aBand 0] }
def strikePending : Dev := (scan {}).setCtl (stkPid 0) { pend := some { snap := live.shadow (stkPid 0), parts := [0] } }
def scanHeld (x : HeadSt) : Dev := scan { x with newMode := true }

theorem witness_BandsAndBoundariesComplete :
    (live.scanning (live.pipeHead (0 : Fin 48)) = false) ∧
    (going.pipeUsable (0 : Fin 48) = true ∧ going.pipeHead (0 : Fin 48) = 0 ∧ (going.layer going.actRd (0 : Fin 48)).enable = true ∧
      going.scanning 0 = true ∧ 1 ≤ 1 ∧ 1 < going.bandsOf 0 ∧ (∃ x ∈ (going.pipe (0 : Fin 48)).bands, x.band + 1 = 1) ∧
      1 ≤ (going.head 0).composed + 1 ∧ (∀ x ∈ (going.pipe (0 : Fin 48)).bands, x.band ≠ 1) ∧ (going.head 0).started ≤ 1) ∧
    (fetched.scanning (0 : Fin 8) = true ∧ 0 = (fetched.head (0 : Fin 8)).started ∧ 0 < fetched.bandsOf (0 : Fin 8)) ∧
    live.scanning (0 : Fin 8) = false ∧
    ((live.head (0 : Fin 8)).started ≤ 0 ∧ 68 ≠ ((scan { composed := 67, started := 68 }).head (0 : Fin 8)).composed) ∧
    (67 = ((scan { composed := 67, started := 68 }).head (0 : Fin 8)).composed ∧
      67 < ((scan { composed := 67, started := 68 }).head (0 : Fin 8)).started ∧
      ((scan { composed := 67, started := 68 }).head (0 : Fin 8)).inject = false ∧
      ((scan { composed := 67, started := 68 }).strikeWords ((scan { composed := 67, started := 68 }).strikeUse 0 67)).2 = true ∧
      ((scan { composed := 67, started := 68, inject := true }).head (0 : Fin 8)).inject = true) ∧
    ((scan {}).scanning (0 : Fin 8) = true ∧ ((scan {}).head (0 : Fin 8)).newMode = false ∧ ((scanHeld {}).head (0 : Fin 8)).newMode = true) ∧
    ((strikePending.ctl (stkPid (0 : Fin 8))).pend.isSome = true ∧ strikePending.scanning (0 : Fin 8) = true ∧
      strikePending.blockFault (stkPid (0 : Fin 8)) = false) ∧
    ((((scan { release := true }).crcApply 0 true).emgApply 0).head (0 : Fin 8)).release = true ∧
    (((((forcing 1 (scan {})).crcApply 0 true).emgApply 0).head (0 : Fin 8)).release = false ∧
      (((forcing 1 (scan {})).crcApply 0 true).emgApply 0).on (crPid (0 : Fin 8)) F.CR_STAT_FORCED = true) ∧
    (((scan {}).crcApply 0 true).emgApply 0).on (crPid (0 : Fin 8)) F.CR_STAT_FORCED = false ∧
    live.accepts .ward scPid 0x040 (1 + 16 * (15 : Fin 16)) = true ∧ live.accepts .ward scPid 0x040 (16 * (15 : Fin 16)) = true ∧
    live.accepts .ward scPid 0x050 (256 + (7 : Fin 8)) = true := by decide +kernel

def enabled (state : Nat) : Dev := (headIn state {}).w (hdPid 0) F.HD_CTRL_EN 1
def enable (d : Dev) : Dev := d.after (.pf 0) (0x280 + (0 : Fin 8)) 0x040 (withBit 0#32 0)
def disable (d : Dev) : Dev := d.after (.pf 0) (0x280 + (0 : Fin 8)) 0x040 (withoutBit 1#32 0)
/-- Head 0 scans, and a set of its page waits, in which the mode differs or not. -/
def pendingMode (differs : Bool) : Dev :=
  (headIn 2 {}).setCtl (hdPid 0) { pend := some {
    snap := (if differs then live.w (hdPid 0) F.HD_HACT_ACTIVE 640 else live).shadow (hdPid 0), parts := [0] } }
def strobing (ns : Nat) : Dev := atNs ns (headIn 0 {})
def headFault : Dev := (pendingMode false).openFault 0 1 (hdPid 0) 0

theorem witness_HeadsComplete :
    (∀ st ∈ [0, 4, 1, 2, 3], (headIn st {}).accepts (.pf 0) (0x280 + (0 : Fin 8)) 0x040 (withBit 0#32 0) = true ∧
      (headIn st {}).rises (hdPid 0) (withBit 0#32 0) F.HD_CTRL_EN = true ∧ (enable (headIn st {})).r (hdPid 0) F.HD_STAT_STATE = st) ∧
    (enable (headIn 0 {})).headEn (0 : Fin 8) = true ∧
    ((enabled 2).accepts (.pf 0) (0x280 + (0 : Fin 8)) 0x040 (withBit 1#32 0) = true ∧
      (enabled 2).rises (hdPid 0) (withBit 1#32 0) F.HD_CTRL_EN = false ∧
      live.accepts (.pf 0) (0x280 + (0 : Fin 8)) 0x040 (withoutBit 0#32 0) = true ∧
      live.falls (hdPid 0) (withoutBit 0#32 0) F.HD_CTRL_EN = false) ∧
    (∀ st ∈ [0, 4, 1, 2, 3], (enabled st).accepts (.pf 0) (0x280 + (0 : Fin 8)) 0x040 (withoutBit 1#32 0) = true ∧
      (enabled st).falls (hdPid 0) (withoutBit 1#32 0) F.HD_CTRL_EN = true ∧ (disable (enabled st)).r (hdPid 0) F.HD_STAT_STATE = st) ∧
    (headIn 1 {}).r (hdPid (0 : Fin 8)) F.HD_STAT_STATE = 1 ∧ live.r (hdPid (0 : Fin 8)) F.HD_STAT_STATE ≠ 1 ∧
    ((headIn 2 {}).r (hdPid (0 : Fin 8)) F.HD_STAT_STATE = 2 ∧ ((headIn 2 {}).ctl (hdPid (0 : Fin 8))).pend = none) ∧
    ((headFault.ctl (hdPid (0 : Fin 8))).pend.isSome = true ∧ headFault.blockFault (hdPid (0 : Fin 8)) = true) ∧
    (((pendingMode false).ctl (hdPid (0 : Fin 8))).pend.isSome = true ∧ (pendingMode false).blockFault (hdPid (0 : Fin 8)) = false ∧
      modeDiffers (pendingMode false).cntRd (pendingMode false).actRd (0 : Fin 8) = false) ∧
    (modeDiffers (pendingMode true).cntRd (pendingMode true).actRd (0 : Fin 8) = true ∧
      (pendingMode true).linkState (0 : Fin 8) = 0 ∧ (pendingMode true).blockFault (hdPid (0 : Fin 8)) = false) ∧
    ((headIn 3 {}).r (hdPid (0 : Fin 8)) F.HD_STAT_STATE = 3 ∧ (headIn 3 {}).linkState (0 : Fin 8) ≠ 1) ∧
    (headIn 2 {}).scanning (0 : Fin 8) = true ∧ live.scanning (0 : Fin 8) = false ∧
    ((strobing 16666667).r (hdPid (0 : Fin 8)) F.HD_STAT_STATE ≤ 1 ∧ (strobing 16666667).r pmPid F.PM_STAT_STATE ≤ 1 ∧
      ((strobing 16666667).head (0 : Fin 8)).strobeAt + 16666667 ≤ (strobing 16666667).now ∧
      ¬(((strobing 16666666).head (0 : Fin 8)).strobeAt + 16666667 ≤ (strobing 16666666).now)) ∧
    2 ≤ (headIn 2 {}).r (hdPid (0 : Fin 8)) F.HD_STAT_STATE ∧
    (∀ off ∈ [0x064, 0x070], (behind.readWaits (.pf 0) (agentPageNo (.pf 0) (0x280 + (0 : Fin 8))) off behind.held).isSome = true ∧
      live.readWaits (.pf 0) (agentPageNo (.pf 0) (0x280 + (0 : Fin 8))) off live.held = none ∧
      (live.read (.pf 0) (agentPageNo (.pf 0) (0x280 + (0 : Fin 8))) off).2.1 = false) := by decide +kernel

/-- Rectangle 15 of the CRC page of head 0 is enabled, for a value and with action 2; the head scans. -/
def rect (video : Bool) (crc : Nat) : Dev :=
  (((headIn 2 { video := video }).wa (crPid 0) F.CR_CFG_EN 1 15).wa (crPid 0) F.CR_EXP_CRC crc 15).wa (crPid 0) F.CR_CFG_ACTION 2 15

theorem witness_CrcRectanglesComplete :
    live.a (crPid (0 : Fin 8)) F.CR_CFG_EN (15 : Fin 16) ≠ 1 ∧
    ((rect false 7).a (crPid (0 : Fin 8)) F.CR_CFG_EN (15 : Fin 16) = 1 ∧ (rect false 7).scanning (0 : Fin 8) = true ∧
      ((rect false 7).head (0 : Fin 8)).video = false) ∧
    (((rect true 7).head (0 : Fin 8)).video = true ∧ (rect true 7).a (crPid (0 : Fin 8)) F.CR_CFG_EN (15 : Fin 16) = 1 ∧
      (rect true 7).scanning (0 : Fin 8) = true ∧
      (((some 7#32).map (·.toNat)) <|> (rect true 7).rectCrc (0 : Fin 8) (15 : Fin 16)) = some 7 ∧
      7 = (rect true 7).a (crPid (0 : Fin 8)) F.CR_EXP_CRC (15 : Fin 16) ∧
      (((some 8#32).map (·.toNat)) <|> (rect true 7).rectCrc (0 : Fin 8) (15 : Fin 16)) = some 8 ∧
      ((rect true 7).wa (crPid 0) F.CR_SIZE_H 1 15).rectCrc (0 : Fin 8) (15 : Fin 16) = none) ∧
    (rect true 7).a (crPid (0 : Fin 8)) F.CR_CFG_ACTION 15 = 2 ∧
    live.accepts .ward (0x290 + (7 : Fin 8)) 0x040 (withBit 0#32 2) = true := by decide +kernel

/-! ### Display links, touch, haptic drive -/

def caps : SinkCaps := { maxRate := 7, maxLanes := 4, listed := [], downspread := false }
/-- The link of head 0 in a state, at a rate on some lanes, with the sink there or not. -/
def dp (state rate lanes hpd : Nat) : Dev :=
  ((((live.setHead 0 { sink := some caps }).w (dpPid 0) F.DP_STAT_STATE state).w (dpPid 0) F.DP_STAT_RATE rate).w (dpPid 0)
    F.DP_STAT_LANES lanes).w (dpPid 0) F.DP_STAT_HPD hpd
def plugged (d : Dev) : Dev := ((d.w (dpPid 0) F.DP_STAT_HPD 1).addSat (dpPid 0) F.DP_EVENTS_PLUG).err (dpPid 0) 10
def attempted (d : Dev) : Dev :=
  ((d.add (dpPid 0) F.DP_TRAIN_COUNT).w (dpPid 0) F.DP_TRAIN_MS (sat 65535 1)).setHead 0 { d.head 0 with tries := 1 }
def aux (v : Nat) (d : Dev) : Dev := d.after (.pf 0) (0x500 + (0 : Fin 8)) 0x050 v
def auxBusy (q : Option (Nat × Nat)) : Dev := (dp 2 7 4 1).setHead 0 { sink := some caps, aux := q }
def edp : Dev :=
  ({ headIn 2 { sent := some 0 } with hinge := memWr table 0x80 3 }.w (dpPid 0) F.DP_PANEL_BL 1).w (dpPid 0) F.DP_STAT_STATE 2

theorem witness_DisplayLinksComplete :
    (dp 2 7 4 1).on (dpPid (0 : Fin 8)) F.DP_STAT_HPD = true ∧ live.on (dpPid (0 : Fin 8)) F.DP_STAT_HPD = false ∧
    ((plugged live).on (dpPid (0 : Fin 8)) F.DP_CTRL_AUTO = true ∧ (plugged live).linkState (0 : Fin 8) = 0) ∧
    ((dp 2 7 4 1).linkState (0 : Fin 8) ≠ 1 ∧ (dp 2 7 4 1).linkState (0 : Fin 8) = 2) ∧ live.linkState (0 : Fin 8) ≠ 2 ∧
    (live.accepts (.pf 0) (0x500 + (0 : Fin 8)) 0x040 (withBit 0x1470#32 1) = true ∧
      ((dp 1 7 4 1).after (.pf 0) (0x500 + (0 : Fin 8)) 0x040 (withBit 0x1471#32 1)).linkState (0 : Fin 8) = 1 ∧
      (dp 1 7 4 1).accepts (.pf 0) (0x500 + (0 : Fin 8)) 0x040 (withBit 0x1471#32 1) = true ∧
      (live.after (.pf 0) (0x500 + (0 : Fin 8)) 0x040 (withBit 0x1471#32 1)).linkState (0 : Fin 8) ≠ 1) ∧
    ((dp 1 7 4 1).linkState (0 : Fin 8) = 1 ∧
      carries (readTiming (dp 1 7 4 1).actRd (0 : Fin 8)) ((attempted (dp 1 7 4 1)).r (dpPid 0) F.DP_STAT_RATE)
        ((attempted (dp 1 7 4 1)).r (dpPid 0) F.DP_STAT_LANES) = true) ∧
    carries (readTiming (dp 1 0 1 1).actRd (0 : Fin 8)) ((attempted (dp 1 0 1 1)).r (dpPid 0) F.DP_STAT_RATE)
        ((attempted (dp 1 0 1 1)).r (dpPid 0) F.DP_STAT_LANES) = false ∧
    ((attempted (dp 1 7 4 1)).fallback (0 : Fin 8) = some (6, 4) ∧ carries (readTiming (dp 1 7 4 1).actRd (0 : Fin 8)) 6 4 = true) ∧
    ((attempted (dp 1 0 1 1)).fallback (0 : Fin 8)).any
      (fun x => carries (readTiming (dp 1 0 1 1).actRd (0 : Fin 8)) x.1 x.2) = false ∧
    (∀ v ∈ [withBit 0#32 0, withBit 0x100000#32 0], live.accepts (.pf 0) (0x500 + (0 : Fin 8)) 0x050 v = true ∧
      (aux v live).on (dpPid 0) F.DP_AUX_STAT_BUSY = false) ∧
    auxRefused ((aux (withBit 0x100000#32 0) live).r (dpPid 0) F.DP_AUX_CMD_TYPE)
      ((aux (withBit 0x100000#32 0) live).r (dpPid 0) F.DP_AUX_CMD_ADDR) ((aux (withBit 0x100000#32 0) live).r (dpPid 0) F.DP_AUX_CMD_LEN + 1) = true ∧
    auxRefused ((aux (withBit 0#32 0) live).r (dpPid 0) F.DP_AUX_CMD_TYPE)
      ((aux (withBit 0#32 0) live).r (dpPid 0) F.DP_AUX_CMD_ADDR) ((aux (withBit 0#32 0) live).r (dpPid 0) F.DP_AUX_CMD_LEN + 1) = false ∧
    (aux (withBit 0#32 0) (live.w (dpPid 0) F.DP_AUX_STAT_BUSY 1)).on (dpPid 0) F.DP_AUX_STAT_BUSY = true ∧
    (live.head (0 : Fin 8)).aux = none ∧
    (((auxBusy (some (0, 16))).head (0 : Fin 8)).aux = some (0, 16) ∧ ((auxBusy (some (1, 1))).head (0 : Fin 8)).aux = some (1, 1)) ∧
    (edp.blenMay (0 : Fin 8) = true ∧ (edp.head (0 : Fin 8)).sent = some 0 ∧
      (∃ t ∈ ((atNs 1000000 (edp.w (dpPid 0) F.DP_PANEL_BLDELAY 1)).head (0 : Fin 8)).sent,
        t + 1000000 * (atNs 1000000 (edp.w (dpPid 0) F.DP_PANEL_BLDELAY 1)).r (dpPid (0 : Fin 8)) F.DP_PANEL_BLDELAY ≤
          (atNs 1000000 (edp.w (dpPid 0) F.DP_PANEL_BLDELAY 1)).now) ∧
      ¬(0 + 1000000 * 1 ≤ (atNs 999999 edp).now)) ∧ live.blenMay (0 : Fin 8) = false := by decide +kernel

/-- Touch port 0 in a state. -/
def tch (state : Nat) (x : TouchSt) : Dev := (live.w (tsPid 0) F.TS_STAT_STATE state).setTouch 0 x
def tchOn (state : Nat) : Dev := (tch state {}).w (tsPid 0) F.TS_CTRL_EN 1
def aTrack : Track := { id := 255, kind := 1, x := 0, y := 0, peak := 0, area := 0, nodes := [0] }
/-- A contact that went DOWN at 0, where HOLD_S is 2, at a time. -/
def held (ns : Nat) : Dev := atNs ns (tch 2 { tracks := [aTrack], cfg := { (live.touch 0).cfg with holdS := 2 } })

def asks (d : Dev) (w : Nat) : Bool := d.accepts .ward (0x580 + 16 * (0 : Fin 8)) 0x040 w
def asked' (d : Dev) (w : Nat) : Dev := d.after .ward (0x580 + 16 * (0 : Fin 8)) 0x040 w

theorem witness_TouchPortsComplete :
    (asks live (withBit 0#32 0) = true ∧ live.rises (tsPid (0 : Fin 8)) (withBit 0#32 0) F.TS_CTRL_EN = true ∧
      (asked' live (withBit 0#32 0)).touchState (0 : Fin 8) = 0 ∧ bit (withBit 0#32 0) 1 = false ∧ bit (withBit 0#32 0) 2 = false) ∧
    (∀ s ∈ [0, 2], asks (tchOn s) (withoutBit 1#32 0) = true ∧
      (tchOn s).falls (tsPid (0 : Fin 8)) (withoutBit 1#32 0) F.TS_CTRL_EN = true ∧
      (asked' (tchOn s) (withoutBit 1#32 0)).touchState (0 : Fin 8) = s) ∧
    (asks (tchOn 2) (withBit 1#32 1) = true ∧ bit (withBit 1#32 1) 1 = true ∧ asks (tchOn 2) (withBit 1#32 2) = true ∧
      bit (withBit 1#32 2) 2 = true) ∧
    live.touchState (0 : Fin 8) = 0 ∧
    ((tch 1 {}).touchState (0 : Fin 8) ≠ 0 ∧ (tch 1 {}).touchState (0 : Fin 8) ≠ 3 ∧ (tch 1 {}).scanDue (0 : Fin 8) = true ∧
      ((tch 1 {}).overrun 0).touchState (0 : Fin 8) = 1) ∧
    ((tch 2 { recal := true }).touchState (0 : Fin 8) = 2 ∧ (tch 2 { recal := true }).scanDue (0 : Fin 8) = true ∧
      ((((tch 2 { recal := true }).overrun 0).touchBoundary 0).touch (0 : Fin 8)).recal = true) ∧
    ((tch 3 {}).touchState (0 : Fin 8) = 3 ∧ (tch 3 {}).touchWake (0 : Fin 8) = true ∧ (atNs 1000000000 (tch 3 {})).scanDue (0 : Fin 8) = true ∧ (tch 3 {}).scanDue (0 : Fin 8) = false) ∧
    (tch 2 { startAt := 1, since := 99 }).scanDue (0 : Fin 8) = false ∧
    ((tch 2 { scanning := true, endAt := 7 }).touch (0 : Fin 8)).scanning = true ∧
    ((∀ k ∈ [1, 2, 3], ((atNs 7 (tch k { scanning := true, endAt := 7 })).touch (0 : Fin 8)).endAt ≤
        (atNs 7 (tch k { scanning := true, endAt := 7 })).now ∧ (tch k { scanning := true, endAt := 7 }).touchState (0 : Fin 8) = k) ∧
      ¬(((atNs 6 (tch 2 { scanning := true, endAt := 7 })).touch (0 : Fin 8)).endAt ≤ (atNs 6 (tch 2 { scanning := true, endAt := 7 })).now)) ∧
    (((tch 1 { scanning := true, capN := 2 }).touch (0 : Fin 8)).capN + 1 < ((tch 1 { scanning := true, capN := 2 }).touch (0 : Fin 8)).need ∧
      ((tch 1 { scanning := true, capN := 3 }).touch (0 : Fin 8)).need ≤ ((tch 1 { scanning := true, capN := 3 }).touch (0 : Fin 8)).capN + 1) ∧
    ((atNs 50000000 live).touch (0 : Fin 8)).strobeAt + 50000000 ≤ (atNs 50000000 live).now ∧
    ((live.touch (0 : Fin 8)).tracks.find? (fun k => k.id == (255#8).toNat && (k.kind == 1 || k.kind == 2)) = none) ∧
    ((held 2000000000).touchState (0 : Fin 8) = 2 ∧
      ((held 2000000000).touch (0 : Fin 8)).tracks.find? (fun k => k.id == (255#8).toNat && (k.kind == 1 || k.kind == 2)) = some aTrack ∧
      aTrack.downAt + 1000000000 * ((held 2000000000).touch (0 : Fin 8)).cfg.holdS ≤ (held 2000000000).now ∧
      ¬(aTrack.downAt + 1000000000 * ((held 1999999999).touch (0 : Fin 8)).cfg.holdS ≤ (held 1999999999).now)) ∧
    ((1 : Nat) ≤ 2 ∧ (2 : Nat) ≤ 2) := by decide +kernel

/-- Haptic channel 0 in a state, enabled, with effect 0 (a Latch effect) and effect 63 (a Bolt one) resident. -/
def anEffect (bolt : Bool) : Effect := { offset := 0, length := 1, bolt := bolt, noBrake := false, noOd := false }
def hapIn (state : Nat) (x : HapSt) : Dev :=
  let d := ((live.w (haPid 0) F.HA_STAT_STATE state).w (haPid 0) F.HA_CTRL_EN 1).setChan 0 x
  { d with hap := { d.hap with dir := [(0, some (anEffect false)), (63, some (anEffect true))] } }
def trig (t : TouchTrig) : Dev := hapIn 2 {} |>.setTouch 0 { live.touch 0 with trigs := [(t, 5)] }

/-- A trigger word: its effect, its gain, its repeat and STOP. -/
def word (e : Nat) (stop : Bool) : Nat := e + 2 ^ 24 * b2n stop
def isClick (x : TouchTrig × Nat) : Bool := match x.1 with | .click _ => true | _ => false
def isBolt (x : TouchTrig × Nat) : Bool := match x.1 with | .bolt _ => true | _ => false

theorem witness_HapticDriveCompletes :
    (live.accepts (.vi 0) 2 (0x400 + 4 * (0 : Fin 8)) (setBits 0 24 1 (b2n true)) = true ∧
      live.accepts (.vi 0) 2 (0x400 + 4 * (0 : Fin 8)) (setBits 0 24 1 (b2n false)) = true) ∧
    (live.accepts (.vi 0) (10#12).toNat (blockOff (.vi 0) 0 0x0C) (setBits 0 24 1 (b2n true)) = true ∧
      live.place (agentPageNo (.vi 0) (10#12).toNat) (blockOff (.vi 0) 0 0x0C) = (haPid (0 : Fin 8), 0x10C)) ∧
    live.accepts .ward hbPid 0x040 (setBits (setBits 0 24 1 0) 0 3 (7 : Fin 8)) = true ∧
    live.accepts .ward hbPid 0x040 (setBits (setBits 0 24 1 1) 0 3 (7 : Fin 8)) = true ∧
    (live.touchHap (1 : Fin 8) ≠ some (7 : Fin 8).val ∧ (live.touch (0 : Fin 8)).trigs.find? isClick = none) ∧
    (live.touchHap (0 : Fin 8) = some (0 : Fin 8).val ∧ ((trig (.click 0)).touch (0 : Fin 8)).trigs.find? isClick = some (.click 0, 5)) ∧
    ((trig (.bolt 63)).touchHap (0 : Fin 8) = some (0 : Fin 8).val ∧
      ((trig (.bolt 63)).touch (0 : Fin 8)).trigs.find? isBolt = some (.bolt 63, 5) ∧ live.touchHap (7 : Fin 8) = none) ∧
    live.accepts .ward hbPid 0x040 (withoutBit 0#32 24) = true ∧
    live.on (haPid (0 : Fin 8)) F.HA_CTRL_EN = false ∧
    ((hapIn 2 {}).on (haPid (0 : Fin 8)) F.HA_CTRL_EN = true ∧ (hapIn 2 {}).mayName (0 : Fin 8) 63 = false ∧
      bit (word 63 false) 24 = false ∧ bits (2 ^ 20) 20 4 ≠ 0 ∧ bits (2 ^ 25) 25 7 ≠ 0) ∧
    ((hapIn 2 {}).mayName (0 : Fin 8) 87 = true ∧ (hapIn 2 {}).effect 87 = none ∧ bit (word 87 true) 24 = true ∧
      bits (word 87 true) 20 4 = 0 ∧ bits (word 87 true) 25 7 = 0) ∧
    (∀ s ∈ [0, 1, 2, 3, 4, 5, 6], (hapIn s {}).mayName (0 : Fin 8) 0 = true ∧ ((hapIn s {}).effect 0).isSome = true ∧
      (hapIn s {}).hapState (0 : Fin 8) = s ∧ ((hapIn s {}).chan (0 : Fin 8)).pend = none ∧
      ((hapIn s {}).showVhap 12000).hapState (0 : Fin 8) = s) ∧
    ((atNs 1000001 (hapIn 1 {})).hapState (0 : Fin 8) = 1 ∧
      ((atNs 1000001 (hapIn 1 {})).chan (0 : Fin 8)).checkAt + 1000000 < (atNs 1000001 (hapIn 1 {})).now ∧
      ¬(((atNs 1000000 (hapIn 1 {})).chan (0 : Fin 8)).checkAt + 1000000 < (atNs 1000000 (hapIn 1 {})).now) ∧
      ((hapIn 1 {}).effect 63).isSome = true) ∧
    ((hapIn 3 { pend := some (0, 255, 0) }).chan (0 : Fin 8)).pend = some (0, 255, 0) ∧
    ((hapIn 5 { below := 2 }).hapState (0 : Fin 8) = 5 ∧ 2 ≤ ((hapIn 5 { below := 2 }).chan (0 : Fin 8)).below) := by decide +kernel

/-! ### Haptic faults, audio, speakers -/

/-- Haptic channel 0 in FAULT for a cause. -/
def hapFaulted (cause : Nat) (latched : Bool) : Dev := (hapIn 6 { latched := latched }).w (haPid 0) F.HA_STAT_FAULT cause
def supplyGone (out : Bool) : Dev := let d := hapIn 1 {}; { d with hap := { d.hap with supplyOut := out } }
def aLoad : HapLoad :=
  { issuer := 3, effect := some 64, offset := 0, length := 1, bolt := false, noBrake := false, noOd := false, addr := 0, asp := 0, gen := 0 }

def checks (d : Dev) (w : Nat) : Bool := d.accepts (.vi 0) (10#12).toNat (blockOff (.vi 0) 0 0) w
def checkShown (r : Nat) (d : Dev) : Dev := (d.w (haPid (0 : Fin 8)) F.HA_STAT_RES (sat 255 (r / 250))).closeCause 3 (haPid (0 : Fin 8))
def coilGood (d : Dev) : Dev := (d.setChan 0 { d.chan 0 with latched := false }).w (haPid 0) F.HA_STAT_FAULT 0

theorem witness_HapticFaultsAndLoadsComplete :
    (live.place (agentPageNo (.vi 0) (10#12).toNat) (blockOff (.vi 0) 0 0) = (haPid (0 : Fin 8), 0x100) ∧
      checks (hapIn 2 {}) (withBit 0#32 2) = true ∧ checks (hapFaulted 1 true) (withBit 0#32 1) = true) ∧
    live.hapState (0 : Fin 8) ≠ 1 ∧
    (∀ r ∈ [1999, 2000, 32000, 32001], (checkShown r (supplyGone false)).hap.supplyOut = false ∧
      (checkShown r (supplyGone true)).hap.supplyOut = true ∧ (supplyGone true).hapState (0 : Fin 8) = 1) ∧
    ((coilGood (checkShown 2000 (supplyGone false))).chan (0 : Fin 8)).held = none ∧
    ((coilGood (checkShown 32000 (hapIn 1 { held := some (63, 255, none) }))).chan (0 : Fin 8)).held = some (63, 255, none) ∧
    ((hapFaulted 1 true).hapState 0 = 6 ∧ live.hapState 0 = 0) ∧
    ((10#12 : BitVec 12) ≠ 0x808 ∧ live.accepts (.vi 0) (10#12).toNat (blockOff (.vi 0) 0 0x28) (withBit 0x1700#32 0) = true ∧
      live.place (agentPageNo (.vi 0) (10#12).toNat) (blockOff (.vi 0) 0 0x28) = (haPid (0 : Fin 8), 0x128)) ∧
    live.accepts .ward hbPid 0x05C (withBit 0#32 0) = true ∧
    (live.hap.load = none ∧ (live.chan (0 : Fin 8)).load = none) ∧
    ({ live with hap := { live.hap with load := some aLoad } } : Dev).hap.load = some aLoad ∧
    ((hapIn 2 { load := some aLoad }).chan (0 : Fin 8)).load = some aLoad := by decide +kernel

/-- Stream 0 of VI 0 in a state, its ring of 16 blocks of 16 frames filled up to frame `widx`. -/
def playing (state : Nat) (x : AStream) : Dev :=
  ((((live.w aePid F.AE_SOWN_OWNER 3 0).wa aePid F.AE_SOWN_OWNER 3 0).w (viPage 0 10) F.ST_CTRL_SIZE 16 0).w (viPage 0 10)
    F.ST_STAT_STATE state 0).setStream 0 x
def started (state : Nat) (x : AStream) : Dev := (playing state x).w (viPage 0 10) F.ST_CTRL_EN 1 0
def asleep : Dev := live.w 0x390 F.PM_STAT_STATE 2
def blockDue : Dev := { live with aud := { live.aud with blockDue := true } }
def gainLate : GainSt := { now := 0, wait := some 480, prev := 5 }

theorem witness_AudioTicksAndGainsComplete :
    (asleep.audioRuns = false ∧ live.audioRuns = true ∧ live.aud.blockDue = false) ∧
    (blockDue.aud.blockDue = true ∧ blockDue.audioRuns = true) ∧
    live.on (live.stPage 0) F.ST_CTRL_EN 0 = false ∧
    (∀ s ∈ [1, 2], ∀ e ∈ [false, true], (started s { eos := e }).on ((started s { eos := e }).stPage 0) F.ST_CTRL_EN 0 = true ∧
      (started s { eos := e, widx := 15 }).avail 0 < 16 ∧ 16 ≤ (started s { eos := e, widx := 16 }).avail 0 ∧
      (started s { eos := e }).stState 0 = s ∧ ((started s { eos := e }).stream 0).eos = e) ∧
    (gainLate.wait = some 480 ∧ ((0 : Int) < 5 ∧ ({ gainLate with prev := -5 } : GainSt).prev < 0) ∧ ((-5 : Int) < 0 ∧ 0 < gainLate.prev) ∧
      ((7 : Int) ≠ 0 ∧ 0 ≤ (7 : Int) * gainLate.prev)) ∧
    ((95 : Fin 224).val < 96 ∧ 96 ≤ (96 : Fin 224).val ∧ (127 : Fin 224).val < 128 ∧ 128 ≤ (128 : Fin 224).val) := by decide +kernel

theorem witness_audioTickRuns : ∃ n outs,
    (forAll (upFrom 0 96) (fun k d => d.streamTick (live.aud.tick % 16) k) live).programs = (n, outs) := ⟨_, _, rfl⟩

/-- Stream 5 of the open world. -/
def openStream : Dev := (((live.w aePid F.AE_SOWN_OWNER codeOpen 5).wa aePid F.AE_SOWN_OWNER codeOpen 5).w 0x614 F.ST_CTRL_SIZE 16 5)

theorem witness_StreamsComplete :
    (playing 0 {}).accepts (.vi 0) 2 (0x800 + 4 * (0 : Fin 96)) (255#32).toNat = true ∧
    ((kindOf (agentPageNo (.openWorld 0) (0x614#12).toNat)).any (fun k => k.1 == .streams) = true ∧
      openStream.accepts (.openWorld 0) (0x614#12).toNat (0x200 + 4 * (5 : Fin 96).val) (255#32).toNat = true) ∧
    (bits 0x10000 16 15 ≠ 0 ∧ (playing 0 {}).ringFrames 0 ≤ 256 % 65536 ∧
      bits 0x800000FF 16 15 = 0 ∧ 0x800000FF % 65536 < (playing 0 {}).ringFrames 0) ∧
    (((playing 1 { pace := none, widx := 255 }).stream 0).pace = none ∧ ((playing 1 { pace := some 0, widx := 255 }).stream 0).pace = some 0) ∧
    (16 * (playing 1 { pace := some 0, widx := 40 }).rblk 0 ≤ (playing 1 { pace := some 0, widx := 40 }).regionDist 0 1 ∧
      (playing 1 { pace := some 0, widx := 20 }).regionDist 0 1 < 16 * (playing 1 { pace := some 0, widx := 20 }).rblk 0 ∧
      ((playing 1 { workFilled := true }).stream 0).workFilled = true ∧ ((playing 1 {}).stream 0).workFilled = false) ∧
    ((kindOf (agentPageNo (.vi 0) (10#12).toNat)).any (fun k => k.1 == .streams || k.1 == .viHapticAudio) = true ∧
      (playing 0 {}).place (agentPageNo (.vi 0) (10#12).toNat) (0x800 + 16 * (0 : Fin 96).val) = (agentPageNo (.vi 0) (10#12).toNat, 0x800 + 16 * (0 : Fin 96).val)) ∧
    (∀ s ∈ [0, 2], (playing s {}).accepts (.vi 0) (10#12).toNat (0x800 + 16 * (0 : Fin 96).val) (withBit 0x00100000#32 0) = true ∧
      (playing s {}).rises (agentPageNo (.vi 0) (10#12).toNat) (withBit 0x00100000#32 0) F.ST_CTRL_EN (0 : Fin 96) = true ∧
      ((playing s {}).after (.vi 0) (10#12).toNat (0x800 + 16 * (0 : Fin 96).val) (withBit 0x00100000#32 0)).stState (0 : Fin 96) = s) ∧
    ((started 1 {}).rises (agentPageNo (.vi 0) (10#12).toNat) (withBit 0x00100000#32 0) F.ST_CTRL_EN (0 : Fin 96) = false ∧
      (started 1 {}).accepts (.vi 0) (10#12).toNat (0x800 + 16 * (0 : Fin 96).val) (withoutBit 0x00100000#32 0) = true) := by decide +kernel

/-- An image of one operation, 0 or 12, with a CRC-32C of another implementation of it, and a device whose open region
holds it at 64, with a program load of it. -/
def image (op : Nat) : List Nat :=
  bytesLE 4 0x41584249 ++ bytesLE 2 1 ++ bytesLE 2 1 ++ List.replicate 52 0 ++ bytesLE 4 (if op = 0 then 0x8c28b28a else 0xef0e343d) ++ bytesLE 8 op
/-- The rows of a line and of those beside it are open. -/
def opened (a : Nat) (d : Dev) : Dev :=
  let d := d.w mcPid F.MC_PAGE_MODE 0
  { d with mc := { d.mc with rows := (upFrom 0 128).map (fun b => (b, rowOf (d.localOf a) + 1)) } }
def bulkRow (d : Dev) (a : Nat) : Dev :=
  d.rowAccess (d.chanOf a) (bankOf (d.localOf a)) (d.mappedRow (d.chanOf a) (bankOf (d.localOf a)) (rowOf (d.localOf a)))

/-- The bursts of a Bulk access are accesses to its rows. -/
theorem bursts_bulk (d : Dev) (a n : Nat) (w : Bool) :
    d.bursts 0 a n w = (linesOf a n).foldl (fun d l => (bulkRow d l).chkBurst 0 l w) d := by
  simp only [Dev.bursts, burst_bulk, bulkRow]

def openMem : Dev := { live with hinge := memWr (memWr live.hinge 0x18 1) 0x1C 1 }
def stocked (op : Nat) : Dev := (opened (2 ^ 21 + 64) openMem).dramWrN (2 ^ 21 + 64) (image op)
def loading (n : Nat) : Dev := { openMem with aud := { openMem.aud with load := some (1, 64, n) } }
def bankFade (fade : Nat) : Dev := ({ live with aud := { live.aud with fade := fade } }).w aePid F.TP_BANK_XFADE 1
/-- Sink 0 is the open world's. -/
def openSink : Dev := { live with hinge := memWr live.hinge 0x200 1 }
def sinkIn (x : SinkCh) : Dev := live.setSink 95 x
def toneGo (x : TouchTrig) : Dev := live.setTouch 0 { live.touch 0 with trigs := [(x, 5)] }
def aTone : Tone := { offset := 0, length := 16, level := 1 }
def toned (l : Nat × Nat × Nat × Nat × Nat) : Dev := { (live.setTone 63 (some aTone)) with aud := { (live.setTone 63 (some aTone)).aud with toneLoad := some l } }
def spoken (state : Nat) (latched : Bool) : Dev :=
  (openSink.w (spPid 0) F.SP_STAT_STATE state).setSpk 0 { latched := latched }

def spokenOn (state : Nat) : Dev := (spoken state false).w (spPid 0) F.SP_CTRL_EN 1
/-- The ward world's DRAM region of 2 MiB at 2 MiB. -/
def wardMem : Dev := opened (2 ^ 21) { live with hinge := memWr (memWr live.hinge 0x10 1) 0x14 1 }

theorem witness_ProgramsSinksAndTonesComplete :
    (live.accepts (.openWorld 0) 0x600 0x04C (withBit 0x00480000#32 0) = true ∧ live.aud.load = none) ∧
    ((loading 72).aud.load = some (1, 64, 72) ∧ 25920 < 25921 ∧ 72 ≤ 25920 ∧ ((loading 72).ownerRegion codeOpen).2 < 2 ^ 21 - 71 + 72 ∧
      64 + 72 ≤ ((loading 72).ownerRegion codeOpen).2 ∧ (stocked 0).ownerRegion codeOpen = (2 ^ 21, 2 ^ 21) ∧
      imgResult (image 0) 72 = 0 ∧ imgResult (image 12) 72 = 2) ∧
    (live.setValid live.idleBank true).accepts (.openWorld 0) 0x600 0x040 (withBit 0#32 0) = true ∧
    ((bankFade 128).fading = true ∧ 128 ≤ (bankFade 128).aud.fade ∧ (bankFade 127).aud.fade < 128 ∧ live.fading = false) := by decide +kernel

/-- The program images in memory are read, good and bad; out of service the read ends in an error response. -/
theorem witness_ProgramsSinksAndTonesComplete_images :
    ((stocked 0).mcRead 0 (2 ^ 21 + 64) 72).2.1 = image 0 := by
  simp only [Dev.mcRead, bursts_bulk]
  decide +kernel

/-- The sinks' and the tones' clauses. -/
theorem witness_ProgramsSinksAndTonesComplete_sinks :
    ((∀ w ∈ [0x80000000, 0x80000001, 0x40000000, 0x40000001],
        openSink.accepts (.openWorld 0) (0x620 + (0 : Fin 12).val) (0x100 + 16 * (0 : Fin 8).val) (BitVec.ofNat 32 w).toNat = true) ∧
      openSink.r (skPid (0 : Fin 12)) F.SK_SRC_SRC (0 : Fin 8) = 0 ∧ openSink.r (skPid (0 : Fin 12)) F.SK_SRC_GAIN (0 : Fin 8) = 0x8000) ∧
    (∀ r ∈ [0, 1, 2], ((sinkIn { ramp := r, n := 64 }).sinkCh (8 * (11 : Fin 12).val + (7 : Fin 8).val)).ramp = r ∧
      ((sinkIn { ramp := r, n := 64 }).sinkCh (8 * (11 : Fin 12).val + (7 : Fin 8).val)).n = 64 ∧
      ((sinkIn { ramp := r, n := 63 }).sinkCh (8 * (11 : Fin 12).val + (7 : Fin 8).val)).n < 64 ∧
      ((sinkIn { ramp := r, held := none }).sinkCh (8 * (11 : Fin 12).val + (7 : Fin 8).val)).held = none ∧
      ((sinkIn { ramp := r, held := some 2 }).sinkCh (8 * (11 : Fin 12).val + (7 : Fin 8).val)).held = some 2) ∧
    live.accepts .ward 0x630 0x040 (0x3F07#32).toNat = true ∧
    (((toneGo (.tone 63 7)).touch (0 : Fin 8)).trigs.find? (fun x => match x.1 with | .tone .. => true | _ => false) =
      some (.tone 63 7, 5)) ∧
    (live.touch (0 : Fin 8)).trigs = [] ∧ live.wardRestarting = false ∧ (live.restartBegin 1).wardRestarting = true := by decide +kernel

theorem witness_ProgramsSinksAndTonesComplete_sinks_2 :
    ((toned (0, 0, 0, 0, 0)).tone 62 = none ∧ (toned (0, 0, 0, 0, 0)).tone 63 = some aTone ∧
      (spoken 0 false).r (spPid 0) F.SP_STAT_STATE ≠ 2 ∧ live.sinkEn 1 = false ∧ (spoken 2 false).r (spPid 0) F.SP_STAT_STATE = 2 ∧
      (spoken 2 false).sinkEn 0 = true) ∧
    live.accepts (.ward) 0x630 0x05C (withBit 0#32 0) = true ∧
    live.aud.toneLoad = none ∧
    ((toned (0, 1, 2400, 150657, 0)).aud.toneLoad = some (0, 1, 2400, 150657, 0) ∧ ¬ 150657 + 2400 ≤ 153056 ∧
      (toned (0, 1, 16, 8, 0)).aud.toneLoad = some (0, 1, 16, 8, 0) ∧ overlap 8 16 0 16 = true ∧
      (∀ u < 64, (toned (0, 1, 16, 16, 0)).tone u ≠ none → overlap 16 16 aTone.offset aTone.length = false) ∧
      (live.loadBytes codeWard 0 0 0 32).2.2 = false) := by decide +kernel

theorem witness_ProgramsSinksAndTonesComplete_load :
    (wardMem.loadBytes codeWard 0 0 (2 ^ 21) 32).2 = (List.replicate 32 0, true) := by
  have h : wardMem.loadBytes codeWard 0 0 (2 ^ 21) 32 = wardMem.mcRead 0 (2 ^ 21) 32 := by
    simp only [Dev.loadBytes]
    rw [if_neg (by decide), if_pos (by decide), if_pos (by decide +kernel)]
  rw [h]
  simp only [Dev.mcRead, bursts_bulk]
  decide +kernel

def spoke (d : Dev) (w : Nat) : Bool := d.accepts (.openWorld 0) (0x880 + (0 : Fin 8).val) 0x040 w

theorem witness_SpeakersComplete :
    (spoke (spoken 0 false) (withBit 0#32 0) = true ∧ spoke (spokenOn 2) (withoutBit 1#32 0) = true ∧
      spoke (spoken 3 true) (withBit 0#32 1) = true) ∧
    ((spoken 1 false).stageState (0 : Fin 8) = 1 ∧ (spoken 2 false).stageState (0 : Fin 8) = 2 ∧ live.stageState (0 : Fin 8) ≠ 1 ∧
      live.stageState (0 : Fin 8) ≠ 2) := by decide +kernel

/-! ### Interrupts, check values, power changes -/

/-- Source 322 with a state, at a priority, its set naming the ward pilot; the lines risen. -/
def irqIn (prio : Nat) (x : Src) (lines : List Nat) : Dev :=
  let d := (live.w 0x335 F.IR_SRC_PRIO prio 322).setSrc 322 x
  { d with irq := { d.irq with lines := lines } }
/-- Source 268 of PF 3 on its target 71 with its message masked or not. -/
def msixIn (mask pend : Nat) (level : Bool) (lines : List Nat) : Dev :=
  let d := { (live.w (srcPage 268) F.IR_SRC_PRIO 7 268) with fn := [(3, { msixEn := true, dstate := 0 })] }
  let d := ((d.w 0x083 F.HP_LINK_DLUP 1).w 0x343 F.MX_CTRL_MASK mask).w 0x343 F.MX_PBA_PEND pend
  let d := ({ d with hinge := memWr (memWr d.hinge 0x086 1) 0x083 4 }).setSrc 268 { level := level, asg := some 71 }
  { d with irq := { d.irq with lines := lines } }

theorem witness_InterruptsComplete :
    ((irqIn 5 { level := true, asg := some 0 } []).srcPending 322 = true ∧ ((irqIn 5 { level := true, asg := some 0 } []).src 322).asg = some 0 ∧
      ((irqIn 5 { level := true, asg := some 0 } []).srcEnabled 322).contains 0 = true) ∧
    (((irqIn 5 { level := true } []).src 322).asg = none ∧
      nextTarget ((irqIn 5 { level := true } []).src 322).last ((irqIn 5 { level := true } []).srcEnabled 322) = some 0) ∧
    ((irqIn 5 { level := true, asg := some 3 } []).srcPending 322 = true ∧
      ((irqIn 5 { level := true, asg := some 3 } []).srcEnabled 322).contains 3 = false) ∧
    ((irqIn 0 {} []).srcPending 322 = false ∧ ((irqIn 0 {} []).src 322).svc = none ∧
      (irqIn 5 { level := true, svc := some (0, 5) } []).srcPending 322 = false ∧
      ((irqIn 5 { level := true, svc := some (0, 5) } []).src 322).svc = some (0, 5)) ∧
    (2 < 127 ∧ [1, 2, 3].Pairwise (· < ·) ∧ nextTarget 2 [1, 2, 3] = some 3 ∧ nextTarget 3 [1, 2, 3] = some 1) ∧
    ((irqIn 5 { level := true, asg := some 0 } [0]).irq.lines.contains 0 = (irqIn 5 { level := true, asg := some 0 } [0]).signalled 0 ∧
      (irqIn 5 { level := true, asg := some 0 } []).irq.lines.contains 0 = false ∧ (irqIn 5 { level := true, asg := some 0 } []).signalled 0 = true ∧
      (irqIn 5 {} [0]).irq.lines.contains 0 = true ∧ (irqIn 5 {} [0]).signalled 0 = false) ∧
    (∀ m ∈ [0, 1], (msixIn m 0 true []).irq.lines.contains 71 = false ∧ (msixIn m 0 true []).signalled 71 = true ∧
      (msixIn m 0 true []).on (tgtPage 71) F.MX_CTRL_MASK = (m == 1)) ∧
    ((msixIn 1 1 false [71]).irq.lines.contains 71 = true ∧ (msixIn 1 1 false [71]).signalled 71 = false) ∧
    (live.implemented (agentPageNo .ward (0x347#12).toNat) = true ∧ live.visible .ward (agentPageNo .ward (0x347#12).toNat) = true ∧
      live.isolated (live.place (agentPageNo .ward (0x347#12).toNat) 0x060).1 = false ∧
      live.readWaits .ward (agentPageNo .ward (0x347#12).toNat) 0x060 live.held = none ∧
      tabFind live.latch (latchKey (agentPageNo .ward (0x347#12).toNat) 0x060) = none ∧
      pageTarget (agentPageNo .ward (0x347#12).toNat) = some 0 ∧
      owns (live.owner (agentPageNo .ward (0x347#12).toNat)) (live.agentCode .ward) = true) := by decide +kernel

/-- Source 322 pending with no enabled target since time 0, some ns later. -/
def aloneFor (ns : Nat) : Dev := (atNs ns (irqIn 5 { level := true, alone := some 0 } [])).w 0x347 F.IR_TGT_TEN 0

theorem witness_InterruptsComplete_2 :
    (live.implemented (agentPageNo .ward (0x344#12).toNat) = true ∧ live.visible .ward (agentPageNo .ward (0x344#12).toNat) = true ∧
      live.isolated (live.place (agentPageNo .ward (0x344#12).toNat) 0x060).1 = false ∧
      live.readWaits .ward (agentPageNo .ward (0x344#12).toNat) 0x060 live.held = none ∧
      tabFind live.latch (latchKey (agentPageNo .ward (0x344#12).toNat) 0x060) = none ∧
      pageTarget (agentPageNo .ward (0x344#12).toNat) = some 1 ∧
      owns (live.owner (agentPageNo .ward (0x344#12).toNat)) (live.agentCode .ward) = false) ∧
    (live.claimable 0 = none ∧ (irqIn 5 { level := true, asg := some 0 } []).claimable 0 = some 322) ∧
    live.accepts .ward (0x347#12).toNat 0x064 (0xFFFF#16).toNat = true ∧
    (live.sources.find? (fun q => (live.src q).svc == some (0, 5)) = none ∧
      (irqIn 5 { level := true, svc := some (0, 5) } [0]).sources.find?
        (fun q => ((irqIn 5 { level := true, svc := some (0, 5) } [0]).src q).svc == some (0, 5)) = some 322) ∧
    ((0x34380C#24 : BitVec 24).toNat % 4096 = 0x80C ∧ pageTarget (agentPage (.pf 3) (0x34380C#24 : BitVec 24).toNat) = some 71) ∧
    (∀ m ∈ [0, 1], ∀ p ∈ [0, 1], ∀ l ∈ [false, true],
      (msixIn m p l [71]).takes (.pf 3) (agentPage (.pf 3) (0x34380C#24 : BitVec 24).toNat) 0x80C (withoutBit 1#32 0) = true ∧
      (msixIn m p l [71]).falls (agentPage (.pf 3) (0x34380C#24 : BitVec 24).toNat) (withoutBit 1#32 0) F.MX_CTRL_MASK = (m == 1) ∧
      ((msixIn m p l [71]).written (.pf 3) (agentPage (.pf 3) (0x34380C#24 : BitVec 24).toNat) 0x80C (withoutBit 1#32 0)).on (tgtPage 71) F.MX_PBA_PEND
        = (p == 1) ∧
      (((msixIn m p l [71]).written (.pf 3) (agentPage (.pf 3) (0x34380C#24 : BitVec 24).toNat) 0x80C (withoutBit 1#32 0)).w (tgtPage 71)
        F.MX_PBA_PEND 0).signalled 71 = l) ∧
    (((irqIn 5 { level := true } []).w 0x347 F.IR_TGT_TEN 0).srcPending (322 : Fin 512) = true ∧
      ((irqIn 5 { level := true } []).w 0x347 F.IR_TGT_TEN 0).srcEnabled (322 : Fin 512) = [] ∧
      (((irqIn 5 { level := true } []).w 0x347 F.IR_TGT_TEN 0).src (322 : Fin 512)).orphan = false) ∧
    (aloneFor 1000000).src (322 : Fin 512) = { level := true, alone := some 0 } ∧
    (∀ ns ∈ [999999, 1000000], (aloneFor ns).now = ns ∧
      ((aloneFor ns).src (322 : Fin 512)).alone.any (fun t => decide (t + 1000000 ≤ (aloneFor ns).now)) = (ns == 1000000)) ∧
    live.srcPending (322 : Fin 512) = false := by decide +kernel

/-- Check engine 0 with a run in progress over `len` bytes of strike SRAM, in a mode, of `n` messages. -/
def cvRunning (mode len n crcoff aw : Nat) : Dev :=
  ((((((live.w (cvPid 0) F.CV_STAT_BUSY 1).w (cvPid 0) F.CV_CFG_MODE mode).w (cvPid 0) F.CV_LEN_BYTES len).w (cvPid 0) F.CV_CFG_SPACE 1).w (cvPid 0)
    F.CV_MSG_COUNT n).w (cvPid 0) F.CV_MSG_CRCOFF crcoff).w (cvPid 0) F.CV_CFG_AWIDTH aw
def aliveAt (valid last : Nat) : Dev := (live.w (cvPid 0) F.CV_CFG_AVALID valid).w (cvPid 0) F.CV_ALAST_LAST last

theorem witness_CheckValuesComplete :
    (∀ m ∈ [0, 1], (live.w (cvPid (7 : Fin 8)) F.CV_CFG_MODE m).accepts .ward (0x020 + (7 : Fin 8).val) 0x05C 1 = true ∧
      (live.w (cvPid (7 : Fin 8)) F.CV_CFG_MODE m).r (cvPid (7 : Fin 8)) F.CV_CFG_MODE = m) ∧
    live.on (cvPid (0 : Fin 8)) F.CV_STAT_BUSY = false ∧
    ((cvRunning 0 0 0 0 0).on (cvPid (0 : Fin 8)) F.CV_STAT_BUSY = true ∧ (cvRunning 0 0 0 0 0).cvRangeOk (0 : Fin 8) = false) ∧
    ((cvRunning 0 9 0 0 0).cvRangeOk (0 : Fin 8) = true ∧ (cvRunning 0 9 0 0 0).r (cvPid (0 : Fin 8)) F.CV_CFG_MODE = 0 ∧
      ((cvRunning 0 9 0 0 0).cvRead ((cvRunning 0 9 0 0 0).r (cvPid (0 : Fin 8)) F.CV_CFG_SPACE)
        ((cvRunning 0 9 0 0 0).r64 (cvPid (0 : Fin 8)) F.CV_SRC_LO_ADDR F.CV_SRC_HI_ADDR) ((cvRunning 0 9 0 0 0).r (cvPid (0 : Fin 8)) F.CV_LEN_BYTES)).2 =
        (List.replicate 9 0, true)) ∧
    ((cvRunning 1 16 2 8 1).cvRangeOk (0 : Fin 8) = true ∧ (cvRunning 1 16 2 8 1).r (cvPid (0 : Fin 8)) F.CV_CFG_MODE ≠ 0 ∧
      ((cvRunning 1 16 2 8 1).cvMessages (0 : Fin 8) none 0 ((cvRunning 1 16 2 8 1).r (cvPid (0 : Fin 8)) F.CV_MSG_COUNT)).2 = true ∧
      ((cvRunning 1 16 2 8 1).cvMessages (0 : Fin 8) (some 1) 0 ((cvRunning 1 16 2 8 1).r (cvPid (0 : Fin 8)) F.CV_MSG_COUNT)).2 = false) ∧
    (ofBytesLE ((([1, 2, 3, 4, 5, 6, 7, 8] : List Nat).drop 0).take (cvWidth 0 / 8)) ≠ cvFinal 0 (cvRun 0 0 []) ∧
      ofBytesLE (((bytesLE 8 (cvFinal 0 (cvRun 0 0 []))).drop 0).take (cvWidth 0 / 8)) = cvFinal 0 (cvRun 0 0 []) ∧ cvAlive 0 = 0 ∧ cvAlive 1 ≠ 0) ∧
    ((aliveAt 0 9).r (cvPid 0) F.CV_CFG_AVALID = 0 ∧ (aliveAt 1 255).r (cvPid 0) F.CV_CFG_AVALID ≠ 0 ∧
      (0 : Nat) = ((aliveAt 1 255).r (cvPid 0) F.CV_ALAST_LAST + 1) % 2 ^ (8 * 1) ∧ (255 : Nat) = (aliveAt 1 255).r (cvPid 0) F.CV_ALAST_LAST ∧
      (1 : Nat) ≠ ((aliveAt 1 255).r (cvPid 0) F.CV_ALAST_LAST + 1) % 2 ^ (8 * 1)) := by decide +kernel

def pmIn (p : Pm) : Dev := { live with pm := p }
def aChange (step : Nat) : Change := { levels := [2, 2, 2], old := [2, 2, 2], target := 2, ward := false, rails := [], step := step }
def anOp (code value tries : Nat) (fc : Bool) : BusOp := { rail := 2, code := code, value := value, tries := tries, forChange := fc }
/-- Port 0's link up, its function in a D state. -/
def portUp (dstate : Nat) : Dev := { (live.w (hpPid 0) F.HP_LINK_DLUP 1) with fn := [(0, { dstate := dstate })] }

theorem witness_PowerChangesComplete :
    ((pmIn { run := some (aChange 0) }).pm.run.isSome = true ∧ State.reset.dev.boot.down = true ∧ 2 ≤ asleep.pmState ∧
      live.pm.run = none ∧ live.boot.down = false ∧ live.pmState < 2) ∧
    ((pmIn { wardPend := some 2 }).pm.wardPend = some 2 ∧ live.pm.wardPend = none ∧
      ((live.setCtl pmPid { live.ctl pmPid with pend := some { snap := [], parts := [] } }).ctl pmPid).pend.isSome = true ∧ (live.ctl pmPid).pend = none ∧
      (pmIn { thermPend := true }).pm.thermPend = true ∧ live.pm.thermPend = false) ∧
    ((live.w (tbPid 0) F.TB_STAT_ARMED 1).boltArmed = true ∧ (portUp 0).portsActive = true ∧ live.boltArmed = false ∧
      (portUp 3).portsActive = false) ∧
    live.pm.bus = [] ∧
    (∀ c ∈ [0x79, 0x21, 0x20, 0x01, 0, 3], (pmIn { bus := [anOp c 0 1 true] }).pm.bus = [anOp c 0 1 true] ∧ (anOp c 0 1 true).code = c) ∧
    ((0x17#16 : BitVec 16).toNat / 32 % 8 = 0 ∧ (0x20#16 : BitVec 16).toNat / 32 % 8 ≠ 0 ∧ (anOp 0x20 0 1 true).forChange = true ∧
      (anOp 0x20 0 1 false).forChange = false) ∧
    ((anOp 3 0 1 true).tries < 2 ∧ 2 ≤ (anOp 3 0 2 true).tries) ∧
    (live.pm.ack = none ∧ (pmIn { ack := some (1, 2, 850) }).pm.ack = some ((1 : Fin 3).val, 2, 850) ∧ 1 ≠ (2 : Fin 3).val) ∧
    (∀ t ∈ [1, 2, 4], live.accepts .ward 0x390 0x04C (keyed theKey t) = true ∧ (portUp 0).accepts .ward 0x390 0x04C (keyed theKey t) = true ∧
      ((portUp 0).after .ward 0x390 0x04C (keyed theKey t)).portsActive = true ∧
      (live.after .ward 0x390 0x04C (keyed theKey t)).portsActive = false) ∧
    (((pmIn { run := some (aChange 3) }).w pmPid F.PM_STAT_PHASE 5).pm.run = some (aChange 3) ∧
      ((pmIn { run := some (aChange 3) }).w pmPid F.PM_STAT_PHASE 5).r pmPid F.PM_STAT_PHASE = 5 ∧ (aChange 3).step = 3) := by decide +kernel

/-! ### Gates, wakes, supply, ring -/

/-- Region 1 with the bits of `PM_GATE`. -/
def gated (off rst : Nat) : Dev := (live.w pmPid F.PM_GATE_OFF off 1).w pmPid F.PM_GATE_RSTHOLD rst 1
def wakeOn : Dev :=
  (((live.w wkPid F.WK_I2C_EN 1).w wkPid F.WK_I2C_ADDR 0x31).w wkPid F.RTC_CTRL_ALM_EN 1).w wkPid F.RTC_CTRL_OSC_OK 1
def powered (mainEn faultN : Bool) : Dev := { live with boot := { live.boot with mainEn := mainEn, faultN := faultN } }

theorem witness_GatesWakesAndSupplyComplete :
    (live.accepts (.openWorld 0) 0x390 (0x100 + 4 * (1 : Fin 16).val) (withBit 0x100#32 0) = true ∧
      live.rises pmPid (withBit 0x100#32 0) F.PM_GATE_OFF (1 : Fin 16) = true) ∧
    ((gated 1 0).accepts (.openWorld 0) 0x390 (0x100 + 4 * (1 : Fin 16).val) (withBit 0x100#32 0) = true ∧
      (gated 1 0).rises pmPid (withBit 0x100#32 0) F.PM_GATE_OFF (1 : Fin 16) = false) ∧
    (live.accepts (.openWorld 0) 0x390 (0x100 + 4 * (1 : Fin 16).val) (withBit 0#32 1) = true ∧
      live.rises pmPid (withBit 0#32 1) F.PM_GATE_OFF (1 : Fin 16) = false ∧ live.falls pmPid (withBit 0#32 1) F.PM_GATE_OFF (1 : Fin 16) = false) ∧
    (live.accepts (.openWorld 0) 0x390 (0x100 + 4 * (1 : Fin 16).val) (0x100#32).toNat = true ∧
      live.rises pmPid (0x100#32).toNat F.PM_GATE_OFF (1 : Fin 16) = false ∧ live.falls pmPid (0x100#32).toNat F.PM_GATE_OFF (1 : Fin 16) = false) ∧
    (∀ a ∈ [0, 1], ((live.w pmPid F.PM_THERM_ACTIVE a).w pmPid F.PM_THERM_TEMP (ux 8 95)).on pmPid F.PM_THERM_ACTIVE = (a == 1) ∧
      ((live.w pmPid F.PM_THERM_ACTIVE a).w pmPid F.PM_THERM_TEMP (ux 8 95)).r pmPid F.PM_THERM_LIMIT = 100) ∧
    ((0 : Fin 5).val = 0 ∧ (4 : Fin 5).val ≠ 0) ∧
    (live.on wkPid F.WK_I2C_EN = false ∧ wakeOn.on wkPid F.WK_I2C_EN = true ∧ wakeOn.r wkPid F.WK_I2C_ADDR = (0x31#7 : BitVec 7).toNat) ∧
    (live.on wkPid F.RTC_CTRL_ALM_EN = false ∧ wakeOn.on wkPid F.RTC_CTRL_ALM_EN = true ∧ wakeOn.on wkPid F.RTC_CTRL_OSC_OK = true) ∧
    (live.fab.hingeOn = true ∧ ({ live with fab := { live.fab with hingeOn := false } } : Dev).fab.hingeOn = false) ∧
    (State.reset.dev.boot.powerGood = false ∧ (powered true true).boot.powerGood = true ∧ (powered true true).boot.faultN = true ∧
      (powered true false).boot.faultN = false ∧ (powered false false).boot.mainEn = false ∧ (powered true true).boot.mainEn = true) := by
  decide +kernel

/-- The ring with the hold held as node 3, NODE set, both ports in a state, key slot 0 (zeros) in use, a frame on line 0. -/
def ringIn (state : Nat) (hold : Nat) (o : Option OutFrame) : Dev :=
  let d := ((((live.w rgPid F.RB_CTRL_NODE 3).w rgPid F.RB_CTRL_HOLD hold).w rgPid F.RB_STAT_HOLD hold).w rgPid F.RB_CTRL_KEYEN 1)
  let d := (d.w rgPid F.RP_STAT_STATE state 0).w rgPid F.RP_STAT_STATE state 1
  { d with ring := { d.ring with nodeSet := true, port0 := { line := o } } }
def outFrame (release : Bool) : OutFrame := { bytes := List.replicate 32 0, release := release }

theorem witness_RingPortsAndSendsComplete :
    (live.held? = false ∧ (ringIn 0 1 none).held? = true ∧ (∀ s ∈ [0, 1, 2], (ringIn s 1 none).portState (0 : Fin 2) = s)) ∧
    (((ringIn 2 1 none).addSat rgPid F.RP_ERR_CODE 3 (1 : Fin 2)).portState (1 : Fin 2) = 2 ∧
      ((ringIn 2 1 (some (outFrame true))).addSat rgPid F.RP_ERR_CODE 3 (0 : Fin 2)).releasing = true ∧
      ((((ringIn 2 1 (some (outFrame true))).addSat rgPid F.RP_ERR_CODE 3 (0 : Fin 2)).setPort (0 : Fin 2) { delays := [] }).w rgPid
        F.RP_STAT_STATE 1 (0 : Fin 2)).releasing = false) ∧
    (live.port (0 : Fin 2)).line = none ∧
    (∀ r ∈ [false, true], ((ringIn 2 1 (some (outFrame r))).port (0 : Fin 2)).line = some (outFrame r) ∧
      (((ringIn 2 1 (some (outFrame r))).setPort (0 : Fin 2) { (ringIn 2 1 (some (outFrame r))).port (0 : Fin 2) with line := none }).lineStart
        (0 : Fin 2) live.now).releasing = false) ∧
    ((ringIn 0 0 none).r rgPid F.RB_CTRL_NODE = bits (0x304#32).toNat 8 5 ∧
      (ringIn 0 0 none).accepts .ward 0x410 0x040 (withBit 0x304#32 0) = true ∧
      (ringIn 0 0 none).rises rgPid (withBit 0x304#32 0) F.RB_CTRL_HOLD = true ∧
      ((ringIn 0 0 none).after .ward 0x410 0x040 (withBit 0x304#32 0)).ring.nodeSet = true) ∧
    ((ringIn 2 1 none).r rgPid F.RB_CTRL_NODE = bits (0x304#32).toNat 8 5 ∧
      (ringIn 2 1 none).accepts .ward 0x410 0x040 (withBit 0x304#32 0) = true ∧
      (ringIn 2 1 none).rises rgPid (withBit 0x304#32 0) F.RB_CTRL_HOLD = false ∧
      (ringIn 2 1 none).accepts .ward 0x410 0x040 (withoutBit 0x304#32 0) = true ∧
      (ringIn 2 1 none).falls rgPid (withoutBit 0x304#32 0) F.RB_CTRL_HOLD = true ∧
      ((ringIn 2 1 none).after .ward 0x410 0x040 (withoutBit 0x304#32 0)).releasing = false) ∧
    ((ringIn 0 0 none).falls rgPid (withoutBit 0x304#32 0) F.RB_CTRL_HOLD = false ∧
      (ringIn 0 0 none).accepts .ward 0x410 0x040 (withoutBit 0x304#32 0) = true) ∧
    (((ringIn 2 1 none).w rgPid F.RB_TX_WORD 6 0).accepts .ward 0x410 0x060 (withBit 0#32 0) = true ∧
      live.accepts .ward 0x410 0x064 (withBit 0#32 8) = true) ∧
    ((((ringIn 2 1 none).w rgPid F.RB_CTRL_TMASTER 1).w rgPid F.RB_CTRL_TNODE 3).timeMaster = true ∧ live.timeMaster = false) := by decide +kernel

/-- A frame body of a type from node 4 to all, with its MAC and CRC under key slot 0, and one with a wrong MAC. -/
def body (ty ttl : Nat) (data : List Nat) : List Nat := takePad 0 20 ([ty, 4, 0xFF, ttl, 1, 0] ++ data)
def macOf (f : List Nat) : List Nat := (ringIn 2 1 none).frMac (takePad 0 32 f)
def frame (ty ttl : Nat) : List Nat := frCrc (takePad 0 32 (body ty ttl [] ++ macOf (body ty ttl [])))
def arrived (ty : Nat) (data : List Nat) (ended : Nat) : InFrame :=
  { port := 1, arrived := 2000, ended := ended, bytes := body ty 2 data, prior := none }
/-- The ring with an accepted frame. -/
def accepted (a : InFrame) : Dev := let d := (ringIn 2 1 none).w dtPid F.DT_CTRL_AUTO 1; { d with ring := { d.ring with accepted := [a] } }
def heard (mask : Nat) : Dev := live.w rgPid F.RB_EMGSRC_MASK mask

theorem witness_RingReceptionCompletes :
    (live.portState (0 : Fin 2) ≠ 2 ∧ (ringIn 2 1 none).portState (0 : Fin 2) = 2 ∧
      le (takePad 0 32 ((asBytes (frame 1 9)).map (· % 256))) 28 4 = crc32c ((takePad 0 32 ((asBytes (frame 1 9)).map (· % 256))).take 28) ∧
      le (takePad 0 32 ((asBytes [1]).map (· % 256))) 28 4 ≠ crc32c ((takePad 0 32 ((asBytes [1]).map (· % 256))).take 28)) ∧
    (live.held? = false ∧ (ringIn 2 1 none).held? = true ∧ le (frame 1 9) 1 1 ≠ (ringIn 2 1 none).node ∧ 1 < le (frame 1 9) 3 1) ∧
    ((1 ≤ frType (frame 1 9) ∧ frType (frame 1 9) ≤ 7 ∧ le (frame 1 9) 2 1 = 0xFF) ∧
      bit ((ringIn 2 1 none).r rgPid F.RB_CTRL_KEYEN) (bits (le (frame 1 9) 0 1) 4 1) = true ∧
      ((frame 1 9).drop 20).take 8 = (ringIn 2 1 none).frMac (frame 1 9) ∧ frType (frame 8 9) = 8 ∧
      bit (live.r rgPid F.RB_CTRL_KEYEN) (bits (le (frame 1 9) 0 1) 4 1) = false) ∧
    ((ringIn 2 1 none).lastAlive (frame 1 9) ≠ some (le (frame 1 9) 4 2) ∧
      ({ (ringIn 2 1 none) with ring := { (ringIn 2 1 none).ring with seen := [(65, 1)] } } : Dev).lastAlive (frame 1 9) = some (le (frame 1 9) 4 2)) ∧
    (∀ ty ∈ [1, 2, 3, 4, 5, 6, 7], live.takeFrame ty = none ∧
      (accepted (arrived ty [] 5000)).takeFrame ty = some (arrived ty [] 5000, (ringIn 2 1 none).w dtPid F.DT_CTRL_AUTO 1)) ∧
    (((ringIn 2 1 none).w dtPid F.DT_CTRL_AUTO 1).on rgPid F.RB_CTRL_TMASTER = false ∧
      ((ringIn 2 1 none).w dtPid F.DT_CTRL_AUTO 1).on dtPid F.DT_CTRL_AUTO = true) ∧
    (le (arrived 3 [0] 0).bytes 6 1 = 0 ∧ le (arrived 3 [1] 0).bytes 6 1 ≠ 0) ∧
    (bit ((heard 0).r rgPid F.RB_EMGSRC_MASK) (le (arrived 4 [] 0).bytes 1 1) = false ∧
      bit ((heard 16).r rgPid F.RB_EMGSRC_MASK) (le (arrived 4 [] 0).bytes 1 1) = true ∧ live.emgFresh (arrived 4 [] 0) = true ∧
      (live.w dtPid F.DT_STAT_SYNC 1).emgFresh (arrived 4 [] 1000000001) = false) ∧
    (match (pmIn { run := some (aChange 0) }).pm.run with | some c => decide (0 < c.target) | none => false) = true ∧
    (match live.pm.run with | some c => decide (0 < c.target) | none => false) = false ∧
    ((live.r 0x390 F.PM_STAT_STATE = 0) ∧ 1 ≤ asleep.r 0x390 F.PM_STAT_STATE ∧ asleep.r 0x390 F.PM_STAT_STATE ≤ 3) ∧
    (16 ≤ ({ live with ring := { live.ring with rx := List.replicate 16 [] } } : Dev).ring.rx.length ∧
      ({ live with ring := { live.ring with rx := List.replicate 15 [] } } : Dev).ring.rx.length < 16 ∧ live.r 0x390 F.PM_STAT_STATE < 2) := by
  decide +kernel

/-! ### Faults and loop-backs -/

/-- One open fault. -/
def broken (level cause unit : Nat) : Dev :=
  { live with flt := { live.flt with faults := [{ seq := 7, level := level, cause := cause, pid := unit, unit := unit, detail := 0, opened := 0 }] } }
def theFault (level cause unit : Nat) : OpenFault :=
  { seq := 7, level := level, cause := cause, pid := unit, unit := unit, detail := 0, opened := 0 }
def lbIn (busy lo hi iface depth : Nat) : Dev :=
  ((((up.w lbPid F.LB_STAT_BUSY busy).w lbPid F.LB_LIMIT_LO lo).w lbPid F.LB_LIMIT_HI hi).w lbPid F.LB_CTRL_IFACE iface).w lbPid F.LB_CTRL_DEPTH depth

theorem witness_FaultRecoveryCompletes :
    live.flt.faults.find? (fun f => f.seq == (7#32).toNat && !f.consequent && !f.latched) = none ∧
    (∀ f ∈ [(5, 18, 0x300), (1, 18, 0x580), (1, 2, 0x580), (1, 1, 0x190), (4, 18, 0x880), (6, 19, 0x300)],
      (broken f.1 f.2.1 f.2.2).flt.faults.find? (fun g => g.seq == (7#32).toNat && !g.consequent && !g.latched) =
        some (theFault f.1 f.2.1 f.2.2)) ∧
    (theFault 5 18 0x300).byPackage = true ∧
    ((theFault 1 18 0x580).byPackage = false ∧ (theFault 1 18 0x580).ownRecovery = false ∧ unitOf 0x580 / 128 ≠ 18) ∧
    ((theFault 1 2 0x580).byPackage = false ∧ (theFault 1 2 0x580).ownRecovery = true) ∧
    ((theFault 1 1 0x190).byPackage = false ∧ (theFault 1 1 0x190).ownRecovery = true) ∧
    ((theFault 4 18 0x880).byPackage = false ∧ (theFault 4 18 0x880).ownRecovery = false ∧ live.boot.hotDrive = false ∧ live.boot.hot = false) ∧
    ((theFault 1 1 0x190).cause = 1 ∧ (theFault 1 6 0x320).ownRecovery = true ∧ (theFault 3 10 0x300).ownRecovery = true) ∧
    (live.boot.hot = false ∧ live.boot.hotDrive = false ∧ live.boot.down = false) ∧
    (broken 4 14 pmPid).flt.faults.any (fun f => f.cause == 14 && unitOf f.unit / 1024 == pmPid / 1024) = true ∧
    live.flt.faults.any (fun f => f.cause == 14 && unitOf f.unit / 1024 == pmPid / 1024) = false ∧
    (({ live with boot := { live.boot with hot := true } } : Dev).boot.hot = true) ∧
    ((({ live with flt := { live.flt with log := [[1]] } } : Dev).w ftPid F.FT_STAT_UNREAD 1).accepts .ward 0x030 0x050 1 = true) ∧
    live.accepts .ward 0x030 0x05C (keyed theKey (4096 + (0x580#12 : BitVec 12).toNat)) = true := by decide +kernel

theorem witness_LoopbackTestsComplete :
    (∀ b ∈ [0, 1], (lbIn b 0 0 0 0).accepts .ward 0x710 0x044 (keyed theKey 1) = true ∧
      ((lbIn b 0 0 0 0).after .ward 0x710 0x044 (keyed theKey 1)).lbBusy = (b == 1) ∧
      (lbIn b 0 0 0 0).accepts .ward 0x710 0x044 (keyed theKey 2) = true ∧
      ((lbIn b 0 0 0 0).after .ward 0x710 0x044 (keyed theKey 2)).lbBusy = (b == 1) ∧ (lbIn b 0 0 0 0).lbBusy = (b == 1)) ∧
    (¬ ((lbIn 1 0 0 0 0).lbIface = 1 ∧ (lbIn 1 0 0 0 0).lbDepth = 3) ∧ (lbIn 1 0 0 0 0).lbRange 0 = none ∧
      (lbIn 1 0 0 4 2).lbRange 0 = some (95, 105) ∧ (lbIn 1 7 9 6 3).lbRange 0 = some (7, 9)) := by decide +kernel

/-! ### Well-formed commands, decoding -/

/-- A command with an operand that describes nothing that can happen is not well formed: one term for each check. -/
theorem test_illFormedIsRefused :
    (Instr.workItemEnd 0 (.tile [{ colours := List.replicate 33 0 }])).wf = false ∧ (Instr.workItemEnd 0 (.bin [{}])).wf = true ∧
    (Instr.fabricRequest 0 (.layer 0) ⟨4, .dev 0, 0, 0, none⟩).wf = false ∧
    (Instr.fabricRequest 0 (.layer 0) ⟨4, .dev 0, 0, 1, some (List.replicate 65 0)⟩).wf = false ∧
    (Instr.dramTrainingEnd { failed := 0, ms := 1, dens := [], trfcNs := 0, raaMax := none, phy := [] }).wf = false ∧
    (Instr.dramTrainingEnd { failed := 0, ms := 1, dens := List.replicate 8 0, trfcNs := 0, raaMax := some 0,
                             phy := List.replicate 8 { wck := 0, rd := 0, wr := 0, eye := 0 } }).wf = false ∧
    (Instr.auxTransactionEnd 0 (.ack (List.replicate 17 0) 0)).wf = false ∧ (Instr.auxTransactionEnd 0 (.ack [] 16)).wf = true ∧
    (Instr.pintleTrainingFail 0 [5, 5]).wf = false ∧ (Instr.mailboxResponse 0 0 0 (List.replicate 49 0)).wf = false ∧
    (Instr.hostMemoryRead 0 none 0 0).wf = false ∧ (Instr.hostMemoryWrite 0 none 0 [] true).wf = false ∧
    (Instr.translationAccess 0 0 ⟨0, none⟩ 0 0 true []).wf = false ∧ (Instr.dramRequest 0 (.layer 0) 0 0 false []).wf = false ∧
    (Instr.dramRequest 0 (.layer 0) 0 2 true [1]).wf = false ∧ (Instr.bandFetchDeadline 0 0 [1, 1]).wf = false ∧
    (Instr.scanFrameEnd 0 [65536] 0).wf = false ∧ (Instr.wakeEvent 0).wf = false ∧
    (Instr.ringFrameForward 0 [] 0 0).wf = false ∧ Instr.alert.wf = true := by decide +kernel

/-- The table gives no bits: no word spells a command. -/
theorem test_noWordSpellsACommand : decodeTableWord 32 0xFFFFFFFF = none ∧ decodeTableWord 0 0 = none := by decide

theorem test_fetchWordChangesNothing : State.reset.withFetchWord 32 5 = State.reset := by decide +kernel

/-! ### Values that the spec states -/

/-- The device after a command, from a state with no command waiting. -/
def after (i : Instr) (d : Dev) : Dev :=
  match exec i (st d) with
  | .next t => t.dev
  | _ => d

/-- The example after R37: 0x0032_2840 is `PE_CTRL` of entry 2 on page 0x322. -/
theorem test_addressOfAPeriodEntry :
    agentPage .ward 0x322840 = 0x322 ∧ 0x322840 % 4096 = F.PE_CTRL_ARMED.at 2 := by decide +kernel

/-- The example after R58: VI 5 of port B with generation 3; a rejected commit adds reason 1. -/
theorem test_originOfTheExample :
    (({ up with hinge := memWr up.hinge 0x285 1 }.w (vihPid 5) F.VIH_STAT_GEN 3).origin (.vi 5)) % 65536 / 16 = 5 ∧
    ((up.w (vihPid 5) F.VIH_STAT_GEN 3).origin (.vi 5)) / 65536 = 3 := by decide +kernel

/-- The example of R108: three slots for each head, one each for audio, touch and the ledger drain. -/
def islandOfTheExample : Dev :=
  { up with hinge := (upFrom 0 8).foldl (fun m h => memWr m (0x81 + 16 * h) 3) (memWr (memWr (memWr [] 0x20 1) 0x21 1) 0x22 1) }
theorem test_wheelOfTheExample :
    (upFrom 0 8).map islandOfTheExample.builtOwner = [1, 2, 3, 4, 6, 7, 8, 10] ∧
    [49, 50, 51, 52, 53, 54].map islandOfTheExample.builtOwner = [2 + 1, 2 + 2, 2 + 3, 2 + 5, 2 + 6, 2 + 7] ∧
    [23, 39, 55].map islandOfTheExample.builtOwner = [11, 12, 0] ∧
    (islandOfTheExample.buildWheel).word swPid 0x040 = 0x04030201 ∧ (islandOfTheExample.buildWheel).word swPid 0x044 = 0x0A080706 := by
  decide +kernel

/-- The example of R209: DENS 1, GRAIN 12, HASH 1, their reset values. -/
theorem test_channelOfTheExample : up.chanOf 0x123456780 = 4 ∧ up.localOf 0x123456780 = 0x2468A780 := by decide +kernel

/-- R221: data bit 5 has the column 0x15. -/
theorem test_syndromeOfBit5 : decodeSyndrome 0x15 = .dataBit 5 ∧ checkByte 0x20 0 ^^^ checkByte 0 0 = 0x15 := by decide +kernel

/-- The last column of R433. -/
def digits : List Nat := [0x31, 0x32, 0x33, 0x34, 0x35, 0x36, 0x37, 0x38, 0x39]
theorem test_checkValuesOfTheTable :
    cvFinal 0 (cvRun 0 0xFFFFFFFF digits) = 0xCBF43926 ∧ cvFinal 1 (cvRun 1 0xFFFFFFFF digits) = 0xE3069283 ∧
    cvFinal 2 (cvRun 2 0xFFFF digits) = 0x29B1 ∧ cvFinal 3 (cvRun 3 0xFF digits) = 0x4B := by decide +kernel

/-- Steps 3 to 5 of the example before R432: a claim of source 331 at priority 6, then 343 at 12 nests. -/
def ledgerAlarm : Dev :=
  ((up.w 0x335 F.IR_SRC_PRIO 6 331).w 0x335 F.IR_SRC_PRIO 12 343).setSrc 331 { level := true, asg := some 0, last := 0 }
theorem test_claimOfTheExample :
    (ledgerAlarm.claim 0).r 0x347 F.IR_CLAIM_SOURCE = 331 ∧ (ledgerAlarm.claim 0).r 0x347 F.IR_CLAIM_PRIO = 6 ∧
    (ledgerAlarm.claim 0).word 0x347 0x064 = 0x40 ∧ (ledgerAlarm.claim 0).runPrio 0 = 6 := by decide +kernel

/-! ### Single steps -/

/-- A wrong key leaves an abort without effect; the keyed one ends the test with RESULT 5 (R490, R521). -/
theorem test_abortEndsTheTest :
    (after (.loopbackAbort .ward) (lbIn 1 0 0 0 0)).r lbPid F.LB_STAT_RESULT = 5 ∧
    (after (.loopbackAbort .ward) (lbIn 1 0 0 0 0)).lbBusy = false := by decide +kernel

/-- A system-level power-good fall of a running device holds the dies (R505). -/
theorem test_powerGoodFallHoldsTheDies : (after .powerGoodFall live).boot.down = true := by decide +kernel

/-- An empty queue: the block idles. -/
theorem test_idle : step State.reset = .next State.reset := rfl

/-- The front command leaves the queue. -/
theorem test_stepTakesTheFront :
    (match step { st up with pending := [.alert, .service] } with | .next t => t.pending | _ => []) = [.service] := by decide +kernel

/-- R498: the balls of a device out of the hinge reset, before power-good. -/
theorem test_ballsBeforePowerGood :
    State.reset.dev.ball .transmitter = .idle ∧ State.reset.dev.ball .panel = .low ∧ State.reset.dev.ball .flashSelect = .high ∧
    State.reset.dev.ball .haptic = .highZ ∧ State.reset.dev.ball .bypHold = .low ∧ State.reset.dev.ball .faultN = .highZ ∧
    live.ball .speaker = .owner := by decide +kernel

end Sys2Proof.Tests
end

section
/-! SUPPORT. What the statements of the period scheduler, the crossbar and the memory controller share: the device of a
command that completes, the fields that an update leaves as they are, and what an accepted write says of its page. -/

namespace Sys2Proof.Machine

open Sys2Proof

/-- A command that completes in a device completes in every device equal to it. -/
theorem Completes.congr {i : Instr} {s : State} {d d' : Dev} (h : Completes i s d) (e : d = d') : Completes i s d' := e ▸ h

/-! ### Fields: what a write leaves as it is -/

/-- A field of the same page at another bit address of the page is not touched. -/
theorem r_w_at {d : Dev} {p : Nat} {f g : FD} {v i j : Nat} (h : g.at j * 8 + g.lo ≠ f.at i * 8 + f.lo) :
    (d.w p f v i).r p g j = d.r p g j :=
  r_w_other d p p f g v i j (by unfold fieldKey; omega)

/-- A field that repeats with the same stride, at the same index. -/
theorem r_w_beside {d : Dev} {p : Nat} {f g : FD} {v i : Nat} (hs : g.stride = f.stride)
    (ho : 8 * g.off + g.lo ≠ 8 * f.off + f.lo) : (d.w p f v i).r p g i = d.r p g i :=
  r_w_at (by unfold FD.at; rw [hs]; omega)

theorem r_add_same (d : Dev) (p : Nat) (f : FD) (n i : Nat) : (d.add p f n i).r p f i = (d.r p f i + n) % 2 ^ f.w :=
  r_w_same _ _ _ _ _

/-- A field of a block's own registers, which follow the common header of R39. -/
def FD.own (f : FD) (i : Nat) : Prop := 0x200 ≤ f.at i * 8 + f.lo ∧ f.at i * 8 + f.lo < 32768

/-- An error event touches no register of a block's own, on its page or on another. -/
theorem r_err_own {d : Dev} {p b q : Nat} {g : FD} {j : Nat} (h : g.own j) : (d.err p b).r q g j = d.r q g j := by
  obtain ⟨h1, h2⟩ := h
  have key (f : FD) (hf : f.at 0 * 8 + f.lo < 0x200) : fieldKey q g j ≠ fieldKey p f 0 := by unfold fieldKey; omega
  unfold Dev.err
  split
  · exact r_w_other _ _ _ _ _ _ _ _ (key F.PAGE_ERR_COMMON (by decide))
  · exact r_w_other _ _ _ _ _ _ _ _ (key F.PAGE_ERR_BLOCK (by decide))

/-! ### Period entries -/

@[simp] theorem per?_setPer (d : Dev) (e : Nat) (x : PerEntry) : (d.setPer e x).per? e = x := tabGet_put_same _ _ _ _
@[simp] theorem per?_setPe (d : Dev) (e e' : Nat) (f : FD) (v : Nat) : (d.setPe e f v).per? e' = d.per? e' := rfl
@[simp] theorem pe_setPer (d : Dev) (e e' : Nat) (x : PerEntry) (f : FD) : (d.setPer e x).pe e' f = d.pe e' f := rfl

/-- Another field of the entry is not touched: all fields of an entry repeat with one stride. -/
theorem pe_setPe_other {d : Dev} {e : Nat} {f g : FD} {v : Nat} (hs : g.stride = f.stride)
    (ho : 8 * g.off + g.lo ≠ 8 * f.off + f.lo) : (d.setPe e f v).pe e g = d.pe e g :=
  r_w_beside hs ho

theorem perState_setPe_state (d : Dev) (e v : Nat) : (d.setPe e F.PE_CTRL_STATE v).perState e = v % 8 := r_w_same _ _ _ _ _

/-- A field of an entry lies on no other page. -/
theorem r_setPe_page {d : Dev} {e v q j : Nat} {f g : FD} (hf : f.stride = 32) (ho : f.off ≤ 0x81C) (hl : f.lo < 32)
    (hg : g.own j) (hq : q < 0x322) : (d.setPe e f v).r q g j = d.r q g j := by
  have := Nat.mod_lt e (show 64 > 0 by decide)
  refine r_w_page _ _ _ _ _ _ _ _ ?_ hg.2 (by unfold perPage; omega)
  unfold FD.at
  rw [hf]
  omega

/-! ### Accepted writes -/

theorem ite_ne {α : Type} {c : Prop} [Decidable c] {a b x : α} (ha : a ≠ x) (hb : b ≠ x) : (if c then a else b) ≠ x := by
  split
  · exact ha
  · exact hb

/-- A write that is accepted is at a register whose block belongs to the page's owner. -/
theorem blockHere_of_takes {d : Dev} {ag : Agent} {pid off v : Nat} (h : d.takes ag pid off v = true) :
    d.blockHere pid off = true := by
  cases hb : d.blockHere pid off with
  | true => rfl
  | false =>
    have refused : ∀ ch acts sh, d.fate ag pid off v ≠ .accepted ch acts sh := by
      intro ch acts sh
      have last {x : Fate} : (if (!d.blockHere pid off) = true then Fate.refused errRefused else x) ≠ .accepted ch acts sh := by
        rw [hb]
        exact nofun
      exact ite_ne nofun (ite_ne nofun (ite_ne nofun (ite_ne (ite_ne nofun nofun) (ite_ne nofun last))))
    unfold Dev.takes at h
    split at h
    · exact absurd ‹_› (refused _ _ _)
    · rw [Bool.and_false] at h
      exact h

theorem viOfPage_viPage (v : Fin 64) {w : Nat} (hw : w < 16) : viOfPage (viPage v w) = some v.val := by
  have hv := v.isLt
  unfold viOfPage viPage viBase
  rw [if_pos (by omega)]
  congr 1
  omega

theorem startedBy_kind {d b : Dev} {p o v i : Nat} {k : PageKind} (hk : kindOf p = some (k, i)) :
    d.startedBy b p o v = d.effect? b k i p o v := by
  unfold Dev.startedBy
  rw [hk]

end Sys2Proof.Machine
end

section
/-! SUPPORT. Arming of period entries and the Bolt monitors (R15, R28, R29, R33, R36). -/

namespace Sys2Proof.Machine

open Sys2Proof

/-! ### Arming (R28, R29, R36) -/

/-- The agent's period page and offset show the registers of the entry behind the slot. -/
theorem place_periodEntry (d : Dev) (ag : Agent) (slot : Fin 64) :
    d.place (agentPageNo ag (periodPage ag)) (0x800 + 32 * slot) =
      (perPage (d.entryOf ag slot), 0x800 + 32 * (d.entryOf ag slot % 64)) := by
  have device : d.place 0x322 (0x800 + 32 * slot) = (perPage slot.val, 0x800 + 32 * (slot.val % 64)) := by
    rw [place_own (show kindOf 0x322 = some (.periodEntries, 0) by decide) rfl]
    simp only [perPage, Prod.mk.injEq]
    omega
  cases ag with
  | vi v =>
    have hk : kindOf (viPage v 6) = some (.viPeriods, v.val) := kindOf_viPage v 6
    have ho : (0x800 + 32 * slot.val - 0x800) / 32 = slot := by omega
    have hm : (0x800 + 32 * slot.val) % 32 = 0 := by omega
    show d.place (viPage v 6) _ = _
    unfold Dev.place
    rw [hk]
    simp only [Nat.le_add_right, if_true, ho, hm, Nat.add_zero]
    rfl
  | ward => exact device
  | openWorld k => exact device
  | pf k => exact device

/-- The entry behind a slot at which a write is accepted is one of the 256 (R26). -/
theorem entryOf_lt {d : Dev} {ag : Agent} {slot : Fin 64} {w : Nat}
    (h : d.accepts ag (periodPage ag) (0x800 + 32 * slot) w = true) : d.entryOf ag slot < 256 := by
  have device : slot.val < 256 := by omega
  cases ag with
  | vi v =>
    have hk : kindOf (viPage v 6) = some (.viPeriods, v.val) := kindOf_viPage v 6
    have ho : (0x800 + 32 * slot.val - 0x800) / 32 = slot := by omega
    have exists_ : v.val < d.nVis := by
      have := implemented_of_takes h
      simpa [Dev.implemented, agentPageNo, periodPage, hk, viOfPage_viPage v (show 6 < 16 by decide)] using this
    have share : slot.val + 64 * d.r (viPage v 6) F.PV_BANK_BANK < 192 / d.nVis := by
      have here : d.blockHere (viPage v 6) (0x800 + 32 * slot) = true := blockHere_of_takes h
      simp only [Dev.blockHere, hk, ho, Dev.perCount, Bool.or_eq_true, decide_eq_true_eq] at here
      omega
    have whole : v.val * (192 / d.nVis) + 192 / d.nVis ≤ 192 :=
      calc v.val * (192 / d.nVis) + 192 / d.nVis = (v.val + 1) * (192 / d.nVis) := (Nat.succ_mul _ _).symm
        _ ≤ d.nVis * (192 / d.nVis) := Nat.mul_le_mul_right _ exists_
        _ ≤ 192 := Nat.mul_div_le 192 d.nVis
    show d.perFirst v + 64 * d.r (viPage v 6) F.PV_BANK_BANK + slot < 256
    unfold Dev.perFirst
    omega
  | ward => exact device
  | openWorld k => exact device
  | pf k => exact device

theorem kindOf_perPage : ∀ e : Fin 256, kindOf (perPage e) = some (.periodEntries, e.val / 64) := by decide +kernel

/-- A write of `PE_CTRL` starts the arming of its entry where it sets ARMED, and nothing else. -/
theorem effect_peCtrl (d b : Dev) (i p j v : Nat) :
    d.effect? b .periodEntries i p (0x800 + 32 * j) v =
      if b.rises p v F.PE_CTRL_ARMED j = true then d.perArm (64 * i + j) else d := by
  have ho : (0x800 + 32 * j - 0x800) / 32 = j := by omega
  have hm : (0x800 + 32 * j) % 32 = 0 := by omega
  unfold Dev.effect?
  rw [if_neg (by omega)]
  simp only [Dev.coreEffect, Dev.displayEffect, Dev.hingeEffect, Dev.feelEffect, ho, hm, Nat.le_add_right, true_and]

/-- An accepted write of an entry's `PE_CTRL`, through whichever page: its register part, and the arming it starts. -/
theorem put_peCtrl {d : Dev} {ag : Agent} {slot : Fin 64} {v : Nat}
    (h : d.accepts ag (periodPage ag) (0x800 + 32 * slot) v = true) :
    let e := d.entryOf ag slot
    let n := d.after ag (periodPage ag) (0x800 + 32 * slot) v
    d.put ag (periodPage ag) (0x800 + 32 * slot) v =
      if d.rises (perPage e) v F.PE_CTRL_ARMED (e % 64) = true then n.perArm e else n := by
  intro e n
  have hk : kindOf (perPage e) = some (.periodEntries, e / 64) := kindOf_perPage ⟨e, entryOf_lt h⟩
  rw [put_accepts h (by omega), place_periodEntry, startedBy_kind hk, effect_peCtrl, Nat.div_add_mod]

/-- A word with ARMED clear sets it in no entry. -/
theorem rises_withoutBit {d : Dev} {p i : Nat} {v : Word} : d.rises p (withoutBit v 0) F.PE_CTRL_ARMED i = false := by
  have := bit_withoutBit v 0
  have hz : bits (withoutBit v 0) 0 1 = 0 := by
    simpa [bit, bits, Nat.testBit_zero] using this
  simp [Dev.rises, F.PE_CTRL_ARMED, hz]

/-- An entry in use is not armed again. -/
theorem perArm_in_use {d : Dev} {e : Nat} (h : d.perState e ≠ 0) : d.perArm e = d := if_neg h

/-- The number of whole periods from START to the first boundary of an entry that is armed. -/
def Dev.firstBoundary (d : Dev) (e : Nat) : Nat :=
  let start := d.r64 (perPage e) F.PE_START_LO_START F.PE_START_HI_START (e % 64)
  if d.now < start then 0 else (d.now - start) / (1000 * d.pe e F.PE_PERIOD_PERIOD) + 1

theorem perArm_idle {d : Dev} {e : Nat} (h : d.perState e = 0) :
    (d.perArm e).perState e = 1 ∧ ((d.perArm e).per? e).next = d.firstBoundary e := by
  unfold Dev.perArm
  rw [if_pos h]
  exact ⟨perState_setPe_state _ _ _, by simp only [per?_setPe, per?_setPer, Dev.firstBoundary]⟩

/-- The boundary that an arming waits for lies after device time, and the one before it does not. -/
theorem firstBoundary_spec {d : Dev} {e : Nat} (hp : 0 < d.pe e F.PE_PERIOD_PERIOD) :
    let start := d.r64 (perPage e) F.PE_START_LO_START F.PE_START_HI_START (e % 64)
    let per := 1000 * d.pe e F.PE_PERIOD_PERIOD
    d.now < start + d.firstBoundary e * per ∧ (d.firstBoundary e = 0 ∨ start + (d.firstBoundary e - 1) * per ≤ d.now) := by
  intro start per
  have hper : 0 < per := by omega
  by_cases hb : d.now < start
  · have hk : d.firstBoundary e = 0 := if_pos hb
    rw [hk]
    exact ⟨by omega, Or.inl rfl⟩
  · have hk : d.firstBoundary e = (d.now - start) / per + 1 := if_neg hb
    have above := Nat.lt_mul_div_succ (d.now - start) hper
    rw [Nat.mul_comm] at above
    have below := Nat.div_mul_le_self (d.now - start) per
    rw [hk]
    exact ⟨by omega, Or.inr (by rw [Nat.add_sub_cancel]; omega)⟩

/-! ### The Bolt monitors (R15, R33) -/

/-- The ward world's write of `CLS_BMON_CLR` marks the paths that it names. -/
theorem put_bmonClr {d : Dev} {v : Nat} (h : d.accepts .ward 0x320 0x04C v = true) :
    d.put .ward 0x320 0x04C v = (d.after .ward 0x320 0x04C v).bmonClear (bits v 0 8) :=
  put_flat h (by decide) rfl (show kindOf 0x320 = some (.classPage, 0) by decide) rfl

/-- What the first measurement of a path does with its monitor: cleared if it is marked, and marked no longer. -/
theorem bmonFirst_monitor (d : Dev) {k : Nat} :
    (d.bmonFirst k).r clsPid F.CLS_BMON_CNT_COUNT k = (if bit d.bmonClr k then 0 else d.r clsPid F.CLS_BMON_CNT_COUNT k) ∧
    (d.bmonFirst k).r clsPid F.CLS_BMON_WORST_WORST k = (if bit d.bmonClr k then 0 else d.r clsPid F.CLS_BMON_WORST_WORST k) ∧
    bit (d.bmonFirst k).bmonClr k = false := by
  by_cases hb : bit d.bmonClr k = true
  · let n := (d.w clsPid F.CLS_BMON_CNT_COUNT 0 k).w clsPid F.CLS_BMON_WORST_WORST 0 k
    have hn : d.bmonFirst k = { n with bmonClr := d.bmonClr ^^^ 2 ^ k } := if_pos hb
    have hcount : n.r clsPid F.CLS_BMON_CNT_COUNT k = 0 :=
      (r_w_beside (f := F.CLS_BMON_WORST_WORST) (by decide) (by decide)).trans (r_w_same _ _ _ _ _)
    have hworst : n.r clsPid F.CLS_BMON_WORST_WORST k = 0 := r_w_same _ _ _ _ _
    have hmark : bit (d.bmonClr ^^^ 2 ^ k) k = false := by
      unfold bit at hb ⊢
      simp [Nat.testBit_xor, hb]
    rw [hn, if_pos hb, if_pos hb]
    exact ⟨hcount, hworst, hmark⟩
  · have hn : d.bmonFirst k = d := if_neg hb
    rw [hn, if_neg hb, if_neg hb]
    exact ⟨rfl, rfl, Bool.eq_false_iff.mpr hb⟩

/-- A measurement within its bound takes the worst latency, and opens no fault. -/
theorem measure_in_bound {d : Dev} {k latency bound pid : Nat} {holds : Bool} (h : latency ≤ bound) (hl : latency < 2 ^ 32) :
    let m := d.measure k latency bound pid holds
    let b := d.bmonFirst k
    m.r clsPid F.CLS_BMON_CNT_COUNT k = b.r clsPid F.CLS_BMON_CNT_COUNT k ∧
    m.r clsPid F.CLS_BMON_WORST_WORST k = max latency (b.r clsPid F.CLS_BMON_WORST_WORST k) ∧ m.bmonClr = b.bmonClr := by
  intro m b
  have hm : m = if b.r clsPid F.CLS_BMON_WORST_WORST k < latency then
      b.w clsPid F.CLS_BMON_WORST_WORST (sat (2 ^ 32 - 1) latency) k else b := if_neg (Nat.not_lt.mpr h)
  have hsat : sat (2 ^ 32 - 1) latency % 2 ^ 32 = latency := by unfold sat; split <;> omega
  rw [hm]
  split
  · rename_i hw
    refine ⟨r_w_beside (by decide) (by decide), ?_, rfl⟩
    rw [Nat.max_eq_left (Nat.le_of_lt hw)]
    exact (r_w_same _ _ _ _ _).trans hsat
  · rename_i hw
    exact ⟨rfl, (Nat.max_eq_right (Nat.not_lt.mp hw)).symm, rfl⟩

/-- Settles O20: an accepted write of `PE_CTRL` arms the entry behind its slot where it sets ARMED (`put_peCtrl`), and the
boundary that an armed entry waits for is the first after device time (`firstBoundary_spec`). -/
theorem armingAndMonitorClearComplete : Obligations.ArmingAndMonitorClearComplete := by
  have armed {s : State} {ag : Agent} {slot : Fin 64} {v : Word} : Completes (.periodArm ag slot v) s
      (s.dev.put ag (periodPage ag) (0x800 + 32 * slot) (withBit v 0)) := rfl
  have disarmed {s : State} {ag : Agent} {slot : Fin 64} {v : Word} : Completes (.periodDisarm ag slot v) s
      (s.dev.put ag (periodPage ag) (0x800 + 32 * slot) (withoutBit v 0)) := rfl
  have cleared {s : State} {v : Word} : Completes (.bmonClear v) s (s.dev.put .ward 0x320 0x04C v.toNat) := rfl
  refine ⟨?_, ?_, fun d e => perArm_in_use, ?_, ?_, ?_, ?_⟩
  · intro s ag slot v n e ha hr
    exact armed.congr ((put_peCtrl ha).trans (if_pos hr))
  · intro s ag slot v n e ha hr
    exact armed.congr ((put_peCtrl ha).trans (if_neg (Bool.eq_false_iff.mp hr)))
  · intro d e hs hp
    obtain ⟨hstate, hnext⟩ := perArm_idle hs
    simp only [hnext]
    exact ⟨hstate, firstBoundary_spec hp⟩
  · intro s ag slot v ha
    exact disarmed.congr ((put_peCtrl ha).trans (if_neg (Bool.eq_false_iff.mp rises_withoutBit)))
  · intro s v ha
    exact cleared.congr (put_bmonClr ha)
  · intro d k latency bound pid holds hk hb hl
    obtain ⟨hcount, hworst, hmark⟩ := bmonFirst_monitor d (k := k)
    obtain ⟨mcount, mworst, mmark⟩ := measure_in_bound (d := d) (k := k) (pid := pid) (holds := holds) hb hl
    refine ⟨mcount.trans hcount, ?_, by rw [mmark, hmark]⟩
    rw [mworst, hworst]
    split <;> simp

end Sys2Proof.Machine
end

section
/-! SUPPORT. The events of a period entry (R29 to R31, R34), case by case. -/

namespace Sys2Proof.Machine

open Sys2Proof

/-! ### The boundary (R29) -/

theorem perBoundary_early {d : Dev} {e : Nat} (h : d.perState e = 0 ∨ d.now < d.perNextAt e) : d.perBoundary e = d :=
  if_pos h

/-- At its boundary an entry opens its next period or goes IDLE, after an open period has met its deadline. -/
theorem perBoundary_due {d : Dev} {e : Nat} (hs : d.perState e ≠ 0) (ht : d.perNextAt e ≤ d.now) :
    let m := if d.perState e = 2 then d.perDeadline e else d
    d.perBoundary e = if d.pe e F.PE_CTRL_ARMED = 1 then m.perOpen e else m.perIdle e := by
  have hn : ¬(d.perState e = 0 ∨ d.now < d.perNextAt e) := by omega
  simp only [Dev.perBoundary, hn, if_false, beq_iff_eq]

/-- A flip waits for its period in its pipe: the period releases no work of its own when it opens. -/
theorem perRelease_flip {d : Dev} {e : Nat} (hk : d.pe e F.PE_CTRL_KIND = 2) : d.perRelease e = d := by
  simp only [Dev.perRelease, hk]

theorem perDiscard_flip {d : Dev} {e : Nat} (hk : d.pe e F.PE_CTRL_KIND = 2) :
    d.perDiscard e = d.flipCancel (d.pe e F.PE_TARGET_HANDLE) := by
  simp only [Dev.perDiscard, hk]

/-- A flip's period without a fence opens. -/
theorem perOpen_flip {d : Dev} {e : Nat} (hf : fencePlace (d.pe e F.PE_FENCE_FENCE) = none)
    (hk : d.pe e F.PE_CTRL_KIND = 2) :
    d.perOpen e = (d.setPer e { d.per? e with next := (d.per? e).next + 1, opened := d.perNextAt e, fin := none
                                              owes := false }).setPe e F.PE_CTRL_STATE 2 := by
  have hfence : ∀ x, ((d.setPer e x).setPe e F.PE_CTRL_STATE 2).pe e F.PE_FENCE_FENCE = d.pe e F.PE_FENCE_FENCE :=
    fun x => pe_setPe_other (by decide) (by decide)
  have hkind : ∀ x, ((d.setPer e x).setPe e F.PE_CTRL_STATE 2).pe e F.PE_CTRL_KIND = d.pe e F.PE_CTRL_KIND :=
    fun x => pe_setPe_other (by decide) (by decide)
  simp only [Dev.perOpen, hfence, hf]
  exact perRelease_flip ((hkind _).trans hk)

/-! ### The end of a period's work (R29, R30) -/

/-- The entry of a period whose work is done: DONE, and counted. -/
def Dev.perShowDone (d : Dev) (e : Nat) : Dev :=
  ((d.setPer e { d.per? e with fin := none, noSig := false }).setPe e F.PE_CTRL_STATE 3).setPe e F.PE_COUNT_DONE
    (d.pe e F.PE_COUNT_DONE + 1)

theorem perDone_finished {d : Dev} {e st : Nat} (hs : d.perState e = 2) (hf : (d.per? e).fin = some st) :
    d.perDone e = ((d.perShowDone e).perPay e st).settleWaits := by
  unfold Dev.perDone
  rw [if_pos hs, hf]
  rfl

theorem perDone_open {d : Dev} {e : Nat} (h : d.perState e ≠ 2 ∨ (d.per? e).fin = none) : d.perDone e = d := by
  unfold Dev.perDone
  split
  · rw [h.resolve_left (by simpa using ‹_›)]
  · rfl

theorem owes_perShowDone (d : Dev) (e : Nat) : ((d.perShowDone e).per? e).owes = (d.per? e).owes := by
  simp only [Dev.perShowDone, per?_setPe, per?_setPer]

theorem fence_perShowDone (d : Dev) (e : Nat) : (d.perShowDone e).pe e F.PE_FENCE_FENCE = d.pe e F.PE_FENCE_FENCE :=
  (pe_setPe_other (f := F.PE_COUNT_DONE) (by decide) (by decide)).trans
    (pe_setPe_other (f := F.PE_CTRL_STATE) (by decide) (by decide))

theorem perPay_free {d : Dev} {e st : Nat} (h : (d.per? e).owes = false) : d.perPay e st = d :=
  if_neg (Bool.eq_false_iff.mp h)

theorem perPay_owing {d : Dev} {e st pid i : Nat} (h : (d.per? e).owes = true)
    (hf : fencePlace (d.pe e F.PE_FENCE_FENCE) = some (pid, i)) :
    d.perPay e st = (d.setPer e { d.per? e with owes := false }).paySignal (perUid e) pid i st := by
  unfold Dev.perPay
  rw [if_pos h]
  simp only [pe_setPer, hf]

/-! ### The deadline (R30, R31, R34) -/

theorem perDeadline_early {d : Dev} {e : Nat} (h : d.perState e ≠ 2 ∨ d.now < d.perLateAt e) : d.perDeadline e = d :=
  if_neg (by omega)

theorem perDeadline_late {d : Dev} {e : Nat} (hs : d.perState e = 2) (ht : d.perLateAt e ≤ d.now) :
    d.perDeadline e = if (d.per? e).fin.isSome then d.perDone e else d.perDrop e := if_pos ⟨hs, ht⟩

/-- A dropped period is counted, and shown as the last one (R34, R35). -/
theorem perDropShow_shows (d : Dev) (e : Nat) :
    (d.perDropShow e).r schPid F.PS_DROPS_TOTAL = (d.r schPid F.PS_DROPS_TOTAL + 1) % 2 ^ F.PS_DROPS_TOTAL.w ∧
    (d.perDropShow e).r schPid F.PS_LASTDROP_ENTRY = e % 2 ^ F.PS_LASTDROP_ENTRY.w := by
  have total : F.PS_DROPS_TOTAL.own 0 := by unfold FD.own; decide
  have entry : F.PS_LASTDROP_ENTRY.own 0 := by unfold FD.own; decide
  have errs : ∀ g : FD, g.own 0 → ∀ (n : Dev) (v : Option Nat),
      (match v with
        | some v => (n.err (viPage v 6) errLate).err (viPage v 6) 10
        | none => if e < 64 then (n.err 0x322 errLate).err 0x322 10 else n).r schPid g = n.r schPid g := by
    intro g hg n v
    cases v with
    | some v => simp only [r_err_own hg]
    | none => dsimp only; split <;> simp only [r_err_own hg]
  refine ⟨(errs _ total _ _).trans ?_, (errs _ entry _ _).trans ?_⟩
  · rw [r_err_own total, r_err_own total, r_w_at (by decide), r_w_at (by decide), r_add_same]
    exact congrArg (fun x => (x + 1) % 2 ^ 32) (r_setPe_page rfl (by decide) (by decide) total (by decide))
  · rw [r_err_own entry, r_err_own entry, r_w_at (by decide), r_w_same]

/-- Settles O21: each event of an entry by the cases of its state, of ARMED and of what its work has come to. -/
theorem periodEventsComplete : Obligations.PeriodEventsComplete := by
  have boundary {s : State} {e : Fin 256} : Completes (.periodBoundary e) s (s.dev.perBoundary e) := rfl
  have work {s : State} {e : Fin 256} : Completes (.periodWorkComplete e) s (s.dev.perDone e) := rfl
  have deadline {s : State} {e : Fin 256} : Completes (.periodDeadline e) s (s.dev.perDeadline e) := rfl
  refine ⟨fun s e h => boundary.congr (perBoundary_early h), ?_, fun d e hf hk => perOpen_flip hf hk, ?_, ?_,
    fun s e h => work.congr (perDone_open h), fun s e h => deadline.congr (perDeadline_early h), ?_, ?_,
    fun d e => perDiscard_flip, perDropShow_shows⟩
  · intro s e hs ht
    have due := perBoundary_due hs ht
    refine ⟨fun h2 ha => ?_, fun h2 ha => ?_, fun h2 ha => ?_, fun h2 ha => ?_⟩ <;>
      exact boundary.congr (by simpa only [h2, ha, if_true, if_false] using due)
  · intro s e st hs hf ho
    refine work.congr ((perDone_finished hs hf).trans ?_)
    rw [perPay_free ((owes_perShowDone _ _).trans ho)]
    rfl
  · intro s e st pid i hs hf ho hp n
    refine work.congr ((perDone_finished hs hf).trans ?_)
    rw [perPay_owing ((owes_perShowDone _ _).trans ho) (by rw [fence_perShowDone, hp])]
    rfl
  · intro s e hs ht hf n
    exact deadline.congr ((perDeadline_late hs ht).trans (if_neg (by simp [hf])))
  · intro s e st hs ht hf
    exact deadline.congr ((perDeadline_late hs ht).trans (if_pos (by simp [hf])))

end Sys2Proof.Machine
end

section
/-! SUPPORT. Requests at the crossbar, their timeouts, the slot wheel and a channel's command opportunity, case by case
(R81, R82, R89, R95, R103, R106, R107, R110). -/

namespace Sys2Proof.Machine

open Sys2Proof

/-! ### A request enters (R19, R81, R82, R89) -/

/-- The mode, the target or an isolation refuses a request. -/
def Dev.reqRefused (d : Dev) (q : Req) : Bool :=
  !d.modeAllows q.port || (q.target == 1 && (!(q.port == 0) || decide (strikeSize < q.addr + 64 * q.beats))) || d.reqIsolated q

/-- A Bolt DRAM read beyond the sixteenth, which no eight of its channel hold back. -/
def Dev.reqPast (d : Dev) (q : Req) : Bool :=
  q.boltRead && decide (16 ≤ d.boltReads.length) && decide (d.chanReads q.addr < 8)

theorem reqEnter_refused {d : Dev} {q : Req} (h : d.reqRefused q = true) : d.reqEnter q = d.emit (.errorResponse q.port) :=
  if_pos h

theorem reqEnter_past {d : Dev} {q : Req} (hr : d.reqRefused q = false) (h : d.reqPast q = true) :
    d.reqEnter q = d.boltLimit.emit (.errorResponse q.port) :=
  (if_neg (Bool.eq_false_iff.mp hr)).trans (if_pos h)

theorem reqEnter_held {d : Dev} {q : Req} (hr : d.reqRefused q = false) (hp : d.reqPast q = false)
    (h : d.reqWaits d.fab.waiting q = true) :
    d.reqEnter q = { d with fab := { d.fab with waiting := d.fab.waiting ++ [q] } } :=
  (if_neg (Bool.eq_false_iff.mp hr)).trans ((if_neg (Bool.eq_false_iff.mp hp)).trans (if_pos h))

theorem reqEnter_issued {d : Dev} {q : Req} (hr : d.reqRefused q = false) (hp : d.reqPast q = false)
    (h : d.reqWaits d.fab.waiting q = false) : d.reqEnter q = d.reqIssue q :=
  (if_neg (Bool.eq_false_iff.mp hr)).trans ((if_neg (Bool.eq_false_iff.mp hp)).trans (if_neg (Bool.eq_false_iff.mp h)))

/-! ### Timeouts (R95) -/

theorem expired_iff {d : Dev} {port target page : Nat} {q : Req} : d.expired port target page q = true ↔
    q.port = port ∧ q.target = target ∧ ((target = 2 ∨ target = 3) → q.page = page) ∧ q.since + q.limit ≤ d.now := by
  have page_ : (!(target == 2 || target == 3) || q.page == page) = true ↔ ((target = 2 ∨ target = 3) → q.page = page) := by
    simp only [Bool.or_eq_true, Bool.not_eq_true', ← Bool.not_eq_true, beq_iff_eq]
    exact Decidable.imp_iff_not_or.symm
  simp only [Dev.expired, Bool.and_eq_true, page_, beq_iff_eq, decide_eq_true_eq, and_assoc]

theorem heldTimeout_none {d : Dev} {port page : Nat} (h : d.held.find? (d.heldExpired port page) = none) :
    d.heldTimeout port page = d := by
  unfold Dev.heldTimeout
  rw [h]

theorem requestTimeout_crossbar {d : Dev} {port target page : Nat} {q : Req}
    (h : d.outstanding.find? (d.expired port target page) = some q) :
    let late := if d.fab.granted.contains q then d.fab.late ++ [(port, target)] else d.fab.late
    let n : Dev := { d.reqDrop q with fab := { (d.reqDrop q).fab with late := late } }
    d.requestTimeout port target page = (n.timedOut port target (reqUnit q)).fabGo := by
  have some_ : d.outstanding.any (d.expired port target page) = true := by
    rw [List.any_eq_true, ← List.find?_isSome, h]; rfl
  unfold Dev.requestTimeout Dev.responseTimeout
  rw [if_pos some_, h]

theorem requestTimeout_link {d : Dev} {port target page : Nat}
    (h : d.outstanding.find? (d.expired port target page) = none) :
    d.requestTimeout port target page = if target = 3 then d.heldTimeout port page else d := by
  have none_ : ¬ d.outstanding.any (d.expired port target page) = true := by
    rw [List.any_eq_true, ← List.find?_isSome, h]; simp
  unfold Dev.requestTimeout
  rw [if_neg none_]

theorem reqLimit_least (d : Dev) : 16000 ≤ d.reqLimit 0 ∧ 32000 ≤ d.reqLimit 2 := by
  have memory : d.reqLimit 0 = 1000 * max 16 (d.r xbPid F.XB_TMO_MEM) := rfl
  have register : d.reqLimit 2 = 1000 * max 32 (d.r xbPid F.XB_TMO_REG) := rfl
  omega

/-! ### The slot wheel (R106, R110) -/

/-- The wheel after its wrap has been counted and stamped. -/
def Dev.wheelTurned (d : Dev) : Dev :=
  ((d.stamp swPid).2.add swPid F.SW_STAT_TURN).w64 swPid F.SW_WRAP_LO_TIME F.SW_WRAP_HI_TIME (d.stamp swPid).1

theorem wheelWrap_eq (d : Dev) (inTime : Bool) :
    d.wheelWrap inTime =
      if (inTime && (d.ctl swPid).pend.isSome) = true then
        if d.wheelTurned.blockFault swPid = true then d.wheelTurned.discardPend swPid
        else (d.wheelTurned.applyPend swPid (fun _ => true)).wheelShow
      else d.wheelTurned := rfl

/-! ### A command opportunity (R107, R213) -/

theorem opportunity_closed {d : Dev} {c : Nat} (h : d.memService = false) : d.opportunity c = d :=
  if_pos (by simp [h])

theorem opportunity_issue {d : Dev} {c : Nat} {q : DramReq} (hs : d.memService = true)
    (h : d.pick c (d.slotOwner d.slotNow) (d.mc.reqs.filter (fun q => d.chanOf q.addr == c)) = some q) :
    d.opportunity c = d.issue q := by
  unfold Dev.opportunity
  rw [if_neg (by simp [hs]), h]

theorem opportunity_upkeep {d : Dev} {c : Nat} (hs : d.memService = true)
    (h : d.pick c (d.slotOwner d.slotNow) (d.mc.reqs.filter (fun q => d.chanOf q.addr == c)) = none) :
    d.opportunity c =
      if ((upFrom 0 8).all (fun p => decide (d.owedOf c p ≤ 0)) && (d.maintain c).boltClear upkeepNs) = true then
        (d.maintain c).pullIn c else d.maintain c := by
  unfold Dev.opportunity
  rw [if_neg (by simp [hs]), h]

/-- Settles O23: the request, the timeouts, the wrap and the opportunity by the branches of their device functions. -/
theorem requestsAndSlotsComplete : Obligations.RequestsAndSlotsComplete := by
  refine ⟨?_, fun d port page => heldTimeout_none, ?_, ?_, fun d port target page q => expired_iff, ?_, ?_, reqLimit_least,
    ?_, ?_, ?_⟩
  · intro s port path target page addr beats data d q refused x i past
    have request : Completes (.fabricRequest port path ⟨target, page, addr, beats, data⟩) s
        (if (!portAllows port q.cls) = true then (d.emit (.errorResponse port)).err (portHome port) errAddress
          else d.reqEnter q) := rfl
    refine ⟨fun ha => ?_, fun ha hr => ?_, fun ha hr hp => ?_, fun ha hr hp hw => ?_, fun ha hr hp hw => ?_⟩
    · exact request.congr (if_pos (by rw [ha]; rfl))
    all_goals refine request.congr ((if_neg (by rw [ha]; decide)).trans ?_)
    · exact reqEnter_refused hr
    · exact reqEnter_past hr hp
    · exact reqEnter_held hr hp hw
    · exact reqEnter_issued hr hp hw
  · intro s port target page q h
    exact Completes.congr rfl (requestTimeout_crossbar h)
  · intro s port target page h
    have link := requestTimeout_link h
    exact ⟨fun ht => Completes.congr rfl (link.trans (if_neg (fun c => ht (Fin.ext c)))),
      fun ht => Completes.congr rfl (link.trans (if_pos (congrArg Fin.val ht)))⟩
  · intro s port target h
    exact Completes.congr rfl (if_pos h)
  · intro s port target h
    exact Completes.congr rfl (if_neg (Bool.eq_false_iff.mp h))
  · intro s inTime x n
    have wrap : Completes (.slotWheelWrap inTime) s (s.dev.wheelWrap inTime) := rfl
    refine ⟨fun hp => ?_, fun ht => ?_, fun hp ht hb => ?_, fun hp ht hb => ?_⟩ <;> refine wrap.congr ((wheelWrap_eq _ _).trans ?_)
    · exact if_neg (by simp [hp])
    · exact if_neg (by simp [ht])
    · exact (if_pos (by simp [ht, Option.isSome_iff_ne_none, hp])).trans (if_neg (Bool.eq_false_iff.mp hb))
    · exact (if_pos (by simp [ht, Option.isSome_iff_ne_none, hp])).trans (if_pos hb)
  · intro s c h
    exact Completes.congr rfl (opportunity_closed h)
  · intro s c hs mine idle n
    have opportunity : Completes (.dramCommandOpportunity c) s (s.dev.opportunity c) := rfl
    refine ⟨fun q hq => opportunity.congr (opportunity_issue hs hq), fun hq hi => ?_, fun hq hi => ?_⟩
    · exact opportunity.congr ((opportunity_upkeep hs hq).trans (if_pos hi))
    · exact opportunity.congr ((opportunity_upkeep hs hq).trans (if_neg (Bool.eq_false_iff.mp hi)))

end Sys2Proof.Machine
end

section
/-! SUPPORT. Training, retraining, refresh, temperature and the requests of the memory controller, case by case (R19, R144,
R145, R206 to R208, R211, R213, R214, R219). -/

namespace Sys2Proof.Machine

open Sys2Proof

/-! ### Training and retraining (R206, R207) -/

/-- An accepted write of `MC_TRAIN` with START. -/
theorem put_trainStart {d : Dev} {ag : Agent} (h : d.accepts ag mcPid 0x044 1 = true) :
    d.put ag mcPid 0x044 1 = (d.after ag mcPid 0x044 1).trainStart :=
  put_flat h (by decide) rfl (show kindOf mcPid = some (.memCtl, 0) by decide) rfl

theorem trainEnd_idle {d : Dev} {r : TrainResult} (h : d.r mcPid F.MC_TRAIN_STATE ≠ 1) : d.trainEnd r = d := if_neg h

theorem trainEnd_service {d : Dev} {r : TrainResult} (h : d.r mcPid F.MC_TRAIN_STATE = 1) (hc : d.trainCause r = 0) :
    let n := (d.w mcPid F.MC_TRAIN_STATE 2).w mcPid F.MC_STAT_CAP (8 * 2 ^ d.r mcPid F.MC_CFG_DENS)
    let n := (n.w mcPid F.MC_REF_RFM (b2n r.raaMax.isSome)).phyLoadAll 0 r.phy
    d.trainEnd r = { n with mc := { n.mc with raaMax := r.raaMax.getD 0 } } :=
  (if_pos h).trans (if_pos hc)

theorem trainEnd_failed {d : Dev} {r : TrainResult} (h : d.r mcPid F.MC_TRAIN_STATE = 1) (hc : d.trainCause r ≠ 0) :
    d.trainEnd r = ((d.w mcPid F.MC_TRAIN_STATE 3).w mcPid F.MC_TRAIN_FAIL (d.trainCause r)).err mcPid 12 :=
  (if_pos h).trans (if_neg hc)

theorem wckRead_early {d : Dev} {c delay : Nat} {drift : Bool}
    (h : ¬(d.memService = true ∧ tabGet d.mc.wckNext 0 c ≤ d.now)) : d.wckRead c drift delay = d :=
  if_neg (by simpa using h)

theorem wckRead_due {d : Dev} {c delay : Nat} {drift : Bool}
    (h : d.memService = true ∧ tabGet d.mc.wckNext 0 c ≤ d.now) :
    let t := d.now + 1000000 * max 1 (d.r mcPid F.MC_RETRAIN_PERIOD)
    d.wckRead c drift delay =
      (({ d with mc := { d.mc with wckNext := tabPut d.mc.wckNext 0 c t } } : Dev).wckAsk c drift delay).wckStep c :=
  if_pos (by simpa using h)

theorem wckStep_none {d : Dev} {c : Nat} (h : tabGet d.mc.wck none c = none) : d.wckStep c = d := by
  unfold Dev.wckStep
  rw [h]

theorem wckStep_shut {d : Dev} {c : Nat} (h : d.boltClear 100 = false) : d.wckStep c = d := by
  unfold Dev.wckStep
  rw [h]
  split <;> rfl

theorem wckStep_made {d : Dev} {c delay : Nat} (h : tabGet d.mc.wck none c = some delay) (hb : d.boltClear 100 = true) :
    d.wckStep c = (({ d with mc := { d.mc with wck := tabPut d.mc.wck none c none } } : Dev).w phyPid F.PHY_WCK_DELAY delay
      c).addSat phyPid F.PHY_CORR_COUNT 1 c := by
  unfold Dev.wckStep
  rw [h, hb]
  rfl

/-! ### The banks (R211, R214) -/

theorem holdExpiry_eq (d : Dev) (c b : Nat) :
    d.holdExpiry c b =
      if d.pageMode = 2 ∧ d.bankBusy c b = false ∧ tabGet d.mc.hold 0 (16 * c + b) ≤ d.now then d.rowClose c b else d := by
  simp only [Dev.holdExpiry, Bool.and_eq_true, decide_eq_true_eq, Bool.not_eq_true', and_assoc]

theorem refreshDue_closed {d : Dev} {c p : Nat} (h : d.memService = false) : d.refreshDue c p = d :=
  if_neg (Bool.eq_false_iff.mp h)

theorem refreshDue_service {d : Dev} {c p : Nat} (h : d.memService = true) :
    d.refreshDue c p =
      (if 8 ≤ d.owedOf c p then d.refresh c p 8
        else { d with mc := { d.mc with owed := tabPut d.mc.owed 0 (8 * c + p) (d.owedOf c p + 1) } }).maintain c :=
  if_pos h

/-! ### The memory's temperature (R214, R474) -/

/-- The device once MR4 has been read: the next poll is set, and the refresh rate follows. -/
def Dev.mr4Taken (d : Dev) (rate : Nat) : Dev :=
  ({ d with mc := { d.mc with mr4Next := d.now + 1000000 * max 1 (d.r mcPid F.MC_REF_POLL) } } : Dev).w mcPid F.MC_REF_RATE rate

/-- The open MEM_TEMP faults. -/
def Dev.memTempOpen (d : Dev) : List OpenFault := d.flt.faults.filter (fun f => f.cause == 11 && f.pid == mcPid)

/-- The device above the limit: the time within limits starts anew. -/
def Dev.memWarm (d : Dev) : Dev := ({ d with mc := { d.mc with coolSince := none } } : Dev).err mcPid 10

theorem mr4Poll_early {d : Dev} {rate : Nat} {hot : Bool} (h : ¬(d.memService = true ∧ d.mc.mr4Next ≤ d.now)) :
    d.mr4Poll rate hot = d :=
  if_pos (by
    simp only [Bool.or_eq_true, Bool.not_eq_true', decide_eq_true_eq]
    cases hs : d.memService with
    | false => exact .inl rfl
    | true => exact .inr (Nat.lt_of_not_le (fun ht => h ⟨hs, ht⟩)))

section Due

variable {d : Dev} {rate : Nat} (h : d.memService = true ∧ d.mc.mr4Next ≤ d.now)

include h

theorem mr4Poll_hot : d.mr4Poll rate true =
    if (d.mr4Taken rate).memTempOpen.isEmpty = true then (d.mr4Taken rate).memWarm.openFault 11 3 mcPid rate
    else (d.mr4Taken rate).memWarm :=
  if_neg (by simp [h.1, h.2])

theorem mr4Poll_cool_closed (ho : (d.mr4Taken rate).memTempOpen = []) : d.mr4Poll rate false = d.mr4Taken rate :=
  (if_neg (by simp [h.1, h.2])).trans ((if_neg (by decide)).trans (if_pos (List.isEmpty_iff.mpr ho)))

/-- Within limits with MEM_TEMP open: the time is taken at first, and the fault closes after 1 s of it. -/
theorem mr4Poll_cool_open (ho : (d.mr4Taken rate).memTempOpen ≠ []) : d.mr4Poll rate false =
    match (d.mr4Taken rate).mc.coolSince with
    | none => { d.mr4Taken rate with mc := { (d.mr4Taken rate).mc with coolSince := some d.now } }
    | some t =>
      if t + 1000000000 ≤ d.now then
        (d.mr4Taken rate).memTempOpen.foldl (fun d f => d.closeFault f)
          { d.mr4Taken rate with mc := { (d.mr4Taken rate).mc with coolSince := none } }
      else d.mr4Taken rate :=
  (if_neg (by simp [h.1, h.2])).trans ((if_neg (by decide)).trans (if_neg (mt List.isEmpty_iff.mp ho)))

end Due

/-! ### Requests (R19, R144, R145, R208, R219) -/

theorem mcAdmit_eq (d : Dev) (a n : Nat) : d.mcAdmit a n =
    if d.capacity < a + n then ((d.add mcPid F.MC_ADDRERR_COUNT).err mcPid errAddress, false)
    else if (!d.memService) = true then (d, false)
    else if d.inCheck a n = true then (d.add mcPid F.MC_ADDRERR_COUNT, false)
    else (d, !d.inInit a n) := rfl

theorem boltFull_iff {d : Dev} {a : Nat} : d.boltFull a = true ↔ 16 ≤ d.boltReads.length ∨ 8 ≤ d.chanReads a := by
  simp only [Dev.boltFull, Bool.or_eq_true, decide_eq_true_eq]

theorem boltEnter_queued {d : Dev} {q : DramReq} (h : d.boltFull q.addr = false) : d.boltEnter q = d.mcQueue q :=
  if_pos (by simp [h])

theorem boltEnter_held {d : Dev} {q : DramReq} (h : d.boltFull q.addr = true) (hc : 8 ≤ d.chanReads q.addr) :
    d.boltEnter q = { d with mc := { d.mc with wardHeld := d.mc.wardHeld ++ [q] } } :=
  (if_neg (by simp [h])).trans (if_pos (by simpa using hc))

theorem boltEnter_past {d : Dev} {q : DramReq} (h : d.boltFull q.addr = true) (hc : d.chanReads q.addr < 8) :
    d.boltEnter q = d.boltLimit.emit (.errorResponse q.port) :=
  (if_neg (by simp [h])).trans (if_neg (by simpa using hc))

/-- The request that an admitted access waits as. -/
def Dev.asDramReq (m : Dev) (p : Nat) (c : ServiceClass) (a n : Nat) (data : Option (List Nat)) : DramReq :=
  { port := p, owner := wheelOwner p c, addr := a, len := n, data := data
    since := ((m.carried p c a).map (·.since)).getD m.now, fab := (m.carried p c a).isSome }

section Request

variable {d : Dev} {p : Nat} {path : Traffic} {a len : Nat} {data : Option (List Nat)}

theorem dramRequest_port (h : portAllows p (d.pathClass p path) = false) :
    d.dramRequest p path a len data = (d.emit (.errorResponse p)).err (portHome p) errAddress :=
  if_pos (by simp [h])

variable (h : portAllows p (d.pathClass p path) = true)

include h

theorem dramRequest_tag (ht : d.tagRefused (d.portTag p path % 4) a (min len (64 - a % 64)) = true) :
    d.dramRequest p path a len data = d.emit (.errorResponse p) :=
  (if_neg (by simp [h])).trans (if_pos ht)

/-- A request that port and carve-out let pass: refused by the controller's checks, or a Bolt read of its own under the
limits of R19, or queued. -/
theorem dramRequest_admit (ht : ¬d.tagRefused (d.portTag p path % 4) a (min len (64 - a % 64)) = true) {m : Dev} {go : Bool}
    (hm : d.mcAdmit a (min len (64 - a % 64)) = (m, go)) :
    let q := m.asDramReq p (d.pathClass p path) a (min len (64 - a % 64)) data
    d.dramRequest p path a len data =
      if go = false then m.emit (.errorResponse p)
      else if q.owner = 1 ∧ data = none ∧ m.carried p (d.pathClass p path) a = none then m.boltEnter q
      else m.mcQueue q := by
  intro q
  have fresh : (q.owner = 1 ∧ q.data.isNone = true ∧ (!q.fab) = true) ↔
      (q.owner = 1 ∧ data = none ∧ m.carried p (d.pathClass p path) a = none) := by
    simp [q, Dev.asDramReq]
  unfold Dev.dramRequest
  rw [if_neg (by simp [h]), if_neg ht, hm]
  cases go with
  | false => rfl
  | true => exact (if_neg (by decide)).trans ((ite_congr (propext fresh) (fun _ => rfl) (fun _ => rfl)).trans (if_neg (by decide)).symm)

end Request

/-! ### The issue of a request (R19, R107) -/

theorem issue_access {d : Dev} {q : DramReq} (h : q.job = .access) :
    let n := ({ d with mc := { d.mc with reqs := d.mc.reqs.erase q } } : Dev).serveAccess q
    d.issue q = n.wardGo [] n.mc.wardHeld := by
  simp only [Dev.issue, h]

theorem serveAccess_read {d m : Dev} {q : DramReq} {bs : List Nat} {ok : Bool} (hd : q.data = none)
    (hm : d.mcRead q.owner q.addr q.len = (m, bs, ok)) :
    let r := m.emit (if ok then .completion q.port 0 bs else .errorResponse q.port)
    d.serveAccess q = if q.owner = 1 ∧ q.fab = false then r.dramMeasure q.since else r := by
  simp only [Dev.serveAccess, hd, hm, Bool.not_eq_true']
  cases ok <;> rfl

theorem serveAccess_write {d m : Dev} {q : DramReq} {bs : List Nat} {ok : Bool} (hd : q.data = some bs)
    (hm : d.mcWrite q.owner q.addr (bs.take q.len) = (m, ok)) :
    d.serveAccess q = if ok then m else m.emit (.errorResponse q.port) := by
  simp only [Dev.serveAccess, hd, hm]

/-- Settles O39: each event of the memory controller by the branches of its device function. -/
theorem dramServiceCompletes : Obligations.DramServiceCompletes := by
  refine ⟨?_, ?_, ?_, ?_, ?_, ?_, ?_, ?_, ?_, ?_⟩
  · intro s ag ha n
    have start : Completes (.dramTrainingStart ag) s (s.dev.put ag mcPid 0x044 1) := rfl
    exact ⟨fun hs => start.congr ((put_trainStart ha).trans (if_pos hs)),
      fun hs => start.congr ((put_trainStart ha).trans (if_neg hs))⟩
  · intro s r
    have ended : Completes (.dramTrainingEnd r) s (s.dev.trainEnd r).afterTraining := rfl
    exact ⟨fun h => ended.congr (congrArg _ (trainEnd_idle h)), fun h hc => ended.congr (congrArg _ (trainEnd_service h hc)),
      fun h hc => ended.congr (congrArg _ (trainEnd_failed h hc))⟩
  · intro s c x due t n asked
    have read (drift : Bool) : Completes (.wckOscillatorRead c drift x) s (s.dev.wckRead c drift x.toNat) := rfl
    exact ⟨fun drift h => (read drift).congr (wckRead_early h), fun h => (read true).congr (wckRead_due h),
      fun h => (read false).congr (wckRead_due h)⟩
  · exact fun d c => ⟨wckStep_none, wckStep_shut, fun delay => wckStep_made⟩
  · intro s c b past
    have expiry : Completes (.pageHoldExpiry c b) s (s.dev.holdExpiry c b) := rfl
    exact ⟨fun h => expiry.congr ((holdExpiry_eq _ _ _).trans (if_pos h)),
      fun h => expiry.congr ((holdExpiry_eq _ _ _).trans (if_neg h))⟩
  · intro s c p owed more
    have due : Completes (.refreshDue c p) s (s.dev.refreshDue c p) := rfl
    refine ⟨fun h => due.congr (refreshDue_closed h), fun h ho => ?_, fun h ho => ?_⟩
    · exact due.congr ((refreshDue_service h).trans (congrArg (Dev.maintain · c) (if_neg (Int.not_le.mpr ho))))
    · exact due.congr ((refreshDue_service h).trans (congrArg (Dev.maintain · c) (if_pos ho)))
  · intro s rate hot due t n isOpen warm
    have poll (hot : Bool) : Completes (.mr4Poll rate hot) s (s.dev.mr4Poll rate hot) := rfl
    refine ⟨fun h => (poll hot).congr (mr4Poll_early h), fun h ho => (poll false).congr (mr4Poll_cool_closed h ho),
      fun h ho => ?_, fun h ho => ?_, fun h ho hc => ?_, fun t h ho hc ht => ?_, fun t h ho hc ht => ?_⟩
    · exact (poll true).congr ((mr4Poll_hot h).trans (if_pos (List.isEmpty_iff.mpr ho)))
    · exact (poll true).congr ((mr4Poll_hot h).trans (if_neg (mt List.isEmpty_iff.mp ho)))
    all_goals
      have cool := mr4Poll_cool_open h ho
      rw [show (s.dev.mr4Taken rate).mc.coolSince = _ from hc] at cool
    · exact (poll false).congr cool
    · exact (poll false).congr (cool.trans (if_neg (Nat.not_le.mpr ht)))
    · exact (poll false).congr (cool.trans (if_pos ht))
  · intro s p path a len write l req bs n c refused
    have request : Completes req s (s.dev.dramRequest p path a.toNat len bs) := rfl
    refine ⟨fun h => request.congr (dramRequest_port h), fun h ht => request.congr (dramRequest_tag h ht), ?_⟩
    intro m go h ht hm from_ q bolt full queued
    have admitted := dramRequest_admit (data := bs) h ht hm
    refine ⟨fun hg => ?_, fun hg hf => ?_, fun hg hb hf h8 => ?_, fun hg hb hf h8 => ?_⟩
    · exact request.congr (admitted.trans (if_pos hg))
    all_goals
      refine request.congr (admitted.trans ((if_neg (by simp [hg])).trans ?_))
    · by_cases hb : bolt
      · exact (if_pos hb).trans (boltEnter_queued (Bool.eq_false_iff.mpr (mt boltFull_iff.mp (fun hc => hf ⟨hb, hc⟩))))
      · exact if_neg hb
    · exact (if_pos hb).trans (boltEnter_held (boltFull_iff.mpr hf) h8)
    · exact (if_pos hb).trans (boltEnter_past (boltFull_iff.mpr hf) h8)
  · intro d a n
    refine ⟨fun h => (mcAdmit_eq d a n).trans (if_pos h), fun h hs => ?_, fun h hs hc => ?_, fun h hs hc => ?_⟩ <;>
      refine (mcAdmit_eq d a n).trans ((if_neg (Nat.not_lt.mpr h)).trans ?_)
    · exact if_pos (by simp [hs])
    · exact (if_neg (by simp [hs])).trans (if_pos hc)
    · exact (if_neg (by simp [hs])).trans (if_neg (Bool.eq_false_iff.mp hc))
  · intro d q hj n next
    refine ⟨?_, fun m bs ok hd hm => ?_⟩
    · intro m bs ok hd hm r
      exact (issue_access hj).trans (congrArg next (serveAccess_read hd hm))
    · exact (issue_access hj).trans (congrArg next (serveAccess_write hd hm))

end Sys2Proof.Machine
end

section
/-! SUPPORT. The Pintle links (R112 to R114): each event of a link in the state that it belongs to, and in another. -/

namespace Sys2Proof.Machine

open Sys2Proof

section Link

variable {d : Dev} {k : Nat}

/-! ### Training (R112, R114) -/

theorem linkStart_down (h : d.r (plPid k) F.PL_STAT_STATE = 0) : d.linkStart k = d.linkTrain k := if_pos h

theorem linkStart_idle (h : d.r (plPid k) F.PL_STAT_STATE ≠ 0) : d.linkStart k = d := if_neg h

theorem linkUp_trained {ns : Nat} (h : d.r (plPid k) F.PL_STAT_STATE = 1) :
    let n := ((d.w (plPid k) F.PL_STAT_STATE 2).w (plPid k) F.PL_LAT_NS ns).w (plPid k) F.PL_STAT_LANES (linkLanes k)
    let n := n.w (plPid k) F.PL_STAT_SPARES (n.freeSpares k)
    let n := if k = 2 then n.w dtPid F.DT_LINKOFS_NS ns else n
    d.linkUp k ns = (n.setLink k { n.link k with attempts := 0, replays := 0, retrain := false }).closeCause 6 (plPid k) :=
  if_pos h

theorem linkUp_idle {ns : Nat} (h : d.r (plPid k) F.PL_STAT_STATE ≠ 1) : d.linkUp k ns = d := if_neg h

/-- The link after one more failed attempt of its training. -/
def Dev.linkTried (d : Dev) (k : Nat) : Dev := d.setLink k { d.link k with attempts := (d.link k).attempts + 1 }

theorem linkFail_idle {lanes : List Nat} (h : d.r (plPid k) F.PL_STAT_STATE ≠ 1) : d.linkFail k lanes = d := if_neg h

/-- The fourth failed attempt, or one with no spare left, takes the link DOWN; another is followed by a further one, with
spares for the lanes that failed where SPARE_AUTO is set. -/
theorem linkFail_training {lanes : List Nat} (h : d.r (plPid k) F.PL_STAT_STATE = 1) :
    let n := d.linkTried k
    let m := (lanes.foldl (fun d l => d.spareLane k l) n).err (plPid k) 11
    d.linkFail k lanes =
      if 3 ≤ (d.link k).attempts ∨ d.freeSpares k = 0 then
        (((n.w (plPid k) F.PL_STAT_STATE 0).w (plPid k) F.PL_STAT_LANES 0).err (plPid k) 12).openFault 12 4 (plPid k) k
      else if d.on (plPid k) F.PL_CTRL_SPARE_AUTO = true then m.w (plPid k) F.PL_STAT_SPARES (m.freeSpares k)
      else n := by
  have fourth : (4 ≤ (d.link k).attempts + 1 ∨ d.freeSpares k = 0) ↔ (3 ≤ (d.link k).attempts ∨ d.freeSpares k = 0) :=
    or_congr_left (Nat.succ_le_succ_iff (a := 3))
  exact (if_pos h).trans (ite_congr (propext fourth) (fun _ => rfl) (fun _ => rfl))

/-! ### Replay (R113, R114) -/

theorem linkCrcError_up {seq : Nat} (h : d.r (plPid k) F.PL_STAT_STATE = 2) :
    let x := d.link k
    let un := if x.unacked.any (fun f => f.seq == seq) then x.unacked.dropWhile (fun f => !(f.seq == seq)) else x.unacked
    d.linkCrcError k seq =
      (((d.add (plPid k) F.PL_CRC_COUNT).add (plPid k) F.PL_REPLAY_COUNT).w (plPid k) F.PL_STAT_STATE 3).setLink k
        { x with unacked := un, replays := 1 } := if_pos h

theorem linkCrcError_idle {seq : Nat} (h : d.r (plPid k) F.PL_STAT_STATE ≠ 2) : d.linkCrcError k seq = d := if_neg h

theorem linkReplayEnd_idle {good : Bool} (h : d.r (plPid k) F.PL_STAT_STATE ≠ 3) : d.linkReplayEnd k good = d := if_neg h

theorem linkReplayEnd_good (h : d.r (plPid k) F.PL_STAT_STATE = 3) :
    let x := d.link k
    let g := ((d.w (plPid k) F.PL_STAT_STATE 2).err (plPid k) 10).setLink k { x with unacked := x.unacked.tail, replays := 0 }
    d.linkReplayEnd k true = if x.retrain = true then g.linkTrain k else g := if_pos h

theorem linkReplayEnd_failed (h : d.r (plPid k) F.PL_STAT_STATE = 3) :
    let x := d.link k
    let n := d.add (plPid k) F.PL_CRC_COUNT
    d.linkReplayEnd k false =
      if 3 ≤ x.replays then (n.linkTrain k).openFault 6 1 (plPid k) k
      else (n.setLink k { x with replays := x.replays + 1 }).add (plPid k) F.PL_REPLAY_COUNT := if_pos h

/-! ### RETRAIN (R114) -/

theorem linkRetrain_up (h : d.r (plPid k) F.PL_STAT_STATE = 2) : d.linkRetrain k = d.linkTrain k := if_pos h

theorem linkRetrain_replay (h : d.r (plPid k) F.PL_STAT_STATE = 3) :
    d.linkRetrain k = d.setLink k { d.link k with retrain := true } :=
  (if_neg (by rw [h]; decide)).trans (if_pos h)

theorem linkRetrain_other (h2 : d.r (plPid k) F.PL_STAT_STATE ≠ 2) (h3 : d.r (plPid k) F.PL_STAT_STATE ≠ 3) :
    d.linkRetrain k = d := (if_neg h2).trans (if_neg h3)

end Link

theorem kindOf_plPid : ∀ k : Fin 4, kindOf (plPid k) = some (.pintle, k.val) := by decide +kernel

/-- An accepted write of `PL_CTRL` with RETRAIN. -/
theorem put_retrain {d : Dev} {k : Fin 4} {v : Nat} (h : d.accepts .ward (plPid k) 0x040 v = true) (hv : bit v 0 = true) :
    d.put .ward (plPid k) 0x040 v = (d.after .ward (plPid k) 0x040 v).linkRetrain k :=
  (put_flat h (by unfold plPid; omega) rfl (kindOf_plPid k) rfl).trans ((if_neg (by decide)).trans (if_pos ⟨rfl, hv⟩))

/-- Settles O25: each event of a link by the state of the link. -/
theorem linksComplete : Obligations.LinksComplete := by
  refine ⟨?_, fun d k => rfl, ?_, ?_, ?_, ?_, ?_, ?_, ?_, ?_⟩
  · intro s k
    have release : Completes (.pintleResetRelease k) s (s.dev.linkStart k) := rfl
    exact ⟨fun h => release.congr (linkStart_down h), fun h => release.congr (linkStart_idle h)⟩
  · intro s k ns h a b c
    have third : c = if k.val = 2 then b.w dtPid F.DT_LINKOFS_NS ns else b :=
      ite_congr (propext Fin.ext_iff) (fun _ => rfl) (fun _ => rfl)
    rw [third]
    exact Completes.congr rfl (linkUp_trained h)
  · exact fun s k ns h => Completes.congr rfl (linkUp_idle h)
  · intro s k lanes h n
    have fails : Completes (.pintleTrainingFail k lanes) s (s.dev.linkFail k (lanes.map (·.val))) := rfl
    have training := linkFail_training (lanes := lanes.map (·.val)) h
    refine ⟨fun hd => fails.congr (training.trans (if_pos hd)), fun ha hs ho => ?_, fun ha hs ho => ?_⟩ <;>
      refine fails.congr (training.trans ((if_neg (by omega)).trans ?_))
    · exact if_pos ho
    · exact if_neg (Bool.eq_false_iff.mp ho)
  · exact fun s k lanes h => Completes.congr rfl (linkFail_idle h)
  · intro s k seq n x un
    have error : Completes (.pintleCrcError ⟨k, seq⟩) s (s.dev.linkCrcError k seq.toNat) := rfl
    exact ⟨fun h => error.congr (linkCrcError_up h), fun h => error.congr (linkCrcError_idle h)⟩
  · intro s k h x g n
    have ends (good : Bool) : Completes (.pintleReplayEnd k good) s (s.dev.linkReplayEnd k good) := rfl
    have good := linkReplayEnd_good h
    have failed := linkReplayEnd_failed h
    exact ⟨fun hr => (ends true).congr (good.trans (if_neg (Bool.eq_false_iff.mp hr))),
      fun hr => (ends true).congr (good.trans (if_pos hr)),
      fun hn => (ends false).congr (failed.trans (if_pos hn)),
      fun hn => (ends false).congr (failed.trans (if_neg (Nat.not_le.mpr hn)))⟩
  · exact fun s k good h => Completes.congr rfl (linkReplayEnd_idle h)
  · intro s k v n ha
    have written : Completes (.pintleRetrain k v) s (s.dev.put .ward (plPid k) 0x040 (withBit v 0)) := rfl
    have put := put_retrain ha (bit_withBit v 0)
    exact ⟨fun h => written.congr (put.trans (linkRetrain_up h)), fun h => written.congr (put.trans (linkRetrain_replay h)),
      fun h2 h3 => written.congr (put.trans (linkRetrain_other h2 h3))⟩

end Sys2Proof.Machine
end

section
/-! SUPPORT. What the crossbar's drain leaves as it is: a fault that opens, a measurement, an access to strike SRAM and the
flits of a link touch no request that an initiator holds. -/

namespace Sys2Proof.Machine

open Sys2Proof

theorem foldl_waiting {α : Type} {f : Dev → α → Dev} (h : ∀ d x, (f d x).fab.waiting = d.fab.waiting) (l : List α) (d : Dev) :
    (l.foldl f d).fab.waiting = d.fab.waiting := by
  induction l generalizing d with
  | nil => rfl
  | cons x l ih => exact (ih _).trans (h d x)

/-! ### A fault opens (R473 to R485) -/

@[simp] theorem Dev.stamp_waiting (d : Dev) (p : Nat) : (d.stamp p).2.fab.waiting = d.fab.waiting := rfl
@[simp] theorem Dev.addFault_fab (d : Dev) (f : OpenFault) (l : List Nat) : (d.addFault f l).fab = d.fab := rfl
@[simp] theorem Dev.addWindow_fab (d : Dev) (f : OpenFault) : (d.addWindow f).fab = d.fab := rfl

@[simp] theorem Dev.faultCount_fab (d : Dev) (level : Nat) : (d.faultCount level).fab = d.fab := by
  unfold Dev.faultCount
  repeat' split
  all_goals rfl

@[simp] theorem Dev.faultRecord_fab (d : Dev) (time level kind conseq latched superseded cause pid detail first recovery : Nat) :
    (d.faultRecord time level kind conseq latched superseded cause pid detail first recovery).2.fab = d.fab := by
  unfold Dev.faultRecord
  dsimp only
  split <;> simp

@[simp] theorem Dev.closeOne_waiting (d : Dev) (superseded : Bool) (f : OpenFault) :
    (d.closeOne superseded f).fab.waiting = d.fab.waiting := by
  simp [Dev.closeOne]

@[simp] theorem Dev.closeWithin_waiting (d : Dev) (level unit seq : Nat) (sel : OpenFault → Bool) (superseded : Bool) :
    (d.closeWithin level unit seq sel superseded).fab.waiting = d.fab.waiting :=
  foldl_waiting (fun d f => d.closeOne_waiting superseded f) _ _

@[simp] theorem Dev.escalate_waiting (d : Dev) (g : OpenFault) (ws : List Window) :
    (d.escalate g ws).fab.waiting = d.fab.waiting := by
  simp [Dev.escalate]

@[simp] theorem Dev.openFault_waiting (d : Dev) (cause level pid detail : Nat) (latched breachOutside : Bool)
    (at_ : Option Nat) : (d.openFault cause level pid detail latched breachOutside at_).fab.waiting = d.fab.waiting := by
  unfold Dev.openFault
  dsimp only
  repeat' split
  all_goals simp

/-! ### Responses and deliveries (R15, R91, R113, R229, R299) -/

@[simp] theorem Dev.measure_waiting (d : Dev) (n latency bound pid : Nat) (holds : Bool) :
    (d.measure n latency bound pid holds).fab.waiting = d.fab.waiting := by
  have first : (d.bmonFirst n).fab = d.fab := by unfold Dev.bmonFirst; split <;> rfl
  unfold Dev.measure
  dsimp only
  repeat' split
  all_goals simp [first]

@[simp] theorem Dev.respond_waiting (d : Dev) (q : Req) : (d.respond q).fab.waiting = d.fab.waiting := by
  have measured : (if q.boltRead then d.dramMeasure q.since else d).fab.waiting = d.fab.waiting := by
    split
    · exact Dev.measure_waiting _ _ _ _ _ _
    · rfl
  unfold Dev.respond
  generalize (if q.boltRead then d.dramMeasure q.since else d) = m at measured
  dsimp only
  repeat' split
  all_goals exact measured

theorem Dev.strikeWord_fab (d : Dev) (w : Nat) : (d.strikeWord w).1.fab = d.fab := by
  unfold Dev.strikeWord
  split <;> rfl

theorem Dev.strikeWords_fab (d : Dev) (ws : List Nat) : (d.strikeWords ws).1.fab = d.fab := by
  induction ws generalizing d with
  | nil => rfl
  | cons w ws ih => exact (ih _).trans (d.strikeWord_fab w)

theorem Dev.strikeRead_fab (d : Dev) (a n : Nat) : (d.strikeRead a n).1.fab = d.fab := d.strikeWords_fab _

theorem Dev.strikeStore_fab (d : Dev) (a : Nat) (bs : List Nat) : (d.strikeStore a bs).fab = d.fab := d.strikeWords_fab _

theorem Dev.sendFlits_waiting (d : Dev) (l vc : Nat) (ps : List (List Nat)) :
    (d.sendFlits l vc ps).fab.waiting = d.fab.waiting :=
  foldl_waiting (by intros; rfl) ps d

/-- A target that is neither strike SRAM nor behind link 2 takes nothing of the crossbar with the last beat. -/
theorem delivered_elsewhere {d : Dev} {q : Req} {n : Nat} (h1 : q.target ≠ 1) (h3 : q.target ≠ 3) :
    d.delivered q n = (d, q) := (if_neg h1).trans (if_neg h3)

@[simp] theorem Dev.delivered_waiting (d : Dev) (q : Req) (n : Nat) : (d.delivered q n).1.fab.waiting = d.fab.waiting := by
  have read := d.strikeRead_fab q.addr (64 * n)
  unfold Dev.delivered
  split
  · split
    · rw [d.strikeStore_fab]
    · split <;> rename_i hr <;> rw [hr] at read <;> exact congrArg Fabric.waiting read
  · split
    · exact d.sendFlits_waiting _ _ _
    · rfl

theorem drained_waiting (d : Dev) : d.drained.fab.waiting = d.fab.waiting := by
  unfold Dev.drained
  dsimp only
  rw [foldl_waiting (fun d q => by simp), foldl_waiting Dev.respond_waiting]

end Sys2Proof.Machine
end

section
/-! SUPPORT. The arbiters and the crossbar's modes (R91, R96 to R102), case by case. -/

namespace Sys2Proof.Machine

open Sys2Proof

/-! ### The decision (R96 to R98) -/

/-- A list that is not empty has a first request by every measure. -/
theorem firstBy_exists (f : Req → Nat) {l : List Req} (h : l ≠ []) : ∃ g ∈ l, firstBy f l = some g := by
  induction l with
  | nil => exact absurd rfl h
  | cons r rest ih =>
    unfold firstBy
    cases rest with
    | nil => exact ⟨r, List.mem_cons_self, rfl⟩
    | cons q rest =>
      obtain ⟨g, hg, hf⟩ := ih (List.cons_ne_nil _ _)
      rw [hf]
      by_cases hlt : f g < f r
      · exact ⟨g, List.mem_cons_of_mem _ hg, if_pos hlt⟩
      · exact ⟨r, List.mem_cons_self, if_neg hlt⟩

/-- The requests of a class. -/
def ofClass (c : ServiceClass) (l : List Req) : List Req := l.filter (fun r => r.cls == c)

theorem mem_ofClass {c : ServiceClass} {l : List Req} {r : Req} : r ∈ ofClass c l ↔ r ∈ l ∧ r.cls = c := by
  simp only [ofClass, List.mem_filter, beq_iff_eq]

theorem cls_ne_of_ofClass_nil {c : ServiceClass} {l : List Req} (h : ofClass c l = []) : ∀ r ∈ l, r.cls ≠ c :=
  fun _ hr hc => List.not_mem_nil (h ▸ mem_ofClass.mpr ⟨hr, hc⟩)

section Arbitrate

variable {d : Dev} {target : Nat} {cand : List Req}

theorem arbitrate_test (hm : d.r xbPid F.XB_MODE_MODE = 2) :
    d.arbitrate target cand = firstBy (fun r => d.testOrder.idxOf r.port) cand := if_pos hm

variable (hm : d.r xbPid F.XB_MODE_MODE ≠ 2)

include hm

theorem arbitrate_bolt (hb : ofClass .bolt cand ≠ []) :
    d.arbitrate target cand = firstBy (fun r => rrDist (d.lastGrant target 0) r.port) (ofClass .bolt cand) :=
  (if_neg hm).trans (if_pos (by simpa [ofClass] using hb))

theorem arbitrate_latch (hb : ofClass .bolt cand = []) (hl : ofClass .latch cand ≠ []) :
    d.arbitrate target cand = firstBy (fun r => rrDist (d.lastGrant target 1) r.port) (ofClass .latch cand) :=
  (if_neg hm).trans ((if_neg (by simpa [ofClass] using hb)).trans (if_pos (by simpa [ofClass] using hl)))

/-- START orders Bulk by the ports, RUN by the effective priorities. -/
theorem arbitrate_bulk (hb : ofClass .bolt cand = []) (hl : ofClass .latch cand = []) :
    ∃ f, d.arbitrate target cand = firstBy f (ofClass .bulk cand) := by
  have bulk : d.arbitrate target cand = _ :=
    (if_neg hm).trans ((if_neg (by simpa [ofClass] using hb)).trans (if_neg (by simpa [ofClass] using hl)))
  by_cases h0 : d.r xbPid F.XB_MODE_MODE = 0
  · exact ⟨_, bulk.trans (if_pos h0)⟩
  · exact ⟨_, bulk.trans (if_neg h0)⟩

/-- Outside TEST the grant goes by some measure to the highest class that waits. -/
theorem arbitrate_class (hc : cand ≠ []) : ∃ c f, d.arbitrate target cand = firstBy f (ofClass c cand) ∧
    ofClass c cand ≠ [] ∧ ∀ r ∈ cand, classNo c ≤ classNo r.cls := by
  by_cases hb : ofClass .bolt cand = []
  · have noBolt := cls_ne_of_ofClass_nil hb
    by_cases hl : ofClass .latch cand = []
    · have bulk : ∀ r ∈ cand, r.cls = .bulk := by
        intro r hr
        have noLatch := cls_ne_of_ofClass_nil hl r hr
        cases hk : r.cls with
        | bolt => exact absurd hk (noBolt r hr)
        | latch => exact absurd hk noLatch
        | bulk => rfl
      obtain ⟨f, hf⟩ := arbitrate_bulk (target := target) hm hb hl
      obtain ⟨r, hr⟩ := List.exists_mem_of_ne_nil cand hc
      exact ⟨_, f, hf, List.ne_nil_of_mem (mem_ofClass.mpr ⟨hr, bulk r hr⟩),
        fun r hr => Nat.le_of_eq (congrArg classNo (bulk r hr).symm)⟩
    · refine ⟨_, _, arbitrate_latch hm hb hl, hl, fun r hr => ?_⟩
      cases hk : r.cls with
      | bolt => exact absurd hk (noBolt r hr)
      | latch => exact Nat.le_refl _
      | bulk => decide
  · exact ⟨_, _, arbitrate_bolt hm hb, hb, fun r _ => Nat.zero_le _⟩

end Arbitrate

/-- An arbiter takes one of its requests, outside TEST one of the highest class that waits. -/
theorem arbitrate_takes (d : Dev) (target : Nat) {cand : List Req} (hc : cand ≠ []) :
    ∃ g ∈ cand, d.arbitrate target cand = some g ∧
      (d.r xbPid F.XB_MODE_MODE ≠ 2 → ∀ r ∈ cand, classNo g.cls ≤ classNo r.cls) := by
  by_cases hm : d.r xbPid F.XB_MODE_MODE = 2
  · obtain ⟨g, hg, hf⟩ := firstBy_exists (fun r => d.testOrder.idxOf r.port) hc
    exact ⟨g, hg, (arbitrate_test hm).trans hf, fun h => absurd hm h⟩
  · obtain ⟨c, f, harb, hne, hlow⟩ := arbitrate_class (target := target) hm hc
    obtain ⟨g, hg, hf⟩ := firstBy_exists f hne
    obtain ⟨hmem, rfl⟩ := mem_ofClass.mp hg
    exact ⟨g, hmem, harb.trans hf, fun _ => hlow⟩

theorem arbitrate_nil (d : Dev) (target : Nat) : d.arbitrate target [] = none := by
  simp [Dev.arbitrate, firstBy]

theorem decideNext_busy {d : Dev} {target : Nat}
    (h : (tabFind d.fab.burst target).isSome = true ∨ (tabFind d.fab.decided target).isSome = true) :
    d.decideNext target = d := if_pos (Bool.or_eq_true_iff.mpr h)

/-- The requests that a target may grant: those with a free credit whose port is not isolated (R91, R105). -/
def Dev.grantable (d : Dev) (target : Nat) : List Req :=
  d.fab.reqs.filter (fun r => r.target == target && d.creditFree target r.cls && !d.crossIsolated (portUnit r.port))

theorem decideNext_free {d : Dev} {target : Nat} (hb : tabFind d.fab.burst target = none)
    (hd : tabFind d.fab.decided target = none) :
    d.decideNext target =
      match d.arbitrate target (d.grantable target) with
      | none => d
      | some g => { d with fab := { d.fab with
          reqs := d.fab.reqs.erase g, decided := tabIns d.fab.decided target g
          rr := tabPut d.fab.rr 63 (3 * target + classNo g.cls) g.port } } :=
  if_neg (by simp [hb, hd])

/-- Each host port sends in turn. -/
theorem outbound_all (d : Dev) :
    forAll (upFrom 0 4) (fun p d => d.outbound p) d = (((d.outbound 0).outbound 1).outbound 2).outbound 3 := rfl

/-! ### Transfers and aging (R100, R101) -/

/-- What a transfer of more than 8 beats has left, as the request that it makes anew. -/
def Dev.restOf (d : Dev) (q : Req) : Req :=
  { q with beats := q.beats - 8, addr := q.addr + 512, data := q.data.map (List.drop 512), since := d.now,
           limit := d.reqLimit q.target, waited := 0, aged := false }

/-- A grant ends at a target that takes nothing of the crossbar with its last beat. -/
theorem grantEnds_elsewhere {d : Dev} {q : Req} (h1 : q.target ≠ 1) (h3 : q.target ≠ 3) :
    d.grantEnds q = { d with fab := { d.fab with
      granted := d.fab.granted ++ [{ q with beats := min 8 q.beats }]
      reqs := d.fab.reqs ++ if q.beats ≤ 8 then [] else [d.restOf q] } } := by
  unfold Dev.grantEnds
  dsimp only
  rw [delivered_elsewhere h1 h3]
  rfl

/-! ### The modes (R102) -/

theorem bits_one (v i : Nat) : bits v i 1 = b2n (bit v i) := by
  simp only [bits, bit, b2n, Nat.testBit_eq_decide_div_mod_eq, decide_eq_true_eq, Nat.pow_one]
  split <;> omega

/-- An accepted write of `XB_MODE` asks for a mode where it changes TEST_REQ. -/
theorem put_xbMode {d : Dev} {v : Nat} (h : d.accepts .ward xbPid 0x040 v = true) :
    d.put .ward xbPid 0x040 v =
      if d.r xbPid F.XB_MODE_TEST_REQ = b2n (bit v 4) then d.after .ward xbPid 0x040 v
      else (d.after .ward xbPid 0x040 v).testRequest (bit v 4) := by
  have put := put_flat h (by decide) rfl (show kindOf xbPid = some (.fabricCtl, 0) by decide) rfl
  refine put.trans ((if_neg (by decide)).trans ?_)
  rw [← bits_one, ← ite_not]
  exact ite_congr (by simp) (fun _ => rfl) (fun _ => rfl)

theorem testRequest_enter (d : Dev) : d.testRequest true =
    if d.r xbPid F.XB_MODE_MODE = 0 then { d with fab := { d.fab with drainTo := some 2 } } else d := by
  simp [Dev.testRequest]

theorem testRequest_leave (d : Dev) : d.testRequest false =
    if d.r xbPid F.XB_MODE_MODE = 2 ∨ d.fab.drainTo = some 2 then { d with fab := { d.fab with drainTo := some 0 } }
    else d := by
  simp [Dev.testRequest]

theorem drainDone_none {d : Dev} (h : d.fab.drainTo = none) : d.drainDone = d := by
  unfold Dev.drainDone
  rw [h]

theorem drainDone_some {d : Dev} {m : Nat} (h : d.fab.drainTo = some m) :
    let n := d.drained
    d.drainDone = n.fab.waiting.foldl Dev.reqEnter
      (({ n with fab := { n.fab with drainTo := none, waiting := [] } } : Dev).w xbPid F.XB_MODE_MODE m) := by
  unfold Dev.drainDone
  rw [h]

/-- Settles O24: the decision by `arbitrate_takes`, the modes by what a write of `XB_MODE` asks for (`put_xbMode`), and the
drain by what it serves and leaves (`drained_waiting`). -/
theorem arbitersAndModesComplete : Obligations.ArbitersAndModesComplete := by
  refine ⟨?_, fun d target => decideNext_busy, ?_, ?_, ?_, fun s port => rfl, ?_, ?_, ?_, ?_, ?_⟩
  · intro s target answered d
    have decision : Completes (.arbitrationDecision target answered) s
        (s.dev.arbDecide target (answered.map (·.val))) := rfl
    exact ⟨fun h => decision.congr (congrArg Dev.fabGo (if_neg (fun c => h (Fin.ext c)))),
      fun h => decision.congr (congrArg Dev.fabGo ((if_pos (congrArg Fin.val h)).trans (outbound_all d)))⟩
  · intro d target hb hd cand
    have free := decideNext_free hb hd
    refine ⟨fun hc => ?_, fun hc => ?_⟩
    · rw [free, show d.grantable target = [] from hc, arbitrate_nil]
    · obtain ⟨g, hg, harb, hlow⟩ := arbitrate_takes d target hc
      exact ⟨g, hg, harb, hlow, by rw [free, show d.arbitrate target (d.grantable target) = some g from harb]⟩
  · intro d q h1 h3 hn
    rw [grantEnds_elsewhere h1 h3, if_pos hn, Nat.min_eq_right hn]
  · intro d q h1 h3 hn
    rw [grantEnds_elsewhere h1 h3, if_neg (Nat.not_le.mpr hn), Nat.min_eq_left (Nat.le_of_lt hn)]
    exact ⟨d.restOf q, rfl, rfl, rfl, rfl, rfl, rfl, rfl, rfl⟩
  · intro s v n ha
    have enter : Completes (.crossbarTestEnter v) s (s.dev.put .ward xbPid 0x040 (withBit v 4)) := rfl
    have put := put_xbMode ha
    rw [bit_withBit, testRequest_enter] at put
    refine ⟨fun hr hm => enter.congr (put.trans ((if_neg (by simp [hr, b2n])).trans (if_pos hm))), fun h => ?_⟩
    by_cases hr : s.dev.r xbPid F.XB_MODE_TEST_REQ = 1
    · exact enter.congr (put.trans (if_pos hr))
    · exact enter.congr (put.trans ((if_neg hr).trans (if_neg (h.resolve_left hr))))
  · intro s v n ha
    have leave : Completes (.crossbarTestLeave v) s (s.dev.put .ward xbPid 0x040 (withoutBit v 4)) := rfl
    have put := put_xbMode ha
    rw [bit_withoutBit, testRequest_leave] at put
    refine ⟨fun hr hm => leave.congr (put.trans ((if_neg (by simp [hr, b2n])).trans (if_pos hm))), fun h => ?_⟩
    by_cases hr : s.dev.r xbPid F.XB_MODE_TEST_REQ = 0
    · exact leave.congr (put.trans (if_pos hr))
    · exact leave.congr (put.trans ((if_neg hr).trans (if_neg (not_or.mpr (h.resolve_left hr)))))
  · exact fun s m h => Completes.congr rfl (drainDone_some h)
  · exact fun d => ⟨rfl, rfl, drained_waiting d⟩
  · exact fun s h => Completes.congr rfl (drainDone_none h)

end Sys2Proof.Machine
end

section
/-! SUPPORT. The page error of a tick whose rate is cut (R39, R85), and a device in which it does not show. -/

namespace Sys2Proof.Machine

open Sys2Proof

/-- An error event 10 shows as bit 10 of `PAGE_ERR` where the common field, bits 0 to 9, does not reach into it. -/
theorem bit_pageErr_err (d : Dev) (p : Nat) :
    bit ((d.err p 10).pageErr p) 10 = !bit (d.r p F.PAGE_ERR_COMMON) 10 := by
  have common : (d.err p 10).r p F.PAGE_ERR_COMMON = d.r p F.PAGE_ERR_COMMON := r_w_at (by decide)
  have block : (d.err p 10).r p F.PAGE_ERR_BLOCK = (d.r p F.PAGE_ERR_BLOCK ||| 1) % 2 ^ 6 := r_w_same _ _ _ _ _
  have odd : (d.r p F.PAGE_ERR_BLOCK ||| 1) % 2 = 1 := Nat.or_mod_two_eq_one.mpr (.inr rfl)
  unfold Dev.pageErr
  rw [common, block]
  simp only [bit, Nat.testBit_eq_decide_div_mod_eq, ← decide_not, decide_eq_decide]
  omega

/-- The device whose tick comes: with AUTO clear SYNCTRIM is 0 first (R121). -/
def Dev.autoTaken (d : Dev) : Dev := if d.on dtPid F.DT_CTRL_AUTO then d else d.w dtPid F.DT_SYNCTRIM_PPB 0

theorem common_autoTaken (d : Dev) : d.autoTaken.r dtPid F.PAGE_ERR_COMMON = d.r dtPid F.PAGE_ERR_COMMON := by
  unfold Dev.autoTaken
  split
  · rfl
  · exact r_w_at (by decide)

/-- The fabric's state holds no register. -/
theorem r_fab (d : Dev) (x : Fabric) (p : Nat) (f : FD) (i : Nat) : ({ d with fab := x } : Dev).r p f i = d.r p f i := rfl

theorem r_driveTime (d : Dev) (p : Nat) (f : FD) (i : Nat) : d.driveTime.r p f i = d.r p f i := rfl

/-- A tick whose rate is cut ends with error event 10; before it, it changes no error bit. -/
theorem refTick_cut {d : Dev} (hp : d.fab.hingeOn = true) (hc : d.autoTaken.rate ≠ d.autoTaken.rateSum) :
    ∃ n : Dev, d.refTick = n.err dtPid 10 ∧ n.r dtPid F.PAGE_ERR_COMMON = d.r dtPid F.PAGE_ERR_COMMON := by
  unfold Dev.refTick
  rw [if_neg (by simp [hp])]
  simp only [← Dev.autoTaken.eq_1]
  rw [if_pos (decide_eq_true hc)]
  refine ⟨_, rfl, ?_⟩
  rw [r_driveTime, r_w_at (by decide), r_fab, common_autoTaken]

theorem bit_pageErr_refTick {d : Dev} (hp : d.fab.hingeOn = true) (hc : d.autoTaken.rate ≠ d.autoTaken.rateSum) :
    bit (d.refTick.pageErr dtPid) 10 = !bit (d.r dtPid F.PAGE_ERR_COMMON) 10 := by
  obtain ⟨n, hn, hcommon⟩ := refTick_cut hp hc
  rw [hn, bit_pageErr_err, hcommon]

/-- A device with the highest TRIM, AUTO clear, and 1,024 in the common field of `PAGE_ERR` of the device time page, one more
than its 10 bits hold. -/
def overfull : Dev := { regs := [(fieldKey dtPid F.PAGE_ERR_COMMON 0, 1024), (fieldKey dtPid F.DT_TRIM_PPB 0, 0x3FFFF)] }

/-- Refutes O22 by its clause that a tick whose rate is cut shows bit 10 of `PAGE_ERR` of the device time page: it is said of
every device, and in `overfull`, which no write of a field leaves (`r_w_same`), the common field carries into bit 10. Of a
device whose common field is within its 10 bits the clause is true (`bit_pageErr_refTick`). -/
theorem not_clocksCrossingsAndTimeComplete : ¬ Obligations.ClocksCrossingsAndTimeComplete := by
  rintro ⟨_, _, _, _, _, _, tick, _, _⟩
  obtain ⟨_, _, _, _, _, _, _, limited, _⟩ := tick overfull rfl
  have cut : overfull.autoTaken.rate ≠ overfull.autoTaken.rateSum := by decide +kernel
  have shown : bit (overfull.refTick.pageErr dtPid) 10 = true := limited cut
  rw [bit_pageErr_refTick rfl cut] at shown
  exact absurd shown (by decide +kernel)

end Sys2Proof.Machine
end

section
/-! SUPPORT. What an accepted write says of the refusals of its block, and the fields that its register part leaves as they
are (R44 to R47, R61). -/

namespace Sys2Proof.Machine

open Sys2Proof

/-- Alternatives under equivalent conditions. -/
theorem ite_of_iff {α : Type} {p q : Prop} [Decidable p] [Decidable q] {a a' b b' : α} (h : p ↔ q) (ha : a = a') (hb : b = b') :
    (if p then a else b) = if q then a' else b' := ite_congr (propext h) (fun _ => ha) (fun _ => hb)

/-- A write that is accepted has passed the steps 3 to 5 of R44. -/
theorem fieldFate_of_takes {d : Dev} {ag : Agent} {pid off v : Nat} (h : d.takes ag pid off v = true) :
    ∃ ch acts sh, d.fieldFate ag pid off v = .accepted ch acts sh := by
  have before : ∀ ch acts sh, d.fate ag pid off v = .accepted ch acts sh → d.fieldFate ag pid off v = .accepted ch acts sh := by
    intro ch acts sh hf
    refine Classical.byContradiction fun hn => ?_
    have refused : d.fate ag pid off v ≠ .accepted ch acts sh :=
      ite_ne nofun (ite_ne nofun (ite_ne nofun (ite_ne (ite_ne nofun nofun) (ite_ne nofun (ite_ne nofun (ite_ne nofun hn))))))
    exact refused hf
  unfold Dev.takes at h
  split at h
  · exact ⟨_, _, _, before _ _ _ ‹_›⟩
  · rw [Bool.and_false] at h
    cases h

/-- A write that is accepted meets no refusal of its block. -/
theorem unrefused_of_takes {d : Dev} {ag : Agent} {pid off v p o i : Nat} {k : PageKind} (h : d.takes ag pid off v = true)
    (hp : d.place pid off = (p, o)) (hk : kindOf p = some (k, i)) :
    d.coreRefuse ag k i p o v = none ∧ d.edgeRefuse k i p o v = none := by
  obtain ⟨ch, acts, sh, hf⟩ := fieldFate_of_takes h
  have block : (d.coreRefuse ag k i p o v).orElse (fun _ => d.edgeRefuse k i p o v) = none := by
    refine Classical.byContradiction fun hn => ?_
    obtain ⟨e, he⟩ := Option.ne_none_iff_exists'.mp hn
    have refused : d.fieldFate ag pid off v ≠ .accepted ch acts sh := by
      unfold Dev.fieldFate
      simp only [hp, hk, he]
      exact ite_ne nofun (ite_ne nofun nofun)
    exact refused hf
  cases hc : d.coreRefuse ag k i p o v with
  | some e => rw [hc] at block; cases block
  | none => rw [hc] at block; exact ⟨rfl, block⟩

theorem refuseIf_none {b : Bool} {e : Nat} (h : refuseIf b e = none) : b = false := by
  cases b with
  | false => rfl
  | true => cases h

/-- A field at another bit address of its page is not touched, on whichever page. -/
theorem r_w_apart {d : Dev} {p q : Nat} {f g : FD} {v i j : Nat} (hf : f.at i * 8 + f.lo < 32768)
    (hg : g.at j * 8 + g.lo < 32768) (h : g.at j * 8 + g.lo ≠ f.at i * 8 + f.lo) : (d.w p f v i).r q g j = d.r q g j :=
  r_w_other _ _ _ _ _ _ _ _ (by unfold fieldKey; omega)

/-- The writing of a register's fields touches no field beside them. -/
theorem r_writeFields {p v q j : Nat} {g : FD} {fs : List (FD × Nat)} (h : ∀ f ∈ fs, fieldKey q g j ≠ fieldKey p f.1 f.2)
    (d : Dev) : (d.writeFields p v fs).r q g j = d.r q g j := by
  induction fs generalizing d with
  | nil => rfl
  | cons f fs ih =>
    have beside (x : Nat) : (d.w p f.1 x f.2).r q g j = d.r q g j := r_w_other _ _ _ _ _ _ _ _ (h f List.mem_cons_self)
    refine (ih (fun f hf => h f (List.mem_cons_of_mem _ hf)) _).trans ?_
    dsimp only
    split
    · exact beside _
    · exact beside _
    · split
      · exact beside _
      · rfl
    · split
      · rfl
      · exact beside _
    · rfl
    · rfl

/-- A record touches no register beside the ledger's own page. -/
theorem r_ledRecord {d : Dev} {kind pid off origin old new q j : Nat} {complete : Bool} {g : FD} (hg : g.own j)
    (hq : q ≠ ledPid) : (d.ledRecord kind pid off origin old new complete).r q g j = d.r q g j := by
  have shown (n : Dev) : n.ledShow.r q g j = n.r q g j := by
    unfold Dev.ledShow
    dsimp only
    split
    · exact (r_err_own hg).trans (r_w_page _ _ _ _ _ _ _ _ (by decide) hg.2 hq)
    · exact r_w_page _ _ _ _ _ _ _ _ (by decide) hg.2 hq
  exact (shown _).trans (r_w_page _ _ _ _ _ _ _ _ (by decide) hg.2 hq)

/-- The register part of a write touches no field of a block's own beside the register's. -/
theorem r_writtenBy {d : Dev} {ag : Agent} {pid off v q j : Nat} {ch acts sh : Bool} {g : FD} (hg : g.own j) (hq : q ≠ ledPid)
    (hf : ∀ f ∈ openFields (d.place pid off).1 (d.place pid off).2, fieldKey q g j ≠ fieldKey (d.place pid off).1 f.1 f.2) :
    (d.writtenBy ag pid off v ch acts sh).r q g j = d.r q g j := by
  have fields : ((d.unlatch (d.place pid off).1 (d.place pid off).2).writeFields (d.place pid off).1 v
      (openFields (d.place pid off).1 (d.place pid off).2)).r q g j = d.r q g j := r_writeFields hf _
  have header (f : FD) (x : Nat) (n : Dev) (h : f.at 0 * 8 + f.lo < 0x200) : (n.w pid f x).r q g j = n.r q g j :=
    r_w_other _ _ _ _ _ _ _ _ (by obtain ⟨h1, h2⟩ := hg; unfold fieldKey; omega)
  have counted (n : Dev) : ((n.add pid F.PAGE_CHG_COUNT).w pid F.PAGE_LASTW_ORIGIN (d.origin ag)).r q g j = n.r q g j :=
    (header F.PAGE_LASTW_ORIGIN _ _ (by decide)).trans (header F.PAGE_CHG_COUNT _ _ (by decide))
  unfold Dev.writtenBy
  dsimp only
  split
  · exact fields
  · split
    · exact (counted _).trans fields
    · split
      · exact (r_ledRecord hg hq).trans ((counted _).trans fields)
      · exact (r_ledRecord hg hq).trans ((counted _).trans fields)

/-- The same of the device after the register part of a write, at a page of the register space. -/
theorem r_after {d : Dev} {ag : Agent} {page off v i q j : Nat} {k : PageKind} {g : FD} (h : d.accepts ag page off v = true)
    (hp : 16 ≤ page) (hk : kindOf page = some (k, i)) (hw : ownRegs k = true) (hg : g.own j) (hq : q ≠ ledPid)
    (hf : ∀ f ∈ openFields page off, fieldKey q g j ≠ fieldKey page f.1 f.2) :
    (d.after ag page off v).r q g j = d.r q g j := by
  have hplace : d.place page off = (page, off) := place_own hk hw
  unfold Dev.after
  rw [agentPageNo_flat h hp]
  unfold Dev.written
  split
  · exact r_writtenBy hg hq (by rw [hplace]; exact hf)
  · rfl

end Sys2Proof.Machine
end

section
/-! SUPPORT. Power-good, the lock, the ward watchdog and the ward restart, case by case (R60, R123, R129, R130, R143, R152 to
R154). -/

namespace Sys2Proof.Machine

open Sys2Proof

/-! ### Power-good and the boot ROM (R123, R129, R130, R504) -/

/-- Power is good, with the package's kind as it is read. -/
def Dev.powerTaken (d : Dev) (quad : Bool) : Dev := { d with boot := { d.boot with powerGood := true, quad := quad } }

theorem powerGoodRise_awaited {d : Dev} {selfTest quad : Bool} (hm : d.boot.mainEn = true) (hp : d.boot.powerGood = false) :
    d.powerGoodRise selfTest quad = ((d.diesFresh false).powerTaken quad).romStart selfTest := if_neg (by simp [hm, hp])

theorem powerGoodRise_unawaited {d : Dev} {selfTest quad : Bool} (h : d.boot.mainEn = false ∨ d.boot.powerGood = true) :
    d.powerGoodRise selfTest quad = d := if_pos (by simpa using h)

/-- The ROM shows why the first slot's image failed, and that it falls back. -/
def Dev.romFallback (d : Dev) (code : Nat) : Dev := (d.failCode code).w bootPid F.BOOT_STAT_FALLBACK 1

section Rom

variable {d r : Dev} (hr : d.release = r)

include hr

theorem romStart_selfTest_fails : d.romStart false = r.bootFail 8 := hr ▸ rfl

theorem romStart_descriptor_wrong (hd : r.descOk r.boot.quad = false) : d.romStart true = r.bootFail 1 := by
  unfold Dev.romStart
  simp only [hr, hd, Bool.not_true, Bool.not_false, Bool.false_eq_true, if_false, if_true]

variable (hd : r.descOk r.boot.quad = true)

include hd

theorem romStart_first (hi : r.imageFail (r.slotBase r.firstSlot) = none) : d.romStart true = r.romAccept r.firstSlot := by
  unfold Dev.romStart
  simp only [hr, hd, hi, Bool.not_true, Bool.false_eq_true, if_false]

variable {c : Nat} (hi : r.imageFail (r.slotBase r.firstSlot) = some c)

include hi

/-- Where the image of the first slot fails with a code, the other slot has its turn. -/
theorem romStart_other (ho : (r.romFallback c).imageFail ((r.romFallback c).slotBase (1 - r.firstSlot)) = none) :
    d.romStart true = (r.romFallback c).romAccept (1 - r.firstSlot) := by
  unfold Dev.romFallback at ho ⊢
  unfold Dev.romStart
  simp only [hr, hd, hi, ho, Bool.not_true, Bool.false_eq_true, if_false]

theorem romStart_fails {e : Nat} (ho : (r.romFallback c).imageFail ((r.romFallback c).slotBase (1 - r.firstSlot)) = some e) :
    d.romStart true = (r.romFallback c).bootFail e := by
  unfold Dev.romFallback at ho ⊢
  unfold Dev.romStart
  simp only [hr, hd, hi, ho, Bool.not_true, Bool.false_eq_true, if_false]

end Rom

/-! ### Keyed writes (R521) -/

theorem bit_keyed (key : BitVec 16) : bit (keyed key 1) 0 = true := by
  simp only [bit, keyed, Nat.testBit_zero, decide_eq_true_eq]
  omega

theorem keyOk_keyed {key : BitVec 16} (h : keyOk (keyed key 1) = true) : key = theKey := by
  have hb : (65536 * key.toNat + 1) / 65536 % 65536 = 0xA5C3 := eq_of_beq h
  apply BitVec.eq_of_toNat_eq
  have hk : theKey.toNat = 0xA5C3 := rfl
  omega

/-- What an accepted write starts on the hinge table, the watchdog and a mailbox. -/
theorem effect_boot {d b : Dev} {k : PageKind} {i p off v : Nat} (hk : k = .hingeTable ∨ k = .watchdog ∨ k = .mailbox)
    (ho : 0x040 ≤ off) : d.effect? b k i p off v = d.hingeEffect b k i p off v := by
  obtain rfl | rfl | rfl := hk <;> exact if_neg (Nat.not_lt.mpr ho)

/-! ### The lock (R60, R143) -/

/-- An accepted LOCK locks the table. -/
theorem put_lock {d : Dev} {ag : Agent} {key : BitVec 16} (h : d.accepts ag htPid 0x040 (keyed key 1) = true) :
    d.put ag htPid 0x040 (keyed key 1) = (d.after ag htPid 0x040 (keyed key 1)).lock :=
  (put_flat h (by decide) rfl (show kindOf htPid = some (.hingeTable, 0) by decide) rfl).trans
    ((effect_boot (.inl rfl) (by decide)).trans (if_pos ⟨rfl, bit_keyed key⟩))

theorem lock_open {d : Dev} (hl : d.locked = false) (hs : d.bootStage ≠ 15) : d.lock = d.lockEffects.closePackage :=
  if_neg (by simp [hl, hs])

theorem lock_shut {d : Dev} (h : d.locked = true ∨ d.bootStage = 15) : d.lock = d := if_pos (by simpa using h)

/-- A LOCK is accepted with the key alone, on a table that is loaded, outside TEST. -/
theorem lock_accepted {d : Dev} {ag : Agent} {key : BitVec 16} (h : d.accepts ag htPid 0x040 (keyed key 1) = true) :
    key = theKey ∧ d.lockOk = true := by
  have hk : kindOf htPid = some (.hingeTable, 0) := by decide
  have taken : d.takes ag htPid 0x040 (keyed key 1) = true := agentPageNo_flat h (by decide) ▸ h
  obtain ⟨_, edge⟩ := unrefused_of_takes taken (place_own hk rfl) hk
  have free := refuseIf_none edge
  simp only [bit_keyed, beq_self_eq_true, Bool.true_and, Bool.or_eq_false_iff, Bool.not_eq_false'] at free
  exact ⟨keyOk_keyed free.1, free.2⟩

theorem lockOk_iff {d : Dev} : d.lockOk = true ↔ d.on htPid F.HT_STAT_LOADED = true ∧ d.r xbPid F.XB_MODE_MODE ≠ 2 := by
  simp [Dev.lockOk]

/-- The boot's own state holds no register. -/
theorem r_boot (d : Dev) (x : BootSt) (p : Nat) (f : FD) (i : Nat) : ({ d with boot := x } : Dev).r p f i = d.r p f i := rfl

/-- The lock leaves the stage at RUN. -/
theorem stage_lockEffects (d : Dev) : d.lockEffects.r bootPid F.BOOT_STAT_STAGE = 3 := by
  unfold Dev.lockEffects Dev.lockActions
  exact (r_boot _ _ _ _ _).trans (r_w_same _ _ _ _ _)

/-! ### The watchdog and the ward restart (R152 to R154) -/

/-- The watchdog runs, and its countdown is over. -/
def Dev.wdgPast (d : Dev) : Prop := d.on wdgPid F.WDG_CTRL_EN = true ∧ d.boot.kicked + d.boot.kickMs * 1000000 ≤ d.now

theorem wdgExpire_early {d : Dev} (h : ¬d.wdgPast) : d.wdgExpire = d := by
  refine if_pos ?_
  rw [Nat.mul_comm, Bool.not_eq_true', ← Bool.not_eq_true, ← Nat.not_le]
  exact Decidable.not_and_iff_or_not.mp h

theorem wdgExpire_past {d : Dev} (h : d.wdgPast) :
    d.wdgExpire = if d.locked then d.restartBegin 1 else if d.bootStage = 15 then d else d.bootFail 9 := by
  obtain ⟨en, passed⟩ := h
  exact if_neg (by rw [Nat.mul_comm]; simp [en, passed])

/-- An accepted RESTART begins a ward restart of cause 3. -/
theorem put_restart {d : Dev} {ag : Agent} {key : BitVec 16} (h : d.accepts ag wdgPid 0x048 (keyed key 1) = true) :
    d.put ag wdgPid 0x048 (keyed key 1) = (d.after ag wdgPid 0x048 (keyed key 1)).restartBegin 3 :=
  (put_flat h (by decide) rfl (show kindOf wdgPid = some (.watchdog, 0) by decide) rfl).trans
    ((effect_boot (.inr (.inl rfl)) (by decide)).trans (if_pos ⟨rfl, bit_keyed key⟩))

theorem restartBegin_running {d : Dev} {c : Nat} (h : d.boot.restart.isSome = true) : d.restartBegin c = d := if_pos h

/-- What a first restart does before the sessions close: the fault, the mailboxes, the pending sets, `WR_STAT` and `WR_LAST`,
cluster 0. -/
def Dev.restartEntered (d : Dev) (cause : Nat) : Dev :=
  let o := d.openFault 10 3 wdgPid cause
  let m := o.upTo 5 (fun c d => if d.mbState c = 1 then d.mbDone c 1 [] else d)
  let p := (m.pages.filter (fun e => decide (e.1 < 0x80))).foldl (fun d e => d.discardPend e.1) m
  let w := ((p.w bootPid F.WR_STAT_STATE 1).w bootPid F.WR_STAT_CAUSE cause).addSat bootPid F.WR_STAT_COUNT
  (w.w64 bootPid F.WR_LAST_LO_TIME F.WR_LAST_HI_TIME w.now).targetReset 0

/-- Every session closes, and the restart runs from now on. -/
def Dev.restartRuns (d : Dev) : Dev :=
  let d : Dev := { d with spdm := d.spdm.map (fun e => (e.1, { e.2 with sessions := [], phase := 0 })) }
  { d with boot := { d.boot with restart := some d.now, wrStep := 1, answered := false } }

theorem restartRuns_eq (d : Dev) : d.restartRuns = { d with
    spdm := d.spdm.map (fun e => (e.1, { e.2 with sessions := [], phase := 0 }))
    boot := { d.boot with restart := some d.now, wrStep := 1, answered := false } } := rfl

theorem restartBegin_first {d : Dev} {c : Nat} (h : d.boot.restart = none) :
    d.restartBegin c = (d.restartEntered c).restartRuns := by
  unfold Dev.restartBegin Dev.restartEntered Dev.restartRuns
  rw [if_neg (by simp [h])]

/-- Settles O26: power-good by the branches of the boot ROM, the lock and the request by what an accepted write of their
registers starts (`put_lock`, `put_restart`) and what the acceptance says of the key (`lock_accepted`). -/
theorem bootLockAndRestartComplete : Obligations.BootLockAndRestartComplete := by
  refine ⟨?_, fun s selfTest quad h => Completes.congr rfl (powerGoodRise_unawaited h), ?_, ?_, stage_lockEffects,
    fun s => rfl, ?_, fun s => rfl, fun s ag key h => Completes.congr rfl (put_restart h), fun d c => restartBegin_running,
    ?_⟩
  · intro s selfTest quad hm hp n r
    have fresh : s.dev.diesFresh false = n := rfl
    have hr : (n.powerTaken quad).release = r := rfl
    have rom : Completes (.powerGoodRise selfTest quad) s ((n.powerTaken quad).romStart selfTest) :=
      Completes.congr rfl ((powerGoodRise_awaited hm hp).trans (by rw [fresh]))
    clear_value r
    refine ⟨fun ht => ?_, fun ht hd => ?_, fun ht hd => ?_⟩ <;> subst ht
    · exact rom.congr (romStart_selfTest_fails hr)
    · exact rom.congr (romStart_descriptor_wrong hr hd)
    · split
      next hi => exact rom.congr (romStart_first hr hd hi)
      next c hi =>
        have fallback : (r.failCode c).w bootPid F.BOOT_STAT_FALLBACK 1 = r.romFallback c := rfl
        rw [fallback]
        dsimp only
        split
        next ho => exact rom.congr (romStart_other hr hd hi ho)
        next e ho => exact rom.congr (romStart_fails hr hd hi ho)
  · intro s ag key h n
    have lock : Completes (.hingeTableLock ag key) s n.lock := Completes.congr rfl (put_lock h)
    exact ⟨fun hl hs => lock.congr (lock_open hl hs), fun hs => lock.congr (lock_shut hs)⟩
  · intro s ag key h
    obtain ⟨hkey, hok⟩ := lock_accepted h
    exact ⟨hkey, lockOk_iff.mp hok⟩
  · intro s d past
    have expiry : Completes .wardWatchdogExpiry s d.wdgExpire := rfl
    refine ⟨fun h => expiry.congr (wdgExpire_early h), fun h hl => ?_, fun h hl hs => ?_, fun h hl hs => ?_⟩ <;>
      refine expiry.congr ((wdgExpire_past h).trans ?_)
    · exact if_pos hl
    · exact (if_neg (Bool.eq_false_iff.mp hl)).trans (if_neg hs)
    · exact (if_neg (Bool.eq_false_iff.mp hl)).trans (if_pos hs)
  · intro d c h o m p w t
    have entered : d.restartEntered c = t := rfl
    rw [restartBegin_first h, entered]
    exact restartRuns_eq t

end Sys2Proof.Machine
end

section
/-! SUPPORT. The ward mailboxes, case by case (R148 to R151). -/

namespace Sys2Proof.Machine

open Sys2Proof

/-! ### GO (R148, R151) -/

theorem kindOf_mbPid : ∀ c : Fin 5, kindOf (mbPid c) = some (.mailbox, c.val) := by decide +kernel

theorem openFields_mbCtrl : ∀ c : Fin 5, openFields (mbPid c) 0x0C0 = [(F.MB_CTRL_GO, 0)] := by decide +kernel

theorem mbPid_flat (c : Fin 5) : 16 ≤ mbPid c := by unfold mbPid; omega

section Go

variable {d : Dev} {ag : Agent} {c : Fin 5} (h : d.accepts ag (mbPid c) 0x0C0 1 = true)

include h

/-- An accepted GO takes up the request record. -/
theorem put_go : d.put ag (mbPid c) 0x0C0 1 = (d.after ag (mbPid c) 0x0C0 1).mbGo c :=
  (put_flat h (mbPid_flat c) rfl (kindOf_mbPid c) rfl).trans
    ((effect_boot (.inr (.inr rfl)) (by decide)).trans rfl)

/-- GO in WAIT is not accepted, and the register part of an accepted one leaves the state as it is. -/
theorem go_outside_wait : (d.after ag (mbPid c) 0x0C0 1).mbState c ≠ 1 := by
  have taken : d.takes ag (mbPid c) 0x0C0 1 = true := agentPageNo_flat h (mbPid_flat c) ▸ h
  obtain ⟨_, edge⟩ := unrefused_of_takes taken (place_own (kindOf_mbPid c) rfl) (kindOf_mbPid c)
  have before : d.mbState c ≠ 1 := by simpa [bit] using refuseIf_none edge
  have same : (d.after ag (mbPid c) 0x0C0 1).mbState c = d.mbState c := by
    refine r_after h (mbPid_flat c) (kindOf_mbPid c) rfl ⟨by decide, by decide⟩ (by unfold mbPid ledPid; omega) ?_
    intro f hf
    rw [openFields_mbCtrl, List.mem_singleton] at hf
    subst hf
    unfold fieldKey
    exact fun hkey => absurd (Nat.add_left_cancel (Nat.eq_of_mul_eq_mul_right (by decide) hkey)) (by decide)
  rw [same]
  exact before

end Go

/-- GO shows the record's tag and counts the request. -/
def Dev.mbTaken (d : Dev) (c : Nat) : Dev :=
  let t := d.w (mbPid c) F.MB_STAT_TAG (le (d.mbReq c) 2 2)
  { t with mbox := tabPut t.mbox {} c { d.mbox? c with count := (d.mbox? c).count + 1 } }

/-- The microseconds that a record gives ward firmware. -/
def mbMicros (q : List Nat) : Nat := if le q 4 4 = 0 then 10000 else le q 4 4

/-- A request waits for ward firmware, with its number and its deadline. -/
def Dev.mbAwait (d : Dev) (c count us : Nat) : Dev :=
  { d with
    mbox := tabPut d.mbox {} c { count := count, deadline := d.now + 1000 * us }
    mboxUnread := d.mboxUnread.filter (fun y => !(y == c)) ++ [c] }

section Taken

variable {d : Dev} {c : Nat} (hw : d.mbState c ≠ 1)

include hw

theorem mbGo_malformed (hf : mbFormed (d.mbReq c) = false) : d.mbGo c = (d.mbTaken c).mbDone c 4 [] := by
  unfold Dev.mbGo
  rw [if_neg hw]
  exact if_pos (by rw [hf]; rfl)

theorem mbGo_restarting (hf : mbFormed (d.mbReq c) = true) (hr : (d.mbTaken c).wardRestarting = true) :
    d.mbGo c = (d.mbTaken c).mbDone c 1 [] := by
  unfold Dev.mbGo
  rw [if_neg hw]
  exact (if_neg (by rw [hf]; decide)).trans (if_pos hr)

theorem mbGo_waits (hf : mbFormed (d.mbReq c) = true) (hr : (d.mbTaken c).wardRestarting = false) :
    d.mbGo c = ((d.mbTaken c).mbAwait c ((d.mbox? c).count + 1) (mbMicros (d.mbReq c))).w (mbPid c) F.MB_STAT_STATE 1 := by
  unfold Dev.mbGo
  rw [if_neg hw]
  exact (if_neg (by rw [hf]; decide)).trans (if_neg (Bool.eq_false_iff.mp hr))

end Taken

/-! ### The read, the response and the deadline (R151) -/

theorem mbRead_waiting {d : Dev} {c : Nat} (h : d.mboxUnread.contains c = true) :
    d.mbRead c = ({ d with mboxUnread := d.mboxUnread.filter (fun x => !(x == c)) } : Dev).emit (.message c (d.mbReq c)) :=
  if_pos h

theorem mbRead_none {d : Dev} {c : Nat} (h : d.mboxUnread.contains c = false) : d.mbRead c = d :=
  if_neg (Bool.eq_false_iff.mp h)

/-- The deadline of the request in WAIT has passed. -/
def Dev.mbLate (d : Dev) (c : Nat) : Prop := d.mbState c = 1 ∧ (d.mbox? c).deadline < d.now

theorem mbDeadline_late {d : Dev} {c : Nat} (h : d.mbLate c) : d.mbDeadline c = d.mbDone c 2 [] := if_pos h

theorem mbDeadline_early {d : Dev} {c : Nat} (h : ¬d.mbLate c) : d.mbDeadline c = d := if_neg h

/-- A request that has ended is no longer in WAIT. -/
theorem mbState_mbDone (d : Dev) (c status : Nat) (payload : List Nat) : (d.mbDone c status payload).mbState c ≠ 1 := by
  have done : (d.mbDone c status payload).mbState c = 2 := by
    unfold Dev.mbState Dev.mbDone Dev.evtMailbox
    exact (r_w_apart (by decide) (by decide) (by decide)).trans (r_w_same _ _ _ _ _)
  rw [done]
  decide

theorem mbRespond_late {d : Dev} {c number status : Nat} {payload : List Nat} (h : d.mbLate c) :
    d.mbRespond c number status payload = (d.mbDone c 2 []).addSat (mbPid c) F.MB_LATE_COUNT := by
  unfold Dev.mbRespond
  rw [mbDeadline_late h]
  exact if_neg (fun hw => mbState_mbDone _ _ _ _ hw.1)

theorem mbRespond_inTime {d : Dev} {c number status : Nat} {payload : List Nat} (h : ¬d.mbLate c) :
    d.mbRespond c number status payload =
      if d.mbState c = 1 ∧ (d.mbox? c).count = number then (d.mbDone c status payload).restartMeasure
      else d.addSat (mbPid c) F.MB_LATE_COUNT := by
  unfold Dev.mbRespond
  rw [mbDeadline_early h]

/-- Settles O27: GO by what its acceptance says of the state (`go_outside_wait`) and by the branches of `mbGo`; the response
by the deadline, which comes before it (`mbRespond_late`). -/
theorem mailboxesComplete : Obligations.MailboxesComplete := by
  refine ⟨?_, fun s c => ⟨fun h => Completes.congr rfl (mbRead_waiting h), fun h => Completes.congr rfl (mbRead_none h)⟩, ?_⟩
  · intro s ag c h n x t₀ t wait
    have go : Completes (.mailboxGo ag c) s (n.mbGo c) := Completes.congr rfl (put_go h)
    have outside : n.mbState c ≠ 1 := go_outside_wait h
    have taken : n.mbTaken c = t := rfl
    have waits : t.mbAwait c ((n.mbox? c).count + 1) (mbMicros (n.mbReq c)) = wait := rfl
    refine ⟨outside, fun hf => ?_, fun hf hr => ?_, fun hf hr => ?_⟩
    · exact go.congr (taken ▸ mbGo_malformed outside hf)
    · exact go.congr (taken ▸ mbGo_restarting outside hf hr)
    · exact go.congr (waits ▸ taken ▸ mbGo_waits outside hf hr)
  · intro s c late
    refine ⟨fun h => Completes.congr rfl (mbDeadline_late h), fun h => Completes.congr rfl (mbDeadline_early h), ?_⟩
    intro number status payload
    have response : Completes (.mailboxResponse c number status payload) s
        (s.dev.mbRespond c number status.toNat (payload.map (· % 256))) := rfl
    refine ⟨fun h => response.congr (mbRespond_late h), fun h hs hn => ?_, fun h hn => ?_⟩
    · exact response.congr ((mbRespond_inTime h).trans (if_pos ⟨hs, hn⟩))
    · exact response.congr ((mbRespond_inTime h).trans (if_neg hn))

end Sys2Proof.Machine
end

section
/-! SUPPORT. The ward world's answers to SPDM: who hears a request, and what each is answered (R124, R133 to R138, R154). -/

namespace Sys2Proof.Machine

open Sys2Proof

/-! ### A request that is heard, and one that is not (R124, R136, R154) -/

theorem not_hears (d : Dev) (p : Nat) : (!(d.bootStage == 3) || !d.spdmOn p) = !d.hears p := (Bool.not_and _ _).symm

section Doe

variable {d : Dev} {p : Nat} {f : Dev → Dev}

theorem doe_unheard (h : d.hears p = false) : d.doe p f = d := if_pos (by rw [not_hears, h]; rfl)

theorem doe_restarting (h : d.hears p = true) (hr : d.wardRestarting = true) : d.doe p f = (d.heard p).spdmError p 3 :=
  (if_neg (by rw [not_hears, h]; decide)).trans (if_pos hr)

theorem doe_heard (h : d.hears p = true) (hr : d.wardRestarting = false) : d.doe p f = f (d.heard p) :=
  (if_neg (by rw [not_hears, h]; decide)).trans (if_neg (Bool.eq_false_iff.mp hr))

theorem inPhase_early {phase : Nat} (h : (d.spdmOf p).phase < phase) : d.inPhase p phase f = d.spdmError p 4 :=
  if_neg (Nat.not_le.mpr h)

theorem inPhase_reached {phase : Nat} (h : phase ≤ (d.spdmOf p).phase) : d.inPhase p phase f = f d := if_pos h

theorem secured_unheard {id : Nat} (h : d.hears p = false) : d.secured p id f = d := if_pos (by rw [not_hears, h]; rfl)

theorem secured_closed {id : Nat} (h : d.hears p = true) (hs : d.session? p id = none) :
    d.secured p id f = (d.heard p).spdmError p 6 := by
  have closed : ¬((d.heard p).session? p id).isSome = true := by rw [show (d.heard p).session? p id = none from hs]; decide
  exact (if_neg (by rw [not_hears, h]; decide)).trans (if_neg closed)

theorem secured_open {id : Nat} (h : d.hears p = true) (hs : (d.session? p id).isSome = true) :
    d.secured p id f = f (d.heard p) := (if_neg (by rw [not_hears, h]; decide)).trans (if_pos hs)

end Doe

/-- A request that is taken by `doe` once the connection has reached a phase is answered as `AnswersSpdm` says. -/
theorem answersSpdm_doe {c : Instr} {p phase : Nat} {f g : Dev → Dev} (hc : ∀ s : State, Completes c s (s.dev.doe p g))
    (hg : ∀ d, g d = d.inPhase p phase f) : AnswersSpdm c p phase f := by
  intro s
  refine ⟨fun h => (hc s).congr (doe_unheard h), fun h hr => (hc s).congr (doe_restarting h hr), fun h hr hp => ?_,
    fun h hr hp => ?_⟩
  · exact (hc s).congr ((doe_heard h hr).trans ((hg _).trans (inPhase_early hp)))
  · exact (hc s).congr ((doe_heard h hr).trans ((hg _).trans (inPhase_reached hp)))

/-- A request that may come in any phase. -/
theorem inPhase_zero (p : Nat) (f : Dev → Dev) (d : Dev) : f d = d.inPhase p 0 f := (inPhase_reached (Nat.zero_le _)).symm

/-- The same phase, and the same answer in it. -/
theorem inPhase_congr {p phase : Nat} {f g : Dev → Dev} (h : ∀ d, g d = f d) (d : Dev) :
    d.inPhase p phase g = d.inPhase p phase f := congrArg (d.inPhase p phase) (funext h)

theorem answersSecured_secured {c : Instr} {p session : Nat} {f g : Dev → Dev}
    (hc : ∀ s : State, Completes c s (s.dev.secured p session g))
    (hg : ∀ d, d.hears p = true → (d.session? p session).isSome = true → g d = f d) : AnswersSecured c p session f := by
  intro s
  exact ⟨fun h => (hc s).congr (secured_unheard h), fun h hs => (hc s).congr (secured_closed h hs),
    fun h hs => (hc s).congr ((secured_open h hs).trans (hg _ h hs))⟩

/-! ### Discovery (R136) -/

section Discovery

variable {d : Dev} {p index : Nat}

theorem doeDiscovery_unheard (h : d.bootStage ≠ 3) : d.doeDiscovery p index = d := if_neg (by simpa using h)

theorem doeDiscovery_beyond (h : d.bootStage = 3) (hi : (if d.spdmOn p then 2 else 0) < index) :
    d.doeDiscovery p index = (d.heard p).emit (.event 137 [p, 0xFFFF, 0, 0]) := (if_pos (by simp [h])).trans (if_pos hi)

theorem doeDiscovery_within (h : d.bootStage = 3) (hi : index ≤ (if d.spdmOn p then 2 else 0)) :
    d.doeDiscovery p index = (d.heard p).emit (.event 137 [p, 1, index,
      if index < (if d.spdmOn p then 2 else 0) then index + 1 else 0]) :=
  (if_pos (by simp [h])).trans (if_neg (Nat.not_lt.mpr hi))

end Discovery

/-- Settles O28: each request by the phase that it needs (`answersSpdm_doe`), each secured message by its session
(`answersSecured_secured`). -/
theorem spdmCompletes : Obligations.SpdmCompletes := by
  refine ⟨?_, fun p => ⟨?_, ?_, ?_, ?_, ?_, ?_, ?_, ?_⟩, fun d => rfl, ?_, ?_, fun p id => ⟨?_, ?_, ?_⟩⟩
  · intro s p i last
    exact ⟨fun h => Completes.congr rfl (doeDiscovery_unheard h), fun h hi => Completes.congr rfl (doeDiscovery_beyond h hi),
      fun h hi => Completes.congr rfl (doeDiscovery_within h hi)⟩
  · exact answersSpdm_doe (fun s => rfl) (inPhase_zero _ _)
  · exact answersSpdm_doe (fun s => rfl) (fun d => rfl)
  · exact fun asym hash dhe aead => answersSpdm_doe (fun s => rfl) (fun d => rfl)
  · exact answersSpdm_doe (fun s => rfl) (fun d => rfl)
  · exact fun slot off len => answersSpdm_doe (fun s => rfl) (inPhase_congr fun d => ite_of_iff (by simp) rfl rfl)
  · exact fun op sign => answersSpdm_doe (fun s => rfl) (inPhase_congr fun d => ite_of_iff (by simp) rfl rfl)
  · exact fun slot summary => answersSpdm_doe (fun s => rfl) (inPhase_congr fun d => ite_of_iff (by simp) rfl rfl)
  · exact fun code => answersSpdm_doe (fun s => rfl) (inPhase_zero _ _)
  · exact fun p slot => answersSpdm_doe (fun s => rfl) (inPhase_congr fun d => ite_of_iff (by simp) rfl rfl)
  · intro p id root good
    refine answersSpdm_doe (fun s => rfl) (fun d => Eq.trans ?_ (inPhase_zero _ _ d))
    dsimp only
    cases (d.spdmOf p).sessions.find? (fun y => y.id == id.toNat && !y.ready) with
    | none => rfl
    | some y => exact ite_of_iff (by simp) rfl (by simp only [beq_iff_eq])
  · exact answersSecured_secured (fun s => rfl) (fun d _ _ => rfl)
  · exact fun op => answersSecured_secured (fun s => rfl) (fun d _ _ => rfl)
  · exact answersSecured_secured (fun s => rfl) (fun d _ _ => rfl)

end Sys2Proof.Machine
end

section
/-! SUPPORT. The services, as a mailbox and as a session ask for them, and the prompts, case by case (R138, R148 to R150,
R304, R306, R307, R361). -/

namespace Sys2Proof.Machine

open Sys2Proof

/-! ### A service is served, or answered DENIED (R138, R148 to R150) -/

section Mailbox

variable {d : Dev} {c : Fin 5} {n svc : Nat} {f : Dev → Dev}

theorem serve_stray (h : ¬(d.mbState c = 1 ∧ (d.mbox? c).count = n)) :
    d.serve (.mailbox c n) svc f = d.mbRespond c n 0 [] :=
  (if_neg (fun ⟨hs, hn, _⟩ => h ⟨hs, hn⟩)).trans (if_neg h)

variable (hs : d.mbState c = 1) (hn : (d.mbox? c).count = n)

include hs hn

theorem serve_other_group (hg : svcGroup (le (d.mbReq c) 0 2) ≠ svcGroup svc) : d.serve (.mailbox c n) svc f = d :=
  (if_neg (fun ⟨_, _, h⟩ => hg h)).trans (if_pos ⟨hs, hn⟩)

theorem serve_mailbox (hg : svcGroup (le (d.mbReq c) 0 2) = svcGroup svc) :
    d.serve (.mailbox c n) svc f = if svcGroup svc ≤ 1 then f d else d.mbRespond c n 3 [] := if_pos ⟨hs, hn, hg⟩

end Mailbox

/-- What a session's request is answered once its session is open. -/
def Dev.serveOpen (d : Dev) (via : Via) (p id svc : Nat) (formed : Bool) (f : Dev → Dev) : Dev :=
  if !formed then d.answerVia via svc 4 []
  else
    let m := match d.session? p id with | some s => s.mutual_ | none => false
    if d.grants p (svcGroup svc) && (decide (svcGroup svc ≤ 1) || m) then f d else d.answerVia via svc 3 []

theorem serve_session (d : Dev) (p : Fin 4) (id : BitVec 32) (tag len : BitVec 16) (deadline : Word) (svc : Nat)
    (f : Dev → Dev) : d.serve (.session p id tag deadline len) svc f = d.secured p id.toNat (fun d =>
      d.serveOpen (.session p id tag deadline len) p id.toNat svc (recordFormed deadline.toNat len.toNat) f) := rfl

/-- In an open session of a port that hears, what `serveOpen` asks for is what `grantsTo` says. -/
theorem serveOpen_heard {d : Dev} {via : Via} {p id svc : Nat} {formed : Bool} {f : Dev → Dev} (h : d.hears p = true)
    (hs : (d.session? p id).isSome = true) : d.serveOpen via p id svc formed f =
      if formed = false then d.answerVia via svc 4 []
      else if d.grantsTo p id (svcGroup svc) = true then f d else d.answerVia via svc 3 [] := by
  obtain ⟨x, hx⟩ := Option.isSome_iff_exists.mp hs
  unfold Dev.serveOpen Dev.grantsTo
  simp only [h, hx, Bool.true_and, Bool.not_eq_true']

/-- A service that goes through `serve` is served as `ServedBy` says; beyond the groups that a mailbox reaches, only what a
session is served counts. -/
theorem servedBy_serve {c : Via → Instr} {svc : Nat} {f g : Via → Dev → Dev}
    (hc : ∀ (v : Via) (s : State), Completes (c v) s (s.dev.serve v svc (g v)))
    (hm : svcGroup svc ≤ 1 → ∀ ch n d, g (.mailbox ch n) d = f (.mailbox ch n) d)
    (hs : ∀ p id tag deadline len d, g (.session p id tag deadline len) d = f (.session p id tag deadline len) d) :
    ServedBy c svc f := by
  refine ⟨fun s ch n => ⟨fun h => (hc _ s).congr (serve_stray h), fun h hn hg => (hc _ s).congr (serve_other_group h hn hg),
    fun h hn hg => (hc _ s).congr ((serve_mailbox h hn hg).trans ?_)⟩, fun p id tag len deadline => ?_⟩
  · split
    next hl => exact hm hl ch n s.dev
    next => rfl
  · refine answersSecured_secured (fun s => (hc _ s).congr (serve_session _ _ _ _ _ _ _ _)) (fun d hd hx => ?_)
    rw [serveOpen_heard hd hx, hs]

/-- A service that is the same for a mailbox and a session. -/
theorem servedBy_same {c : Via → Instr} {svc : Nat} {f g : Via → Dev → Dev}
    (hc : ∀ (v : Via) (s : State), Completes (c v) s (s.dev.serve v svc (g v))) (h : ∀ v d, g v d = f v d) :
    ServedBy c svc f := servedBy_serve hc (fun _ _ _ _ => h _ _) (fun _ _ _ _ _ _ => h _ _)

theorem ite_swap {α : Type} {p q : Prop} [Decidable p] [Decidable q] (h : q ↔ ¬p) (a b : α) :
    (if p then a else b) = if q then b else a := (ite_not p b a).symm.trans (ite_of_iff h.symm rfl rfl)

/-! ### The prompts (R304, R306, R307) -/

/-- The requests for a prompt that are a bad payload, besides an unknown template. -/
theorem showRefused_iff {h w k f : Nat} {regions : List (Nat × Option Nat)} {shown : List Prompt} :
    (decide (8 ≤ h) || decide (8 ≤ w) || k == 0 || decide (4 < k) || decide (8 ≤ f) || regions.any (fun x => x.2.isNone) ||
      shown.any (fun x => x.head == h && x.win == w && decide (x.stage < 5))) = true ↔
    8 ≤ h ∨ 8 ≤ w ∨ k = 0 ∨ 4 < k ∨ 8 ≤ f ∨ (∃ x ∈ regions, x.2 = none) ∨
      ∃ x ∈ shown, x.head = h ∧ x.win = w ∧ x.stage < 5 := by
  simp only [Bool.or_eq_true, Bool.and_eq_true, decide_eq_true_eq, beq_iff_eq, List.any_eq_true, Option.isNone_iff_eq_none,
    or_assoc, and_assoc]

theorem onPrompt_session (d : Dev) {p : Fin 4} {id : BitVec 32} {tag len : BitVec 16} {deadline : Word} {svc handle : Nat}
    (f : Dev → Prompt → Dev) : let v := Via.session p id tag deadline len
    d.onPrompt v svc handle f = d.serve v svc (fun d => match d.promptOf v handle with
      | none => d.answerVia v svc 4 []
      | some q => f d q) := rfl

/-- A service about a prompt. -/
theorem servedBy_onPrompt {c : Via → Instr} {svc handle : Nat} {f : Via → Dev → Dev} {k : Via → Dev → Prompt → Dev}
    (hg : 1 < svcGroup svc) (hc : ∀ (v : Via) (s : State), Completes (c v) s (s.dev.onPrompt v svc handle (k v)))
    (hn : ∀ v d, d.promptOf v handle = none → d.answerVia v svc 4 [] = f v d)
    (hq : ∀ v d q, d.promptOf v handle = some q → k v d q = f v d) : ServedBy c svc f := by
  refine servedBy_serve hc (fun hl => absurd hl (Nat.not_le.mpr hg)) (fun p id tag deadline len d => ?_)
  dsimp only
  split
  next h => exact hn _ _ h
  next q h => exact hq _ _ q h

theorem promptTimeout_unknown {d : Dev} {handle : Nat} (h : d.prompts.find? (fun q => q.handle == handle) = none) :
    d.promptTimeout handle = d := by
  unfold Dev.promptTimeout
  rw [h]

theorem promptTimeout_known {d : Dev} {handle : Nat} {q : Prompt}
    (h : d.prompts.find? (fun q => q.handle == handle) = some q) :
    d.promptTimeout handle =
      if q.state = 0 ∧ ∃ t ∈ q.ends, t ≤ d.now then d.setPrompt { q with state := 3, ends := none } else d := by
  unfold Dev.promptTimeout
  rw [h]
  dsimp only
  cases q.ends with
  | none => exact (if_neg (by simp)).symm
  | some t => exact ite_of_iff (by simp) rfl rfl

/-- Settles O29: each service by what it does once it is served (`servedBy_serve`), those about a prompt by the prompt that
their handle names (`servedBy_onPrompt`). -/
theorem servicesAndPromptsComplete : Obligations.ServicesAndPromptsComplete := by
  refine ⟨?_, ?_, ?_, ?_, ?_, fun h => ⟨?_, ?_, ?_⟩, ?_⟩
  · exact fun item => servedBy_same (fun v s => rfl) (fun v d => match item with
    | 0 | 1 | 2 | 3 => rfl)
  · exact fun num => servedBy_same (fun v s => rfl) (fun v d => by cases v <;> rfl)
  · exact fun head safe => servedBy_same (fun v s => rfl) (fun v d => ite_swap (by omega) _ _)
  · exact fun msg secs => servedBy_same (fun v s => rfl) (fun v d => ite_swap (by omega) _ _)
  · refine fun r => servedBy_same (fun v s => rfl) (fun v d => ?_)
    cases v with
    | mailbox ch n => rfl
    | session p id tag deadline len =>
      dsimp only
      cases d.tplEntry r.template.toNat with
      | none => rfl
      | some e => exact ite_of_iff showRefused_iff rfl rfl
  · exact servedBy_onPrompt (by decide) (fun v s => rfl) (fun v d hn => by rw [hn]) (fun v d q hq => by rw [hq])
  · exact servedBy_onPrompt (by decide) (fun v s => rfl) (fun v d hn => by rw [hn]) (fun v d q hq => by rw [hq])
  · exact servedBy_onPrompt (by decide) (fun v s => rfl) (fun v d hn => by rw [hn]) (fun v d q hq => by rw [hq])
  · intro s h
    have timeout : Completes (.promptTimeout h) s (s.dev.promptTimeout h.toNat) := rfl
    split
    next hn => exact timeout.congr (promptTimeout_unknown hn)
    next q hq => exact timeout.congr (promptTimeout_known hq)

end Sys2Proof.Machine
end

section
/-! SUPPORT. The host's reads, writes and configuration requests, case by case (R124, R130, R163, R164, R166, R167). -/

namespace Sys2Proof.Machine

open Sys2Proof

/-! ### A function that is absent, and one that is present (R164) -/

section Absent

variable {d : Dev} {p : Fin 4} {vf : Option (Fin 64)} (h : d.hostAgent p vf = none)

include h

theorem hostRead_absent (a n : Nat) : d.hostRead p vf a n = d.emit (.completion p cplUnsupported []) := by
  unfold Dev.hostRead
  rw [h]

theorem hostWrite_absent (a : Nat) (l : List Word) (all : Bool) : d.hostWrite p vf a l all = d := by
  unfold Dev.hostWrite
  rw [h]

theorem cfgRequest_absent (op : CfgOp) : d.cfgRequest p vf op = d.emit (.completion p cplUnsupported []) := by
  unfold Dev.cfgRequest
  rw [h]

end Absent

section Present

variable {d : Dev} {p : Fin 4} {vf : Option (Fin 64)} {ag : Agent} (h : d.hostAgent p vf = some ag)

include h

theorem hostRead_present (a n : Nat) :
    d.hostRead p vf a n = d.sendRead ag (agentPage ag a) (a % 4096) (.host p a n) := by
  unfold Dev.hostRead
  rw [h]

theorem hostWrite_one (a : Nat) (v : Word) : d.hostWrite p vf a [v] true = d.writeAt ag a v.toNat := by
  unfold Dev.hostWrite
  rw [h]

theorem hostWrite_two (a : Nat) (v w : Word) :
    d.hostWrite p vf a [v, w] true = (d.writeAt ag a v.toNat).writeAt ag (a + 4) w.toNat := by
  unfold Dev.hostWrite
  rw [h]

theorem hostWrite_dropped (a : Nat) {l : List Word} {all : Bool} (hd : all = false ∨ l = [] ∨ 3 ≤ l.length) :
    d.hostWrite p vf a l all = d.err (homePage ag) errAddress := by
  unfold Dev.hostWrite
  rw [h]
  dsimp only
  split
  next => simp at hd
  next => simp at hd
  next => rfl

theorem cfgRequest_shut (op : CfgOp) (ho : ¬(d.locked = true ∨ d.bootStage = 15)) :
    d.cfgRequest p vf op = d.emit (.completion p cplRetry []) := by
  unfold Dev.cfgRequest
  rw [h]
  exact if_pos (by simpa using ho)

theorem cfgRequest_open (op : CfgOp) (ho : d.locked = true ∨ d.bootStage = 15) :
    d.cfgRequest p vf op = (d.cfgApply p vf op).emit (.completion p cplOk (match op with
      | .read item => d.cfgItem p vf.isSome (fnNo p vf) item
      | _ => [])) := by
  unfold Dev.cfgRequest
  rw [h]
  exact if_neg (by simpa [Classical.or_iff_not_imp_left] using ho)

end Present

/-! ### Reads (R166, R167) -/

theorem sendRead_waits {d : Dev} {ag : Agent} {pid off : Nat} {rd : HeldRead} {why : HoldWhy}
    (h : d.readWaits ag pid off d.held = some why) : d.sendRead ag pid off rd =
      { d with held := d.held ++ [{ ag := ag, pid := pid, off := off, v := 0, why := why, rd := some rd, since := d.now }] } := by
  unfold Dev.sendRead
  rw [h]

theorem sendRead_serves {d : Dev} {ag : Agent} {pid off : Nat} {rd : HeldRead}
    (h : d.readWaits ag pid off d.held = none) : d.sendRead ag pid off rd = d.serveRead ag pid off rd := by
  unfold Dev.sendRead
  rw [h]

section Word

variable {d : Dev} {p : Nat} {ag : Agent} {a v : Nat} {n : Dev}

theorem hostWord_good (h : d.read ag (agentPage ag a) (a % 4096) = (v, false, n)) : d.hostWord p ag a = (v, false, n) := by
  unfold Dev.hostWord
  rw [h]

theorem hostWord_bad (h : d.read ag (agentPage ag a) (a % 4096) = (v, true, n)) :
    d.hostWord p ag a = (0, true, n.add (hpPid p) F.HP_RDERR_COUNT) := by
  unfold Dev.hostWord
  rw [h]

theorem hostServe_one (d : Dev) (p : Nat) (ag : Agent) (a : Nat) :
    d.hostServe p ag a 1 = (d.hostWord p ag a).2.2.emit (.completion p cplOk [(d.hostWord p ag a).1]) := if_pos rfl

theorem hostServe_two_bad (ha : a % 8 = 0) {m : Dev} {x : Nat} (h : d.hostWord p ag a = (x, true, m)) :
    d.hostServe p ag a 2 = m.emit (.completion p cplOk [0, 0]) := by
  refine (if_neg (by decide)).trans ((if_pos ⟨rfl, ha⟩).trans ?_)
  rw [h]

theorem hostServe_two_good (ha : a % 8 = 0) {m : Dev} {x : Nat} (h : d.hostWord p ag a = (x, false, m)) :
    d.hostServe p ag a 2 = (m.hostWord p ag (a + 4)).2.2.emit (.completion p cplOk
      (if (m.hostWord p ag (a + 4)).2.1 then [0, 0] else [x, (m.hostWord p ag (a + 4)).1])) := by
  refine (if_neg (by decide)).trans ((if_pos ⟨rfl, ha⟩).trans ?_)
  rw [h]
  dsimp only
  split <;> next hw => rw [hw]; rfl

theorem hostServe_other {n : Nat} (h1 : n ≠ 1) (h2 : n ≠ 2 ∨ a % 8 ≠ 0) :
    d.hostServe p ag a n = d.emit (.completion p cplAbort []) :=
  (if_neg h1).trans (if_neg (by omega))

end Word

/-! ### Configuration (R163, R164) -/

/-- A setting that a PF alone has. -/
theorem pf_only {vf : Option (Fin 64)} {x y : Dev} : (if vf.isNone then x else y) = if vf = none then x else y :=
  ite_of_iff Option.isNone_iff_eq_none rfl rfl

/-- Settles O30: an absent function by `hostAgent`, a read by what it waits for and by the words that it answers, a write by
its words, a configuration request by the lock. -/
theorem hostAccessesComplete : Obligations.HostAccessesComplete := by
  refine ⟨?_, ?_, ?_, fun d p ag a n => hostServe_other, ?_, ?_, ?_⟩
  · intro s p vf a n w all op h
    exact ⟨Completes.congr rfl (hostRead_absent h _ _), Completes.congr rfl (hostWrite_absent h _ _ _),
      Completes.congr rfl (cfgRequest_absent h _)⟩
  · intro s p vf a ag n h pid off
    have read : Completes (.hostMemoryRead p vf a n) s (s.dev.sendRead ag pid off (.host p a.toNat n)) :=
      Completes.congr rfl (hostRead_present h _ _)
    exact ⟨fun why hw => read.congr (sendRead_waits hw), fun hw => read.congr (sendRead_serves hw)⟩
  · intro d p ag a v e n h bad
    refine ⟨fun he => ?_, fun he => ?_, fun he ha => ?_, fun w f m he ha hm => ?_⟩ <;> subst he
    · rw [hostServe_one, hostWord_good h]
    · rw [hostServe_one, hostWord_bad h]
    · exact hostServe_two_bad ha (hostWord_bad h)
    · rw [hostServe_two_good ha (hostWord_good h)]
      cases f with
      | false => rw [hostWord_good hm]; rfl
      | true => rw [hostWord_bad hm]; rfl
  · intro s p vf a ag h
    exact ⟨fun v => Completes.congr rfl (hostWrite_one h _ _), fun v w => Completes.congr rfl (hostWrite_two h _ _ _),
      fun l all hd => Completes.congr rfl (hostWrite_dropped h _ hd)⟩
  · intro s p vf ag op h open_
    exact ⟨fun ho => Completes.congr rfl (cfgRequest_shut h _ ho), fun ho => Completes.congr rfl (cfgRequest_open h _ ho)⟩
  · intro d p vf on c put
    exact ⟨rfl, rfl, rfl, pf_only, pf_only, ite_of_iff (by simp) rfl rfl⟩

end Sys2Proof.Machine
end

section
/-! SUPPORT. Errors on the device's own reads, an open pilot's stage-2 fault, and the functions and ports, case by case (R146,
R162, R164, R168, R169, R423, R504). -/

namespace Sys2Proof.Machine

open Sys2Proof

/-! ### Errors on the device's own reads (R168) -/

/-- A read error is counted in a field of `HP_DMAERR`, and shown to the port and to the initiator. -/
def Dev.readError (d : Dev) (p : Nat) (count : FD) : Dev :=
  ((d.addSat (hpPid p) count).err (hpPid p) 10).emit (.errorResponse (4 + p))

/-- The field of each kind. -/
theorem dmaError_counted (d : Dev) (p : Nat) :
    d.dmaError p 0 = d.readError p F.HP_DMAERR_UR ∧ d.dmaError p 1 = d.readError p F.HP_DMAERR_CA ∧
    d.dmaError p 2 = d.readError p F.HP_DMAERR_CTO ∧ d.dmaError p 3 = d.readError p F.HP_DMAERR_POISON :=
  ⟨rfl, rfl, rfl, rfl⟩

section DmaFail

variable {d n : Dev} {p kind : Nat} (h : d.dmaError p kind = n)

include h

theorem dmaFail_next :
    d.dmaFail p kind none = { n with hst := { n.hst with failNext := n.hst.failNext ++ [p] } } := by
  unfold Dev.dmaFail
  rw [h]

theorem dmaFail_command {v c id : Nat} : d.dmaFail p kind (some (v, c, id)) = n.failCmd v c (some id) 3 := by
  unfold Dev.dmaFail
  rw [h]

end DmaFail

/-- The command that a read error names: the started one of the context with the CMD_ID, without a status yet. -/
def Dev.failNamed (d : Dev) (v ctx id : Nat) (x : Cmd) : Bool :=
  x.vi == v && x.ctx == ctx && x.gen == d.gen v && x.started && x.status.isNone && x.cmdId == id

theorem failNamed_eq (d : Dev) (v ctx id : Nat) : d.failNamed v ctx id = fun x => x.vi == v && x.ctx == ctx &&
    x.gen == d.gen v && x.started && x.status.isNone && some id == some x.cmdId := by
  funext x
  have named : (some id == some x.cmdId) = (x.cmdId == id) := (Option.some_beq_some).trans BEq.comm
  rw [named]
  rfl

theorem failCmd_named {d : Dev} {v ctx id st : Nat} {c : Cmd} (h : d.rend.cmds.find? (d.failNamed v ctx id) = some c) :
    d.failCmd v ctx (some id) st = { d with rend := { d.rend with
      cmds := d.rend.cmds.map (fun x => if x.uid = c.uid then { x with status := some st } else x) } } := by
  rw [failNamed_eq] at h
  unfold Dev.failCmd
  rw [h]
  simp only [beq_iff_eq]

theorem failCmd_none {d : Dev} {v ctx id st : Nat} (h : d.rend.cmds.find? (d.failNamed v ctx id) = none) :
    d.failCmd v ctx (some id) st = d := by
  rw [failNamed_eq] at h
  unfold Dev.failCmd
  rw [h]

/-! ### An open pilot's fault (R146) -/

/-- The pilot runs, and its firmware. -/
def Dev.pilotRuns (d : Dev) (k : Nat) : Prop :=
  bit (d.r opPid F.OP_STAT_RUN) k = true ∧ d.on opPid F.OP_STAT_FW = true ∧ d.boot.fwStopped.contains k = false

theorem stage2Fault_running {d : Dev} {k : Nat} (h : d.pilotRuns k) : d.stage2Fault k =
    (({ d with boot := { d.boot with fwStopped := d.boot.fwStopped ++ [k] } } : Dev).addSat opPid F.OP_STAT_S2F).openFault
      7 1 opPid k := by
  obtain ⟨hrun, hfw, hstopped⟩ := h
  exact if_neg (by rw [hrun, hfw, hstopped]; decide)

theorem stage2Fault_stopped {d : Dev} {k : Nat} (h : ¬d.pilotRuns k) : d.stage2Fault k = d := by
  refine if_pos (Classical.byContradiction fun hn => ?_)
  simp only [Bool.or_eq_true, Bool.not_eq_true', not_or, Bool.not_eq_false, Bool.not_eq_true, and_assoc] at hn
  exact h hn

/-! ### Virtual functions (R164, R169) -/

/-- A VF now present goes from OFF to STOPPED once the table is locked, another one to OFF. -/
def Dev.vfShown (d : Dev) (v : Nat) : Dev :=
  if d.vfPresent v then if d.viState v = 0 && d.locked then (d.windowReset v).setViState v 1 else d
  else d.viOff v

/-- NumVFs takes its value. -/
def Dev.numVfs (d : Dev) (p n : Nat) : Dev :=
  { d with hst := { d.hst with sriov := tabPut d.hst.sriov 0 p n } }.w (hpPid p) F.HP_VFS_NUM n

/-- NumVFs does not change which VIs a port has: the hinge table says it. -/
theorem portVis_numVfs (d : Dev) (p n : Nat) : (d.numVfs p n).portVis p = d.portVis p := rfl

theorem vfsChange_eq (d : Dev) (p n : Nat) : d.vfsChange p n = (d.portVis p).foldl Dev.vfShown (d.numVfs p n) :=
  congrArg (List.foldl Dev.vfShown (d.numVfs p n)) (portVis_numVfs d p n)

/-- A VF's configuration returns to its reset value. -/
def Dev.fnFresh (d : Dev) (v : Nat) : Dev := { d with fn := tabPut d.fn {} (4 + v) {} }

section Flr

variable {d : Dev} {v : Nat}

theorem vfFlr_live (h : d.viState v = 3 ∨ d.viState v = 5 ∨ d.viState v = 6) : d.vfFlr v = (d.fnFresh v).viReset v true :=
  if_pos h

theorem vfFlr_stopped (h : d.viState v = 1 ∨ d.viState v = 2) : d.vfFlr v = (d.fnFresh v).windowReset v := by
  have notLive : ¬(d.viState v = 3 ∨ d.viState v = 5 ∨ d.viState v = 6) := by omega
  exact (if_neg notLive).trans (if_pos h)

theorem vfFlr_other (h : ¬(1 ≤ d.viState v ∧ d.viState v ≤ 6 ∧ d.viState v ≠ 4)) : d.vfFlr v = d.fnFresh v := by
  have notLive : ¬(d.viState v = 3 ∨ d.viState v = 5 ∨ d.viState v = 6) := by omega
  have notStopped : ¬(d.viState v = 1 ∨ d.viState v = 2) := by omega
  exact (if_neg notLive).trans (if_neg notStopped)

end Flr

/-! ### A port's link (R162, R423) -/

theorem linkOk_iff {p : Fin 4} {speed : Fin 8} {width : Fin 16} : linkOk p speed width = true ↔
    1 ≤ speed.val ∧ speed.val ≤ 5 ∧ (width.val = 1 ∨ width.val = 2 ∨ (width.val = 4 ∧ p.val < 2)) := by
  have lanes : p.val < 2 ∧ portLanes p = 4 ∨ 2 ≤ p.val ∧ portLanes p = 2 := by unfold portLanes; split <;> omega
  simp only [linkOk, Bool.and_eq_true, decide_eq_true_eq, List.contains_cons, List.contains_nil, Bool.or_eq_true, beq_iff_eq,
    Bool.false_eq_true, or_false]
  obtain ⟨hp, hl⟩ | ⟨hp, hl⟩ := lanes <;> rw [hl] <;> omega

/-! ### A VI's reset (R169, R170) -/

theorem viReset_shows (d : Dev) (v : Nat) (again : Bool) :
    (d.viReset v again).viState v = 4 ∧ (d.viReset v again).gen v = nextGen ((d.viActions v).gen v) % 256 ∧
    ((d.viReset v again).vi v).restart = again := by
  have vis (n : Dev) (x : ViSt) : (n.setVi v x).vi v = x := tabGet_put_same _ _ _ _
  have stays (n : Dev) (x : ViSt) : (n.setVi v x).viState v = n.viState v ∧ (n.setVi v x).gen v = n.gen v := ⟨rfl, rfl⟩
  have state (n : Dev) : (n.setViState v 4).viState v = 4 := r_w_same _ _ _ _ _
  have gen (n : Dev) : (n.genAdvance v).gen v = nextGen (n.gen v) % 256 := r_w_same _ _ _ _ _
  have beside (n : Dev) : (n.setViState v 4).gen v = n.gen v := r_w_at (by decide)
  unfold Dev.viReset
  dsimp only
  rw [(stays _ _).1, (stays _ _).2, vis, state, beside, gen]
  exact ⟨rfl, rfl, rfl⟩

/-- Settles O31: a read error by the field of its kind and the command that it names, the functions by the states of their
VIs, the links by what a port can train to. -/
theorem functionsPortsAndErrorsComplete : Obligations.FunctionsPortsAndErrorsComplete := by
  refine ⟨?_, fun d v ctx id st => ⟨fun c => failCmd_named, failCmd_none⟩,
    fun s k => ⟨fun h => Completes.congr rfl (stage2Fault_running h), fun h => Completes.congr rfl (stage2Fault_stopped h)⟩,
    ?_, fun s v => ⟨fun h => Completes.congr rfl (vfFlr_live h), fun h => Completes.congr rfl (vfFlr_stopped h),
      fun h => Completes.congr rfl (vfFlr_other h)⟩, ?_, ?_, viReset_shows⟩
  · intro s p cmd
    obtain ⟨ur, ca, cto, poison⟩ := dmaError_counted s.dev p
    have error (kind : Fin 3) : Completes (.dmaCompletionError p kind cmd) s (s.dev.dmaFail p
      (if kind.val = 2 then 3 else kind.val) (cmd.map (fun c => (c.1.val, c.2.1.val, c.2.2.toNat)))) := rfl
    have timeout : Completes (.dmaCompletionTimeout p cmd) s
      (s.dev.dmaFail p 2 (cmd.map (fun c => (c.1.val, c.2.1.val, c.2.2.toNat)))) := rfl
    cases cmd with
    | none =>
      exact ⟨(error 0).congr (dmaFail_next ur), (error 1).congr (dmaFail_next ca), (error 2).congr (dmaFail_next poison),
        timeout.congr (dmaFail_next cto)⟩
    | some c =>
      exact ⟨(error 0).congr (dmaFail_command ur), (error 1).congr (dmaFail_command ca),
        (error 2).congr (dmaFail_command poison), timeout.congr (dmaFail_command cto)⟩
  · intro s p n e r
    have change : s.dev.vfsChange p n = r := vfsChange_eq _ _ _
    exact ⟨fun h => Completes.congr rfl ((if_pos h).trans change), fun h => Completes.congr rfl (if_neg (Nat.not_le.mpr h)),
      fun h => Completes.congr rfl ((if_pos h).trans change), fun h => Completes.congr rfl (if_neg (Nat.not_le.mpr h))⟩
  · intro s p gone down
    have reset : ∀ d : Dev, d.pfReset p = gone d := fun d => by
      unfold Dev.pfReset
      with_reducible rfl
    exact ⟨Completes.congr rfl (reset s.dev), Completes.congr rfl (reset down), Completes.congr rfl (reset down)⟩
  · intro s p speed width fits
    have up : Completes (.portDlUp p speed width) s (s.dev.dlUp p speed width) := rfl
    exact ⟨fun h => up.congr (if_pos (linkOk_iff.mpr h)), fun h => up.congr (if_neg (fun ok => h (linkOk_iff.mp ok)))⟩

end Sys2Proof.Machine
end

section
/-! SUPPORT. What an accepted write starts on the pages of the virtual instances, and what its register part keeps (R44, R48,
R521). -/

namespace Sys2Proof.Machine

open Sys2Proof

/-! ### Words of a write -/

/-- A word with a field's one bit set clears the field nowhere. -/
theorem falls_of_withBit {d : Dev} {p i b : Nat} {f : FD} {v : Word} (hb : f.lo = b) (hw : f.w = 1) :
    d.falls p (withBit v b) f i = false := by
  simp [Dev.falls, hb, hw, bits_one, bit_withBit, b2n]

/-- A word with a field's one bit clear sets the field nowhere. -/
theorem rises_of_withoutBit {d : Dev} {p i b : Nat} {f : FD} {v : Word} (hb : f.lo = b) (hw : f.w = 1) :
    d.rises p (withoutBit v b) f i = false := by
  simp [Dev.rises, hb, hw, bits_one, bit_withoutBit, b2n]

/-- The low field of a keyed word, and its key. -/
theorem bits_keyed_low {key : BitVec 16} {q : Nat} (hq : q < 8) : bits (keyed key q) 0 3 = q := by
  unfold bits keyed
  omega

theorem bits_keyed_key {key : BitVec 16} {q : Nat} (hq : q < 8) : bits (keyed key q) 16 16 = key.toNat := by
  have := key.isLt
  unfold bits keyed
  omega

theorem bit_keyed_refuse (key : BitVec 16) : bit (keyed key 2) 0 = false ∧ bit (keyed key 2) 1 = true := by
  simp only [bit, keyed, Nat.testBit_eq_decide_div_mod_eq, decide_eq_false_iff_not, decide_eq_true_eq]
  omega

/-! ### What an accepted write starts -/

/-- On the pages of the virtual instances the tenancy blocks alone take a write up. -/
theorem effect_tenancy {d b : Dev} {k : PageKind} {i p off v : Nat}
    (hk : k = .viHost ∨ k = .portPart ∨ k = .viContexts ∨ k = .viDoorbells ∨ k = .viStage1) (ho : 0x040 ≤ off) :
    d.effect? b k i p off v = d.coreEffect b k i p off v := by
  obtain rfl | rfl | rfl | rfl | rfl := hk <;> exact if_neg (Nat.not_lt.mpr ho)

theorem kindOf_vihPid : ∀ v : Fin 64, kindOf (vihPid v) = some (.viHost, v.val) := by decide +kernel

theorem put_viHost {d : Dev} {ag : Agent} (v : Fin 64) {off x : Nat} (h : d.accepts ag (vihPid v) off x = true)
    (ho : 0x040 ≤ off) (h4 : off % 4 = 0) :
    d.put ag (vihPid v) off x = (d.after ag (vihPid v) off x).coreEffect d .viHost v (vihPid v) off x :=
  (put_flat h (by unfold vihPid; omega) h4 (kindOf_vihPid v) rfl).trans (effect_tenancy (.inl rfl) ho)

/-! ### What the register part of a write keeps -/

theorem hst_ledRecord (d : Dev) (kind pid off origin old new : Nat) (complete : Bool) :
    (d.ledRecord kind pid off origin old new complete).hst = d.hst := by
  have shown (n : Dev) : n.ledShow.hst = n.hst := by
    unfold Dev.ledShow
    dsimp only
    split
    · exact Dev.err_hst _ _ _
    · rfl
  exact shown _

theorem hst_writeFields (d : Dev) (p v : Nat) (fs : List (FD × Nat)) : (d.writeFields p v fs).hst = d.hst := by
  refine List.foldlRecOn fs _ (motive := fun n : Dev => n.hst = d.hst) rfl (fun n h f _ => ?_)
  refine Eq.trans ?_ h
  dsimp only
  split
  case h_3 => split <;> rfl
  case h_4 => split <;> rfl
  all_goals rfl

theorem hst_writtenBy (d : Dev) (ag : Agent) (pid off v : Nat) (ch acts sh : Bool) :
    (d.writtenBy ag pid off v ch acts sh).hst = d.hst := by
  have fields : ((d.unlatch (d.place pid off).1 (d.place pid off).2).writeFields (d.place pid off).1 v
      (openFields (d.place pid off).1 (d.place pid off).2)).hst = d.hst := hst_writeFields _ _ _ _
  unfold Dev.writtenBy
  dsimp only
  split
  · exact fields
  · split
    · exact fields
    · split <;> exact (hst_ledRecord _ _ _ _ _ _ _ _).trans fields

/-- The register part of a write touches nothing of the virtual instances beside registers. -/
theorem hst_after (d : Dev) (ag : Agent) (page off v : Nat) : (d.after ag page off v).hst = d.hst := by
  unfold Dev.after Dev.written
  split
  · exact hst_writtenBy _ _ _ _ _ _ _ _
  · rfl

end Sys2Proof.Machine
end

section
/-! SUPPORT. The requests on a VI, the open world's decisions and the end of a reset, case by case (R169 to
R174). -/

namespace Sys2Proof.Machine

open Sys2Proof

/-! ### Requests (R169, R171, R173) -/

/-- An accepted write of `VIH_CTRL` is a request. -/
theorem put_viCtrl {d : Dev} {ag : Agent} {v : Fin 64} {key : BitVec 16} {q : Nat} (hq : q < 8)
    (h : d.accepts ag (vihPid v) 0x040 (keyed key q) = true) :
    d.put ag (vihPid v) 0x040 (keyed key q) = (d.after ag (vihPid v) 0x040 (keyed key q)).viRequest v q key.toNat := by
  have request := put_viHost v h (by decide) (by decide)
  simp only [Dev.coreEffect, if_true, bits_keyed_low hq, bits_keyed_key hq] at request
  exact request

theorem viRequest_keyless {d : Dev} {v q : Nat} {key : BitVec 16} (hk : key ≠ theKey) :
    d.viRequest v q key.toNat = d.viRefuse v 5 := by
  have wrong : key.toNat ≠ 0xA5C3 := fun h => hk (BitVec.eq_of_toNat_eq h)
  exact if_pos (by simpa using wrong)

theorem viRequest_create (d : Dev) (v : Nat) : d.viRequest v 1 theKey.toNat =
    if d.viState v ≠ 1 then d.viRefuse v 1
    else if d.rootOk v = false then d.viRefuse v 2
    else ({ d.setViState v 2 with hst := { d.hst with creates := d.hst.creates ++ [(v, d.now)] } } : Dev).reqShow :=
  ite_of_iff (by simp) rfl (ite_of_iff (by simp) rfl rfl)

theorem viRequest_reset (d : Dev) (v : Nat) : d.viRequest v 2 theKey.toNat =
    if d.viState v = 3 ∨ d.viState v = 5 ∨ d.viState v = 6 then d.viReset v true else d.viRefuse v 1 := rfl

theorem viRequest_remove (d : Dev) (v : Nat) : d.viRequest v 3 theKey.toNat =
    if d.viState v = 3 ∨ d.viState v = 5 ∨ d.viState v = 6 then d.viReset v false else d.viRefuse v 1 := rfl

theorem viRequest_quiesce (d : Dev) (v : Nat) : d.viRequest v 4 theKey.toNat =
    if d.viState v = 3 then (d.setViState v 5).quiesced v else d.viRefuse v 1 := rfl

theorem viRequest_resume (d : Dev) (v : Nat) : d.viRequest v 5 theKey.toNat =
    if d.viState v = 5 ∨ d.viState v = 6 then d.setViState v 3 else d.viRefuse v 1 := rfl

/-- An accepted request: refused without the key, else what it asks for. -/
theorem put_viCtrl_keyed {d : Dev} {ag : Agent} {v : Fin 64} {key : BitVec 16} {q : Nat} (hq : q < 8) {n : Dev → Dev}
    (hn : ∀ d : Dev, d.viRequest v q theKey.toNat = n d) (h : d.accepts ag (vihPid v) 0x040 (keyed key q) = true) :
    let m := d.after ag (vihPid v) 0x040 (keyed key q)
    d.put ag (vihPid v) 0x040 (keyed key q) = if key ≠ theKey then m.viRefuse v 5 else n m := by
  refine (put_viCtrl hq h).trans ?_
  split
  next hk => exact viRequest_keyless hk
  next hk => rw [Classical.not_not.mp hk]; exact hn _

/-! ### The open world's decision (R174) -/

/-- A decision is accepted only while a CREATE waits. -/
theorem creates_of_decided {d : Dev} {ag : Agent} {key : BitVec 16} {q : Nat}
    (h : d.accepts ag 0x084 0x054 (keyed key q) = true) (hb : (bit (keyed key q) 0 || bit (keyed key q) 1) = true) :
    d.hst.creates ≠ [] := by
  have hk : kindOf 0x084 = some (.portPart, 0) := by decide
  have taken : d.takes ag 0x084 0x054 (keyed key q) = true := agentPageNo_flat h (by decide) ▸ h
  obtain ⟨core, _⟩ := unrefused_of_takes taken (place_own hk rfl) hk
  have free := refuseIf_none core
  simp only [beq_self_eq_true, hb, Bool.true_and, Bool.or_eq_false_iff, Bool.not_eq_false', Dev.decideOk, Bool.and_eq_true,
    Bool.not_eq_true', List.isEmpty_eq_false_iff] at free
  exact free.2.2

/-- An accepted decision is about the oldest CREATE that waits. -/
theorem put_decide {d : Dev} {ag : Agent} {key : BitVec 16} {q : Nat} (h : d.accepts ag 0x084 0x054 (keyed key q) = true)
    (hb : (bit (keyed key q) 0 || bit (keyed key q) 1) = true) :
    let n := d.after ag 0x084 0x054 (keyed key q)
    ∃ v t rest, n.hst.creates = (v, t) :: rest ∧ d.put ag 0x084 0x054 (keyed key q) =
      if bit (keyed key q) 0 then ((n.dropCreate v).setViState v 3).add 0x084 F.PP_CREATED_COUNT
      else ((n.dropCreate v).setViState v 1).viRefuse v 3 := by
  intro n
  have put : d.put ag 0x084 0x054 (keyed key q) = n.decide? (bit (keyed key q) 0) :=
    (put_flat h (by decide) rfl (show kindOf 0x084 = some (.portPart, 0) by decide) rfl).trans
      ((effect_tenancy (.inr (.inl rfl)) (by decide)).trans (if_pos ⟨rfl, hb⟩))
  have waits : n.hst.creates ≠ [] := by
    rw [hst_after]
    exact creates_of_decided h hb
  obtain ⟨⟨v, t⟩, rest, hc⟩ := List.exists_cons_of_ne_nil waits
  refine ⟨v, t, rest, hc, put.trans ?_⟩
  unfold Dev.decide?
  rw [hc]

/-! ### The end of a CREATE and of a reset (R169, R170) -/

theorem createTimeout_none {d : Dev} (h : d.hst.creates = []) : d.createTimeout = d := by
  unfold Dev.createTimeout
  rw [h]

theorem createTimeout_some {d : Dev} {v t : Nat} {rest : List (Nat × Nat)} (h : d.hst.creates = (v, t) :: rest) :
    d.createTimeout = if d.now < t + 100000000 then d else ((d.dropCreate v).setViState v 1).viRefuse v 4 := by
  unfold Dev.createTimeout
  rw [h]

/-- A refusal shows its reason, and leaves the VI in its state. -/
theorem viRefuse_shows (d : Dev) (v : Nat) {reason : Nat} (h : reason < 8) :
    (d.viRefuse v reason).r (vihPid v) F.VIH_STAT_REFUSE = reason ∧ (d.viRefuse v reason).viState v = d.viState v := by
  have refuse : F.VIH_STAT_REFUSE.own 0 := by unfold FD.own; decide
  have state : F.VIH_STAT_STATE.own 0 := by unfold FD.own; decide
  have cut : reason % 2 ^ 4 = reason := Nat.mod_eq_of_lt (by omega)
  exact ⟨(r_err_own refuse).trans ((r_w_same _ _ _ _ _).trans cut), (r_err_own state).trans (r_w_beside rfl (by decide))⟩

/-- Settles O32: a request by its key and the VI's state, a decision by its bit, the ends by the clock and the work left. -/
theorem instanceRequestsComplete : Obligations.InstanceRequestsComplete := by
  refine ⟨?_, ?_, ?_, ?_, fun d v reason => viRefuse_shows d v⟩
  · intro s ag v key n accepts st
    exact ⟨fun h => Completes.congr rfl (put_viCtrl_keyed (by decide) (viRequest_create · v) h),
      fun h => Completes.congr rfl (put_viCtrl_keyed (by decide) (viRequest_reset · v) h),
      fun h => Completes.congr rfl (put_viCtrl_keyed (by decide) (viRequest_remove · v) h),
      fun h => Completes.congr rfl (put_viCtrl_keyed (by decide) (viRequest_quiesce · v) h),
      fun h => Completes.congr rfl (put_viCtrl_keyed (by decide) (viRequest_resume · v) h)⟩
  · intro s ag key a r
    refine ⟨fun h => ?_, fun h => ?_⟩
    · obtain ⟨v, t, rest, hc, put⟩ := put_decide h (by rw [bit_keyed]; rfl)
      exact ⟨v, t, rest, hc, Completes.congr rfl (put.trans (if_pos (bit_keyed key)))⟩
    · obtain ⟨accept, refuse⟩ := bit_keyed_refuse key
      obtain ⟨v, t, rest, hc, put⟩ := put_decide h (by rw [refuse, Bool.or_true])
      exact ⟨v, t, rest, hc, Completes.congr rfl (put.trans (if_neg (Bool.eq_false_iff.mp accept)))⟩
  · intro s
    refine ⟨fun h => Completes.congr rfl (createTimeout_none h), fun v t rest h => ⟨fun ht => ?_, fun ht => ?_⟩⟩
    · exact Completes.congr rfl ((createTimeout_some h).trans (if_pos ht))
    · exact Completes.congr rfl ((createTimeout_some h).trans (if_neg (Nat.not_lt.mpr ht)))
  · intro s v
    exact ⟨fun h4 hq => Completes.congr rfl (if_pos ⟨h4, hq⟩),
      fun h => Completes.congr rfl (if_neg (by rintro ⟨h4, hq⟩; simp [h4, hq] at h))⟩

end Sys2Proof.Machine
end

section
/-! SUPPORT. Contexts: enabling and disabling, doorbells, residency and share periods, case by case (R175, R179, R181, R182,
R266). -/

namespace Sys2Proof.Machine

open Sys2Proof

/-! ### Enabling and disabling (R175, R181) -/

/-- An accepted write of `CTX_CTRL`: its register part, and what the change of ENABLE starts. -/
theorem put_ctxCtrl {d : Dev} {v c : Fin 64} {x : Nat} (h : d.accepts (.vi v) 1 (0x800 + 32 * c) x = true) :
    let n := d.after (.vi v) 1 (0x800 + 32 * c) x
    d.put (.vi v) 1 (0x800 + 32 * c) x =
      if d.rises (ctxPid v) x F.CTX_CTRL_ENABLE c = true then n.ctxEnable v c
      else if d.falls (ctxPid v) x F.CTX_CTRL_ENABLE c = true then n.ctxDisable v c else n := by
  intro n
  have block : (0x800 + 32 * c.val - 0x800) / 32 = c := by omega
  have own : 0x800 ≤ 0x800 + 32 * c.val ∧ (0x800 + 32 * c.val) % 32 = 0 := by omega
  refine (put_vi h (by decide) (by omega) rfl rfl).trans ((effect_tenancy (.inr (.inr (.inl rfl))) (by omega)).trans ?_)
  refine (if_pos own).trans ?_
  rw [block]
  rfl

theorem put_contextEnable {d : Dev} {v c : Fin 64} {x : Word}
    (h : d.accepts (.vi v) 1 (0x800 + 32 * c) (withBit x 0) = true) :
    let n := d.after (.vi v) 1 (0x800 + 32 * c) (withBit x 0)
    d.put (.vi v) 1 (0x800 + 32 * c) (withBit x 0) =
      if d.rises (ctxPid v) (withBit x 0) F.CTX_CTRL_ENABLE c = true then n.ctxEnable v c else n :=
  (put_ctxCtrl h).trans (ite_of_iff Iff.rfl rfl (if_neg (Bool.eq_false_iff.mp (falls_of_withBit rfl rfl))))

theorem put_contextDisable {d : Dev} {v c : Fin 64} {x : Word}
    (h : d.accepts (.vi v) 1 (0x800 + 32 * c) (withoutBit x 0) = true) :
    let n := d.after (.vi v) 1 (0x800 + 32 * c) (withoutBit x 0)
    d.put (.vi v) 1 (0x800 + 32 * c) (withoutBit x 0) =
      if d.falls (ctxPid v) (withoutBit x 0) F.CTX_CTRL_ENABLE c = true then n.ctxDisable v c else n :=
  (put_ctxCtrl h).trans (if_neg (Bool.eq_false_iff.mp (rises_of_withoutBit rfl rfl)))

section Enable

variable {d : Dev} {v c : Nat}

theorem ctxEnable_disabled (h : d.ctxState v c = 0) : d.ctxEnable v c =
    (((d.setCtx v c { sqTail := d.r (ctxPid v) F.CTX_SQ_HEAD_INDEX c, cqHead := d.r (ctxPid v) F.CTX_CQ_TAIL_INDEX c }).w
      (ctxPid v) F.CTX_CTRL_STATE 1 c).w (ctxPid v) F.CTX_CTRL_ERR 0 c).ctxEnShow v := if_pos h

theorem ctxEnable_running (h : d.ctxState v c ≠ 0) : d.ctxEnable v c = d := if_neg h

theorem ctxDisable_running (h : d.ctxState v c ≠ 0) : d.ctxDisable v c =
    (({ d with hst := { d.hst with waitRes := d.hst.waitRes.filter (fun k => !(k == ctxKey v c)) } } : Dev).w
      (ctxPid v) F.CTX_CTRL_STATE 3 c).ctxDrained v c := if_neg h

theorem ctxDisable_disabled (h : d.ctxState v c = 0) : d.ctxDisable v c = d := if_pos h

end Enable

/-! ### Doorbells (R179) -/

/-- An accepted write of `DB_SQ` rings the doorbell of its context. -/
theorem put_sqBell {d : Dev} {v c : Fin 64} {x : Nat} (h : d.accepts (.vi v) 2 (0x040 + 4 * c) x = true) :
    d.put (.vi v) 2 (0x040 + 4 * c) x = (d.after (.vi v) 2 (0x040 + 4 * c) x).sqBell v c (bits x 0 12) := by
  have ring : (0x040 + 4 * c.val - 0x040) / 4 = c := by omega
  refine (put_vi h (by decide) (by omega) rfl rfl).trans ((effect_tenancy (.inr (.inr (.inr (.inl rfl)))) (by omega)).trans ?_)
  refine (if_pos (by omega)).trans ?_
  rw [ring]

/-- An accepted write of `DB_CQ` rings the doorbell of its context. -/
theorem put_cqBell {d : Dev} {v c : Fin 64} {x : Nat} (h : d.accepts (.vi v) 2 (0x140 + 4 * c) x = true) :
    d.put (.vi v) 2 (0x140 + 4 * c) x = (d.after (.vi v) 2 (0x140 + 4 * c) x).cqBell v c (bits x 0 14) := by
  have ring : (0x140 + 4 * c.val - 0x140) / 4 = c := by omega
  refine (put_vi h (by decide) (by omega) rfl rfl).trans ((effect_tenancy (.inr (.inr (.inr (.inl rfl)))) (by omega)).trans ?_)
  refine (if_neg (by omega)).trans ((if_pos (by omega)).trans ?_)
  rw [ring]

/-- The low bits of a word. -/
theorem bits_zero (x w : Nat) : bits x 0 w = x % 2 ^ w := by
  unfold bits
  rw [Nat.pow_zero, Nat.div_one]

section Bell

variable {d : Dev} {v c : Nat}

theorem sqBell_closed {tail : Nat} (h : d.bellOk v c = false) : d.sqBell v c tail = d.err (viPage v 2) 10 :=
  if_pos (by simp [h])

theorem sqBell_beyond {tail : Nat} (h : d.bellOk v c = true) (ht : d.sqSize v c ≤ tail) :
    d.sqBell v c tail = d.ctxError v c 1 :=
  (if_neg (by simp [h])).trans (if_pos ht)

theorem sqBell_within {tail : Nat} (h : d.bellOk v c = true) (ht : tail < d.sqSize v c) :
    let m := d.setCtx v c { d.ctxSt v c with sqTail := tail }
    d.sqBell v c tail = (if m.unfetched v c then m.needRes v c else m).ctxShow v c :=
  (if_neg (by simp [h])).trans (if_neg (Nat.not_le.mpr ht))

/-- The entries of the CQ from the head that the device knows up to a position. -/
def Dev.cqAhead (d : Dev) (v c pos : Nat) : Nat := (pos + d.cqSize v c - (d.ctxSt v c).cqHead) % d.cqSize v c

/-- A head that the ring does not have, or that lies beyond what the device has written. -/
def Dev.cqBeyond (d : Dev) (v c head : Nat) : Prop :=
  d.cqSize v c ≤ head ∨ d.cqAhead v c (d.r (ctxPid v) F.CTX_CQ_TAIL_INDEX c) < d.cqAhead v c head

theorem cqBell_closed {head : Nat} (h : d.bellOk v c = false) : d.cqBell v c head = d.err (viPage v 2) 10 :=
  if_pos (by simp [h])

theorem cqBell_beyond {head : Nat} (h : d.bellOk v c = true) (hb : d.cqBeyond v c head) :
    d.cqBell v c head = d.ctxError v c 1 :=
  (if_neg (by simp [h])).trans (if_pos hb)

theorem cqBell_within {head : Nat} (h : d.bellOk v c = true) (hb : ¬d.cqBeyond v c head) :
    d.cqBell v c head = d.setCtx v c { d.ctxSt v c with cqHead := head } :=
  (if_neg (by simp [h])).trans (if_neg hb)

end Bell

/-! ### Residency (R182) -/

theorem swapIn_none {d : Dev} (h : d.waitOrder.find? (fun k => (d.slotFor k).isSome) = none) : d.swapIn = d := by
  unfold Dev.swapIn
  rw [h]

/-- A context has its place at the head of the resident ones. -/
def Dev.seat (d : Dev) (k : Nat) : Dev :=
  (({ d with hst := { d.hst with resident := k :: d.hst.resident, lastRes := k / 64 } } : Dev).setResident k 1).add
    (ctxPid (k / 64)) F.CTX_RES_SWAPINS

theorem swapIn_some {d : Dev} {k : Nat} {out : Option Nat} (h : d.waitOrder.find? (fun k => (d.slotFor k).isSome) = some k)
    (ho : d.slotFor k = some out) :
    let w : Dev := { d with hst := { d.hst with waitRes := d.hst.waitRes.filter (fun x => !(x == k)) } }
    d.swapIn = (match out with
      | some x => w.evict x
      | none => w).seat k := by
  unfold Dev.swapIn
  rw [h]
  dsimp only
  rw [ho]
  cases out <;> rfl

/-! ### Share periods (R266) -/

/-- A device with the commands in flight of another, and with its virtual instances. -/
def Dev.keepsWork (d n : Dev) : Prop := n.rend.cmds = d.rend.cmds ∧ n.hst = d.hst

theorem Dev.keepsWork.trans {d n m : Dev} (h : n.keepsWork m) (h' : d.keepsWork n) : d.keepsWork m :=
  ⟨h.1.trans h'.1, h.2.trans h'.2⟩

theorem Dev.keepsWork.w {d n : Dev} (h : d.keepsWork n) (p : Nat) (f : FD) (v i : Nat) : d.keepsWork (n.w p f v i) := h

theorem Dev.keepsWork.charge {d n : Dev} (h : d.keepsWork n) (t : Tab Nat) :
    d.keepsWork { n with rend := { n.rend with charge := t } } := h

theorem chargeItem_keeps (d : Dev) (k : Nat) : d.keepsWork (d.chargeItem k) := by
  unfold Dev.chargeItem
  split
  · exact ⟨rfl, rfl⟩
  · dsimp only
    split <;> exact ⟨rfl, rfl⟩

/-- What every step of a run over numbers keeps, the run keeps. -/
theorem forAll_keeps {α : Type} {P : Dev → Prop} {f : α → Dev → Dev} (hf : ∀ a n, P n → P (f a n)) (l : List α)
    {d : Dev} (h : P d) : P (forAll l f d) :=
  List.foldlRecOn l _ (motive := P) h (fun n hn a _ => hf a n hn)

theorem shareStart_keeps (d : Dev) : d.keepsWork d.shareStart := by
  have charged : d.keepsWork (forAll (upFrom 0 16) (fun k n => n.chargeItem k) d) :=
    forAll_keeps (fun k n h => (chargeItem_keeps n k).trans h) _ ⟨rfl, rfl⟩
  unfold Dev.shareStart
  extract_lets d1 c d2 d3
  have shown : d.keepsWork d3 :=
    forAll_keeps (fun v n h => (((h.w _ _ _ _).w _ _ _ _).w _ _ _ _).w _ _ _ _) _ (charged.w _ _ _ _)
  exact shown.charge []

/-- Settles O33: a write of a context by the change of ENABLE, a doorbell by the state and the ring of its context, a swap
by the slot that the first waiting context finds. -/
theorem contextsComplete : Obligations.ContextsComplete := by
  refine ⟨?_, ?_, ?_, ?_, fun s => ⟨rfl, rfl, shareStart_keeps s.dev⟩⟩
  · intro s v c x on off starts stops
    refine ⟨fun h => ?_, fun h => ?_⟩
    · have put := put_contextEnable h
      refine ⟨fun ⟨hr, hs⟩ => Completes.congr rfl (put.trans ((if_pos hr).trans (ctxEnable_disabled hs))), fun hn => ?_⟩
      refine Completes.congr rfl (put.trans ?_)
      split
      next hr => exact ctxEnable_running (fun hs => hn ⟨hr, hs⟩)
      next => rfl
    · have put := put_contextDisable h
      refine ⟨fun ⟨hf, hs⟩ => Completes.congr rfl (put.trans ((if_pos hf).trans (ctxDisable_running hs))), fun hn => ?_⟩
      refine Completes.congr rfl (put.trans ?_)
      split
      next hf => exact ctxDisable_disabled (Classical.not_not.mp (fun hs => hn ⟨hf, hs⟩))
      next => rfl
  · intro s v c x h n
    have bell : Completes (.sqDoorbell v c x) s (n.sqBell v c (x.toNat % 2 ^ 12)) :=
      Completes.congr rfl ((put_sqBell h).trans (by rw [bits_zero]))
    exact ⟨fun hb => bell.congr (sqBell_closed hb), fun hb ht => bell.congr (sqBell_beyond hb ht),
      fun hb ht => bell.congr (sqBell_within hb ht)⟩
  · intro s v c x h n size head tail old
    have bell : Completes (.cqDoorbell v c x) s (n.cqBell v c head) :=
      Completes.congr rfl ((put_cqBell h).trans (by rw [bits_zero]))
    refine ⟨fun hb => bell.congr (cqBell_closed hb), fun hb ht => bell.congr (cqBell_beyond hb ht), fun hb hh ha => ?_⟩
    refine bell.congr (cqBell_within hb ?_)
    rintro (hs | hs)
    · exact Nat.not_le.mpr hh hs
    · exact Nat.not_lt.mpr ha hs
  · intro s
    exact ⟨fun h => Completes.congr rfl (swapIn_none h), fun k out h ho => Completes.congr rfl (swapIn_some h ho)⟩

end Sys2Proof.Machine
end

section
/-! SUPPORT. Fetch, completion and periodic jobs of a context, case by case (R172, R176 to R180, R201, R242, R243). -/

namespace Sys2Proof.Machine

open Sys2Proof

/-! ### Fetch (R180, R181, R201) -/

/-- The address of a context's next SQ entry. -/
def Dev.sqNext (d : Dev) (v c : Nat) : Nat :=
  d.r (ctxPid v) F.CTX_SQ_LO_BASE c * 64 + d.r (ctxPid v) F.CTX_SQ_HI_BASE c * 2 ^ 32 +
    64 * d.r (ctxPid v) F.CTX_SQ_HEAD_INDEX c

/-- The device that has a context as the one its VI was served last. -/
def Dev.fetchTurn (d : Dev) (v c : Nat) : Dev :=
  { d with hst := { d.hst with lastFetch := tabPut d.hst.lastFetch 63 v c } }

section Fetch

variable {d n : Dev} {v c : Nat} {st : Option Nat} {e : List Nat}

theorem sqFetch_other (h : d.fetchNext v ≠ some c) : d.sqFetch v c = d := if_neg h

variable (h : d.fetchNext v = some c)
  (hr : (d.fetchTurn v c).vmRead v ((d.fetchTurn v c).gen v) ((d.fetchTurn v c).r (ctxPid v) F.CTX_CTRL_ASPACE c) c
    (d.sqNext v c) 64 = (n, st, e))

include h hr

/-- The context whose turn it is: the entry as it was read decides. -/
theorem sqFetch_turn : d.sqFetch v c =
    if st.isSome then n.ctxError v c 2
    else
      let head := (d.r (ctxPid v) F.CTX_SQ_HEAD_INDEX c + 1) % n.sqSize v c
      let m := n.w (ctxPid v) F.CTX_SQ_HEAD_INDEX head c
      m.launch v c (le e 4 4) head e none (!entryOk v (m.r (ctxPid v) F.CTX_CTRL_ENGINE c) e) (le e 40 1) := by
  unfold Dev.sqNext at hr
  rw [Nat.mul_comm _ (2 ^ 32)] at hr
  unfold Dev.sqFetch
  rw [if_pos h]
  dsimp only
  unfold Dev.fetchTurn at hr
  rw [hr]

theorem sqFetch_failed (hs : st ≠ none) : d.sqFetch v c = n.ctxError v c 2 :=
  (sqFetch_turn h hr).trans (if_pos (Option.isSome_iff_ne_none.mpr hs))

theorem sqFetch_read (hs : st = none) :
    let head := (d.r (ctxPid v) F.CTX_SQ_HEAD_INDEX c + 1) % n.sqSize v c
    let m := n.w (ctxPid v) F.CTX_SQ_HEAD_INDEX head c
    d.sqFetch v c = m.launch v c (le e 4 4) head e none (!entryOk v (m.r (ctxPid v) F.CTX_CTRL_ENGINE c) e) (le e 40 1) :=
  (sqFetch_turn h hr).trans (if_neg (by simp [hs]))

end Fetch

/-! ### Completion (R172, R178, R180, R242) -/

/-- The commands of a context in flight that were fetched in a generation. -/
def Dev.flown (d : Dev) (v c gen : Nat) : List Cmd := d.rend.cmds.filter (fun x => x.vi == v && x.ctx == c && x.gen == gen)

theorem gen_of_flown {d : Dev} {v c gen : Nat} {x : Cmd} {rest : List Cmd} (h : d.flown v c gen = x :: rest) : x.gen = gen := by
  have member : x ∈ d.flown v c gen := h ▸ List.mem_cons_self
  have mine := (List.mem_filter.mp member).2
  simp only [Bool.and_eq_true, beq_iff_eq] at mine
  exact mine.2

/-- A completed command's entry, fence and period, and what a host error adds. -/
def Dev.cmdPaid (d : Dev) (v : Nat) (x : Cmd) (st : Nat) : Dev :=
  let d := (d.cqWrite x st).1
  let d := match x.fence.bind fencePlace with
    | some (pid, i) => d.paySignal x.uid pid i (fenceStatus st)
    | none => d
  let d := match x.period with
    | some e => d.perFinish e (fenceStatus st)
    | none => d
  if st = 3 then d.addSat (viPage v 0) F.VIC_DMAERR_COUNT else d

/-- Its interrupt, once the entry is written. -/
def Dev.cmdTold (d : Dev) (v c : Nat) (written : Bool) : Dev :=
  if d.on (ctxPid v) F.CTX_CTRL_CQ_IRQ c = true ∧ written = true then d.evtCq v c else d

section Complete

variable {d : Dev} {v c gen : Nat} {x : Cmd} {rest : List Cmd}

theorem cmdComplete_none (h : d.flown v c gen = []) : d.cmdComplete v c gen = d := by
  unfold Dev.flown at h
  unfold Dev.cmdComplete
  rw [h]
  rfl

variable (h : d.flown v c gen = x :: rest)

include h

theorem cmdComplete_undecided (hs : x.status = none ∨ 0 < x.running) : d.cmdComplete v c gen = d := by
  unfold Dev.flown at h
  unfold Dev.cmdComplete
  rw [h]
  dsimp only [List.head?]
  split
  · rfl
  next st hst => exact if_pos (hs.resolve_left (by simp [hst]))

theorem cmdComplete_stale {st : Nat} (hs : x.status = some st) (hr : x.running = 0) (hg : gen ≠ d.gen v) :
    d.cmdComplete v c gen =
      ((d.dropCmd x.uid).add (vihPid v) F.VIH_STALE_COUNT).add (hpPid (d.viPort v)) F.HP_STALE_COUNT := by
  have former : x.gen ≠ d.gen v := gen_of_flown h ▸ hg
  unfold Dev.flown at h
  unfold Dev.cmdComplete
  rw [h]
  dsimp only [List.head?]
  rw [hs]
  exact (if_neg (by omega)).trans (if_pos (by simpa using former))

theorem cmdComplete_done {st : Nat} (hs : x.status = some st) (hr : x.running = 0) (hg : gen = d.gen v) :
    let n := (d.cmdPaid v x st).cmdTold v c (d.cqWrite x st).2
    d.cmdComplete v c gen = ((((n.dropCmd x.uid).ctxDrained v c).ctxShow v c).quiesced v).settleWaits := by
  have present : x.gen = d.gen v := (gen_of_flown h).trans hg
  unfold Dev.flown at h
  unfold Dev.cmdComplete
  rw [h]
  dsimp only [List.head?]
  rw [hs]
  refine (if_neg (by omega)).trans ((if_neg (by simp [present])).trans ?_)
  unfold Dev.cmdTold
  simp only [← Bool.and_eq_true]
  rfl

end Complete

/-! ### Periodic jobs (R243) -/

section Job

variable (d : Dev) (e : Nat)

/-- The VI, the job slot and the context of a period entry's job. -/
def Dev.jobVi : Nat := d.r (perPage e) F.PE_CTRL_OWNER (e % 64)
def Dev.jobSlot : Nat := d.r (perPage e) F.PE_TARGET_HANDLE (e % 64)
def Dev.jobCtx : Nat := d.a (viPage (d.jobVi e) 4) F.RQ_JOB_CFG_CTX (d.jobSlot e)

/-- The entry's release waits, and its context can take the job. -/
def Dev.jobAsks : Prop :=
  d.rend.releases.contains e = true ∧ (d.ctxState (d.jobVi e) (d.jobCtx e) = 1 ∨ d.ctxState (d.jobVi e) (d.jobCtx e) = 2) ∧
    d.ctxRoom (d.jobVi e) (d.jobCtx e) = true ∧ d.viActive (d.jobVi e) = true

/-- The release is taken. -/
def Dev.jobTaken : Dev := { d with rend := { d.rend with releases := d.rend.releases.erase e } }

/-- The address of the job's record. -/
def Dev.jobAddr : Nat :=
  d.a (viPage (d.jobVi e) 4) F.RQ_JOB_LO_ADDR (d.jobSlot e) * 64 +
    d.a (viPage (d.jobVi e) 4) F.RQ_JOB_HI_ADDR (d.jobSlot e) * 2 ^ 32

/-- The read of the job's record at an address. -/
def Dev.jobRead (a : Nat) : Dev × Option Nat × List Nat :=
  let m := d.jobTaken e
  m.vmRead (d.jobVi e) (m.gen (d.jobVi e)) (m.ctxAsp (d.jobVi e) (d.jobCtx e)) (d.jobCtx e) a 64

/-- The record as the job's slot takes it. -/
def Dev.jobRecord (n : Dev) (q j : Nat) (bs : List Nat) : List Nat :=
  if 1 ≤ n.a q F.RQ_JOB_CFG_SLICE_MS j ∧ n.a q F.RQ_JOB_CFG_SLICE_MS j ≤ 16
  then slotRecord bs (n.a q F.RQ_JOB_CFG_SLICE_MS j) else bs

/-- The record was read, and is a valid job of the entry's kind. -/
def Dev.jobOk (n : Dev) (st : Option Nat) (bs : List Nat) : Bool :=
  st.isNone && decide (d.jobSlot e < 16) && n.a (viPage (d.jobVi e) 4) F.RQ_JOB_CFG_VALID (d.jobSlot e) == 1 &&
    le bs 0 2 == d.r (perPage e) F.PE_CTRL_KIND (e % 64) + 1 &&
    entryOk (d.jobVi e) (n.r (ctxPid (d.jobVi e)) F.CTX_CTRL_ENGINE (d.jobCtx e))
      (n.jobRecord (viPage (d.jobVi e) 4) (d.jobSlot e) bs)

theorem jobOk_iff {n : Dev} {st : Option Nat} {bs : List Nat} : d.jobOk e n st bs = true ↔
    st = none ∧ d.jobSlot e < 16 ∧ n.a (viPage (d.jobVi e) 4) F.RQ_JOB_CFG_VALID (d.jobSlot e) = 1 ∧
      le bs 0 2 = d.r (perPage e) F.PE_CTRL_KIND (e % 64) + 1 ∧
      entryOk (d.jobVi e) (n.r (ctxPid (d.jobVi e)) F.CTX_CTRL_ENGINE (d.jobCtx e))
        (n.jobRecord (viPage (d.jobVi e) 4) (d.jobSlot e) bs) = true := by
  simp only [Dev.jobOk, Bool.and_eq_true, Option.isNone_iff_eq_none, decide_eq_true_eq, beq_iff_eq, and_assoc]

/-- The job is taken into flight. -/
def Dev.jobLaunched (n : Dev) (bs : List Nat) (bad : Bool) : Dev :=
  let q := viPage (d.jobVi e) 4
  n.launch (d.jobVi e) (d.jobCtx e) (n.a q F.RQ_JOB_ID_CMD_ID (d.jobSlot e))
    (n.r (ctxPid (d.jobVi e)) F.CTX_SQ_HEAD_INDEX (d.jobCtx e)) (n.jobRecord q (d.jobSlot e) bs) (some e) bad
    (n.a q F.RQ_JOB_CFG_SLICE_MS (d.jobSlot e))

/-- A job is the context's next command, behind the one that runs. -/
def jobQueue (before : List Cmd) (v c : Nat) (x : Cmd) (st : Option Nat) : List Cmd :=
  let run := before.takeWhile (fun y => !(y.vi == v && y.ctx == c) || y.started)
  run ++ [{ x with status := if st.isSome then st else x.status }] ++ before.drop run.length

/-- What the read of the record comes to. -/
def Dev.jobInsert (n : Dev) (st : Option Nat) (bs : List Nat) : Dev :=
  let w := d.jobLaunched e n bs (!d.jobOk e n st bs)
  match w.cmdOf n.rend.nextUid with
  | none => w
  | some x => { w with rend := { w.rend with cmds := jobQueue n.rend.cmds (d.jobVi e) (d.jobCtx e) x st } }

end Job

section Insert

variable {d : Dev} {e : Nat}

theorem jobAsks_iff : d.jobAsks e ↔ d.rend.releases.contains e = true ∧
    ([1, 2].contains (d.ctxState (d.jobVi e) (d.jobCtx e)) && d.ctxRoom (d.jobVi e) (d.jobCtx e) &&
      d.viActive (d.jobVi e)) = true := by
  simp only [Dev.jobAsks, Bool.and_eq_true, List.contains_cons, List.contains_nil, Bool.or_eq_true, beq_iff_eq,
    Bool.false_eq_true, or_false, and_assoc]

theorem insertJob_idle (h : ¬d.jobAsks e) : d.insertJob e = d := by
  rw [jobAsks_iff, Classical.not_and_iff_not_or_not, Bool.not_eq_true, Bool.not_eq_true] at h
  unfold Dev.insertJob
  obtain waits | takes := h
  · exact if_pos (congrArg not waits)
  · exact ite_eq_left_iff.mpr (fun _ => if_pos (congrArg not takes))

section Asked

variable (h : d.jobAsks e)

include h

theorem insertJob_absent (hr : d.hst.resident.contains (ctxKey (d.jobVi e) (d.jobCtx e)) = false) :
    d.insertJob e = d.needRes (d.jobVi e) (d.jobCtx e) := by
  obtain ⟨waits, takes⟩ := jobAsks_iff.mp h
  exact (if_neg (Bool.eq_false_iff.mp (congrArg not waits))).trans
    ((if_neg (Bool.eq_false_iff.mp (congrArg not takes))).trans (if_pos (congrArg not hr)))

theorem insertJob_resident (hr : d.hst.resident.contains (ctxKey (d.jobVi e) (d.jobCtx e)) = true) {n : Dev} {st : Option Nat}
    {bs : List Nat} (hn : d.jobRead e (d.jobAddr e) = (n, st, bs)) : d.insertJob e = d.jobInsert e n st bs := by
  obtain ⟨waits, takes⟩ := jobAsks_iff.mp h
  have place : d.a (viPage (d.jobVi e) 4) F.RQ_JOB_LO_ADDR (d.jobSlot e) * 64 +
      2 ^ 32 * d.a (viPage (d.jobVi e) 4) F.RQ_JOB_HI_ADDR (d.jobSlot e) = d.jobAddr e := congrArg _ (Nat.mul_comm _ _)
  rw [← place] at hn
  refine (if_neg (Bool.eq_false_iff.mp (congrArg not waits))).trans
    ((if_neg (Bool.eq_false_iff.mp (congrArg not takes))).trans ((if_neg (Bool.eq_false_iff.mp (congrArg not hr))).trans ?_))
  extract_lets m a
  split
  next n' st' bs' hm =>
    cases hm.symm.trans hn
    rfl

end Asked

theorem jobInsert_queued {n : Dev} {st : Option Nat} {bs : List Nat} {ok : Bool} (hk : d.jobOk e n st bs = ok) {x : Cmd}
    (hx : (d.jobLaunched e n bs (!ok)).cmdOf n.rend.nextUid = some x) :
    let w := d.jobLaunched e n bs (!ok)
    d.jobInsert e n st bs =
      { w with rend := { w.rend with cmds := jobQueue n.rend.cmds (d.jobVi e) (d.jobCtx e) x st } } := by
  subst hk
  unfold Dev.jobInsert
  extract_lets w
  rw [hx]

end Insert

/-- Settles O34: a fetch by what its read answers, a completion by the command's status, items and generation, a job by what
its context can take. -/
theorem commandFlowCompletes : Obligations.CommandFlowCompletes := by
  refine ⟨?_, ?_, ?_⟩
  · intro s v c p h f
    refine ⟨fun hn => Completes.congr rfl (sqFetch_other hn), fun n st e hf hr => ?_⟩
    exact ⟨fun hs => Completes.congr rfl (sqFetch_failed hf hr hs), fun hs => Completes.congr rfl (sqFetch_read hf hr hs)⟩
  · intro s v c g mine
    refine ⟨fun h => Completes.congr rfl (cmdComplete_none h), fun x rest h => ⟨fun hs => ?_, fun st hs hr hg => ?_,
      fun st hs hr hg => ?_⟩⟩
    · exact Completes.congr rfl (cmdComplete_undecided h hs)
    · exact Completes.congr rfl (cmdComplete_stale h hs hr hg)
    · exact Completes.congr rfl (cmdComplete_done h hs hr hg)
  · intro s e v j q c asks
    refine ⟨fun h => Completes.congr rfl (insertJob_idle h), fun h hr => Completes.congr rfl (insertJob_absent h hr), ?_⟩
    intro n st bs h hr m hn record good w run x hx
    have ok : s.dev.jobOk e n st bs = decide good := Bool.eq_iff_iff.mpr ((jobOk_iff _ _).trans decide_eq_true_iff.symm)
    exact Completes.congr rfl ((insertJob_resident h hr hn).trans (jobInsert_queued ok hx))

end Sys2Proof.Machine
end

section
/-! SUPPORT. Accesses of a VI and the walks that they wait for, case by case (R172, R184, R186 to R191, R193). -/

namespace Sys2Proof.Machine

open Sys2Proof

/-! ### Accesses (R172, R186, R189) -/

/-- A stale access has no effect, and reads zeros. -/
def Dev.staleEnd (d : Dev) (k : Walk) : Dev := if k.write then d else d.emit (.data (List.replicate k.data.length 0))

section Access

variable {d : Dev} {k : Walk}

theorem access_stale (h : k.gen ≠ d.gen k.vi) : d.access k = d.staleEnd k := if_pos (by simpa using h)

variable (h : k.gen = d.gen k.vi)

include h

theorem access_beyond (ha : 2 ^ 48 ≤ k.addr) :
    d.access k = (d.xlatFault k.vi k.asp k.ctx k.addr k.write 6 1 0).accessFails k 2 :=
  (if_neg (by simp [h])).trans (if_pos ha)

theorem access_within (ha : k.addr < 2 ^ 48) : d.access k = match d.tlbFind k.vi k.asp k.addr with
    | none => { d with hst := { d.hst with walks := d.hst.walks ++ [k] } }
    | some e => d.accessBy k e :=
  (if_neg (by simp [h])).trans (if_neg (Nat.not_le.mpr ha))

theorem access_miss (ha : k.addr < 2 ^ 48) (ht : d.tlbFind k.vi k.asp k.addr = none) :
    d.access k = { d with hst := { d.hst with walks := d.hst.walks ++ [k] } } := by
  rw [access_within h ha, ht]

theorem access_hit (ha : k.addr < 2 ^ 48) {e : TlbEntry} (ht : d.tlbFind k.vi k.asp k.addr = some e) :
    d.access k = d.accessBy k e := by
  rw [access_within h ha, ht]

end Access

/-! ### Through an entry (R186, R191, R193) -/

section Entry

variable {d : Dev} {k : Walk} {e : TlbEntry}

theorem useEntry_read (hw : k.write = false) (hp : (e.r1 && e.r2) = true) :
    d.useEntry k.vi k.ctx k.addr k.write e = (d.tlbTouch e e, some (e.tgt, e.out + k.addr % 2 ^ e.size)) := by
  rw [hw]
  exact if_pos hp

/-- The device once a write through an entry has been noted in the dirty log. -/
def Dev.writeNoted (d : Dev) (v : Nat) (e : TlbEntry) : Dev :=
  if d.on (vihPid v) F.VIH_DL_STAT_ACTIVE = true ∧ e.logged = false then
    (d.dlAppend v e.gpa).tlbTouch e { e with logged := true }
  else d.tlbTouch e e

theorem useEntry_write (hw : k.write = true) (hp : (e.w1 && e.w2) = true) :
    d.useEntry k.vi k.ctx k.addr k.write e = (d.writeNoted k.vi e, some (e.tgt, e.out + k.addr % 2 ^ e.size)) := by
  rw [hw]
  refine (if_pos hp).trans ?_
  unfold Dev.writeNoted Dev.dlNote
  simp only [if_true, Bool.and_eq_true, Bool.not_eq_true']
  split <;> rfl

theorem useEntry_denied (hp : (if k.write then e.w1 && e.w2 else e.r1 && e.r2) = false) :
    d.useEntry k.vi k.ctx k.addr k.write e =
      (d.xlatFault k.vi e.asp k.ctx k.addr k.write 2 (if (if k.write then e.w1 else e.r1) then 2 else 1)
        (e.gpa + k.addr % 2 ^ e.size), none) :=
  if_neg (Bool.eq_false_iff.mp hp)

theorem accessBy_read (hw : k.write = false) (hp : (e.r1 && e.r2) = true) :
    let r := (d.tlbTouch e e).placeRd 0 k.vi e.tgt (e.out + k.addr % 2 ^ e.size) k.data.length
    d.accessBy k e = if r.2.2 then r.1.emit (.data r.2.1) else r.1.accessFails k 3 := by
  unfold Dev.accessBy
  rw [useEntry_read hw hp, hw]
  rfl

theorem accessBy_write (hw : k.write = true) (hp : (e.w1 && e.w2) = true) :
    let r := (d.writeNoted k.vi e).placeWr 0 k.vi e.tgt (e.out + k.addr % 2 ^ e.size) k.data
    d.accessBy k e = if r.2 then r.1 else r.1.accessFails k 3 := by
  unfold Dev.accessBy
  rw [useEntry_write hw hp, hw]
  rfl

theorem accessBy_denied (hp : (if k.write then e.w1 && e.w2 else e.r1 && e.r2) = false) :
    d.accessBy k e = (d.xlatFault k.vi e.asp k.ctx k.addr k.write 2 (if (if k.write then e.w1 else e.r1) then 2 else 1)
      (e.gpa + k.addr % 2 ^ e.size)).accessFails k 2 := by
  unfold Dev.accessBy
  rw [useEntry_denied hp]

end Entry

/-! ### Walks (R184, R187, R190) -/

/-- A walk of both stages answers an entry or a fault. -/
theorem walkBoth_ne_leaf (d m : Dev) (v asp a out size tgt : Nat) (r w : Bool) :
    d.walkBoth v asp a ≠ (m, .inr (.leaf out size r w tgt)) := by
  unfold Dev.walkBoth
  split
  · exact nofun
  · split <;> exact nofun

/-- A walk leaves those in flight, and its VI is the one served last. -/
def Dev.walkTaken (d : Dev) (k : Walk) : Dev :=
  { d with hst := { d.hst with walks := d.hst.walks.erase k, lastWalk := k.vi } }

/-- The table read of the next walk that is to end in an error. -/
def Dev.withFailRead (d : Dev) (fails : Option Nat) : Dev := { d with hst := { d.hst with failRead := fails } }

/-- What a walk has found: an entry to fill, through which its access is performed, or a fault. -/
def Dev.walkFound (d : Dev) (k : Walk) : TlbEntry ⊕ WalkRes → Dev
  | .inl e => (d.tlbFill e).accessBy k e
  | .inr (.bad kind st gpa) => (d.xlatFault k.vi k.asp k.ctx k.addr k.write kind st gpa).accessFails k 2
  | .inr (.leaf ..) => d

theorem walkEnd_none {d : Dev} {fails : Option Nat} (h : d.nextWalk = none) : d.walkEnd fails = d := by
  unfold Dev.walkEnd
  rw [h]

section Walk

variable {d : Dev} {k : Walk} {fails : Option Nat} (h : d.nextWalk = some k)

include h

theorem walkEnd_stale (hg : k.gen ≠ d.gen k.vi) : d.walkEnd fails = (d.walkTaken k).staleEnd k := by
  have stale : (k.gen == d.gen k.vi) = false := beq_eq_false_iff_ne.mpr hg
  unfold Dev.walkEnd
  rw [h]
  exact if_pos (congrArg not stale)

theorem walkEnd_present (hg : k.gen = d.gen k.vi) {m : Dev} {r : TlbEntry ⊕ WalkRes}
    (hm : ((d.walkTaken k).withFailRead fails).walkBoth k.vi k.asp k.addr = (m, r)) :
    d.walkEnd fails = (m.withFailRead none).walkFound k r := by
  have present : (k.gen == d.gen k.vi) = true := beq_iff_eq.mpr hg
  unfold Dev.walkEnd
  rw [h]
  refine (if_neg (Bool.eq_false_iff.mp (congrArg not present))).trans ?_
  split
  next m' r' hm' =>
    cases hm'.symm.trans hm
    rfl

end Walk

/-- Settles O35: an access by its generation, its address and what the TLB has of it, a walk by its generation and what it
finds. -/
theorem translationCompletes : Obligations.TranslationCompletes := by
  refine ⟨?_, ?_, ?_, walkBoth_ne_leaf⟩
  · intro s v g c asp cmd a write bs k acc
    have access : Completes acc s (s.dev.access k) := rfl
    exact ⟨fun h => access.congr (access_stale h), fun h ha => access.congr (access_beyond h ha),
      fun h ha ht => access.congr (access_miss h ha ht), fun e h ha ht => access.congr (access_hit h ha ht)⟩
  · intro d k e place first
    exact ⟨accessBy_read, accessBy_write, accessBy_denied, fun st => rfl⟩
  · intro s fails
    refine ⟨fun h => Completes.congr rfl (walkEnd_none h), fun k h => ?_⟩
    refine ⟨fun hg => Completes.congr rfl (walkEnd_stale h hg), fun m r hg hm => ?_⟩
    have found : Completes (.tableWalkComplete fails) s ((m.withFailRead none).walkFound k r) :=
      Completes.congr rfl (walkEnd_present h hg hm)
    exact ⟨fun e hr => found.congr (congrArg _ hr), fun kind st gpa hr => found.congr (congrArg _ hr)⟩

end Sys2Proof.Machine
end

section
/-! SUPPORT. Invalidations and the dirty-page log, case by case (R192 to R194). -/

namespace Sys2Proof.Machine

open Sys2Proof

/-! ### Entries that fall to an invalidation (R192) -/

theorem overlaps_iff {a n b m : Nat} : overlaps a n b m = true ↔ a < b + m ∧ b < a + n := by
  simp only [overlaps, Bool.and_eq_true, decide_eq_true_eq]

theorem inS1_iff {v : Nat} {i : Inval} {e : TlbEntry} : e.inS1 v i = true ↔
    e.vi = v ∧ (i.scope = 2 ∨ (e.asp = i.asp ∧ (i.scope = 1 ∨
      (e.base * 2 ^ e.size < i.first * 4096 + i.pages * 4096 ∧ i.first * 4096 < e.base * 2 ^ e.size + 2 ^ e.size)))) := by
  simp only [TlbEntry.inS1, Bool.and_eq_true, Bool.or_eq_true, beq_iff_eq, overlaps_iff, Nat.mul_comm 4096]

theorem inS2_iff {v : Nat} {i : Inval} {e : TlbEntry} : e.inS2 v i = true ↔
    e.vi = v ∧ (i.scope = 1 ∨
      (e.gpa < i.first * 4096 + i.pages * 4096 ∧ i.first * 4096 < e.gpa + 2 ^ e.size)) := by
  simp only [TlbEntry.inS2, Bool.and_eq_true, Bool.or_eq_true, beq_iff_eq, overlaps_iff, Nat.mul_comm 4096]

theorem hst_mapDrop (d : Dev) (sel : TlbEntry → Bool) : (d.mapDrop sel).hst = d.hst := by
  refine List.foldlRecOn _ _ (motive := fun n : Dev => n.hst = d.hst) rfl (fun n h p _ => ?_)
  refine Eq.trans ?_ h
  dsimp only
  split <;> split <;> rfl

/-- Of the TLB those entries are left that do not fall to the invalidation. -/
theorem tlb_xlatDrop (d : Dev) (sel : TlbEntry → Bool) : (d.xlatDrop sel).hst.tlb = d.hst.tlb.filter (fun e => !sel e) :=
  congrArg HostSt.tlb (hst_mapDrop _ _)

/-! ### GO (R192) -/

/-- The range of an invalidation, fixed at GO; a count of 0 is the whole range of the field. -/
def goRange (scope asp lo hi pages : Nat) : Inval :=
  { scope := scope, asp := asp, first := lo + hi * 2 ^ 20, pages := if pages = 0 then 65536 else pages }

theorem s2Inval_eq (d : Dev) (v scope pages : Nat) :
    let i := goRange scope 0 (d.r (vihPid v) F.VIH_INV_LO_ADDR) (d.r (vihPid v) F.VIH_INV_HI_ADDR) pages
    d.s2Inval v scope pages =
      ((d.setVi v { d.vi v with inv2 := some i }).w (vihPid v) F.VIH_INV_STAT_BUSY 1).xlatDrop (fun e => e.inS2 v i) := by
  unfold Dev.s2Inval goRange
  simp only [Nat.mul_comm (2 ^ 20)]

theorem s1Inval_eq (d : Dev) (v scope asp pages : Nat) :
    let q := viPage v 0xB
    let i := goRange scope asp (d.r q F.S1_INV_LO_ADDR) (d.r q F.S1_INV_HI_ADDR) pages
    d.s1Inval v scope asp pages =
      ((d.setVi v { d.vi v with inv1 := some i }).w q F.S1_INV_STAT_BUSY 1).xlatDrop (fun e => e.inS1 v i) := by
  unfold Dev.s1Inval goRange
  simp only [Nat.mul_comm (2 ^ 20)]

theorem put_s2Go {d : Dev} {ag : Agent} {v : Fin 64} {x : Word}
    (h : d.accepts ag (vihPid v) 0x058 (withBit x 0) = true) :
    d.put ag (vihPid v) 0x058 (withBit x 0) =
      (d.after ag (vihPid v) 0x058 (withBit x 0)).s2Inval v (bits (withBit x 0) 1 1) (bits (withBit x 0) 16 16) :=
  (put_viHost v h (by decide) (by decide)).trans (if_pos ⟨rfl, bit_withBit x 0⟩)

theorem put_s1Go {d : Dev} {v : Fin 64} {x : Word} (h : d.accepts (.vi v) 11 0x0C8 (withBit x 0) = true) :
    d.put (.vi v) 11 0x0C8 (withBit x 0) = (d.after (.vi v) 11 0x0C8 (withBit x 0)).s1Inval v (bits (withBit x 0) 1 2)
      (bits (withBit x 0) 4 4) (bits (withBit x 0) 16 16) :=
  (put_vi h (by decide) (by decide) rfl rfl).trans
    ((effect_tenancy (.inr (.inr (.inr (.inr rfl)))) (by decide)).trans (if_pos ⟨rfl, bit_withBit x 0⟩))

/-! ### The dirty log (R193, R194) -/

/-- What a write of `VIH_DL_CTRL` starts: the change of EN, and CLEAR. -/
def Dev.dlWritten (d b : Dev) (v w : Nat) : Dev :=
  let d := if b.rises (vihPid v) w F.VIH_DL_CTRL_EN = true then d.dlEnable v
    else if b.falls (vihPid v) w F.VIH_DL_CTRL_EN = true then d.dlDisable v else d
  if bit w 16 then d.dlClear v else d

theorem put_dlCtrl {d : Dev} {ag : Agent} {v : Fin 64} {w : Nat} (h : d.accepts ag (vihPid v) 0x068 w = true) :
    d.put ag (vihPid v) 0x068 w = (d.after ag (vihPid v) 0x068 w).dlWritten d v w :=
  put_viHost v h (by decide) (by decide)

theorem dlWritten_set (d b : Dev) (v : Nat) (x : Word) : d.dlWritten b v (withBit x 0) =
    let n := if b.rises (vihPid v) (withBit x 0) F.VIH_DL_CTRL_EN = true then d.dlEnable v else d
    if bit (withBit x 0) 16 then n.dlClear v else n := by
  unfold Dev.dlWritten
  rw [falls_of_withBit (f := F.VIH_DL_CTRL_EN) (b := 0) rfl rfl]
  rfl

theorem dlWritten_clear (d b : Dev) (v : Nat) (x : Word) : d.dlWritten b v (withoutBit x 0) =
    let n := if b.falls (vihPid v) (withoutBit x 0) F.VIH_DL_CTRL_EN = true then d.dlDisable v else d
    if bit (withoutBit x 0) 16 then n.dlClear v else n := by
  unfold Dev.dlWritten
  rw [rises_of_withoutBit (f := F.VIH_DL_CTRL_EN) (b := 0) rfl rfl]
  rfl

theorem dlEnable_eq (d : Dev) (v : Nat) : d.dlEnable v = (d.setVi v { d.vi v with
    dlWait := true, dlBase := d.r (vihPid v) F.VIH_DL_LO_BASE * 4096 + d.r (vihPid v) F.VIH_DL_HI_BASE * 2 ^ 32
    dlLog2 := d.r (vihPid v) F.VIH_DL_CTRL_LOG2 }).xlatDrop (fun e => e.vi == v) := by
  unfold Dev.dlEnable
  simp only [Nat.mul_comm 4096, Nat.mul_comm (2 ^ 32)]

/-- CLEAR lets recording go on, and makes every page of the VI loggable. -/
theorem dlClear_shows (d : Dev) (v : Nat) : ((d.dlClear v).vi v).dlHalt = false ∧
    (d.dlClear v).hst.tlb = d.hst.tlb.map (fun e => { e with logged := e.logged && !(e.vi == v) }) := by
  have cleared : (d.dlClear v).vi v = { d.vi v with dlHalt := false } := tabGet_put_same _ _ _ _
  exact ⟨congrArg ViSt.dlHalt cleared, rfl⟩

/-- Settles O36: each GO by its range, each completion by what waits for it, a write of the log's control by the changes
that it makes. -/
theorem invalidationsComplete : Obligations.InvalidationsComplete := by
  refine ⟨?_, ?_, ?_, fun d v i e => ⟨inS1_iff, inS2_iff, tlb_xlatDrop d⟩, ?_,
    fun d v => ⟨dlEnable_eq d v, rfl, dlClear_shows d v⟩⟩
  · intro s ag v x h n i
    exact Completes.congr rfl ((put_s2Go h).trans (s2Inval_eq _ _ _ _))
  · intro s v x h n q i
    exact Completes.congr rfl ((put_s1Go h).trans (s1Inval_eq _ _ _ _ _))
  · intro s v
    exact ⟨rfl, rfl, rfl⟩
  · intro s ag v x on off clr rises falls
    exact ⟨fun h => Completes.congr rfl ((put_dlCtrl h).trans (dlWritten_set _ _ _ _)),
      fun h => Completes.congr rfl ((put_dlCtrl h).trans (dlWritten_clear _ _ _ _)),
      fun h => Completes.congr rfl ((put_dlCtrl h).trans (if_pos (bit_withBit x 16)))⟩

end Sys2Proof.Machine
end

section
/-! SUPPORT. The start of a context's oldest command, and the limits of a job and a WAIT, case by case (R240 to R256, R265
to R267). -/

namespace Sys2Proof.Machine

open Sys2Proof

/-! ### NOP, SIGNAL and WAIT (R240, R263, R265) -/

section Short

variable {d : Dev} {v c : Nat} {x : Cmd}

theorem cmdNop_none (h : d.startable v c 0 = none) : d.cmdNop v c = d := by
  unfold Dev.cmdNop
  rw [h]

theorem cmdNop_starts (h : d.startable v c 0 = some x) :
    d.cmdNop v c = d.setCmd { x with started := true, status := some 0 } := by
  unfold Dev.cmdNop
  rw [h]

theorem cmdSignal_none (h : d.startable v c 4 = none) : d.cmdSignal v c = d := by
  unfold Dev.cmdSignal
  rw [h]

theorem cmdSignal_starts (h : d.startable v c 4 = some x) :
    d.cmdSignal v c = d.setCmd { x with started := true, status := some 0 } := by
  unfold Dev.cmdSignal
  rw [h]

theorem cmdWait_none (h : d.startable v c 3 = none) : d.cmdWait v c = d := by
  unfold Dev.cmdWait
  rw [h]

theorem cmdWait_starts (h : d.startable v c 3 = some x) : d.cmdWait v c = match fencePlace (le x.entry 8 4) with
    | some (pid, i) => (d.setCmd { x with started := true, began := some d.now }).fenceWait x.uid pid i (le x.entry 12 4)
    | none => d := by
  unfold Dev.cmdWait
  rw [h]
  dsimp only
  cases fencePlace (le x.entry 8 4) <;> rfl

end Short

/-! ### RESIDENCY_SYNC (R256) -/

section ResidencySync

variable {d n : Dev} {v c : Nat} {x : Cmd} {st : Option Nat} {bs : List Nat}

theorem cmdResSync_none (h : d.startable v c 5 = none) : d.cmdResSync v c = d := by
  unfold Dev.cmdResSync
  rw [h]

/-- The bytes of a residency map as they are cached in place of those that they cover. -/
def Dev.cacheMap (d : Dev) (v asp a len : Nat) (bs : List Nat) : Dev :=
  { d with rend := { d.rend with resMaps := (v, asp, a, bs) :: d.rend.resMaps.filter (fun m =>
      !(m.1 == v && m.2.1 == asp && decide (a ≤ m.2.2.1) && decide (m.2.2.1 + m.2.2.2.length ≤ a + len))) } }

variable (h : d.startable v c 5 = some x)
  (hr : d.vmRead v x.gen (d.ctxAsp v c) c (le x.entry 8 8) (le x.entry 16 4) = (n, st, bs))

include h hr

theorem cmdResSync_starts : d.cmdResSync v c =
    (if st.isSome then n else n.cacheMap v (d.ctxAsp v c) (le x.entry 8 8) (le x.entry 16 4) bs).setCmd
      { x with started := true, status := some (st.getD 0) } := by
  unfold Dev.cmdResSync
  rw [h]
  dsimp only
  rw [hr]
  rfl

theorem cmdResSync_read (hs : st = none) : d.cmdResSync v c =
    (n.cacheMap v (d.ctxAsp v c) (le x.entry 8 8) (le x.entry 16 4) bs).setCmd
      { x with started := true, status := some 0 } := by
  rw [cmdResSync_starts h hr, hs]
  rfl

theorem cmdResSync_failed {k : Nat} (hs : st = some k) :
    d.cmdResSync v c = n.setCmd { x with started := true, status := some k } := by
  rw [cmdResSync_starts h hr, hs]
  rfl

end ResidencySync

/-! ### COMPUTE (R252, R267) -/

section Compute

variable {d n : Dev} {v c flags : Nat} {x : Cmd} {st : Option Nat} {pass : Bool} {binds : List Nat}

theorem cmdCompute_none (h : d.startable v c 2 = none) : d.cmdCompute v c = d := by
  unfold Dev.cmdCompute
  rw [h]

/-- The job of a COMPUTE whose container passes. -/
def Cmd.slices (x : Cmd) (binds : List Nat) : Job :=
  { binds := binds, total := ceilDiv (groupsOf x.entry) (le x.entry 36 4), sliceMs := (x.job.map (·.sliceMs)).getD 16 }

variable (h : d.startable v c 2 = some x)
  (hc : d.container v x.gen (d.ctxAsp v c) c 2 (le x.entry 8 8) = (n, st, pass, binds, flags))

include h hc

/-- The check of its container decides. -/
theorem cmdCompute_starts : d.cmdCompute v c =
    if st.isSome then n.setCmd { x with started := true, status := st }
    else if !pass then n.setCmd { x with started := true, status := some 20 }
    else n.setCmd { x with started := true, job := some (x.slices binds) } := by
  unfold Dev.cmdCompute Cmd.slices
  rw [h]
  dsimp only
  rw [hc]
  cases x.job <;> rfl

theorem cmdCompute_failed (hs : st ≠ none) : d.cmdCompute v c = n.setCmd { x with started := true, status := st } :=
  (cmdCompute_starts h hc).trans (if_pos (Option.isSome_iff_ne_none.mpr hs))

theorem cmdCompute_refused (hs : st = none) (hp : pass = false) :
    d.cmdCompute v c = n.setCmd { x with started := true, status := some 20 } := by
  rw [cmdCompute_starts h hc, hs, hp]
  rfl

theorem cmdCompute_split (hs : st = none) (hp : pass = true) :
    d.cmdCompute v c = n.setCmd { x with started := true, job := some (x.slices binds) } := by
  rw [cmdCompute_starts h hc, hs, hp]
  rfl

end Compute

/-! ### RENDER (R244 to R252, R260): one lemma for each check, in the order of the checks -/

theorem cmdRender_none {d : Dev} {v c : Nat} (h : d.startable v c 1 = none) : d.cmdRender v c = d := by
  unfold Dev.cmdRender
  rw [h]

section Render

variable (d : Dev) (v asp c : Nat) (x : Cmd) (j : List Nat)

/-- The job is a period's first after a drop, which runs with signatures unused (R31). -/
def Dev.noSigs : Bool := match x.period with
  | some e => (tabGet d.per {} e).noSig
  | none => false

theorem noSigs_eq_any : d.noSigs x = x.period.any (fun e => (tabGet d.per {} e).noSig) := by
  unfold Dev.noSigs
  cases x.period <;> rfl

/-- The read of the signature headers of a job, and the write of their VALID. -/
def Dev.sigHeaders : Dev × List Bool × Option Nat :=
  d.sigStart v x.gen asp c j (d.noSigs x) (upFrom 0 (jobColors j))

/-- A RENDER whose draws are checked: its signature headers are next. -/
def Dev.renderSigned (draws : List Draw) : Dev :=
  let r := d.sigHeaders v asp c x j
  if r.2.2.isSome then r.1.setCmd { x with status := r.2.2 }
  else r.1.setCmd { x with job := some { desc := j, sigUse := r.2.1, draws := draws } }

/-- A RENDER whose draw records have been gone through. -/
def Dev.renderDrawn (draws : DrawSet) : Dev :=
  let n := d.add (viPage v 4) F.RQ_SKIPREC_COUNT draws.skipped
  if draws.st.isSome then n.setCmd { x with status := draws.st } else n.renderSigned v asp c x j draws.draws

/-- The records of `n` draws, of 64 bytes each. -/
def recordsIn (n : Nat) (bs : List Nat) : List (List Nat) := (upFrom 0 n).map (fun k => (bs.drop (64 * k)).take 64)

/-- A RENDER whose descriptor is good: its draw records are next. -/
def Dev.renderRecords : Dev :=
  let r := d.vmRead v x.gen asp c (le j 16 8) (64 * le j 24 4)
  let s := if r.2.1.isNone then r.1.checkDraws v x.gen asp c j (recordsIn (le j 24 4) r.2.2) else (r.1, { st := r.2.1 })
  s.1.renderDrawn v asp c x j s.2

variable {d v asp c x j}

section Signed

variable {q : Dev} {use : List Bool} {st : Option Nat} {draws : List Draw} (hq : d.sigHeaders v asp c x j = (q, use, st))

include hq

theorem renderSigned_failed (hs : st ≠ none) : d.renderSigned v asp c x j draws = q.setCmd { x with status := st } := by
  unfold Dev.renderSigned
  rw [hq]
  exact if_pos (Option.isSome_iff_ne_none.mpr hs)

theorem renderSigned_begins (hs : st = none) :
    d.renderSigned v asp c x j draws = q.setCmd { x with job := some { desc := j, sigUse := use, draws := draws } } := by
  unfold Dev.renderSigned
  rw [hq, hs]
  rfl

end Signed

section Drawn

variable {draws : DrawSet}

theorem renderDrawn_failed (hs : draws.st ≠ none) : d.renderDrawn v asp c x j draws =
    (d.add (viPage v 4) F.RQ_SKIPREC_COUNT draws.skipped).setCmd { x with status := draws.st } :=
  if_pos (Option.isSome_iff_ne_none.mpr hs)

theorem renderDrawn_passes (hs : draws.st = none) : d.renderDrawn v asp c x j draws =
    (d.add (viPage v 4) F.RQ_SKIPREC_COUNT draws.skipped).renderSigned v asp c x j draws.draws :=
  if_neg (by simp [hs])

end Drawn

section Records

variable {m : Dev} {st : Option Nat} {bs : List Nat}
  (hm : d.vmRead v x.gen asp c (le j 16 8) (64 * le j 24 4) = (m, st, bs))

include hm

theorem renderRecords_failed (hs : st ≠ none) : d.renderRecords v asp c x j =
    (m.add (viPage v 4) F.RQ_SKIPREC_COUNT 0).setCmd { x with status := st } := by
  unfold Dev.renderRecords
  rw [hm]
  dsimp only
  rw [if_neg (by simpa using hs)]
  exact renderDrawn_failed hs

theorem renderRecords_checked (hs : st = none) {k : Dev} {draws : DrawSet}
    (hk : m.checkDraws v x.gen asp c j (recordsIn (le j 24 4) bs) = (k, draws)) :
    d.renderRecords v asp c x j = k.renderDrawn v asp c x j draws := by
  unfold Dev.renderRecords
  rw [hm]
  dsimp only
  rw [if_pos (by simp [hs]), hk]

end Records

section Descriptor

variable {n : Dev} {st : Option Nat} {bs : List Nat} (h : d.startable v c 1 = some x)
  (hn : d.vmRead v x.gen (d.ctxAsp v c) c (le x.entry 8 8) 256 = (n, st, bs))

/-- A RENDER that has begun. -/
def Cmd.begunAt (x : Cmd) (t : Nat) : Cmd := { x with started := true, began := some t }

include h hn

theorem cmdRender_starts : let j := periodDesc x.period bs
    d.cmdRender v c =
      if st.isSome then n.setCmd { x.begunAt n.now with status := st }
      else if !descOk v j then n.setCmd { x.begunAt n.now with status := some 4 }
      else n.renderRecords v (d.ctxAsp v c) c (x.begunAt n.now) j := by
  intro j
  unfold Dev.cmdRender
  rw [h]
  dsimp only
  rw [hn]
  rfl

theorem cmdRender_unread (hs : st ≠ none) : d.cmdRender v c = n.setCmd { x.begunAt n.now with status := st } :=
  (cmdRender_starts h hn).trans (if_pos (Option.isSome_iff_ne_none.mpr hs))

theorem cmdRender_malformed (hs : st = none) (hj : descOk v (periodDesc x.period bs) = false) :
    d.cmdRender v c = n.setCmd { x.begunAt n.now with status := some 4 } :=
  (cmdRender_starts h hn).trans ((if_neg (by simp [hs])).trans (if_pos (by simp [hj])))

theorem cmdRender_described (hs : st = none) (hj : descOk v (periodDesc x.period bs) = true) :
    d.cmdRender v c = n.renderRecords v (d.ctxAsp v c) c (x.begunAt n.now) (periodDesc x.period bs) :=
  (cmdRender_starts h hn).trans ((if_neg (by simp [hs])).trans (if_neg (by simp [hj])))

end Descriptor

end Render

/-! ### The limits of a job and of a WAIT (R242, R265) -/

section Limits

variable {d : Dev} {v c : Nat} {x : Cmd}

theorem jobDeadline_met {us : Nat} (h : (d.ctxCmds v c).head? = some x) (hu : x.deadlineUs = some us)
    (hs : x.started = true) (ho : x.status = none) (hm : d.limitMet x us = true) :
    d.jobDeadline v c =
      (d.setCmd { x with status := some 16, job := x.job.map (fun j => { j with lists := [], todo := [] }) }).add (viPage v 4)
        F.RQ_DROPS_COUNT := by
  unfold Dev.jobDeadline
  rw [h]
  dsimp only
  rw [hu]
  exact if_pos ⟨hs, by rw [ho]; rfl, hm⟩

/-- Without an undecided job that runs and has reached its deadline, nothing happens. -/
theorem jobDeadline_unmet (h : ∀ (x : Cmd) (us : Nat), (d.ctxCmds v c).head? = some x → x.deadlineUs = some us →
    x.started = true → x.status = none → d.limitMet x us = false) : d.jobDeadline v c = d := by
  unfold Dev.jobDeadline
  split
  next x hx =>
    split
    next us hu =>
      refine if_neg ?_
      rintro ⟨hs, ho, hm⟩
      exact Bool.eq_false_iff.mp (h x us hx hu hs (Option.isNone_iff_eq_none.mp ho)) hm
    next => rfl
  next => rfl

theorem waitTimeout_met (h : (d.ctxCmds v c).head? = some x) (hp : x.op = 3) (hs : x.started = true) (ho : x.status = none)
    (hm : d.limitMet x (le x.entry 16 4) = true) :
    let n := d.setCmd { x with status := some 18 }
    d.waitTimeout v c = { n with rend := { n.rend with waiters := n.rend.waiters.filter (fun w => !(w.who == x.uid)) } } := by
  unfold Dev.waitTimeout
  rw [h]
  exact if_pos ⟨hp, hs, by rw [ho]; rfl, hm⟩

theorem waitTimeout_unmet (h : ∀ x : Cmd, (d.ctxCmds v c).head? = some x → x.op = 3 → x.started = true →
    x.status = none → d.limitMet x (le x.entry 16 4) = false) : d.waitTimeout v c = d := by
  unfold Dev.waitTimeout
  split
  next x hx =>
    refine if_neg ?_
    rintro ⟨hp, hs, ho, hm⟩
    exact Bool.eq_false_iff.mp (h x hx hp hs (Option.isNone_iff_eq_none.mp ho)) hm
  next => rfl

end Limits

/-- Settles O37: each command by the command that its context may start and by what its reads answer, a RENDER check by
check, a limit by the clock. -/
theorem commandStartsComplete : Obligations.CommandStartsComplete := by
  refine ⟨?_, ?_, ?_, ?_, ?_⟩
  · intro s v c
    exact ⟨fun h => Completes.congr rfl (cmdNop_none h), fun h => Completes.congr rfl (cmdRender_none h),
      fun h => Completes.congr rfl (cmdCompute_none h), fun h => Completes.congr rfl (cmdWait_none h),
      fun h => Completes.congr rfl (cmdSignal_none h), fun h => Completes.congr rfl (cmdResSync_none h),
      fun x h => Completes.congr rfl (cmdNop_starts h), fun x h => Completes.congr rfl (cmdSignal_starts h),
      fun x h => Completes.congr rfl (cmdWait_starts h)⟩
  · intro s v c x n st bs h asp a hr other
    exact ⟨fun hs => Completes.congr rfl (cmdResSync_read h hr hs),
      fun k hs => Completes.congr rfl (cmdResSync_failed h hr hs)⟩
  · intro s v c x n st pass binds flags h hc
    exact ⟨fun hs => Completes.congr rfl (cmdCompute_failed h hc hs),
      fun hs hp => Completes.congr rfl (cmdCompute_refused h hc hs hp),
      fun hs hp => Completes.congr rfl (cmdCompute_split h hc hs hp)⟩
  · intro s v c x n st bs h asp hn j y
    refine ⟨fun hs => Completes.congr rfl (cmdRender_unread h hn hs),
      fun hs hj => Completes.congr rfl (cmdRender_malformed h hn hs hj), fun m st1 recs hs hj hm => ?_⟩
    have records : Completes (.render v c) s (n.renderRecords v asp c y j) :=
      Completes.congr rfl (cmdRender_described h hn hs hj)
    refine ⟨fun hs1 => records.congr (renderRecords_failed hm hs1), fun k draws hs1 hk => ?_⟩
    have drawn : Completes (.render v c) s (k.renderDrawn v asp c y j draws) :=
      records.congr (renderRecords_checked (x := y) hm hs1 hk)
    refine ⟨fun hd => drawn.congr (renderDrawn_failed hd), fun q use st2 hd hq => ?_⟩
    have signed := drawn.congr (renderDrawn_passes hd)
    rw [← noSigs_eq_any] at hq
    exact ⟨fun hs2 => signed.congr (renderSigned_failed hq hs2), fun hs2 => signed.congr (renderSigned_begins hq hs2)⟩
  · intro s v c oldest
    exact ⟨fun x us h hu hs ho hm => Completes.congr rfl (jobDeadline_met h hu hs ho hm),
      fun h => Completes.congr rfl (jobDeadline_unmet h),
      fun x h hp hs ho hm => Completes.congr rfl (waitTimeout_met h hp hs ho hm),
      fun h => Completes.congr rfl (waitTimeout_unmet h)⟩

end Sys2Proof.Machine
end

section
/-! SUPPORT. The work items of the render clusters, the fences and the draining quads, case by case (R172, R239, R257 to
R268, R270). -/

namespace Sys2Proof.Machine

open Sys2Proof

/-! ### Dispatch (R239, R266, R267) -/

/-- A cluster that takes work: its quad is powered and does not drain, and it is idle and not isolated. -/
def Dev.takesWork (d : Dev) (k : Nat) : Prop :=
  d.quadOn (k / 4) = true ∧ d.itemOn k = none ∧ d.r (rcPid k) F.RC_STAT_STATE = 1 ∧ d.isolated (rcPid k) = false

theorem takesWork_iff {d : Dev} {k : Nat} : d.takesWork k ↔
    (d.quadOn (k / 4) && (d.itemOn k).isNone && d.r (rcPid k) F.RC_STAT_STATE == 1 && !d.isolated (rcPid k)) = true := by
  simp only [Dev.takesWork, Bool.and_eq_true, Option.isNone_iff_eq_none, beq_iff_eq, Bool.not_eq_true', and_assoc]

/-- A command's job once a cluster has taken an item of a kind. -/
def Job.taken (j : Job) (kind : Nat) : Job :=
  if kind = 2 then { j with next := j.next + 1 } else if kind = 0 then { j with binning := true }
  else { j with todo := j.todo.drop 1 }

/-- A cluster has taken an item of a command. -/
def Dev.itemTaken (d : Dev) (k : Nat) (x : Cmd) (j : Job) (kind i : Nat) : Dev :=
  let n := d.setCmd { x with
    running := x.running + 1, job := some (j.taken kind), began := if x.began.isSome then x.began else some d.now }
  let n := n.setItem k (some (d.newItem x j kind i))
  let n : Dev := { n with rend := { n.rend with lastVi := x.vi, lastCtx := tabPut n.rend.lastCtx 63 x.vi x.ctx } }
  ((((n.w (rcPid k) F.RC_STAT_STATE 2).w (rcPid k) F.RC_STAT_KIND kind).w (rcPid k) F.RC_STAT_VI x.vi).w (rcPid k)
    F.RC_STAT_CTX x.ctx).rndShow

section Dispatch

variable {d : Dev} {k : Nat} {x : Cmd}

theorem dispatch_busy (h : ¬d.takesWork k) : d.dispatch k = d := if_neg (fun free => h (takesWork_iff.mpr free))

theorem dispatch_none (h : d.nextWork = none) : d.dispatch k = d := by
  unfold Dev.dispatch
  rw [h]
  exact ite_self _

theorem dispatch_idle (h : d.nextWork = some x) (hi : d.readyItem x = none ∨ x.job = none) : d.dispatch k = d := by
  unfold Dev.dispatch
  rw [h]
  dsimp only
  split
  · split
    next kind i j hr hj => exact absurd hi (by simp [hr, hj])
    next => rfl
  · rfl

theorem dispatch_takes {kind i : Nat} {j : Job} (hf : d.takesWork k) (h : d.nextWork = some x)
    (hr : d.readyItem x = some (kind, i)) (hj : x.job = some j) : d.dispatch k = d.itemTaken k x j kind i := by
  unfold Dev.dispatch
  rw [if_pos (takesWork_iff.mp hf), h]
  dsimp only
  rw [hr, hj]
  rfl

end Dispatch

/-! ### The end of an item (R172, R239, R257 to R260, R267) -/

theorem overLimit_iff {d : Dev} {i : Item} : d.overLimit i = true ↔ i.start + i.limit * 1000000 < d.now := by
  rw [Nat.mul_comm]
  exact decide_eq_true_iff

theorem itemEnd_none {d : Dev} {k : Nat} {r : ItemResult} (h : d.itemOn k = none) : d.itemEnd k r = d := by
  unfold Dev.itemEnd
  rw [h]

theorem itemAbort_none {d : Dev} {k : Nat} (h : d.itemOn k = none) : d.itemAbort k = d := by
  unfold Dev.itemAbort
  rw [h]

/-- What an item leaves once its cluster is free: nothing where its command has gone. -/
def Dev.itemLeaves (d : Dev) (i : Item) (r : ItemResult) : Dev :=
  match d.cmdOf i.uid with
  | none => d
  | some x =>
    match x.job with
    | none => d.setCmd { x with running := x.running - 1 }
    | some j => d.itemResult { x with running := x.running - 1 } j i r

section Item

variable {d : Dev} {k : Nat} {i : Item} {r : ItemResult} (h : d.itemOn k = some i)

include h

theorem itemAbort_some : d.itemAbort k = if d.overLimit i = true then d.abortItem k i else d := by
  unfold Dev.itemAbort
  rw [h]

theorem itemAbort_past (hp : i.start + i.limit * 1000000 < d.now) : d.itemAbort k = d.abortItem k i :=
  (itemAbort_some h).trans (if_pos (overLimit_iff.mpr hp))

theorem itemAbort_inTime (hp : ¬i.start + i.limit * 1000000 < d.now) : d.itemAbort k = d :=
  (itemAbort_some h).trans (if_neg (fun past => hp (overLimit_iff.mp past)))

theorem itemEnd_other (hk : i.kind ≠ resultKind r) : d.itemEnd k r = d := by
  unfold Dev.itemEnd
  rw [h]
  exact if_pos (by simpa using hk)

variable (hk : i.kind = resultKind r)

include hk

theorem itemEnd_past (hp : i.start + i.limit * 1000000 < d.now) : d.itemEnd k r = d.abortItem k i := by
  unfold Dev.itemEnd
  rw [h]
  exact (if_neg (by simpa using hk)).trans (if_pos (overLimit_iff.mpr hp))

theorem itemEnd_inTime (hp : ¬i.start + i.limit * 1000000 < d.now) :
    d.itemEnd k r = ((d.chargeItem k).freeCluster k).itemLeaves i r := by
  unfold Dev.itemEnd
  rw [h]
  exact (if_neg (by simpa using hk)).trans (if_neg (fun past => hp (overLimit_iff.mp past)))

end Item

section Leaves

variable {d : Dev} {i : Item} {r : ItemResult}

theorem itemLeaves_gone (h : d.cmdOf i.uid = none) : d.itemLeaves i r = d := by
  unfold Dev.itemLeaves
  rw [h]

variable {x : Cmd} (h : d.cmdOf i.uid = some x)

include h

theorem itemLeaves_jobless (hj : x.job = none) : d.itemLeaves i r = d.setCmd { x with running := x.running - 1 } := by
  unfold Dev.itemLeaves
  rw [h]
  dsimp only
  rw [hj]

theorem itemLeaves_job {j : Job} (hj : x.job = some j) :
    d.itemLeaves i r = d.itemResult { x with running := x.running - 1 } j i r := by
  unfold Dev.itemLeaves
  rw [h]
  dsimp only
  rw [hj]

end Leaves

section Result

variable {d : Dev} {x : Cmd} {j : Job} {i : Item} {r : ItemResult}

theorem itemResult_stale (h : x.gen ≠ d.gen x.vi) :
    d.itemResult x j i r = d.setCmd { x with status := some (x.status.getD 2) } := if_pos (by simpa using h)

theorem itemResult_present (h : x.gen = d.gen x.vi) : d.itemResult x j i r = match r with
    | .bin verts => if x.status.isSome then d.setCmd x else d.binEnd x j verts
    | .tile frags => d.tileEnd x j i.index frags
    | .slice acc => d.sliceEnd x j acc := if_neg (by simpa using h)

end Result

/-! ### Fences (R263 to R265) -/

/-- A write of `FNC_CTRL` with SIGNAL starts a signal of its fence with OK, and nothing else. -/
theorem effect_fenceSignal (d b : Dev) {k : PageKind} (hk : k = .fence ∨ k = .viFences) (m p : Nat) (i : Fin 192) (v : Word) :
    d.effect? b k m p (0x408 + 16 * i) (withBit v 0) = d.fenceSignal p i 0 := by
  have place : (0x408 + 16 * i.val - 0x400) / 16 = i := by omega
  have asked : 0x400 ≤ 0x408 + 16 * i.val ∧ (0x408 + 16 * i.val) % 16 = 8 ∧ bit (withBit v 0) 0 = true :=
    ⟨by omega, by omega, bit_withBit v 0⟩
  have signal : d.fenceSignal p ((0x408 + 16 * i.val - 0x400) / 16) 0 = d.fenceSignal p i 0 := by rw [place]
  obtain rfl | rfl := hk <;> exact (if_neg (by omega)).trans ((if_pos asked).trans signal)

/-- An accepted write of `FNC_CTRL` with SIGNAL, through a fence page or a VI's window, signals its fence with OK. -/
theorem put_fenceSignal {d : Dev} {ag : Agent} {page : Nat} {i : Fin 192} {v : Word}
    (h : d.accepts ag page (0x408 + 16 * i) (withBit v 0) = true)
    (hk : (kindOf (agentPageNo ag page)).any (fun k => k.1 == .fence || k.1 == .viFences) = true) :
    d.put ag page (0x408 + 16 * i) (withBit v 0) =
      (d.after ag page (0x408 + 16 * i) (withBit v 0)).fenceSignal (agentPageNo ag page) i 0 := by
  obtain ⟨⟨k, m⟩, kind, hf⟩ := (Option.any_eq_true _ _).mp hk
  have fence : k = .fence ∨ k = .viFences := by simpa using hf
  have own : ownRegs k = true := by obtain rfl | rfl := fence <;> rfl
  rw [put_accepts h (by omega), place_own kind own, startedBy_kind kind, effect_fenceSignal _ _ fence]

theorem fenceBroken_none {d : Dev} {pid i : Nat} (h : d.owed pid i = []) : d.fenceBroken pid i = d := by
  unfold Dev.fenceBroken
  rw [h]

theorem fenceBroken_some {d : Dev} {pid i : Nat} {o : Owe} {rest : List Owe} (h : d.owed pid i = o :: rest) :
    d.fenceBroken pid i = if d.now < o.since + o.tmo * 1000000 then d
      else (((d.setOwed pid i rest).err pid 10).addSat pid F.FNC_SUM_BROKEN).fenceSignal pid i 2 := by
  unfold Dev.fenceBroken
  rw [h, Nat.mul_comm o.tmo]

/-- A signal shows the next VALUE and its STATUS, and satisfies the waiters that VALUE has reached. -/
theorem fenceSignal_shows (d : Dev) (pid i : Nat) {st : Nat} (h : st < 4) :
    let v := (d.r pid F.FNC_VAL_VALUE i + 1) % 2 ^ 32
    (d.fenceSignal pid i st).r pid F.FNC_VAL_VALUE i = v ∧ (d.fenceSignal pid i st).r pid F.FNC_STAT_STATUS i = st ∧
    (d.fenceSignal pid i st).rend.waiters = d.rend.waiters.map (fun w =>
      if w.fence == fenceKey pid i && w.got.isNone && reached v w.target then { w with got := some st } else w) := by
  intro v
  let n := d.add pid F.FNC_VAL_VALUE 1 i
  let m := n.w pid F.FNC_STAT_STATUS st i
  have width : F.FNC_VAL_VALUE.w = 32 := rfl
  have added : n.r pid F.FNC_VAL_VALUE i = v := by rw [r_add_same, width]
  have kept : m.r pid F.FNC_VAL_VALUE i = n.r pid F.FNC_VAL_VALUE i :=
    r_w_beside (f := F.FNC_STAT_STATUS) rfl (by decide)
  have value : m.r pid F.FNC_VAL_VALUE i = v := kept.trans added
  have status : m.r pid F.FNC_STAT_STATUS i = st := (r_w_same n pid _ st i).trans (Nat.mod_eq_of_lt h)
  exact ⟨value, status, by rw [← value]; rfl⟩

/-- Settles O38: a dispatch by the cluster and the work that is ready, the end of an item by its limit, its command and its
generation, a fence by the signals owed, a quad by whether it drains. -/
theorem renderClustersComplete : Obligations.RenderClustersComplete := by
  refine ⟨?_, ?_, ?_, fun d k i => rfl, ?_, ?_, fun d pid i st h => fenceSignal_shows d pid i h, ?_⟩
  · intro s k free
    refine ⟨fun h => Completes.congr rfl (dispatch_busy h), fun h => Completes.congr rfl (dispatch_none h),
      fun x h hi => Completes.congr rfl (dispatch_idle h hi), fun x kind i j hf h hr hj => ?_⟩
    exact Completes.congr rfl (dispatch_takes hf h hr hj)
  · intro s k r h
    exact ⟨Completes.congr rfl (itemEnd_none h), Completes.congr rfl (itemAbort_none h)⟩
  · intro s k i r h past n
    refine ⟨fun hp => Completes.congr rfl (itemAbort_past h hp), fun hp => Completes.congr rfl (itemAbort_inTime h hp),
      fun hk => Completes.congr rfl (itemEnd_other h hk), fun hk hp => Completes.congr rfl (itemEnd_past h hk hp),
      fun hk hp hn => ?_, fun x hk hp hx => ?_⟩
    · exact Completes.congr rfl ((itemEnd_inTime h hk hp).trans (itemLeaves_gone hn))
    · intro y
      have ended : Completes (.workItemEnd k r) s (n.itemLeaves i r) := Completes.congr rfl (itemEnd_inTime h hk hp)
      refine ⟨fun hj => ended.congr (itemLeaves_jobless hx hj), fun j hj => ?_⟩
      have left := ended.congr (itemLeaves_job hx hj)
      refine ⟨fun hg => left.congr (itemResult_stale hg), fun hg => left.congr ?_⟩
      refine (itemResult_present (x := y) hg).trans ?_
      cases r <;> rfl
  · intro s ag page i v pid n h hk
    exact Completes.congr rfl (put_fenceSignal h hk)
  · intro s page i pid
    refine ⟨fun h => Completes.congr rfl (fenceBroken_none h), fun o rest h => ⟨fun ht => ?_, fun ht => ?_⟩⟩
    · exact Completes.congr rfl ((fenceBroken_some h).trans (if_pos ht))
    · exact Completes.congr rfl ((fenceBroken_some h).trans (if_neg (Nat.not_lt.mpr ht)))
  · intro s q
    exact ⟨fun h => Completes.congr rfl (if_pos h), fun h => Completes.congr rfl (if_neg (Bool.eq_false_iff.mp h))⟩

end Sys2Proof.Machine
end

section
/-! SUPPORT. The layer pipes: coefficients, HOLD, flips, their walks and drag deltas, case by case (R280, R286, R291, R292,
R296). -/

namespace Sys2Proof.Machine

open Sys2Proof

/-! ### What an accepted write starts -/

/-- An accepted write at a page that shows only its own registers, by whatever number the agent names the page. -/
theorem put_kind {d : Dev} {ag : Agent} {page off v i : Nat} {k : PageKind} (h : d.accepts ag page off v = true)
    (ho : off % 4 = 0) (hk : kindOf (agentPageNo ag page) = some (k, i)) (hw : ownRegs k = true) :
    d.put ag page off v = (d.after ag page off v).effect? d k i (agentPageNo ag page) off v := by
  rw [put_accepts h ho, place_own hk hw, startedBy_kind hk]

/-- On the compose, layer and flip pages the display blocks alone take a write up. -/
theorem effect_display {d b : Dev} {k : PageKind} {i p off v : Nat}
    (hk : k = .compose ∨ (k = .layerCtl ∨ k = .viLayers) ∨ k = .flips ∨ k = .viFlips) (ho : 0x040 ≤ off) :
    d.effect? b k i p off v = d.displayEffect b k i p off v := by
  obtain rfl | (rfl | rfl) | rfl | rfl := hk <;> exact if_neg (Nat.not_lt.mpr ho)

/-! ### Coefficients (R280) -/

/-- A write of `LP_COEF_DATA` writes a pair of coefficients of its pipe. -/
theorem displayEffect_coefData (d b : Dev) {k : PageKind} (hk : k = .layerCtl ∨ k = .viLayers) (m p v : Nat) (q : Fin 48) :
    d.displayEffect b k m p (0x130 + 64 * q) v = d.coefWrite q (bits v 0 10) (bits v 16 10) := by
  have pipe : (0x130 + 64 * q.val - 0x100) / 64 = q := by omega
  have pair : d.coefWrite ((0x130 + 64 * q.val - 0x100) / 64) (bits v 0 10) (bits v 16 10) =
      d.coefWrite q (bits v 0 10) (bits v 16 10) := by rw [pipe]
  obtain rfl | rfl := hk <;>
    exact (if_neg (by omega)).trans ((if_neg (by omega)).trans ((if_pos (by omega)).trans pair))

theorem put_coefData {d : Dev} {ag : Agent} {page v : Nat} {q : Fin 48} (h : d.accepts ag page (0x130 + 64 * q) v = true)
    (hk : (kindOf (agentPageNo ag page)).any (fun k => k.1 == .layerCtl || k.1 == .viLayers) = true) :
    d.put ag page (0x130 + 64 * q) v =
      (d.after ag page (0x130 + 64 * q) v).coefWrite q (bits v 0 10) (bits v 16 10) := by
  obtain ⟨⟨k, m⟩, kind, hl⟩ := (Option.any_eq_true _ _).mp hk
  have layers : k = .layerCtl ∨ k = .viLayers := by simpa using hl
  have own : ownRegs k = true := by obtain rfl | rfl := layers <;> rfl
  rw [put_kind h (by omega) kind own, effect_display (.inr (.inl layers)) (by omega), displayEffect_coefData _ _ layers]

section Coefficients

variable {d : Dev} {q c0 c1 : Nat}

theorem coefWrite_pair (h : d.r (d.lpPage q) F.LP_COEF_ADDR_INDEX q < 767) :
    let i := d.r (d.lpPage q) F.LP_COEF_ADDR_INDEX q
    let b := d.r (d.lpPage q) F.LP_COEF_ADDR_CBANK q
    d.coefWrite q c0 c1 = (d.setPipe q (((d.pipe q).setCoef b i c0).setCoef b (i + 1) c1)).w (d.lpPage q)
      F.LP_COEF_ADDR_INDEX ((i + 2) % 768) q :=
  (if_neg (by omega)).trans (if_neg (by omega))

theorem coefWrite_last (h : d.r (d.lpPage q) F.LP_COEF_ADDR_INDEX q = 767) :
    let i := d.r (d.lpPage q) F.LP_COEF_ADDR_INDEX q
    let b := d.r (d.lpPage q) F.LP_COEF_ADDR_CBANK q
    d.coefWrite q c0 c1 = (d.setPipe q ((d.pipe q).setCoef b i c0)).w (d.lpPage q) F.LP_COEF_ADDR_INDEX 0 q :=
  (if_neg (by omega)).trans (if_pos h)

theorem coefWrite_beyond (h : 768 ≤ d.r (d.lpPage q) F.LP_COEF_ADDR_INDEX q) : d.coefWrite q c0 c1 = d := if_pos h

end Coefficients

/-! ### HOLD (R291) -/

theorem kindOf_hcPid : ∀ h : Fin 8, kindOf (0x200 + h.val) = some (.compose, h.val) := by decide +kernel

/-- An accepted write of `HC_GROUP`: HOLD cleared frees the head's held sets. -/
theorem put_hcGroup {d : Dev} {ag : Agent} {h : Fin 8} {x : Nat} (ha : d.accepts ag (0x200 + h) 0x044 x = true) :
    let n := d.after ag (0x200 + h) 0x044 x
    d.put ag (0x200 + h) 0x044 x = if d.falls (hcPid h) x F.HC_GROUP_HOLD = true then n.holdClear h else n := by
  intro n
  refine (put_flat ha (by omega) rfl (kindOf_hcPid h) rfl).trans ((effect_display (.inl rfl) (by decide)).trans ?_)
  exact ite_of_iff (and_iff_right rfl) rfl rfl

theorem put_holdSet {d : Dev} {ag : Agent} {h : Fin 8} {v : Word}
    (ha : d.accepts ag (0x200 + h) 0x044 (withBit v 0) = true) :
    d.put ag (0x200 + h) 0x044 (withBit v 0) = d.after ag (0x200 + h) 0x044 (withBit v 0) :=
  (put_hcGroup ha).trans (if_neg (Bool.eq_false_iff.mp (falls_of_withBit rfl rfl)))

/-! ### GO (R292) -/

/-- A write of `FL_GO` with GO queues a flip of its pipe. -/
theorem displayEffect_flipGo (d b : Dev) {k : PageKind} (hk : k = .flips ∨ k = .viFlips) (m p : Nat) (q : Fin 48) (v : Word) :
    d.displayEffect b k m p (0x118 + 32 * q) (withBit v 0) = d.flipGo q := by
  have pipe : (0x118 + 32 * q.val - 0x100) / 32 = q := by omega
  have asked : 0x100 ≤ 0x118 + 32 * q.val ∧ (0x118 + 32 * q.val) % 32 = 0x18 ∧ bit (withBit v 0) 0 = true :=
    ⟨by omega, by omega, bit_withBit v 0⟩
  have go : d.flipGo ((0x118 + 32 * q.val - 0x100) / 32) = d.flipGo q := by rw [pipe]
  obtain rfl | rfl := hk <;> exact (if_pos asked).trans go

theorem put_flipGo {d : Dev} {ag : Agent} {page : Nat} {q : Fin 48} {v : Word}
    (h : d.accepts ag page (0x118 + 32 * q) (withBit v 0) = true)
    (hk : (kindOf (agentPageNo ag page)).any (fun k => k.1 == .flips || k.1 == .viFlips) = true) :
    d.put ag page (0x118 + 32 * q) (withBit v 0) = (d.after ag page (0x118 + 32 * q) (withBit v 0)).flipGo q := by
  obtain ⟨⟨k, m⟩, kind, hf⟩ := (Option.any_eq_true _ _).mp hk
  have flips : k = .flips ∨ k = .viFlips := by simpa using hf
  have own : ownRegs k = true := by obtain rfl | rfl := flips <;> rfl
  rw [put_kind h (by omega) kind own, effect_display (.inr (.inr flips)) (by omega), displayEffect_flipGo _ _ flips]

/-- GO ends a flip that was queued with RESULT REPLACED. -/
def Dev.flipReplaced (d : Dev) (q : Nat) : Dev := if (d.pipe q).flip.isSome then d.flipEnd q 1 0 else d

/-- The flip that the registers of a flip page give, with the status of its fence. -/
def Dev.flipGiven (d : Dev) (g q : Nat) (fate : Option Nat) : Flip :=
  let l := d.layer d.cntRd q
  { buf := { fmt := l.fmt, width := l.width, height := l.height, pitch := l.pitch
             addr := d.r g F.FL_ADDR_LO_ADDR q * 256 + d.r g F.FL_ADDR_HI_ADDR q * 2 ^ 32
             chroma := d.r g F.FL_CHROMA_OFFSET q * 256 }
    adjX := sx 16 (d.r g F.FL_ADJ_DX q), adjY := sx 16 (d.r g F.FL_ADJ_DY q), fate := fate }

/-- The flip is queued, WAITING. -/
def Dev.flipQueued (d : Dev) (g q : Nat) (fate : Option Nat) : Dev :=
  (d.setPipe q { d.pipe q with flip := some (d.flipGiven g q fate) }).w g F.FL_STAT_STATE 1 q

/-- A queued flip waits for a fence of its owner's, and ends with FENCE and FAILED where the handle is not of one. -/
def Dev.flipAwaits (d : Dev) (g q handle : Nat) : Dev :=
  match d.ownFence (d.pipeOwner q) handle with
  | some (pid, i) => d.fenceWait (flipUid g q) pid i (d.r g F.FL_TARGET_VALUE q)
  | none => d.flipEnd q 2 3

/-- GO replaces a queued flip, queues the flip that the registers give, and lets it wait for its fence. -/
theorem flipGo_eq (d : Dev) (q : Nat) :
    let g := d.flPage q
    let n := d.flipReplaced q
    let handle := n.r g F.FL_FENCE_HANDLE q
    let m := n.flipQueued g q (if handle = noFence then some 0 else none)
    d.flipGo q = if handle = noFence then m else m.flipAwaits g q handle := by
  unfold Dev.flipQueued Dev.flipGiven
  simp only [Nat.mul_comm _ 256, Nat.mul_comm _ (2 ^ 32)]
  rfl

section Go

variable {d : Dev} {q : Nat}

theorem flipGo_unfenced (h : (d.flipReplaced q).r (d.flPage q) F.FL_FENCE_HANDLE q = noFence) :
    d.flipGo q = (d.flipReplaced q).flipQueued (d.flPage q) q (some 0) :=
  (flipGo_eq d q).trans ((if_pos h).trans (by rw [if_pos h]))

theorem flipGo_fenced (h : (d.flipReplaced q).r (d.flPage q) F.FL_FENCE_HANDLE q ≠ noFence) :
    d.flipGo q = ((d.flipReplaced q).flipQueued (d.flPage q) q none).flipAwaits (d.flPage q) q
      ((d.flipReplaced q).r (d.flPage q) F.FL_FENCE_HANDLE q) :=
  (flipGo_eq d q).trans ((if_neg h).trans (by rw [if_neg h]))

theorem flipAwaits_own {g handle pid i : Nat} (h : d.ownFence (d.pipeOwner q) handle = some (pid, i)) :
    d.flipAwaits g q handle = d.fenceWait (flipUid g q) pid i (d.r g F.FL_TARGET_VALUE q) := by
  unfold Dev.flipAwaits
  rw [h]

theorem flipAwaits_foreign {g handle : Nat} (h : d.ownFence (d.pipeOwner q) handle = none) :
    d.flipAwaits g q handle = d.flipEnd q 2 3 := by
  unfold Dev.flipAwaits
  rw [h]

end Go

/-! ### The walk of a flip (R286) -/

section Walk

variable {d : Dev} {q : Nat} {f : Flip}

theorem flipWalkEnd_none (h : (d.pipe q).flip = none) : d.flipWalkEnd q = d := by
  unfold Dev.flipWalkEnd
  rw [h]

theorem flipWalkEnd_walked (h : (d.pipe q).flip = some f) (hw : f.walked = true) : d.flipWalkEnd q = d := by
  unfold Dev.flipWalkEnd
  rw [h]
  exact if_pos hw

/-- A pipe that is not a VI's needs no entries. -/
theorem flipWalkEnd_plain (h : (d.pipe q).flip = some f) (hw : f.walked = false) (ho : d.pipeOwner q % 4 ≠ 3) :
    d.flipWalkEnd q = (d.setPipe q { d.pipe q with flip := some { f with walked := true } }).flipReady q := by
  unfold Dev.flipWalkEnd
  rw [h]
  exact (if_neg (Bool.eq_false_iff.mp hw)).trans (if_pos (by simp [ho]))

/-- How a walk of a VI's flip ends it, or what entries it gives it. -/
def Dev.flipMapped (d : Dev) (q v aspace : Nat) (f : Flip) : MapRes → Dev
  | .full => d.flipEnd q 4 0
  | .host => d.flipEnd q 6 0
  | .fault k st g a => (d.xlatFault v aspace 0 a false k st g).flipEnd q 3 0
  | .entries m =>
    (d.setPipe q { d.pipe q with flip := some { f with walked := true, buf := { f.buf with map := m } } }).flipReady q

theorem flipWalkEnd_mapped {n : Dev} {r : MapRes} (h : (d.pipe q).flip = some f) (hw : f.walked = false)
    (ho : d.pipeOwner q % 4 = 3) :
    let v := d.pipeOwner q / 16 % 64
    let l := d.layer d.cntRd q
    d.bufWalk v l.aspace (!l.best) f.buf.ranges [] = (n, r) → d.flipWalkEnd q = n.flipMapped q v l.aspace f r := by
  intro v l walk
  unfold Dev.flipWalkEnd
  rw [h]
  refine (if_neg (Bool.eq_false_iff.mp hw)).trans ((if_neg (by simp [ho])).trans ?_)
  dsimp only
  rw [walk]
  cases r <;> rfl

end Walk

/-- Settles O41: a coefficient pair by the place that `LP_COEF_ADDR` names, HOLD by the change that the write makes, GO by
the fence that it names, a walk by the pipe's owner and by what the walk answers. -/
theorem layerPipesComplete : Obligations.LayerPipesComplete := by
  refine ⟨?_, ?_, ?_, ?_, ?_, fun s t q => rfl⟩
  · intro s ag page q v pid n p i b h hk
    have pair : Completes (.coefWrite ag page q v) s (n.coefWrite q (bits v.toNat 0 10) (bits v.toNat 16 10)) :=
      Completes.congr rfl (put_coefData h hk)
    exact ⟨fun hi => pair.congr (coefWrite_pair hi), fun hi => pair.congr (coefWrite_last hi),
      fun hi => pair.congr (coefWrite_beyond hi)⟩
  · intro s ag h v
    exact ⟨fun ha => Completes.congr rfl (put_holdSet ha), fun ha => Completes.congr rfl (put_hcGroup ha)⟩
  · intro s ag page q v h hk a n g l handle b y f
    have go : Completes (.flipGo ag page q v) s (a.flipGo q) := Completes.congr rfl (put_flipGo h hk)
    exact ⟨fun hf => go.congr (flipGo_unfenced hf),
      fun pid i hf hw => go.congr ((flipGo_fenced hf).trans (flipAwaits_own hw)),
      fun hf hw => go.congr ((flipGo_fenced hf).trans (flipAwaits_foreign hw))⟩
  · intro s q h
    exact Completes.congr rfl (flipWalkEnd_none h)
  · intro s q f h
    refine ⟨fun hw => Completes.congr rfl (flipWalkEnd_walked h hw),
      fun hw ho => Completes.congr rfl (flipWalkEnd_plain h hw ho), fun n r hw ho => ?_⟩
    intro v l walk
    refine Completes.congr rfl ((flipWalkEnd_mapped h hw ho walk).trans ?_)
    cases r <;> rfl

end Sys2Proof.Machine
end

section
/-! SUPPORT. The heads: their start and stop, the end of active, frames, strobes and the latches that reads load, case by
case (R322 to R329, R351). -/

namespace Sys2Proof.Machine

open Sys2Proof

/-! ### EN (R322) -/

/-- On the head, CRC and link pages the display blocks alone take a write up. -/
theorem effect_scanOut (d b : Dev) {k : PageKind} {i p off v : Nat} (hk : k = .head ∨ k = .crc ∨ k = .displayPhy)
    (ho : 0x040 ≤ off) : d.effect? b k i p off v = d.displayEffect b k i p off v := by
  obtain rfl | rfl | rfl := hk <;> exact if_neg (Nat.not_lt.mpr ho)

theorem kindOf_hdPid : ∀ h : Fin 8, kindOf (0x280 + h.val) = some (.head, h.val) := by decide +kernel

section Ctrl

variable {d : Dev} {ag : Agent} {h : Fin 8} {x : Nat} {v : Word}

/-- An accepted write of `HD_CTRL` acts by the change that it makes to EN. -/
theorem put_hdCtrl (ha : d.accepts ag (0x280 + h) 0x040 x = true) :
    let n := d.after ag (0x280 + h) 0x040 x
    d.put ag (0x280 + h) 0x040 x = if d.rises (hdPid h) x F.HD_CTRL_EN then n.headStart h
      else if d.falls (hdPid h) x F.HD_CTRL_EN then n.headClear h else n :=
  (put_flat ha (by omega) rfl (kindOf_hdPid h) rfl).trans ((effect_scanOut _ _ (.inl rfl) (by decide)).trans rfl)

theorem put_headEnable (ha : d.accepts ag (0x280 + h) 0x040 (withBit v 0) = true) :
    let n := d.after ag (0x280 + h) 0x040 (withBit v 0)
    d.put ag (0x280 + h) 0x040 (withBit v 0) =
      if d.rises (hdPid h) (withBit v 0) F.HD_CTRL_EN = false then n else n.headStart h := by
  intro n
  have stays : d.falls (hdPid h) (withBit v 0) F.HD_CTRL_EN = false := falls_of_withBit rfl rfl
  rw [put_hdCtrl ha, stays]
  cases d.rises (hdPid h) (withBit v 0) F.HD_CTRL_EN <;> rfl

theorem put_headDisable (ha : d.accepts ag (0x280 + h) 0x040 (withoutBit v 0) = true) :
    let n := d.after ag (0x280 + h) 0x040 (withoutBit v 0)
    d.put ag (0x280 + h) 0x040 (withoutBit v 0) =
      if d.falls (hdPid h) (withoutBit v 0) F.HD_CTRL_EN = false then n else n.headClear h := by
  intro n
  have stays : d.rises (hdPid h) (withoutBit v 0) F.HD_CTRL_EN = false := rises_of_withoutBit rfl rfl
  rw [put_hdCtrl ha, stays]
  cases d.falls (hdPid h) (withoutBit v 0) F.HD_CTRL_EN <;> rfl

end Ctrl

theorem headStart_eq (d : Dev) (h : Nat) :
    let st := d.r (hdPid h) F.HD_STAT_STATE
    d.headStart h = if st = 0 ∧ d.headEn h = true then d.w (hdPid h) F.HD_STAT_STATE 1
      else if st = 4 then d.w (hdPid h) F.HD_STAT_STATE 2 else d := by
  intro st
  unfold Dev.headStart
  split
  next hs => simp [st, hs]
  next hs => simp [st, hs]
  next h0 h4 => exact ((if_neg (fun c => h0 c.1)).trans (if_neg h4)).symm

theorem headClear_eq (d : Dev) (h : Nat) :
    let st := d.r (hdPid h) F.HD_STAT_STATE
    d.headClear h = if st = 1 ∨ st = 3 then d.headStop h
      else if st = 2 then d.w (hdPid h) F.HD_STAT_STATE 4 else d := by
  intro st
  unfold Dev.headClear
  split
  next hs => simp [st, hs]
  next hs => simp [st, hs]
  next hs => simp [st, hs]
  next h1 h3 h2 => exact ((if_neg (not_or.mpr ⟨h1, h3⟩)).trans (if_neg h2)).symm

/-! ### The end of active (R322, R324, R325) -/

/-- The pending set of the head's page is applied: another active area is a new mode for the touch ports. -/
def Dev.headSetTaken (d : Dev) (h : Nat) : Dev :=
  let n := d.applyPend (hdPid h) (fun _ => true)
  if !(d.cntRd (hdPid h) F.HD_HACT_ACTIVE 0 == d.a (hdPid h) F.HD_HACT_ACTIVE) ||
      !(d.cntRd (hdPid h) F.HD_VACT_ACTIVE 0 == d.a (hdPid h) F.HD_VACT_ACTIVE) then
    n.setHead h { n.head h with newMode := true }
  else n

theorem headSetTaken_eq (d : Dev) (h : Nat) :
    let n := d.applyPend (hdPid h) (fun _ => true)
    d.headSetTaken h = if d.cntRd (hdPid h) F.HD_HACT_ACTIVE 0 ≠ d.a (hdPid h) F.HD_HACT_ACTIVE ∨
        d.cntRd (hdPid h) F.HD_VACT_ACTIVE 0 ≠ d.a (hdPid h) F.HD_VACT_ACTIVE then
      n.setHead h { n.head h with newMode := true } else n :=
  ite_of_iff (by simp) rfl rfl

/-- The head retimes, and sends no video. -/
def Dev.videoOff (d : Dev) (h : Nat) : Dev :=
  let r := d.w (hdPid h) F.HD_STAT_STATE 3
  r.setHead h { r.head h with video := false }

/-- A link that is UP but does not carry the mode trains. -/
def Dev.linkForMode (d : Dev) (h : Nat) : Dev :=
  if d.linkIsUp h && !carries (readTiming d.actRd h) (d.r (dpPid h) F.DP_STAT_RATE) (d.r (dpPid h) F.DP_STAT_LANES) then
    d.trainLink h
  else d

theorem linkForMode_eq (d : Dev) (h : Nat) :
    d.linkForMode h = if d.linkIsUp h = true ∧
        carries (readTiming d.actRd h) (d.r (dpPid h) F.DP_STAT_RATE) (d.r (dpPid h) F.DP_STAT_LANES) = false then
      d.trainLink h else d :=
  ite_of_iff (by simp) rfl rfl

section Active

variable {d : Dev} {h : Nat} {t : Bool}

theorem endOfActive_stopping (hs : d.r (hdPid h) F.HD_STAT_STATE = 4) : d.endOfActive h t = d.headStop h := if_pos hs

theorem endOfActive_undue (hs : d.r (hdPid h) F.HD_STAT_STATE ≠ 4)
    (hd : ¬(d.r (hdPid h) F.HD_STAT_STATE = 2 ∧ t = true ∧ (d.ctl (hdPid h)).pend.isSome = true)) :
    d.endOfActive h t = d :=
  (if_neg hs).trans (if_neg (by simpa [and_assoc] using hd))

variable (hd : d.r (hdPid h) F.HD_STAT_STATE = 2 ∧ t = true ∧ (d.ctl (hdPid h)).pend.isSome = true)

include hd

/-- A set that waits and was checked in time is discarded in a fault of the head, and is applied otherwise. -/
theorem endOfActive_due : d.endOfActive h t = if d.blockFault (hdPid h) then d.discardPend (hdPid h)
    else if modeDiffers d.cntRd d.actRd h then ((d.headSetTaken h).videoOff h).linkForMode h else d.headSetTaken h := by
  have running : d.r (hdPid h) F.HD_STAT_STATE ≠ 4 := by rw [hd.1]; decide
  exact (if_neg running).trans (if_pos (by simpa [and_assoc] using hd))

theorem endOfActive_faulty (hf : d.blockFault (hdPid h) = true) : d.endOfActive h t = d.discardPend (hdPid h) :=
  (endOfActive_due hd).trans (if_pos hf)

theorem endOfActive_sameMode (hf : d.blockFault (hdPid h) = false) (hm : modeDiffers d.cntRd d.actRd h = false) :
    d.endOfActive h t = d.headSetTaken h :=
  (endOfActive_due hd).trans ((if_neg (Bool.eq_false_iff.mp hf)).trans (if_neg (Bool.eq_false_iff.mp hm)))

theorem endOfActive_newMode (hf : d.blockFault (hdPid h) = false) (hm : modeDiffers d.cntRd d.actRd h = true) :
    d.endOfActive h t = ((d.headSetTaken h).videoOff h).linkForMode h :=
  (endOfActive_due hd).trans ((if_neg (Bool.eq_false_iff.mp hf)).trans (if_pos hm))

end Active

/-! ### Retiming, frames and strobes (R325, R326, R329) -/

section Frames

variable {d : Dev} {h : Nat}

theorem retimed_complete (hs : d.r (hdPid h) F.HD_STAT_STATE = 3) (hl : d.linkState h ≠ 1) :
    d.retimed h = ((d.w (hdPid h) F.HD_STAT_STATE 2).addSat (hdPid h) F.HD_RETIME_COUNT).err (hdPid h) 11 :=
  if_pos (by simpa using ⟨hs, hl⟩)

theorem retimed_idle (hi : d.r (hdPid h) F.HD_STAT_STATE ≠ 3 ∨ d.linkState h = 1) : d.retimed h = d :=
  if_neg (by simpa [Classical.or_iff_not_imp_left] using hi)

theorem frameStart_scanning (hs : d.scanning h = true) :
    let t := (d.stamp (hdPid h)).1
    let n := ((d.stamp (hdPid h)).2.add (hdPid h) F.HD_FRAME_COUNT).err (hdPid h) 10
    let up := n.linkIsUp h
    let m := n.setHead h { n.head h with
      ftime := t, video := up, sent := if up then ((n.head h).sent <|> some t) else (n.head h).sent }
    d.frameStart h = (m.emit (.event 326 [h, m.r (hdPid h) F.HD_FRAME_COUNT])).frameMeasures h t :=
  if_neg (by simp [hs])

theorem strobeDue_iff : d.strobeDue h = true ↔ d.r (hdPid h) F.HD_STAT_STATE ≤ 1 ∧ d.r pmPid F.PM_STAT_STATE ≤ 1 ∧
    (d.head h).strobeAt + 16666667 ≤ d.now := by
  simp [Dev.strobeDue, Dev.strobesStopped, pmPid, and_assoc]

end Frames

/-! ### Reads (R326, R327) -/

theorem ownRead_eq {d n : Dev} {ag : Agent} {pid off v : Nat} {e : Bool} (h : d.read ag pid off = (v, e, n)) :
    d.ownRead ag pid off = n.emit (if e then .errorResponse (n.agentFab ag) else .read v) := by
  unfold Dev.ownRead
  rw [h]
  cases e <;> rfl

/-- A read of `HD_FRAME` shows the low word of the frame's time. -/
theorem latchFrame_shows (d : Dev) (h : Nat) : (d.latchFrame h).r (hdPid h) F.HD_FTIME_LO_TIME = (d.head h).ftime % 2 ^ 32 :=
  (r_w_at (by decide)).trans (r_w_same _ _ _ _ _)

/-- A read of `HD_FLIPT_LO` shows the frame of the latest flips. -/
theorem latchFlip_shows (d : Dev) (h : Nat) : (d.latchFlip h).r (hdPid h) F.HD_FLIPF_FRAME = (d.head h).flipF % 2 ^ 32 :=
  (r_w_at (by decide)).trans ((r_w_at (by decide)).trans (r_w_same _ _ _ _ _))

/-- Settles O43: EN by the change that the write makes and the head's state, the end of active by the stop, the set that
waits, the fault and the mode, a frame by whether the head scans, a read by what it waits for. -/
theorem headsComplete : Obligations.HeadsComplete := by
  refine ⟨?_, fun d h => rfl, fun s h => rfl, ?_, ?_, ?_, ?_, ?_,
    fun d h => ⟨latchFrame_shows d h, latchFlip_shows d h⟩⟩
  · intro s ag h v p n m st
    exact ⟨fun ha => Completes.congr rfl ((put_headEnable ha).trans (ite_of_iff .rfl rfl (headStart_eq _ _))),
      fun ha => Completes.congr rfl ((put_headDisable ha).trans (ite_of_iff .rfl rfl (headClear_eq _ _)))⟩
  · intro s h t p st due moved n n' r r'
    have taken : s.dev.headSetTaken h = n' := headSetTaken_eq _ _
    refine ⟨fun hs => Completes.congr rfl (endOfActive_stopping hs),
      fun hs hd => Completes.congr rfl (endOfActive_undue hs hd),
      fun hd hf => Completes.congr rfl (endOfActive_faulty hd hf), fun hd hf hm => ?_, fun hd hf hm => ?_⟩
    · exact Completes.congr rfl ((endOfActive_sameMode hd hf hm).trans taken)
    · have retimes : s.dev.endOfActive h t = (n'.videoOff h).linkForMode h := taken ▸ endOfActive_newMode hd hf hm
      exact Completes.congr rfl (retimes.trans (linkForMode_eq _ _))
  · intro s h
    exact ⟨fun hs hl => Completes.congr rfl (retimed_complete hs hl), fun hi => Completes.congr rfl (retimed_idle hi)⟩
  · intro s h t n up n'
    refine ⟨fun hs => Completes.congr rfl ((if_pos hs).trans ?_),
      fun hs => Completes.congr rfl (if_neg (Bool.eq_false_iff.mp hs))⟩
    exact congrArg (Dev.touchStrobe · h) (frameStart_scanning hs)
  · intro s h due n
    exact ⟨fun hd => Completes.congr rfl (if_pos (strobeDue_iff.mpr hd)),
      fun hd => Completes.congr rfl (if_neg (fun c => hd (strobeDue_iff.mp c)))⟩
  · intro s ag h pid reads
    have answered {i : Instr} {off : Nat} (hi : Completes i s (s.dev.sendRead ag pid off .own)) : reads i off :=
      ⟨fun why hw => hi.congr (sendRead_waits hw),
        fun v e n hw hr => hi.congr ((sendRead_serves hw).trans (ownRead_eq hr))⟩
    exact ⟨answered rfl, answered rfl⟩

end Sys2Proof.Machine
end

section
/-! SUPPORT. CRC rectangles: their comparison, their action and RELEASE, case by case (R337 to R340). -/

namespace Sys2Proof.Machine

open Sys2Proof

/-! ### The comparison (R338, R340) -/

/-- A rectangle shows the CRC of a frame that was sent, whether it matches, and its run of mismatches. -/
def Dev.rectShown (d : Dev) (h r c : Nat) (good : Bool) (run : Nat) : Dev :=
  let n := d.crcCount h false
  ((n.w (crPid h) F.CR_LAST_CRC c r).w (crPid h) F.CR_RSTAT_MATCH (b2n good) r).w (crPid h) F.CR_RSTAT_RUN run r

/-- A match ends the run and clears the rectangle's bit of FAILMASK. -/
def Dev.rectMatches (d : Dev) (h r c : Nat) : Dev :=
  let n := d.rectShown h r c true 0
  let m := n.r (crPid h) F.CR_STAT_FAILMASK
  n.w (crPid h) F.CR_STAT_FAILMASK (m - (if bit m r then 2 ^ r else 0))

/-- A mismatch is counted, and the rectangle acts where its run reaches THRESH. -/
def Dev.rectDiffers (d : Dev) (h r c : Nat) : Dev :=
  let p := crPid h
  let run := d.r p F.CR_RSTAT_RUN r
  let n := d.rectShown h r c false (sat 15 (run + 1))
  let n := (n.w p F.CR_STAT_FAILMASK (n.r p F.CR_STAT_FAILMASK ||| 2 ^ r)).addSat p F.CR_RSTAT_MISM 1 r
  if sat 15 (run + 1) = max 1 (n.a p F.CR_CFG_THRESH r) ∧ run < max 1 (n.a p F.CR_CFG_THRESH r) then n.crcAction h r else n

theorem crcFinal_unwatched {d : Dev} {h r : Nat} {o : Option Nat}
    (hw : d.a (crPid h) F.CR_CFG_EN r ≠ 1 ∨ d.scanning h = false) : d.crcFinal h r o = d := if_pos (by simpa using hw)

/-- A run of mismatches that reaches its threshold, and was below it. -/
theorem runEnds_iff {run top before : Nat} :
    (true && run == top && decide (before < top)) = true ↔ run = top ∧ before < top := by
  simp only [Bool.true_and, Bool.and_eq_true, beq_iff_eq, decide_eq_true_eq]

section Watched

variable {d : Dev} {h r : Nat} {o : Option Nat} (he : d.a (crPid h) F.CR_CFG_EN r = 1) (hs : d.scanning h = true)

include he hs

theorem crcFinal_unsent (hv : (d.head h).video = false) : d.crcFinal h r o = d.crcCount h true :=
  (if_neg (by simp [he, hs])).trans (if_pos (by rw [hv]; rfl))

variable (hv : (d.head h).video = true)

include hv

theorem crcFinal_uncomposed (hf : (o <|> d.rectCrc h r) = none) : d.crcFinal h r o = d := by
  refine (if_neg (by simp [he, hs])).trans ((if_neg (by simp [hv])).trans ?_)
  rw [hf]

variable {c : Nat} (hf : (o <|> d.rectCrc h r) = some c)

include hf

theorem crcFinal_match (hc : c = d.a (crPid h) F.CR_EXP_CRC r) : d.crcFinal h r o = d.rectMatches h r c := by
  have good : (c == d.a (crPid h) F.CR_EXP_CRC r) = true := beq_iff_eq.mpr hc
  refine (if_neg (by simp [he, hs])).trans ((if_neg (by simp [hv])).trans ?_)
  rw [hf]
  dsimp only
  rw [good]
  rfl

theorem crcFinal_mismatch (hc : c ≠ d.a (crPid h) F.CR_EXP_CRC r) : d.crcFinal h r o = d.rectDiffers h r c := by
  have bad : (c == d.a (crPid h) F.CR_EXP_CRC r) = false := beq_eq_false_iff_ne.mpr hc
  refine (if_neg (by simp [he, hs])).trans ((if_neg (by simp [hv])).trans ?_)
  rw [hf]
  dsimp only
  rw [bad]
  exact ite_of_iff runEnds_iff rfl rfl

end Watched

/-! ### ACTION and RELEASE (R340) -/

/-- ACTION 2 forces the safe screen at once, and shows the frame that it acted on. -/
theorem crcAction_forces {d : Dev} {h r : Nat} (ha : d.a (crPid h) F.CR_CFG_ACTION r = 2) :
    let n := (d.err (crPid h) 10).w (crPid h) F.CR_FFRAME_FRAME (d.r (hdPid h) F.HD_FRAME_COUNT)
    d.crcAction h r = ((n.w (crPid h) F.CR_STAT_FORCED 1).err (crPid h) 11).w (hcPid h) F.HC_STAT_SAFE 1 :=
  (if_neg (by rw [ha]; decide)).trans (if_pos ha)

theorem crcAction_shows {d : Dev} {h r : Nat} (ha : d.a (crPid h) F.CR_CFG_ACTION r = 2) :
    (d.crcAction h r).r (crPid h) F.CR_STAT_FORCED = 1 ∧ (d.crcAction h r).r (hcPid h) F.HC_STAT_SAFE = 1 ∧
    (d.crcAction h r).r (crPid h) F.CR_FFRAME_FRAME = d.r (hdPid h) F.HD_FRAME_COUNT % 2 ^ 32 := by
  have forced : F.CR_STAT_FORCED.own 0 := by unfold FD.own; decide
  have frame : F.CR_FFRAME_FRAME.own 0 := by unfold FD.own; decide
  rw [crcAction_forces ha]
  refine ⟨?_, r_w_same _ _ _ _ _, ?_⟩
  · exact (r_w_apart (by decide) (by decide) (by decide)).trans ((r_err_own forced).trans (r_w_same _ _ _ _ _))
  · exact (r_w_apart (by decide) (by decide) (by decide)).trans ((r_err_own frame).trans
      ((r_w_at (by decide)).trans (r_w_same _ _ _ _ _)))

theorem kindOf_crPid : ∀ h : Fin 8, kindOf (0x290 + h.val) = some (.crc, h.val) := by decide +kernel

/-- An accepted write of `CR_CTRL` with RELEASE. -/
theorem put_crcRelease {d : Dev} {ag : Agent} {h : Fin 8} {v : Word}
    (ha : d.accepts ag (0x290 + h) 0x040 (withBit v 2) = true) :
    d.put ag (0x290 + h) 0x040 (withBit v 2) = (d.after ag (0x290 + h) 0x040 (withBit v 2)).crcRelease h :=
  (put_flat ha (by omega) rfl (kindOf_crPid h) rfl).trans
    ((effect_scanOut _ _ (.inr (.inl rfl)) (by decide)).trans (if_pos ⟨rfl, bit_withBit v 2⟩))

/-- Settles O44: a rectangle by whether it is watched, whether its frame was sent and composed, and its CRC; ACTION 2 by
the registers that it sets. -/
theorem crcRectanglesComplete : Obligations.CrcRectanglesComplete := by
  refine ⟨?_, fun d h r ha => crcAction_shows ha, fun s ag h v ha => Completes.congr rfl (put_crcRelease ha)⟩
  intro s h r o p done final
  exact ⟨fun hw => Completes.congr rfl (crcFinal_unwatched hw),
    fun he hs hv => Completes.congr rfl (crcFinal_unsent he hs hv),
    fun he hs hv hf => Completes.congr rfl (crcFinal_uncomposed he hs hv hf),
    fun c he hs hv hf hc => Completes.congr rfl (crcFinal_match he hs hv hf hc),
    fun c he hs hv hf hc => Completes.congr rfl (crcFinal_mismatch he hs hv hf hc)⟩

end Sys2Proof.Machine
end

section
/-! SUPPORT. Links and panels: the plug and HPD, training with its fallback, AUX requests and the backlight, case by case
(R330 to R336). -/

namespace Sys2Proof.Machine

open Sys2Proof

/-! ### Plug and HPD (R331, R333) -/

/-- A sink is there: it is counted, and its owner hears of it. -/
def Dev.plugged (d : Dev) (h : Nat) (k : SinkCaps) : Dev :=
  let x := d.head h
  let n := d.setHead h { x with
    sink := some k, early := x.early || (x.safeDue && decide (d.now ≤ d.disp.bootAt + 250000000)) }
  ((n.w (dpPid h) F.DP_STAT_HPD 1).addSat (dpPid h) F.DP_EVENTS_PLUG).err (dpPid h) 10

/-- The sink is gone: the link ends, with its cause where it trained. -/
def Dev.unplugged (d : Dev) (h : Nat) : Dev :=
  let n := ((d.w (dpPid h) F.DP_STAT_HPD 0).addSat (dpPid h) F.DP_EVENTS_UNPLUG).err (dpPid h) 10
  ((if n.linkState h = 1 then n.w (dpPid h) F.DP_STAT_CAUSE 5 else n).w (dpPid h) F.DP_STAT_STATE 0).noVideo h

section Hpd

variable {d : Dev} {h : Nat} {k : SinkCaps}

theorem plugIn_present (hp : d.on (dpPid h) F.DP_STAT_HPD = true) : d.plugIn h k = d := if_pos hp

theorem plugIn_new (hp : d.on (dpPid h) F.DP_STAT_HPD = false) :
    let n := d.plugged h k
    d.plugIn h k = if n.on (dpPid h) F.DP_CTRL_AUTO = true ∧ (n.linkState h = 0 ∨ n.linkState h = 3) then n.trainLink h
      else n :=
  (if_neg (Bool.eq_false_iff.mp hp)).trans (ite_of_iff (by simp [Dev.plugged]) rfl rfl)

theorem plugOut_absent (hp : d.on (dpPid h) F.DP_STAT_HPD = false) : d.plugOut h = d := if_pos (by rw [hp]; rfl)

theorem plugOut_present (hp : d.on (dpPid h) F.DP_STAT_HPD = true) :
    let n := d.unplugged h
    d.plugOut h = n.setHead h { n.head h with sink := none } := if_neg (by simp [hp])

theorem irqHpd_down {good : Bool} (hl : d.linkState h ≠ 2) : d.irqHpd h good = d :=
  if_pos (by simpa [Dev.linkIsUp] using hl)

theorem irqHpd_up {good : Bool} (hl : d.linkState h = 2) :
    d.irqHpd h good = if good then (d.addSat (dpPid h) F.DP_EVENTS_IRQ).err (dpPid h) 10
      else (((d.addSat (dpPid h) F.DP_EVENTS_LOST).err (dpPid h) 11).w (dpPid h) F.DP_STAT_STATE 1).noVideo h :=
  if_neg (by simp [Dev.linkIsUp, hl])

end Hpd

/-! ### Training (R331) -/

/-- An attempt is counted and timed. -/
def Dev.attempted (d : Dev) (h ms : Nat) : Dev :=
  let n := (d.add (dpPid h) F.DP_TRAIN_COUNT).w (dpPid h) F.DP_TRAIN_MS (sat 65535 ms)
  n.setHead h { n.head h with tries := (n.head h).tries + 1 }

/-- The link has failed for a cause. -/
def Dev.linkFailed (d : Dev) (h cause : Nat) : Dev := (d.w (dpPid h) F.DP_STAT_STATE 3).w (dpPid h) F.DP_STAT_CAUSE cause

/-- Training goes on with the fallback where that carries the mode, and else fails. -/
def Dev.fallsBack (d : Dev) (t : Timing) (h cause : Nat) : Dev :=
  match d.fallback h with
  | some (r, l) =>
    if carries t r l then (d.w (dpPid h) F.DP_STAT_RATE r).w (dpPid h) F.DP_STAT_LANES l
    else (d.linkFailed h cause).err (dpPid h) 12
  | none => (d.linkFailed h cause).err (dpPid h) 12

/-- Training that succeeds on a rate that carries the mode brings the link UP. -/
def Dev.linkTrained (d : Dev) (t : Timing) (h : Nat) : Dev :=
  if carries t (d.r (dpPid h) F.DP_STAT_RATE) (d.r (dpPid h) F.DP_STAT_LANES) then
    ((d.w (dpPid h) F.DP_STAT_STATE 2).w (dpPid h) F.DP_STAT_CAUSE 0).w (dpPid h) F.DP_STAT_SSC
      (b2n ((d.sinkOf h).downspread && d.on (dpPid h) F.DP_CTRL_SSC))
  else d.linkFailed h 3

section Training

variable {d : Dev} {h ms : Nat} {o : TrainOutcome}

theorem attemptEnd_idle (hl : d.linkState h ≠ 1) : d.attemptEnd h o ms = d := if_pos (by simpa using hl)

theorem attemptEnd_training (hl : d.linkState h = 1) :
    let t := readTiming d.actRd h
    let n := d.attempted h ms
    d.attemptEnd h o ms = match o with
      | .success => n.linkTrained t h
      | .crFail => n.fallsBack t h 1
      | .eqFail => n.fallsBack t h 2
      | .noAux => (n.linkFailed h 4).err (dpPid h) 12 := by
  refine (if_neg (by simp [hl])).trans ?_
  cases o <;> rfl

end Training

theorem kindOf_dpPid : ∀ h : Fin 8, kindOf (0x500 + h.val) = some (.displayPhy, h.val) := by decide +kernel

/-- What an accepted write starts on a link's page. -/
theorem put_displayPhy {d : Dev} {ag : Agent} {h : Fin 8} {off x : Nat} (ha : d.accepts ag (0x500 + h) off x = true)
    (h4 : off % 4 = 0) (ho : 0x040 ≤ off) :
    d.put ag (0x500 + h) off x = (d.after ag (0x500 + h) off x).displayEffect d .displayPhy h (0x500 + h) off x :=
  (put_flat ha (by omega) h4 (kindOf_dpPid h) rfl).trans (effect_scanOut _ _ (.inr (.inr rfl)) ho)

section Asked

variable {d : Dev} {ag : Agent} {h : Fin 8} {v : Word}

theorem put_dpRetrain (ha : d.accepts ag (0x500 + h) 0x040 (withBit v 1) = true) :
    d.put ag (0x500 + h) 0x040 (withBit v 1) = (d.after ag (0x500 + h) 0x040 (withBit v 1)).retrain h :=
  (put_displayPhy ha rfl (by decide)).trans (if_pos ⟨rfl, bit_withBit v 1⟩)

theorem put_auxGo (ha : d.accepts ag (0x500 + h) 0x050 (withBit v 0) = true) :
    d.put ag (0x500 + h) 0x050 (withBit v 0) = (d.after ag (0x500 + h) 0x050 (withBit v 0)).auxGo h :=
  (put_displayPhy ha rfl (by decide)).trans (if_pos ⟨rfl, bit_withBit v 0⟩)

end Asked

/-! ### AUX (R334) -/

/-- The request of the AUX registers is sent. -/
def Dev.auxSent (d : Dev) (h : Nat) : Dev :=
  let len := d.r (dpPid h) F.DP_AUX_CMD_LEN + 1
  let ty := d.r (dpPid h) F.DP_AUX_CMD_TYPE
  let q := (d.setHead h { d.head h with aux := some (ty, len) }).w (dpPid h) F.DP_AUX_STAT_BUSY 1
  q.emit (.aux h (ty + 4 * q.r (dpPid h) F.DP_AUX_CMD_MOT) (d.r (dpPid h) F.DP_AUX_CMD_ADDR)
    (if ty % 2 = 0 then q.auxBytes h len else []))

/-- The transaction that ran has ended. -/
def Dev.auxFreed (d : Dev) (h : Nat) : Dev :=
  ((d.setHead h { d.head h with aux := none }).w (dpPid h) F.DP_AUX_STAT_BUSY 0).err (dpPid h) 13

/-- The data registers of a read take the bytes that came, and keep those beyond them. -/
def Dev.auxTaken (d : Dev) (h len : Nat) (bs : List Nat) : Dev :=
  let m := takePad 0 16 (bs.take len ++ (d.auxBytes h 16).drop (min len bs.length))
  forAll (upFrom 0 4) (fun k d => d.w (dpPid h) F.DP_AUX_DATA_DATA (ofBytesLE ((m.drop (4 * k)).take 4)) k) d

/-- How a transaction's end shows. -/
def Dev.auxShows (d : Dev) (h ty len : Nat) : AuxOutcome → Dev
  | .ack bs k =>
    let a := (d.w (dpPid h) F.DP_AUX_STAT_RESULT 0).w (dpPid h) F.DP_AUX_STAT_ACKED k.val
    if ty % 2 = 1 then a.auxTaken h len bs else a
  | .nack => d.w (dpPid h) F.DP_AUX_STAT_RESULT 1
  | .defer => d.w (dpPid h) F.DP_AUX_STAT_RESULT 2
  | .timeout => d.w (dpPid h) F.DP_AUX_STAT_RESULT 3

theorem auxGo_eq (d : Dev) (h : Nat) :
    d.auxGo h = if d.on (dpPid h) F.DP_AUX_STAT_BUSY then d
      else if auxRefused (d.r (dpPid h) F.DP_AUX_CMD_TYPE) (d.r (dpPid h) F.DP_AUX_CMD_ADDR)
        (d.r (dpPid h) F.DP_AUX_CMD_LEN + 1) then (d.w (dpPid h) F.DP_AUX_STAT_RESULT 4).err (dpPid h) 13
      else d.auxSent h := rfl

section Aux

variable {d : Dev} {h : Nat} {o : AuxOutcome}

theorem auxEnd_none (hx : (d.head h).aux = none) : d.auxEnd h o = d := by
  unfold Dev.auxEnd
  rw [hx]

theorem auxEnd_some {ty len : Nat} (hx : (d.head h).aux = some (ty, len)) :
    d.auxEnd h o = (d.auxFreed h).auxShows h ty len o := by
  unfold Dev.auxEnd
  rw [hx]
  cases o <;> rfl

end Aux

/-! ### The backlight (R336) -/

theorem blDelayed_iff {d : Dev} {h : Nat} : d.blDelayed h = true ↔
    ∃ t ∈ (d.head h).sent, t + 1000000 * d.r (dpPid h) F.DP_PANEL_BLDELAY ≤ d.now := by
  unfold Dev.blDelayed
  cases (d.head h).sent <;> simp

theorem blDue_iff {d : Dev} {h : Nat} : (d.blenMay h && d.blDelayed h) = true ↔ d.blenMay h = true ∧
    ∃ t ∈ (d.head h).sent, t + 1000000 * d.r (dpPid h) F.DP_PANEL_BLDELAY ≤ d.now := by
  rw [Bool.and_eq_true, blDelayed_iff]

/-- Settles O45: a plug and an unplug by HPD, a pulse by whether the link is UP, an attempt by its outcome and the mode, an
AUX request by BUSY and its address, its end by the outcome, the backlight by what it needs and its delay. -/
theorem displayLinksComplete : Obligations.DisplayLinksComplete := by
  refine ⟨?_, ?_, ?_, ?_, ?_, ?_, ?_, ?_, ?_⟩
  · intro s h k p
    exact ⟨fun hp => Completes.congr rfl (plugIn_present hp), fun hp => Completes.congr rfl (plugIn_new hp),
      fun hp => Completes.congr rfl (plugOut_absent hp), fun hp => Completes.congr rfl (plugOut_present hp)⟩
  · intro s h p
    exact ⟨fun hl => ⟨Completes.congr rfl (irqHpd_up hl), Completes.congr rfl (irqHpd_up hl)⟩,
      fun good hl => Completes.congr rfl (irqHpd_down hl)⟩
  · exact fun s ag h v ha => Completes.congr rfl (put_dpRetrain ha)
  · exact fun s h o ms hl => Completes.congr rfl (attemptEnd_idle hl)
  · intro s h ms hl p t n n' fails
    have ends (o : TrainOutcome) : Completes (.dpTrainingAttemptEnd h o ms) s (s.dev.attemptEnd h o ms) := rfl
    exact ⟨(ends .success).congr (attemptEnd_training hl), (ends .noAux).congr (attemptEnd_training hl),
      (ends .crFail).congr (attemptEnd_training hl), (ends .eqFail).congr (attemptEnd_training hl)⟩
  · intro s ag h v ha p n len ty addr q
    have go : Completes (.auxGo ag h v) s (n.auxGo h) := Completes.congr rfl (put_auxGo ha)
    refine ⟨fun hb => go.congr (if_pos hb), fun hb hr => ?_, fun hb hr => ?_⟩ <;>
      refine go.congr ((auxGo_eq n h).trans ((if_neg (Bool.eq_false_iff.mp hb)).trans ?_))
    · exact if_pos hr
    · exact if_neg (Bool.eq_false_iff.mp hr)
  · exact fun s h o hx => Completes.congr rfl (auxEnd_none hx)
  · intro s h ty len hx p n
    have ends (o : AuxOutcome) : Completes (.auxTransactionEnd h o) s ((s.dev.auxFreed h).auxShows h ty len o) :=
      Completes.congr rfl (auxEnd_some hx)
    exact ⟨ends .nack, ends .defer, ends .timeout, fun bs k => ends (.ack bs k)⟩
  · intro s h due
    exact ⟨fun hd => Completes.congr rfl (if_pos (blDue_iff.mpr hd)),
      fun hd => Completes.congr rfl (if_neg (fun c => hd (blDue_iff.mp c)))⟩

end Sys2Proof.Machine
end

section
/-! SUPPORT. The touch ports: their start and stop, scan frames, strobe loss, the recalibration that HOLD_S forces and the
ward mailbox, case by case (R350 to R356, R362, R371). -/

namespace Sys2Proof

/-! ### Tables -/

/-- Of two entries set at one key the later one counts. -/
theorem tabIns_tabIns {α : Type} (t : Tab α) (k : Nat) (v w : α) : tabIns (tabIns t k v) k w = tabIns t k w := by
  induction t with
  | nil => simp [tabIns]
  | cons e r ih =>
    obtain ⟨a, x⟩ := e
    by_cases before : k < a
    · simp [tabIns, before]
    · by_cases here : a = k <;> simp [tabIns, before, here, ih]

end Sys2Proof

namespace Sys2Proof.Machine

open Sys2Proof

theorem setTouch_setTouch (d : Dev) (t : Nat) {x y : TouchSt} (hx : x ≠ {}) (hy : y ≠ {}) :
    (d.setTouch t x).setTouch t y = d.setTouch t y := by
  simp [Dev.setTouch, tabPut, hx, hy, tabIns_tabIns]

@[simp] theorem touch_setTouch (d : Dev) (t : Nat) (x : TouchSt) : (d.setTouch t x).touch t = x := tabGet_put_same _ _ _ _

/-! ### `TS_CTRL` (R353, R371) -/

theorem kindOf_tsPid : ∀ t : Fin 8, kindOf (0x580 + 16 * t.val) = some (.touchCtl, t.val) := by decide +kernel

/-- On a touch port's page the blocks of touch, haptics and audio alone take a write up. -/
theorem effect_touchCtl (d b : Dev) {i p off v : Nat} (ho : 0x040 ≤ off) :
    d.effect? b .touchCtl i p off v = d.feelEffect b .touchCtl i p off v := if_neg (Nat.not_lt.mpr ho)

/-- RECAL and DUMP of a word wait for the port's next scan frame. -/
def Dev.touchAsked (d : Dev) (t w : Nat) : Dev :=
  let r := if bit w 1 then d.setTouch t { d.touch t with recal := true } else d
  let a := r.r (tsPid t) F.TS_DUMP_LO_ADDR * 64 + r.r (tsPid t) F.TS_DUMP_HI_ADDR * 2 ^ 32
  if bit w 2 then r.setTouch t { r.touch t with dump := some a } else r

/-- An accepted write of `TS_CTRL` acts by the change that it makes to EN, and by its RECAL and DUMP. -/
theorem put_tsCtrl {d : Dev} {ag : Agent} {t : Fin 8} {w : Nat} (ha : d.accepts ag (0x580 + 16 * t) 0x040 w = true) :
    let n := d.after ag (0x580 + 16 * t) 0x040 w
    d.put ag (0x580 + 16 * t) 0x040 w = (if d.rises (tsPid t) w F.TS_CTRL_EN then n.touchStart t
      else if d.falls (tsPid t) w F.TS_CTRL_EN then n.touchStop t else n).touchAsked t w := by
  intro n
  refine (put_flat ha (by omega) rfl (kindOf_tsPid t) rfl).trans ((effect_touchCtl _ _ (by decide)).trans ?_)
  simp only [Dev.touchAsked, Nat.mul_comm _ (2 ^ 32)]
  rfl

/-- EN starts a port that is OFF and stops one that is not. -/
theorem touchEnWritten_eq (n : Dev) (t : Nat) (up down : Bool) :
    let x : TouchSt := { mbox := (n.touch t).mbox, lossy := (n.touch t).lossy, lastId := (n.touch t).lastId
                         whole := n.windows t, strobeAt := (n.touch t).strobeAt }
    (if up then n.touchStart t else if down then n.touchStop t else n) =
      if up = true ∧ n.touchState t = 0 then ((n.setTouch t x).w (tsPid t) F.TS_STAT_SYNCED (b2n (n.windows t))).enterCapture t
      else if up = false ∧ down = true ∧ n.touchState t ≠ 0 then n.touchLeave t 0 else n := by
  cases up with
  | true => simp [Dev.touchStart]
  | false =>
    cases down with
    | true => simp [Dev.touchStop]
    | false => simp

theorem enterCapture_shows (d : Dev) (t : Nat) : (d.enterCapture t).touchState t = 1 ∧
    ((d.enterCapture t).touch t).need = max 1 (d.r (tsPid t) F.TS_TRACK_BASE_FR) :=
  ⟨r_w_same _ _ _ _ _, congrArg TouchSt.need (touch_setTouch _ _ _)⟩

/-! ### The start of a scan frame (R350, R353) -/

/-- The port's next scan frame starts now: it takes the settings, and RECAL is served. -/
def Dev.scanBegun (d : Dev) (t : Nat) : Dev :=
  (d.setTouch t { d.touch t with
    scanning := true, recal := false, cfg := d.touchCfg t, startAt := d.now, endAt := d.now + d.scanNs t
    since := (d.touch t).since + 1, headAt := d.r (hdPid (d.touchHead t)) F.HD_STAT_STATE
    en := d.on (d.trPage t) F.TR_CTRL_EN t }).touchShow t

section Start

variable {d : Dev} {t : Nat}

theorem scanStart_undue (h : ¬(d.touchState t ≠ 0 ∧ (d.touchState t = 3 → d.touchWake t = true) ∧ d.scanDue t = true)) :
    d.scanStart t = d := by
  refine if_pos (Classical.byContradiction fun hn => h ?_)
  simpa using hn

theorem scanStart_due (h : d.touchState t ≠ 0 ∧ (d.touchState t = 3 → d.touchWake t = true) ∧ d.scanDue t = true) :
    let n := if d.touchState t = 3 then d.overrun t else (d.overrun t).touchBoundary t
    d.scanStart t = (if (n.touch t).recal = true ∧ d.touchState t = 2 then (n.endTracks t 1 true).enterCapture t
      else n).scanBegun t := by
  intro n
  refine (if_neg (by simpa using h)).trans (congrArg (Dev.scanBegun · t) ?_)
  exact ite_of_iff (by simp [n]) rfl rfl

end Start

/-! ### The end of a scan frame (R350, R352, R353) -/

/-- The scan frame has ended with its raw values: it is timed and counted, and dumped where DUMP waits. -/
def Dev.scanTaken (d : Dev) (t : Nat) (raw : List Nat) : Dev :=
  let n := (((d.stamp (tsPid t)).2.w64 (tsPid t) F.TS_SCANT_LO_TIME F.TS_SCANT_HI_TIME (d.stamp (tsPid t)).1).add (tsPid t)
    F.TS_SCANCNT_COUNT).touchDump t raw
  n.setTouch t { n.touch t with scanning := false, last := raw }

/-- The port's state takes the raw values of the scan frame that ended. -/
def Dev.scanServed (d : Dev) (t : Nat) (raw : List Nat) (ns time : Nat) : Dev :=
  match d.touchState t with
  | 1 => d.captureFrame t raw
  | 2 => d.runFrame t raw ns time
  | 3 => d.standbyFrame t raw time
  | _ => d

section End

variable {d : Dev} {t ns time : Nat} {raw : List Nat}

theorem scanEnd_early (h : ¬((d.touch t).scanning = true ∧ (d.touch t).endAt ≤ d.now)) : d.scanEnd t raw ns = d :=
  if_pos (by simpa [Classical.or_iff_not_imp_left] using h)

theorem scanEnd_ends (h : (d.touch t).scanning = true ∧ (d.touch t).endAt ≤ d.now) :
    let raw' := takePad 0 (d.nodeCount t) raw
    d.scanEnd t raw ns = (d.scanTaken t raw').scanServed t raw' ns (d.stamp (tsPid t)).1 :=
  if_neg (by simpa using h)

theorem scanServed_capture (h : d.touchState t = 1) : d.scanServed t raw ns time = d.captureFrame t raw := by
  simp only [Dev.scanServed, h]

theorem scanServed_run (h : d.touchState t = 2) : d.scanServed t raw ns time = d.runFrame t raw ns time := by
  simp only [Dev.scanServed, h]

theorem scanServed_standby (h : d.touchState t = 3) : d.scanServed t raw ns time = d.standbyFrame t raw time := by
  simp only [Dev.scanServed, h]

theorem scanServed_other (h1 : d.touchState t ≠ 1) (h2 : d.touchState t ≠ 2) (h3 : d.touchState t ≠ 3) :
    d.scanServed t raw ns time = d := by
  unfold Dev.scanServed
  split
  case h_4 => rfl
  all_goals contradiction

end End

/-! ### Strobe loss, forced recalibration and the mailbox (R351, R356, R362) -/

/-- A port that loses its strobe is in no display frame with windows either. -/
theorem unsync_lost (d : Dev) (t : Nat) : (d.setTouch t { d.touch t with lost := true }).unsync t =
    (d.setTouch t { d.touch t with lost := true, whole := false }).w (tsPid t) F.TS_STAT_SYNCED 0 := by
  have lost (y : TouchSt) (hy : y.lost = true) : y ≠ {} := fun c => by rw [c] at hy; cases hy
  unfold Dev.unsync
  rw [touch_setTouch, setTouch_setTouch d t (lost _ rfl) (lost _ rfl)]

/-- The contact that an ID names, of the queue or of the ward. -/
def Dev.contact (d : Dev) (t id : Nat) : Option Track :=
  (d.touch t).tracks.find? (fun k => k.id == id && (k.kind == 1 || k.kind == 2))

/-- A contact is taken into the baselines, with the nodes around it: it ends, and becomes a ghost. -/
def Dev.contactTaken (d : Dev) (t id : Nat) (k : Track) : Dev :=
  let p := tsPid t
  let x := d.touch t
  let ring := ringOf (d.drive t) (d.sense t) k.nodes
  let scan := d.r p F.TS_SCANCNT_COUNT
  let time := d.r64 p F.TS_SCANT_LO_TIME F.TS_SCANT_HI_TIME
  let g := (d.addRec t scan (time % 2 ^ 32) {} k 2 1 0).1
  let keep := x.tracks.map (fun j => if j.id == id then ({ j with nodes := ring }).ghost true else j)
  let n := d.setTouch t { x with base := rebase x.base x.last ring }
  ((n.addSat p F.TS_EVENTS_RECAL).err p 12).touchDeliver t 0 x.queued { g with keep := keep } false scan time

section Hold

variable {d : Dev} {t id : Nat}

theorem forcedRecal_none (h : d.contact t id = none) : d.forcedRecal t id = d := by
  unfold Dev.contact at h
  unfold Dev.forcedRecal
  dsimp only
  rw [h]

theorem forcedRecal_some {k : Track} (h : d.contact t id = some k) :
    d.forcedRecal t id = if d.touchState t = 2 ∧ k.downAt + 1000000000 * (d.touch t).cfg.holdS ≤ d.now then
      d.contactTaken t id k else d := by
  have early : (!(d.touchState t == 2) || decide (d.now < k.downAt + 1000000000 * (d.touch t).cfg.holdS)) = true ↔
      ¬(d.touchState t = 2 ∧ k.downAt + 1000000000 * (d.touch t).cfg.holdS ≤ d.now) := by
    simp [Classical.or_iff_not_imp_left]
  unfold Dev.contact at h
  unfold Dev.forcedRecal
  dsimp only
  rw [h]
  exact (ite_of_iff early rfl rfl).trans (ite_not _ _ _)

end Hold

/-! ### Baseline tracking (R354) -/

theorem trackNode_between (k base raw : Nat) :
    (base ≤ raw → base ≤ trackNode k base raw ∧ trackNode k base raw ≤ raw) ∧
    (raw ≤ base → raw ≤ trackNode k base raw ∧ trackNode k base raw ≤ base) := by
  have up := Nat.div_le_self (raw - base) (2 ^ k)
  have down := Nat.div_le_self (base - raw) (2 ^ k)
  unfold trackNode
  generalize (raw - base) / 2 ^ k = rise at up ⊢
  generalize (base - raw) / 2 ^ k = fall at down ⊢
  split <;> omega

/-- Settles O46: EN by the change that the write makes and the port's state, a scan frame's start by whether it is due, its
end by whether its drive steps are over and the state, HOLD_S by the contact and its time. -/
theorem touchPortsComplete : Obligations.TouchPortsComplete := by
  refine ⟨?_, fun d t => enterCapture_shows d t, ?_, fun s t => rfl, ?_, ?_, ?_, fun s t k => rfl, ?_⟩
  · intro s ag t v c w hc ha p n x e r a
    have put : s.dev.put ag (0x580 + 16 * t) 0x040 w = e.touchAsked t w :=
      (put_tsCtrl ha).trans (congrArg (Dev.touchAsked · t w) (touchEnWritten_eq n t _ _))
    have writes : Completes c s (s.dev.put ag (0x580 + 16 * t) 0x040 w) := by
      obtain ⟨rfl, rfl⟩ | ⟨rfl, rfl⟩ | ⟨rfl, rfl⟩ | ⟨rfl, rfl⟩ := hc <;> rfl
    exact writes.congr put
  · intro s t st due n m
    exact ⟨fun hd => Completes.congr rfl (scanStart_undue hd), fun hd => Completes.congr rfl (scanStart_due hd)⟩
  · intro s t raw ns p ends raw' time n n' sum base caps done
    have ended (he : ends) : done (n'.scanServed t raw' ns time) := Completes.congr rfl (scanEnd_ends he)
    exact ⟨fun he => Completes.congr rfl (scanEnd_early he),
      fun he hs hc => (ended he).congr ((scanServed_capture hs).trans (if_pos hc)),
      fun he hs hc => (ended he).congr ((scanServed_capture hs).trans (if_neg (Nat.not_lt.mpr hc))),
      fun he hs => (ended he).congr (scanServed_run hs), fun he hs => (ended he).congr (scanServed_standby hs),
      fun he h1 h2 h3 => (ended he).congr (scanServed_other h1 h2 h3)⟩
  · exact fun s t => Completes.congr rfl (ite_of_iff .rfl (unsync_lost _ _) rfl)
  · intro s t i p x kept scan time
    refine ⟨fun hk => Completes.congr rfl (forcedRecal_none hk), ?_⟩
    intro k hk due ring g keep n
    have held : Completes (.forcedRecalibration t i) s (if due then s.dev.contactTaken t i.toNat k else s.dev) :=
      Completes.congr rfl (forcedRecal_some hk)
    exact ⟨fun hd => held.congr (if_neg hd), fun hd => held.congr (if_pos hd)⟩
  · exact fun raw base k => ⟨by simp [trackNode], trackNode_between k base raw⟩

end Sys2Proof.Machine
end

section
/-! SUPPORT. Words with some of their bits replaced, and what an accepted write starts on the haptic pages and by a trigger
doorbell (R380, R381, R385, R389). -/

namespace Sys2Proof.Machine

open Sys2Proof

/-! ### Words with some bits replaced -/

theorem testBit_bits (v l n i : Nat) : (bits v l n).testBit i = (decide (i < n) && v.testBit (l + i)) := by
  simp only [bits, Nat.testBit_mod_two_pow, Nat.testBit_div_two_pow, Nat.add_comm]

/-- What `setBits` replaces lies between the bits above it and those below it. -/
theorem setBits_eq (v lo w x : Nat) :
    setBits v lo w x = 2 ^ lo * (2 ^ w * (v / 2 ^ lo / 2 ^ w) + x % 2 ^ w) + v % 2 ^ lo := by
  have whole := Nat.div_add_mod v (2 ^ lo)
  have upper := congrArg (2 ^ lo * ·) (Nat.div_add_mod (v / 2 ^ lo) (2 ^ w))
  rw [Nat.mul_add] at upper
  rw [setBits, bits, Nat.mul_add, Nat.mul_comm _ (2 ^ lo), Nat.mul_comm _ (2 ^ lo)]
  omega

theorem testBit_setBits (v lo w x i : Nat) :
    (setBits v lo w x).testBit i = if lo ≤ i ∧ i < lo + w then x.testBit (i - lo) else v.testBit i := by
  rw [setBits_eq, Nat.testBit_two_pow_mul_add _ (Nat.mod_lt _ (Nat.two_pow_pos lo))]
  by_cases below : i < lo
  · rw [if_pos below, if_neg (by omega), Nat.testBit_mod_two_pow, decide_eq_true below, Bool.true_and]
  rw [if_neg below, Nat.testBit_two_pow_mul_add _ (Nat.mod_lt _ (Nat.two_pow_pos w))]
  by_cases within : i - lo < w
  · rw [if_pos within, if_pos (by omega), Nat.testBit_mod_two_pow, decide_eq_true within, Bool.true_and]
  · rw [if_neg within, if_neg (by omega), Nat.testBit_div_two_pow, Nat.testBit_div_two_pow]
    congr 1
    omega

/-- The bits that are replaced. -/
theorem bits_setBits_same (v lo w x : Nat) : bits (setBits v lo w x) lo w = x % 2 ^ w := by
  refine Nat.eq_of_testBit_eq fun i => ?_
  rw [testBit_bits, Nat.testBit_mod_two_pow, testBit_setBits]
  by_cases within : i < w <;> simp [within]

/-- Bits that lie apart from those that are replaced. -/
theorem bits_setBits_apart {v lo w x l n : Nat} (h : l + n ≤ lo ∨ lo + w ≤ l) :
    bits (setBits v lo w x) l n = bits v l n := by
  refine Nat.eq_of_testBit_eq fun i => ?_
  rw [testBit_bits, testBit_bits, testBit_setBits]
  by_cases within : i < n
  · rw [if_neg (by omega)]
  · simp [within]

/-! ### What an accepted write starts -/

/-- On the haptic pages the blocks of touch, haptics and audio alone take a write up. -/
theorem effect_haptic {d b : Dev} {k : PageKind} {i p off v : Nat} (hk : k = .hapticChannel ∨ k = .wardHaptic)
    (ho : 0x040 ≤ off) : d.effect? b k i p off v = d.feelEffect b k i p off v := by
  obtain rfl | rfl := hk <;> exact if_neg (Nat.not_lt.mpr ho)

theorem kindOf_haPid : ∀ h : Fin 8, kindOf (haPid h) = some (.hapticChannel, h.val) := by decide +kernel

theorem blockOff_aligned (ag : Agent) (h : Fin 8) {o : Nat} (ho : o % 4 = 0) : blockOff ag h o % 4 = 0 := by
  unfold blockOff
  split <;> omega

/-- An accepted write at a channel's block, by whatever page shows the block to the agent. -/
theorem put_haBlock {d : Dev} {ag : Agent} {h : Fin 8} {page o off w : Nat} (ho : o % 4 = 0) (h40 : 0x040 ≤ off)
    (ha : d.accepts ag page (blockOff ag h o) w = true)
    (hp : d.place (agentPageNo ag page) (blockOff ag h o) = (haPid h, off)) :
    d.put ag page (blockOff ag h o) w =
      (d.after ag page (blockOff ag h o) w).feelEffect d .hapticChannel h (haPid h) off w := by
  rw [put_accepts ha (blockOff_aligned ag h ho), hp, startedBy_kind (kindOf_haPid h), effect_haptic (.inl rfl) h40]

/-- An accepted write at the ward haptic page. -/
theorem put_wardHaptic {d : Dev} {off w : Nat} (ho : off % 4 = 0) (h40 : 0x040 ≤ off)
    (ha : d.accepts .ward hbPid off w = true) :
    d.put .ward hbPid off w = (d.after .ward hbPid off w).feelEffect d .wardHaptic 0 hbPid off w :=
  (put_flat ha (by decide) ho (show kindOf hbPid = some (.wardHaptic, 0) by decide) rfl).trans (effect_haptic (.inr rfl) h40)

/-- An accepted write of `DB_HAP` brings its word to the channel of the doorbell. -/
theorem put_hapBell {d : Dev} {v : Fin 64} {h : Fin 8} {x : Nat} (ha : d.accepts (.vi v) 2 (0x400 + 4 * h) x = true) :
    d.put (.vi v) 2 (0x400 + 4 * h) x = (d.after (.vi v) 2 (0x400 + 4 * h) x).latchTrig h x := by
  have chan : (0x400 + 4 * h.val - 0x400) / 4 = h := by omega
  refine (put_vi ha (by decide) (by omega) rfl rfl).trans ((effect_tenancy (.inr (.inr (.inr (.inl rfl)))) (by omega)).trans ?_)
  refine (if_neg (by omega)).trans ((if_neg (by omega)).trans ((if_pos (by omega)).trans ?_))
  rw [chan]

/-- An accepted write of `HA_TRIG` brings its word to the channel. -/
theorem put_haTrig {d : Dev} {ag : Agent} {h : Fin 8} {page x : Nat} (ha : d.accepts ag page (blockOff ag h 0x0C) x = true)
    (hp : d.place (agentPageNo ag page) (blockOff ag h 0x0C) = (haPid h, 0x10C)) :
    d.put ag page (blockOff ag h 0x0C) x = (d.after ag page (blockOff ag h 0x0C) x).latchTrig h x :=
  (put_haBlock rfl (by decide) ha hp).trans rfl

/-- An accepted write of `HB_TRIG` is the ward world's word. -/
theorem put_hbTrig {d : Dev} {x : Nat} (ha : d.accepts .ward hbPid 0x040 x = true) :
    d.put .ward hbPid 0x040 x = (d.after .ward hbPid 0x040 x).wardTrig x :=
  (put_wardHaptic rfl (by decide) ha).trans rfl

/-- An accepted write of `HA_CTRL` acts by its CLEAR, and then by its CHECK. -/
theorem put_haCtrl {d : Dev} {ag : Agent} {h : Fin 8} {page w : Nat} (ha : d.accepts ag page (blockOff ag h 0) w = true)
    (hp : d.place (agentPageNo ag page) (blockOff ag h 0) = (haPid h, 0x100)) :
    let n := d.after ag page (blockOff ag h 0) w
    let m := if bit w 1 then n.hapClear h else n
    d.put ag page (blockOff ag h 0) w = if bit w 2 then m.hapCheckGo h else m :=
  (put_haBlock rfl (by decide) ha hp).trans rfl

/-- An accepted write of `HA_LD_CTRL` with GO starts the load that its word names. -/
theorem put_haLoadGo {d : Dev} {ag : Agent} {h : Fin 8} {page w : Nat}
    (ha : d.accepts ag page (blockOff ag h 0x28) w = true)
    (hp : d.place (agentPageNo ag page) (blockOff ag h 0x28) = (haPid h, 0x128)) (go : bit w 0 = true) :
    d.put ag page (blockOff ag h 0x28) w =
      (d.after ag page (blockOff ag h 0x28) w).hapLoadGo h (bits w 8 5) (bit w 16) (bit w 17) :=
  (put_haBlock rfl (by decide) ha hp).trans (if_pos ⟨rfl, go⟩)

/-- An accepted write of `HB_LD_CTRL` with GO starts the ward world's load. -/
theorem put_hbLoadGo {d : Dev} {w : Nat} (ha : d.accepts .ward hbPid 0x05C w = true) (go : bit w 0 = true) :
    d.put .ward hbPid 0x05C w = (d.after .ward hbPid 0x05C w).wardLoadGo (bits w 8 6) (bit w 16) (bit w 17) (bit w 18) :=
  (put_wardHaptic rfl (by decide) ha).trans (if_pos ⟨rfl, go⟩)

end Sys2Proof.Machine
end

section
/-! SUPPORT. The haptic channels' triggers, samples and brake, case by case (R380 to R385). -/

namespace Sys2Proof.Machine

open Sys2Proof

/-! ### Latch words (R381, R385) -/

/-- A Latch trigger waits on the channel. -/
def Dev.latchWaits (d : Dev) (h e gain rep : Nat) : Dev :=
  (d.setChan h { d.chan h with pend := some (e, gain, rep) }).pendShow h

/-- A Latch word that is dropped with an error: reserved bits are set, or it may not name its effect. -/
def Dev.latchWrong (d : Dev) (h w : Nat) : Prop :=
  bits w 20 4 ≠ 0 ∨ bits w 25 7 ≠ 0 ∨ (bit w 24 = false ∧ d.mayName h (bits w 0 8) = false)

section Latch

variable {d : Dev} {h w : Nat}

theorem latchTrig_disabled (hn : d.on (haPid h) F.HA_CTRL_EN = false) : d.latchTrig h w = d.dropTrig h :=
  if_pos (by simpa using hn)

theorem latchTrig_wrong (hn : d.on (haPid h) F.HA_CTRL_EN = true) (hw : d.latchWrong h w) :
    d.latchTrig h w = (d.dropTrig h).hapErr h 12 :=
  (if_neg (by simpa using hn)).trans (if_pos (by simpa [Dev.latchWrong] using hw))

/-- A word that is not dropped at the channel's entry is a STOP or a trigger. -/
theorem latchTrig_stop (hn : d.on (haPid h) F.HA_CTRL_EN = true) (hw : ¬d.latchWrong h w) (hs : bit w 24 = true) :
    d.latchTrig h w =
      if d.hapState h = 3 then d.effectEnd h else if d.hapState h = 4 then d.dropTrig h else d :=
  (if_neg (by simpa using hn)).trans ((if_neg (by simpa [Dev.latchWrong] using hw)).trans (if_pos hs))

theorem latchTrig_start (hn : d.on (haPid h) F.HA_CTRL_EN = true) (hw : ¬d.latchWrong h w) (hs : bit w 24 = false) :
    let e := bits w 0 8
    let g := gainOf (bits w 8 8)
    let r := bits w 16 4
    d.latchTrig h w = if (d.effect e).isNone = true then d.dropTrig h
      else if d.hapState h = 2 then d.hapStart h e g r false none
      else if d.hapState h = 3 then (d.latchWaits h e g r).effectEnd h
      else if d.hapState h = 1 ∨ d.hapState h = 5 then
        (if (d.chan h).pend.isSome = true then d.dropTrig h else d).latchWaits h e g r
      else d.dropTrig h := by
  intro e g r
  refine (if_neg (by simpa using hn)).trans ((if_neg (by simpa [Dev.latchWrong] using hw)).trans
    ((if_neg (Bool.eq_false_iff.mp hs)).trans (ite_congr rfl (fun _ => rfl) (fun _ => ?_))))
  dsimp only
  split
  next idle => exact (if_pos idle).symm
  next plays => exact ((if_neg (by omega)).trans (if_pos plays)).symm
  next checks => exact ((if_neg (by omega)).trans ((if_neg (by omega)).trans (if_pos (.inl checks)))).symm
  next brakes => exact ((if_neg (by omega)).trans ((if_neg (by omega)).trans (if_pos (.inr brakes)))).symm
  next h2 h3 h1 h5 => exact ((if_neg h2).trans ((if_neg h3).trans (if_neg (not_or.mpr ⟨h1, h5⟩)))).symm

end Latch

/-! ### Bolt triggers (R154, R381, R385) -/

theorem boltTrig_eq (d : Dev) (h e gain : Nat) (since : Option (Nat × Nat)) :
    let st := d.hapState h
    let x := d.chan h
    d.boltTrig h e gain since = if d.wardRestarting = true then d
      else if st = 0 ∨ st = 6 ∨ (st = 1 ∧ x.checkAt + 1000000 < d.now) ∨ 64 ≤ e ∨ (d.effect e).isNone = true then d.boltLost
      else if st = 1 then (d.setChan h { x with held := some (e, gainOf gain, since) }).pendShow h
      else if x.pend.isSome = true then
        (((d.setChan h { x with pend := none }).dropTrig h).pendShow h).hapStart h e (gainOf gain) 0 true since
      else d.hapStart h e (gainOf gain) 0 true since :=
  ite_congr rfl (fun _ => rfl) (fun _ => ite_congr rfl (fun _ => rfl) (fun _ => ite_congr rfl (fun _ => rfl)
    (fun _ => apply_ite (fun n : Dev => n.hapStart h e (gainOf gain) 0 true since) _ _ _)))

/-! ### The ward world's words (R380, R381) -/

theorem wardTrig_stop {d : Dev} {w : Nat} (hs : bit w 24 = true) : d.wardTrig w = d.wardStop (bits w 0 3) := if_pos hs

theorem wardTrig_start {d : Dev} {w : Nat} (hs : bit w 24 = false) :
    d.wardTrig w = d.boltTrig (bits w 0 3) (bits w 8 8) (bits w 16 8) none := if_neg (Bool.eq_false_iff.mp hs)

/-- The ward world's word of a command: STOP or not, and the channel in CHAN. -/
def wardWord (w stop : Nat) (h : Fin 8) : Nat := setBits (setBits w 24 1 stop) 0 3 h

theorem bits_wardWord_chan (w stop : Nat) (h : Fin 8) : bits (wardWord w stop h) 0 3 = h :=
  (bits_setBits_same _ _ _ _).trans (Nat.mod_eq_of_lt h.isLt)

theorem bit_wardWord_stop (w stop : Nat) (h : Fin 8) : bit (wardWord w stop h) 24 = bit stop 0 := by
  simp [wardWord, bit, testBit_setBits]

/-- The effect and the gain of the word are those that the ward world wrote. -/
theorem bits_wardWord_byte (w stop : Nat) (h : Fin 8) {l : Nat} (hl : 3 ≤ l ∧ l + 8 ≤ 24) :
    bits (wardWord w stop h) l 8 = bits w l 8 :=
  (bits_setBits_apart (.inr hl.1)).trans (bits_setBits_apart (.inl hl.2))

theorem wardTrig_wardWord_start (d : Dev) (w : Nat) (h : Fin 8) :
    d.wardTrig (wardWord w 0 h) = d.boltTrig h (bits w 8 8) (bits w 16 8) none := by
  rw [wardTrig_start (bit_wardWord_stop w 0 h), bits_wardWord_chan, bits_wardWord_byte w 0 h (by decide),
    bits_wardWord_byte w 0 h (by decide)]

theorem wardTrig_wardWord_stop (d : Dev) (w : Nat) (h : Fin 8) : d.wardTrig (wardWord w 1 h) = d.wardStop h := by
  rw [wardTrig_stop (bit_wardWord_stop w 1 h), bits_wardWord_chan]

/-! ### A touch port's triggers (R364, R365, R381) -/

def TouchTrig.isClick : TouchTrig → Bool
  | .click _ => true
  | _ => false

def TouchTrig.isBolt : TouchTrig → Bool
  | .bolt _ => true
  | _ => false

/-- The oldest click and the oldest Bolt trigger that a touch port has on its way. -/
def Dev.firstClick (d : Dev) (t : Nat) : Option (TouchTrig × Nat) := (d.touch t).trigs.find? (fun x => x.1.isClick)
def Dev.firstBolt (d : Dev) (t : Nat) : Option (TouchTrig × Nat) := (d.touch t).trigs.find? (fun x => x.1.isBolt)

/-- The port without a trigger that has arrived. -/
def Dev.trigTaken (d : Dev) (t : Nat) (x : TouchTrig × Nat) : Dev :=
  d.setTouch t { d.touch t with trigs := (d.touch t).trigs.erase x }

section Touch

variable {d : Dev} {t e since : Nat}

theorem takeTrig_none {sel : TouchTrig → Bool} (hf : (d.touch t).trigs.find? (fun x => sel x.1) = none) :
    d.takeTrig t sel = (none, d) := by
  unfold Dev.takeTrig
  dsimp only
  rw [hf]

theorem takeTrig_some {sel : TouchTrig → Bool} {x : TouchTrig × Nat}
    (hf : (d.touch t).trigs.find? (fun x => sel x.1) = some x) : d.takeTrig t sel = (some x, d.trigTaken t x) := by
  unfold Dev.takeTrig
  dsimp only
  rw [hf]
  rfl

theorem touchClick_none (hf : d.firstClick t = none) : d.touchClick t = d := by
  unfold Dev.touchClick
  rw [takeTrig_none]
  exact hf

theorem touchClick_arrives {h : Nat} (hf : d.firstClick t = some (.click e, since)) (hh : d.touchHap t = some h) :
    d.touchClick t = (d.trigTaken t (.click e, since)).latchTrig h e := by
  unfold Dev.touchClick
  rw [takeTrig_some (x := (.click e, since)), hh]
  exact hf

theorem touchBolt_none (hf : d.firstBolt t = none) : d.touchBolt t = d := by
  unfold Dev.touchBolt
  rw [takeTrig_none]
  exact hf

theorem touchBolt_arrives {h : Nat} (hf : d.firstBolt t = some (.bolt e, since)) (hh : d.touchHap t = some h) :
    d.touchBolt t = (d.trigTaken t (.bolt e, since)).boltTrig h e 255 (some (since, t)) := by
  unfold Dev.touchBolt
  rw [takeTrig_some (x := (.bolt e, since)), hh]
  exact hf

theorem touchBolt_unlinked (hf : d.firstBolt t = some (.bolt e, since)) (hh : d.touchHap t = none) :
    d.touchBolt t = d.trigTaken t (.bolt e, since) := by
  unfold Dev.touchBolt
  rw [takeTrig_some (x := (.bolt e, since)), hh]
  exact hf

/-- A click acts on the channel of its port's direct path. -/
theorem hapWord_click (d : Dev) (h t : Fin 8) :
    d.hapWord h (.click t) false = if d.touchHap t = some h.val then d.touchClick t else d :=
  (ite_of_iff (by simp) rfl rfl).trans (ite_not _ _ _)

end Touch

/-! ### The brake's end and the samples (R382 to R384) -/

section Play

variable {d : Dev} {h : Nat}

theorem brakeDone_idle (hp : (d.chan h).pend = none) :
    d.brakeDone h = ((d.setChan h { d.chan h with emf := 0 }).setHap h 2).hapBoundary h := by
  unfold Dev.brakeDone
  dsimp only
  rw [hp]

theorem brakeDone_waiting {e g r : Nat} (hp : (d.chan h).pend = some (e, g, r)) :
    let y := d.setChan h { d.chan h with pend := none }
    d.brakeDone h = if (d.effect e).isSome = true then (y.hapStart h e g r false none).pendShow h
      else (((y.dropTrig h).setHap h 2).pendShow h).hapBoundary h := by
  unfold Dev.brakeDone
  dsimp only
  rw [hp]

variable {emf : Int} {mv : Nat}

theorem hapTick_plays (hs : (d.showVhap mv).hapState h = 3 ∨ (d.showVhap mv).hapState h = 4) :
    d.hapTick h emf mv = (d.showVhap mv).playSample h emf mv := by
  unfold Dev.hapTick
  obtain hs | hs := hs <;> simp only [hs]

theorem hapTick_brakes (hs : (d.showVhap mv).hapState h = 5) : d.hapTick h emf mv = (d.showVhap mv).brakeSample h emf := by
  unfold Dev.hapTick
  simp only [hs]

theorem hapTick_rests (h3 : (d.showVhap mv).hapState h ≠ 3) (h4 : (d.showVhap mv).hapState h ≠ 4)
    (h5 : (d.showVhap mv).hapState h ≠ 5) : d.hapTick h emf mv = d.showVhap mv := by
  unfold Dev.hapTick
  dsimp only
  split
  case h_4 => rfl
  all_goals contradiction

end Play

theorem clampI_between {lo hi : Int} (h : lo ≤ hi) (i : Int) : lo ≤ clampI lo hi i ∧ clampI lo hi i ≤ hi := by
  unfold clampI
  split
  · omega
  · split <;> omega

theorem brakeEnd_eq (d : Dev) (h : Nat) :
    let x := d.chan h
    d.brakeEnd h = if d.hapState h = 5 ∧ (2 ≤ x.below ∨ 8 * x.cfg.brkMs ≤ x.braked) then d.brakeDone h else d :=
  ite_of_iff (by simp [HapSt.brakeOver]) rfl rfl

/-- A trigger or a STOP is its word, by the way that the word takes. -/
theorem completes_hapWord (s : State) (h : Fin 8) (src : TrigSrc) (stop : Bool) :
    Completes (if stop then .hapticStop h src else .hapticTrigger h src) s (s.dev.hapWord h src stop) := by
  cases stop <;> rfl

/-- Settles O47: a word by the way it takes to its channel, a Latch word by EN, its bits and the channel's state, a Bolt
trigger by the state and the effect, a sample by the state, the brake by its pending trigger and its end condition. -/
theorem hapticDriveCompletes : Obligations.HapticDriveCompletes := by
  refine ⟨?_, ?_, ?_, ?_, ?_, ?_, ?_, ?_, fun d h => boltTrig_eq d h, ?_, ?_, ?_, ?_⟩
  · intro s h v w stop x ha
    exact (completes_hapWord s h (.doorbell v w) stop).congr (put_hapBell ha)
  · intro s h ag page w stop x off ha hp
    exact (completes_hapWord s h (.register ag page w) stop).congr (put_haTrig ha hp)
  · intro s h w x ha
    exact (completes_hapWord s h (.ward w) false).congr ((put_hbTrig ha).trans (wardTrig_wardWord_start _ w.toNat h))
  · intro s h w x n ha
    exact (completes_hapWord s h (.ward w) true).congr ((put_hbTrig ha).trans (wardTrig_wardWord_stop n w.toNat h))
  · intro s h t x first
    have click : Completes (.hapticTrigger h (.click t)) s
        (if s.dev.touchHap t = some h.val then s.dev.touchClick t else s.dev) :=
      (completes_hapWord s h (.click t) false).congr (hapWord_click s.dev h t)
    refine ⟨rfl, fun hn => click.congr ?_, fun e since hh hf => click.congr ((if_pos hh).trans (touchClick_arrives hf hh))⟩
    obtain elsewhere | gone := hn
    · exact if_neg elsewhere
    · exact (congrArg (ite _ · s.dev) (touchClick_none gone)).trans (ite_self _)
  · intro s t x first
    exact ⟨fun hf => Completes.congr rfl (touchBolt_none hf), fun e since hf =>
      ⟨fun h hh => Completes.congr rfl (touchBolt_arrives hf hh), fun hh => Completes.congr rfl (touchBolt_unlinked hf hh)⟩⟩
  · intro s w x ha
    refine Completes.congr rfl ((put_hbTrig ha).trans ((wardTrig_start (bit_withoutBit w 24)).trans ?_))
    have field {l n : Nat} (hl : l + n ≤ 24) : bits x l n = bits w.toNat l n := bits_setBits_apart (.inl hl)
    rw [field (by decide), field (by decide), field (by decide)]
  · intro d h w e g stop waits wrong
    exact ⟨latchTrig_disabled, latchTrig_wrong, latchTrig_stop, latchTrig_start⟩
  · intro d h x y
    exact ⟨brakeDone_idle, fun e g r => brakeDone_waiting⟩
  · intro s h emf mv n x below
    exact ⟨fun hs => Completes.congr rfl (hapTick_plays hs), fun hs => Completes.congr rfl (hapTick_brakes hs),
      fun h3 h4 h5 => Completes.congr rfl (hapTick_rests h3 h4 h5)⟩
  · exact fun c sample gain k vhap => clampI_between (by omega) _
  · exact fun s h => Completes.congr rfl (brakeEnd_eq s.dev h)

end Sys2Proof.Machine
end

section
/-! SUPPORT. The haptic channels' coil checks, faults and recoveries, and the loads of effects, case by case (R378, R385,
R388, R411). -/

namespace Sys2Proof.Machine

open Sys2Proof

/-! ### CLEAR and CHECK (R385, R388) -/

/-- Two conditions in turn, with one alternative for both. -/
theorem ite_then_ite {α : Type} {p q : Prop} [Decidable p] [Decidable q] (a b : α) :
    (if p then (if q then a else b) else b) = if p ∧ q then a else b := by
  by_cases hp : p
  · exact (if_pos hp).trans (ite_of_iff (and_iff_right hp).symm rfl rfl)
  · exact (if_neg hp).trans (if_neg (fun both => hp both.1)).symm

/-- CLEAR starts a coil check of a latched fault, and then CHECK one of a channel in IDLE. -/
theorem haCtrlActs_eq (d : Dev) (h w : Nat) :
    let m := if bit w 1 then d.hapClear h else d
    let n := if bit w 1 = true ∧ d.hapState h = 6 ∧ (d.chan h).latched = true then d.hapCheckStart h else d
    (if bit w 2 then m.hapCheckGo h else m) = if bit w 2 = true ∧ n.hapState h = 2 then n.hapCheckStart h else n := by
  intro m n
  have clear : d.hapClear h = if d.hapState h = 6 ∧ (d.chan h).latched = true then d.hapCheckStart h else d :=
    ite_of_iff (by simp) rfl rfl
  have cleared : m = n := (congrArg (ite _ · d) clear).trans (ite_then_ite _ _)
  rw [cleared]
  exact ite_then_ite _ _

/-! ### The end of a coil check (R385, R388) -/

/-- The resistance is shown, and the fault that the check is of is closed. -/
def Dev.checkShown (d : Dev) (h r : Nat) : Dev := (d.w (haPid h) F.HA_STAT_RES (sat 255 (r / 250))).closeCause 3 (haPid h)

/-- The coil is good: the channel has no fault. -/
def Dev.coilGood (d : Dev) (h : Nat) : Dev := (d.setChan h { d.chan h with latched := false }).w (haPid h) F.HA_STAT_FAULT 0

/-- The channel serves again: the Bolt trigger that was held starts, before a Latch trigger that waits. -/
def Dev.checkServes (d : Dev) (h : Nat) : Dev :=
  match (d.chan h).held with
  | some (e, g, since) =>
    let m := if (d.chan h).pend.isSome then d.dropTrig h else d
    ((m.setChan h { d.chan h with held := none, pend := none }).hapStart h e g 0 true since).pendShow h
  | none => d.brakeDone h

section Check

variable {d : Dev} {h r : Nat}

theorem checkEnd_idle (hs : d.hapState h ≠ 1) : d.checkEnd h r = d := if_pos (by simpa using hs)

theorem checkEnd_checking (hs : d.hapState h = 1) :
    let n := d.checkShown h r
    d.checkEnd h r = if n.hap.supplyOut then n.hapFault h 5 else if r < 2000 then n.hapFault h 1
      else if 32000 < r then n.hapFault h 2 else (n.coilGood h).checkServes h :=
  if_neg (by simp [hs])

theorem checkEnd_supply (hs : d.hapState h = 1) (ho : (d.checkShown h r).hap.supplyOut = true) :
    d.checkEnd h r = (d.checkShown h r).hapFault h 5 :=
  (checkEnd_checking hs).trans (if_pos ho)

theorem checkEnd_short (hs : d.hapState h = 1) (ho : (d.checkShown h r).hap.supplyOut = false) (hr : r < 2000) :
    d.checkEnd h r = (d.checkShown h r).hapFault h 1 :=
  (checkEnd_checking hs).trans ((if_neg (Bool.eq_false_iff.mp ho)).trans (if_pos hr))

theorem checkEnd_missing (hs : d.hapState h = 1) (ho : (d.checkShown h r).hap.supplyOut = false) (hr : 32000 < r) :
    d.checkEnd h r = (d.checkShown h r).hapFault h 2 :=
  (checkEnd_checking hs).trans ((if_neg (Bool.eq_false_iff.mp ho)).trans ((if_neg (by omega)).trans (if_pos hr)))

theorem checkEnd_good (hs : d.hapState h = 1)
    (hg : (d.checkShown h r).hap.supplyOut = false ∧ 2000 ≤ r ∧ r ≤ 32000) :
    d.checkEnd h r = ((d.checkShown h r).coilGood h).checkServes h := by
  obtain ⟨ho, low, high⟩ := hg
  exact (checkEnd_checking hs).trans ((if_neg (Bool.eq_false_iff.mp ho)).trans ((if_neg (by omega)).trans (if_neg (by omega))))

theorem checkServes_free (hh : (d.chan h).held = none) : d.checkServes h = d.brakeDone h := by
  unfold Dev.checkServes
  rw [hh]

/-- A Latch trigger that is dropped leaves the channel as it is. -/
theorem checkServes_held {e g : Nat} {since : Option (Nat × Nat)} (hh : (d.chan h).held = some (e, g, since)) :
    let m := if (d.chan h).pend.isSome = true then d.dropTrig h else d
    d.checkServes h = ((m.setChan h { m.chan h with held := none, pend := none }).hapStart h e g 0 true since).pendShow h := by
  intro m
  have kept : m.chan h = d.chan h := by
    unfold m
    split <;> rfl
  unfold Dev.checkServes
  rw [hh, kept]

end Check

/-! ### Faults and recoveries (R388, R411) -/

theorem hapFault_inactive {d : Dev} {h c : Nat} (hs : d.hapState h = 0 ∨ d.hapState h = 6) : d.hapFault h c = d := if_pos hs

section Fault

variable (d : Dev) (h : Nat)

theorem hapMissing_eq :
    d.hapMissing h = if d.hapState h = 3 ∨ d.hapState h = 4 then d.hapFault h 2 else d :=
  ite_of_iff (by simp) rfl rfl

theorem hapRecover_stall :
    d.hapRecover h 3 = if (d.hapState h = 6 ∧ d.r (haPid h) F.HA_STAT_FAULT = 3 ∧ (d.chan h).latched = false) ∧
        (d.chan h).stalls.all (fun t => decide (t + 100000000 ≤ d.now)) = true then d.hapCheckStart h else d :=
  ite_of_iff (by simp [and_assoc]) rfl rfl

theorem hapRecover_overtemp :
    d.hapRecover h 4 = if d.hapState h = 6 ∧ d.r (haPid h) F.HA_STAT_FAULT = 4 ∧ (d.chan h).latched = false then
      d.hapCheckStart h else d :=
  ite_of_iff (by simp [and_assoc]) rfl rfl

/-- Units 8 to 15 are the speaker stages. -/
theorem bridgeHot_stage : d.bridgeHot (8 + h) = d.stageFault h 3 :=
  (if_neg (by omega)).trans (by rw [Nat.add_sub_cancel_left])

theorem bridgeCool_stage :
    d.bridgeCool (8 + h) = if d.stageState h = 3 ∧ d.r (spPid h) F.SP_STAT_FAULT = 3 then d.stageRecover h else d :=
  (if_neg (by omega)).trans (by rw [Nat.add_sub_cancel_left])

end Fault

/-! ### VHAP (R388, R411) -/

theorem supplyFault_iff {out : Bool} {mv : Nat} : (out || (decide (9500 ≤ mv) && decide (mv ≤ 14500))) = true ↔
    ¬((mv < 9500 ∨ 14500 < mv) ∧ out = false) := by
  cases out <;> simp

theorem supplyBack_iff {out : Bool} {mv : Nat} : (!out || decide (mv < 9500) || decide (14500 < mv)) = true ↔
    ¬(¬(mv < 9500 ∨ 14500 < mv) ∧ out = true) := by
  cases out
  · simp
  · simp
    omega

theorem vhapOut_eq (d : Dev) (mv : Nat) :
    let n := d.showVhap mv
    let m : Dev := { n with hap := { n.hap with supplyOut := true } }
    d.vhapOut mv = if (mv < 9500 ∨ 14500 < mv) ∧ n.hap.supplyOut = false then
      forAll (upFrom 0 8) (fun k d => (d.hapFault k 5).stageFault k 4) (m.openFault 3 3 supPid 0x500) else n :=
  (ite_of_iff supplyFault_iff rfl rfl).trans (ite_not _ _ _)

theorem vhapBack_eq (d : Dev) (mv : Nat) :
    let n := d.showVhap mv
    let k : Dev := { n with hap := { n.hap with supplyOut := false } }
    let k := (k.flt.faults.filter (fun f => f.cause == 3 && f.pid == supPid)).foldl (fun d f => d.closeFault f) k
    d.vhapBack mv = if ¬(mv < 9500 ∨ 14500 < mv) ∧ n.hap.supplyOut = true then
      forAll (upFrom 0 8) (fun k d =>
        let d := d.hapRecover k 5
        if d.stageState k = 3 ∧ d.r (spPid k) F.SP_STAT_FAULT = 4 then d.stageRecover k else d) k else n :=
  (ite_of_iff supplyBack_iff rfl rfl).trans (ite_not _ _ _)

/-! ### Loads (R378) -/

/-- The load that the registers of a channel's block give. -/
def Dev.loadGiven (d : Dev) (h slot : Nat) (noBrake noOd : Bool) : HapLoad :=
  let p := haPid h
  { issuer := d.hapOwner h, effect := slotEffect h slot, offset := d.r p F.HA_LD_GEOM_OFFSET
    length := d.r p F.HA_LD_GEOM_LENGTH, bolt := false, noBrake := noBrake, noOd := noOd
    addr := d.r p F.HA_LD_LO_ADDR * 64 + d.r p F.HA_LD_HI_ADDR * 2 ^ 32
    asp := d.r p F.HA_CTRL_ASPACE, gen := d.gen (d.hapOwner h / 16 % 64) }

/-- The load that the registers of the ward haptic page give. -/
def Dev.wardLoadGiven (d : Dev) (effect : Nat) (bolt noBrake noOd : Bool) : HapLoad :=
  { issuer := codeWard, effect := some effect, offset := d.r hbPid F.HB_LD_GEOM_OFFSET
    length := d.r hbPid F.HB_LD_GEOM_LENGTH, bolt := bolt, noBrake := noBrake, noOd := noOd
    addr := d.r hbPid F.HB_LD_LO_ADDR * 64 + d.r hbPid F.HB_LD_HI_ADDR * 2 ^ 32, asp := 0, gen := 0 }

/-- The effect that a load names is no longer valid. -/
def Dev.effectGone (d : Dev) : Option Nat → Dev
  | some e => d.setEffect e none
  | none => d

theorem effectGone_slot (d : Dev) (h slot : Nat) :
    d.effectGone (slotEffect h slot) = if slot < 24 then d.setEffect (64 + 24 * h + slot) none else d := by
  unfold slotEffect
  split <;> rfl

theorem hapLoadGo_eq (d : Dev) (h slot : Nat) (noBrake noOd : Bool) :
    let m := if slot < 24 then d.setEffect (64 + 24 * h + slot) none else d
    d.hapLoadGo h slot noBrake noOd =
      (m.setChan h { m.chan h with load := some (d.loadGiven h slot noBrake noOd) }).w (haPid h) F.HA_LD_STAT_BUSY 1 := by
  intro m
  rw [show m = d.effectGone (slotEffect h slot) from (effectGone_slot d h slot).symm]
  unfold Dev.loadGiven
  simp only [Nat.mul_comm _ (2 ^ 32)]
  rfl

theorem wardLoadGo_eq (d : Dev) (effect : Nat) (bolt noBrake noOd : Bool) :
    let m := d.setEffect effect none
    d.wardLoadGo effect bolt noBrake noOd =
      ({ m with hap := { m.hap with load := some (d.wardLoadGiven effect bolt noBrake noOd) } } : Dev).w hbPid
        F.HB_LD_STAT_BUSY 1 := by
  unfold Dev.wardLoadGiven
  simp only [Nat.mul_comm _ (2 ^ 32)]
  rfl

section LoadEnd

variable {d n : Dev} {who r : Nat} {l : HapLoad} {bad : Bool}

theorem hapLoadEnd_none (hl : (if who = 8 then d.hap.load else (d.chan who).load) = none) : d.hapLoadEnd who bad = d := by
  unfold Dev.hapLoadEnd
  by_cases ward : who = 8
  · rw [if_pos ward] at hl ⊢
    rw [hl]
  · rw [if_neg ward] at hl ⊢
    rw [hl]

theorem hapLoadEnd_ward (hl : d.hap.load = some l)
    (hf : ({ d with hap := { d.hap with load := none } } : Dev).loadFinish l bad = (n, r)) :
    let n := (n.w hbPid F.HB_LD_STAT_BUSY 0).w hbPid F.HB_LD_STAT_RESULT r
    d.hapLoadEnd 8 bad = if r = 0 then n else n.err hbPid 11 := by
  unfold Dev.hapLoadEnd
  rw [if_pos rfl, hl]
  dsimp only
  rw [hf]

theorem hapLoadEnd_channel (hw : who ≠ 8) (hl : (d.chan who).load = some l)
    (hf : (d.setChan who { d.chan who with load := none }).loadFinish l bad = (n, r)) :
    let n := (n.w (haPid who) F.HA_LD_STAT_BUSY 0).w (haPid who) F.HA_LD_STAT_RESULT r
    d.hapLoadEnd who bad = if r = 0 then n else n.hapErr who 11 := by
  unfold Dev.hapLoadEnd
  rw [if_neg hw, hl]
  dsimp only
  rw [hf]

end LoadEnd

/-- Settles O48: CLEAR and CHECK by the channel's state, a check's end by VHAP and the resistance, a recovery by the fault
that is latched or not, VHAP by its range, a GO by its page, a load's end by its result. -/
theorem hapticFaultsAndLoadsComplete : Obligations.HapticFaultsAndLoadsComplete := by
  refine ⟨?_, ?_, ?_, ?_, fun d h c => hapFault_inactive, ?_, ?_, ?_, ?_, ?_, ?_⟩
  · intro s h ag page v c w hc ha hp checks n
    have writes : Completes c s (s.dev.put ag page.toNat (blockOff ag h 0) w) := by
      obtain ⟨rfl, rfl⟩ | ⟨rfl, rfl⟩ := hc <;> rfl
    exact writes.congr ((put_haCtrl ha hp).trans (haCtrlActs_eq n h w))
  · exact fun s h r hs => Completes.congr rfl (checkEnd_idle hs)
  · intro s h r hs n m good done
    have serves (hg : good) : done (m.checkServes h) := Completes.congr rfl (checkEnd_good hs hg)
    exact ⟨fun ho => Completes.congr rfl (checkEnd_supply hs ho), fun ho hr => Completes.congr rfl (checkEnd_short hs ho hr),
      fun ho hr => Completes.congr rfl (checkEnd_missing hs ho hr), fun hg hh => (serves hg).congr (checkServes_free hh),
      fun e g since hg hh => (serves hg).congr (checkServes_held hh)⟩
  · intro s h x checks open_
    exact ⟨rfl, Completes.congr rfl (hapMissing_eq s.dev h), Completes.congr rfl (hapRecover_stall s.dev h),
      Completes.congr rfl (if_pos h.isLt), Completes.congr rfl (bridgeHot_stage s.dev h),
      Completes.congr rfl ((if_pos h.isLt).trans (hapRecover_overtemp s.dev h)),
      Completes.congr rfl (bridgeCool_stage s.dev h)⟩
  · intro s mv n out m k k'
    exact ⟨Completes.congr rfl (vhapOut_eq s.dev mv), Completes.congr rfl (vhapBack_eq s.dev mv)⟩
  · intro s h ag page v hpage off w ha hp n p code slot l m
    have go : Completes (.effectLoadGo ag page h v) s
        (s.dev.put ag page.toNat (if page = 0x808#12 then 0x05C else off) w) := rfl
    rw [if_neg (show ¬page = 0x808#12 from hpage)] at go
    exact go.congr ((put_haLoadGo ha hp (bit_withBit v 0)).trans (hapLoadGo_eq n h slot _ _))
  · intro s h v w ha n l m
    exact Completes.congr rfl ((put_hbLoadGo ha (bit_withBit v 0)).trans (wardLoadGo_eq n _ _ _ _))
  · exact fun s h bad hl => Completes.congr rfl (hapLoadEnd_none hl)
  · exact fun s l bad n r hl hf => Completes.congr rfl (hapLoadEnd_ward hl hf)
  · exact fun s h l bad n r hl hf => Completes.congr rfl (hapLoadEnd_channel (Nat.ne_of_lt h.isLt) hl hf)

end Sys2Proof.Machine
end

section
/-! SUPPORT. What every command ends with: the registers that only show other state are brought up to date (R105, R493). -/

namespace Sys2Proof.Machine

open Sys2Proof

/-- Every command is answered by its own effect and all that follows from it in the same step. -/
theorem exec_answers (c : Instr) (s : State) : ∃ d : Dev, exec c s = answer s d := by
  cases c <;> exact ⟨_, rfl⟩

/-- The isolation of a unit is read from the open faults and from the pages of the render cluster, the power manager and the
ward cluster alone. -/
theorem crossIsolated_w {d : Dev} {p : Nat} {f : FD} {v i : Nat} (hf : f.at i * 8 + f.lo < 32768)
    (hp : p ≠ 0x390 ∧ p ≠ 0x401 ∧ p ≠ 0x180) (u : Nat) : (d.w p f v i).crossIsolated u = d.crossIsolated u := by
  obtain ⟨h390, h401, h180⟩ := hp
  have other {q : Nat} {g : FD} {j : Nat} (hg : g.at j * 8 + g.lo < 32768) (hq : p ≠ q) :
      (d.w p f v i).r q g j = d.r q g j := r_w_page d p q f g v i j hf hg (Ne.symm hq)
  have restart : (d.w p f v i).r 0x401 F.WR_STAT_STATE = d.r 0x401 F.WR_STAT_STATE := other (by decide) h401
  have powered : (d.w p f v i).r 0x180 F.RND_STAT_POWERED = d.r 0x180 F.RND_STAT_POWERED := other (by decide) h180
  have inside : (d.w p f v i).contained 2 u = d.contained 2 u := by
    unfold Dev.contained
    rw [restart, Dev.w_flt]
  unfold Dev.crossIsolated
  rw [inside, powered]
  by_cases hr : unitOf u / 128 < 16
  · have off : (d.w p f v i).on 0x390 F.PM_GATE_OFF (unitOf u / 128) = d.on 0x390 F.PM_GATE_OFF (unitOf u / 128) := by
      unfold Dev.on
      rw [other (by unfold FD.at F.PM_GATE_OFF; dsimp only; omega) h390]
    simp only [off]
  · simp [hr]

theorem isoMask_w {d : Dev} {p : Nat} {f : FD} {v i : Nat} (hf : f.at i * 8 + f.lo < 32768)
    (hp : p ≠ 0x390 ∧ p ≠ 0x401 ∧ p ≠ 0x180) : (d.w p f v i).isoMask = d.isoMask := by
  unfold Dev.isoMask
  simp only [crossIsolated_w hf hp]

/-- `showLast` makes `FT_STAT.HIGHEST` and `XB_ISO` show the open faults and the isolated ports. -/
theorem showLast_shows (d : Dev) : d.showLast.showsHighest ∧ d.showLast.showsIsolation := by
  let h := d.w ftPid F.FT_STAT_HIGHEST (highest d.flt.faults)
  refine ⟨?_, ?_⟩
  · show (h.w xbPid F.XB_ISO_ISO h.isoMask).r ftPid F.FT_STAT_HIGHEST = highest d.flt.faults % _
    rw [r_w_page _ _ _ _ _ _ _ _ (by decide) (by decide) (by decide)]
    exact r_w_same _ _ _ _ _
  · show (h.w xbPid F.XB_ISO_ISO h.isoMask).r xbPid F.XB_ISO_ISO = (h.w xbPid F.XB_ISO_ISO h.isoMask).isoMask % _
    rw [isoMask_w (d := h) (by decide) (by decide)]
    exact r_w_same _ _ _ _ _

/-- A settled device is one that `showLast` has left. -/
theorem settle_shows (d : Dev) : d.settle.showsHighest ∧ d.settle.showsIsolation := showLast_shows _

theorem exec_shows {c : Instr} {s t : State} (h : exec c s = .next t) : t.dev.showsHighest ∧ t.dev.showsIsolation := by
  obtain ⟨d, hd⟩ := exec_answers c s
  rw [hd] at h
  cases h
  exact settle_shows d

/-- Settles O4: every command ends with `showLast`, after which no effect follows; a step without a command changes
nothing. -/
theorem everyStepShowsState : Obligations.EveryStepShowsState := by
  refine ⟨?_, fun c s t => exec_shows⟩
  intro s t hs ht
  unfold step at ht
  split at ht
  · cases ht
    exact hs
  · obtain ⟨hhigh, hiso⟩ := exec_shows ht
    exact ⟨hhigh, Or.inl hiso⟩

end Sys2Proof.Machine
end

section
/-! SUPPORT. A device that nothing follows in: each stage of `settle` leaves it as it is (log entry 80). -/

namespace Sys2Proof.Machine

open Sys2Proof

/-! ### The stages of `settle` that have nothing to do -/

theorem forAll_idle {α β : Type} {l : List α} {f : α → β → β} {b : β} (h : ∀ x ∈ l, f x b = b) : forAll l f b = b := by
  induction l with
  | nil => rfl
  | cons x r ih =>
    show forAll r f (f x b) = b
    rw [h x (List.mem_cons_self ..)]
    exact ih (fun y hy => h y (List.mem_cons_of_mem _ hy))

section Idle

variable {d : Dev}

theorem containAll_idle (h : d.flt.due = []) : d.containAll = d := by
  unfold Dev.containAll
  rw [h]
  show ({ d with flt := { d.flt with due := [] } } : Dev) = d
  rw [← h]

theorem restartSteps_idle (h : d.boot.restart = none) (force : Bool) : d.restartSteps force = d := by
  have once : d.restartStep force = d := by
    unfold Dev.restartStep
    rw [h]
  unfold Dev.restartSteps
  rw [once, once, once]

theorem settleFlips_idle (h : ∀ w ∈ d.rend.waiters, w.got = none) : d.settleFlips = d := by
  have none_done : d.rend.waiters.filter (fun w => w.got.isSome && decide (2 ^ 32 ≤ w.who)) = [] :=
    List.filter_eq_nil_iff.mpr (fun w hw => by simp [h w hw])
  have all_stay : d.rend.waiters.filter (fun w => !(w.got.isSome && decide (2 ^ 32 ≤ w.who))) = d.rend.waiters :=
    List.filter_eq_self.mpr (fun w hw => by simp [h w hw])
  unfold Dev.settleFlips
  rw [none_done, all_stay]
  rfl

theorem settleWaits_idle (h : ∀ w ∈ d.rend.waiters, w.got = none) : d.settleWaits = d := by
  have none_done : d.rend.waiters.filter (fun w => w.got.isSome && decide (w.who < 2 ^ 32)) = [] :=
    List.filter_eq_nil_iff.mpr (fun w hw => by simp [h w hw])
  have all_stay : d.rend.waiters.filter (fun w => !(w.got.isSome && decide (w.who < 2 ^ 32))) = d.rend.waiters :=
    List.filter_eq_self.mpr (fun w hw => by simp [h w hw])
  unfold Dev.settleWaits
  rw [none_done]
  show ({ d with rend := { d.rend with waiters := d.rend.waiters.filter _ } } : Dev) = d
  rw [all_stay]

theorem blFalls_idle (h : ∀ i ∈ upFrom 0 8, (!(d.head i).blen || d.blenMay i) = true) :
    d.upTo 8 (fun i d => d.blFall i) = d :=
  forAll_idle (fun i hi => if_neg (by simpa [Bool.eq_false_or_eq_true, imp_iff_not_or] using h i hi))

theorem syncFall_idle (hw : ∀ t ∈ upFrom 0 8, (!d.on (tsPid t) F.TS_STAT_SYNCED || d.windows t) = true)
    (hs : ∀ t ∈ upFrom 0 8, (d.touch t).scanning = false) : d.syncFall = d := by
  refine forAll_idle (fun t ht => ?_)
  have synced : ¬(d.on (tsPid t) F.TS_STAT_SYNCED && !d.windows t) = true := by
    have := hw t ht
    grind
  have cut : d.scanCut t = d := if_neg (by simp [hs t ht])
  rw [if_neg synced, cut]

theorem lbCheck_idle (h : d.lbBusy = false) : d.lbCheck = d := if_neg (by simp [h])

theorem pmGo_idle (h : d.pm.run = none) (n : Nat) : d.pmGo n = d := by
  cases n with
  | zero => rfl
  | succ n => exact if_pos (by rw [h]; rfl)

theorem pmSettle_idle (hw : d.wakes = []) (he : d.pm.woken = none) (hr : d.pm.run = none) (hp : d.pm.wardPend = none)
    (ht : d.pm.thermPend = false) : d.pmSettle = d := by
  have take : d.wakeTake = d := by
    unfold Dev.wakeTake
    rw [hw]
  have exit : d.wokenExit = d := by
    unfold Dev.wokenExit
    rw [he]
  have next : d.pmNext = d := if_neg (by simp [hp, ht])
  unfold Dev.pmSettle
  rw [take, exit, pmGo_idle hr, next, pmGo_idle hr]

theorem bootDue_idle (h : d.boot.due = 0) : d.bootDue = d := by
  unfold Dev.bootDue
  rw [h]
  rfl

theorem retryHeld_idle (h : d.firstReady [] d.held = none) (n : Nat) : d.retryHeld n = d := by
  cases n with
  | zero => rfl
  | succ n =>
    unfold Dev.retryHeld
    rw [h]

theorem promptSteps_idle (h : d.prompts = []) : d.promptSteps = d := by
  have once : d.prompts.foldl (fun (d : Dev) q => d.promptStep q.handle) d = d := by
    rw [h]
    rfl
  unfold Dev.promptSteps
  simp only [once]

theorem emgTestEnd_idle (h : d.emgTest = none) : d.emgTestEnd = d := by
  unfold Dev.emgTestEnd
  rw [h]

theorem reqRaise_idle (h : d.hst.creates = []) : d.reqRaise = d := if_pos (by rw [h]; rfl)

theorem isoRaise_idle (h : ∀ p ∈ upFrom 0 25, (!bit d.isoMask p || bit (d.r xbPid F.XB_ISO_ISO) p) = true) :
    d.isoRaise = d := by
  refine if_neg ?_
  rw [List.any_eq_true]
  rintro ⟨p, hp, raised⟩
  have := h p hp
  grind

end Idle

/-- A calm device ends as `showLast` leaves it. -/
theorem settle_calm {d : Dev} (h : d.calm = true) : d.settle = d.showLast := by
  unfold Dev.calm at h
  simp only [Bool.and_eq_true, List.isEmpty_iff, Option.isNone_iff_eq_none, beq_iff_eq, Bool.not_eq_true',
    List.all_eq_true] at h
  obtain ⟨⟨⟨⟨⟨⟨⟨⟨⟨⟨⟨⟨⟨⟨⟨⟨⟨hdue, hrestart⟩, hboot⟩, hwait⟩, hblen⟩, hsync⟩, hscan⟩, hlb⟩, hwakes⟩, hwoken⟩, hrun⟩, hward⟩,
    htherm⟩, hready⟩, hprompts⟩, hemg⟩, hcreates⟩, hiso⟩ := h
  have blocks : d.blocksSettle = d := by
    unfold Dev.blocksSettle
    rw [restartSteps_idle hrestart, settleFlips_idle hwait, settleWaits_idle hwait, blFalls_idle hblen]
    dsimp only
    rw [syncFall_idle hsync hscan, lbCheck_idle hlb, pmSettle_idle hwakes hwoken hrun hward htherm, bootDue_idle hboot]
  have waits : d.waitsSettle = d := by
    unfold Dev.waitsSettle
    rw [retryHeld_idle hready]
    dsimp only
    rw [promptSteps_idle hprompts, emgTestEnd_idle hemg, reqRaise_idle hcreates]
  unfold Dev.settle
  rw [containAll_idle hdue, containAll_idle hdue]
  dsimp only
  rw [blocks, waits, containAll_idle hdue, containAll_idle hdue, isoRaise_idle hiso]

/-- Settles O5: each stage of `settle` leaves a calm device as it is, but for `showLast`, which sets its two registers. -/
theorem calmDeviceSettles : Obligations.CalmDeviceSettles := by
  intro d hd
  have last := settle_calm hd
  refine ⟨last, fun p f i hhigh hiso => ?_⟩
  rw [last]
  exact (r_w_other _ _ _ _ _ _ _ _ hiso).trans (r_w_other _ _ _ _ _ _ _ _ hhigh)

end Sys2Proof.Machine
end

section
/-! SUPPORT. Loop-back tests, case by case (R487 to R490). -/

namespace Sys2Proof.Machine

open Sys2Proof

/-- What a test is of and runs with: the words of `LB_CTRL` to `LB_SIZE`. -/
def Dev.lbAsked (d : Dev) : List Nat := [d.lbIface, d.lbInst, d.lbDepth] ++ d.lbSetting

/-- The registers of results, which follow those that say what a test is of, say nothing of it. -/
theorem lbAsked_w {d : Dev} {f : FD} {v : Nat} (hf : 0x300 ≤ f.at 0 * 8 + f.lo) : (d.w lbPid f v).lbAsked = d.lbAsked := by
  have other {g : FD} (hg : g.at 0 * 8 + g.lo < 0x300) : (d.w lbPid f v).r lbPid g = d.r lbPid g := r_w_at (by omega)
  have iface := other (g := F.LB_CTRL_IFACE) (by decide)
  have inst := other (g := F.LB_CTRL_INST) (by decide)
  have depth := other (g := F.LB_CTRL_DEPTH) (by decide)
  have setting : (d.w lbPid f v).lbSetting = d.lbSetting := by
    unfold Dev.lbSetting
    rw [other (g := F.LB_CTRL_PATTERN) (by decide), other (g := F.LB_RATE_RATE) (by decide),
      other (g := F.LB_RATE_LANES) (by decide), other (g := F.LB_LEN_MBIT) (by decide),
      other (g := F.LB_ADDR_LO_ADDR) (by decide), other (g := F.LB_ADDR_HI_ADDR) (by decide),
      other (g := F.LB_SIZE_MIB) (by decide)]
  unfold Dev.lbAsked Dev.lbIface Dev.lbInst Dev.lbDepth
  rw [iface, inst, depth, setting]

theorem lbGo_busy {d : Dev} (h : d.lbBusy = true) : d.lbGo = d := if_pos h

theorem lbGo_free {d : Dev} (h : d.lbBusy = false) :
    let m := if d.locked then d else d.lbStop
    let m := ((m.w lbPid F.LB_STAT_BUSY 1).w lbPid F.LB_STAT_RESULT 0).w lbPid F.LB_STAT_LANE 0
    let m := (((m.w lbPid F.LB_ERR_COUNT 0).w lbPid F.LB_DONE_MBIT 0).w lbPid F.LB_MEAS_VALUE 0).w lbPid F.LB_MEAS_INDEX 0
    d.lbGo = m.emit (.event 487 m.lbAsked) := by
  intro n m r
  have asked : r.lbAsked = m.lbAsked := ((((lbAsked_w (by decide)).trans (lbAsked_w (by decide))).trans
    (lbAsked_w (by decide))).trans (lbAsked_w (by decide)))
  rw [asked]
  exact if_neg (by simp [h])

theorem lbAbort_free {d : Dev} (h : d.lbBusy = false) : d.lbAbort = d := if_neg (by simp [h])
theorem lbAbort_busy {d : Dev} (h : d.lbBusy = true) : d.lbAbort = d.lbFinish 5 := if_pos h

/-! ### The writes of `LB_GO` -/

/-- The low half of a keyed word is what is written under the key. -/
theorem bit_keyed_low {key : BitVec 16} {low i : Nat} (hl : low < 2 ^ 16) (hi : i < 16) :
    bit (keyed key low) i = bit low i :=
  (Nat.testBit_two_pow_mul_add key.toNat hl i).trans (if_pos hi)

theorem effect_loopback {d b : Dev} {i p v : Nat} : d.effect? b .loopback i p 0x044 v =
    if bit v 1 = true then d.lbAbort else if bit v 0 = true then d.lbGo else d := by
  unfold Dev.effect?
  rw [if_neg (by decide)]
  simp only [Dev.coreEffect, Dev.displayEffect, Dev.hingeEffect, Dev.feelEffect, true_and]

theorem put_lbGo {d : Dev} {ag : Agent} {v : Nat} (h : d.accepts ag 0x710 0x044 v = true) :
    let n := d.after ag 0x710 0x044 v
    d.put ag 0x710 0x044 v = if bit v 1 = true then n.lbAbort else if bit v 0 = true then n.lbGo else n :=
  (put_flat h (by decide) rfl (show kindOf 0x710 = some (.loopback, 0) by decide) rfl).trans effect_loopback

/-! ### The end of a test (R488) -/

theorem lbEnd_idle {d : Dev} {locked : Bool} {errors lane done value index : Nat} (h : d.lbBusy = false) :
    d.lbEnd locked errors lane done value index = d := by
  unfold Dev.lbEnd
  rw [if_neg (by simp [h]), if_neg (by simp [h])]

theorem lbEnd_short {d : Dev} {locked : Bool} {errors lane done value index : Nat} (h : d.lbBusy = true)
    (hs : locked = true ∧ d.lbCounted = true ∧ done < max 1 (d.r lbPid F.LB_LEN_MBIT)) :
    d.lbEnd locked errors lane done value index =
      (d.w lbPid F.LB_ERR_COUNT (sat (2 ^ 32 - 1) errors)).w lbPid F.LB_DONE_MBIT done := by
  obtain ⟨hl, hc, hd⟩ := hs
  exact if_pos (by simp only [h, hl, hc, decide_eq_true hd, Bool.and_self])

theorem lbEnd_over {d : Dev} {locked : Bool} {errors lane done value index : Nat} (h : d.lbBusy = true)
    (hs : ¬(locked = true ∧ d.lbCounted = true ∧ done < max 1 (d.r lbPid F.LB_LEN_MBIT))) :
    let r := d.lbResult locked errors value index
    let so := (d.w lbPid F.LB_ERR_COUNT (sat (2 ^ 32 - 1) errors)).w lbPid F.LB_DONE_MBIT done
    let n := so.w lbPid F.LB_STAT_LANE (if r = 2 ∨ r = 3 then lane else 0)
    d.lbEnd locked errors lane done value index =
      ((n.w lbPid F.LB_MEAS_VALUE value).w lbPid F.LB_MEAS_INDEX index).lbFinish r := by
  unfold Dev.lbEnd
  rw [if_neg (by simpa only [h, Bool.true_and, Bool.and_eq_true, decide_eq_true_eq, and_assoc] using hs), if_pos h]

section Result

variable {d : Dev} {errors value index : Nat} (found : ¬(d.lbIface = 1 ∧ d.lbDepth = 3))
include found

theorem lbResult_unlocked : d.lbResult false errors value index = 3 := if_neg found

theorem lbResult_errors (he : 0 < errors) : d.lbResult true errors value index = 2 :=
  (if_neg found).trans ((if_neg nofun).trans (if_pos he))

theorem lbResult_clean : d.lbResult true 0 value index = match d.lbRange index with
    | none => 1
    | some (lo, hi) => if lo ≤ value ∧ value ≤ hi then 1 else 4 :=
  (if_neg found).trans ((if_neg nofun).trans (if_neg (Nat.lt_irrefl 0)))

end Result

/-- Settles O60: GO and ABORT by whether a test is under way, the end of one by whether it is over its length, and its
result by what it found. -/
theorem loopbackTestsComplete : Obligations.LoopbackTestsComplete := by
  refine ⟨?_, ?_, ?_, ?_⟩
  · intro s ag key ha n
    have go : s.dev.put ag 0x710 0x044 (keyed key 1) = n.lbGo := by
      refine (put_lbGo ha).trans ?_
      rw [bit_keyed_low (by decide) (by decide), bit_keyed_low (by decide) (by decide)]
      rfl
    exact ⟨fun hb => Completes.congr rfl (go.trans (lbGo_busy hb)), fun hb => Completes.congr rfl (go.trans (lbGo_free hb))⟩
  · intro s ag ha n
    have abort : s.dev.put ag 0x710 0x044 (keyed theKey 2) = n.lbAbort := put_lbGo ha
    exact ⟨fun hb => Completes.congr rfl (abort.trans (lbAbort_free hb)),
      fun hb => Completes.congr rfl (abort.trans (lbAbort_busy hb))⟩
  · intro s locked errors lane done value index
    refine ⟨fun hb => Completes.congr rfl (lbEnd_idle hb), fun hb => ?_⟩
    intro r so short n m
    by_cases hs : short
    · rw [if_pos hs]
      exact Completes.congr rfl (lbEnd_short hb hs)
    · rw [if_neg hs]
      exact Completes.congr rfl (lbEnd_over hb hs)
  · intro d locked errors value index found
    refine ⟨?_, ?_, ?_, ?_⟩
    · rintro rfl
      exact lbResult_unlocked found
    · rintro rfl he
      exact lbResult_errors found he
    · rintro rfl rfl hr
      rw [lbResult_clean found, hr]
    · rintro lo hi rfl rfl hr
      rw [lbResult_clean found, hr]

end Sys2Proof.Machine
end

section
/-! SUPPORT. Ends of recoveries, their bounds, the thermal faults and the fault log, case by case (R474 to R481, R493). -/

namespace Sys2Proof.Machine

open Sys2Proof

/-! ### Ends of recoveries (R476 to R479) -/

/-- The end of a recovery that the fault's cause names. -/
def Dev.ownRecoveryEnd (d : Dev) (f : OpenFault) : Dev :=
  let k := (f.unit - 0x190) / 16
  let steps := d.restartSteps true
  let cluster := (d.w f.unit F.RC_STAT_STATE (if (d.r rndPid F.RND_STAT_POWERED).testBit k = false then 0
    else if (d.r rndPid F.RND_STAT_DRAINING).testBit k = true then 3 else 1)).rndShow
  if f.cause = 10 then (if steps.boot.wrStep = 4 then steps.restartFinish.closeFault f else steps)
  else if f.cause = 1 then cluster.closeFault f
  else if f.cause = 2 then d.closeFault f
  else d

/-- The end of a recovery that the fault's level gives. -/
def Dev.levelRecoveryEnd (d : Dev) (f : OpenFault) : Dev :=
  if f.level = 4 then (if d.boot.hotDrive = true then d else d.driveReset.closeFault f)
  else if unitOf f.unit / 128 = 18 then d.driveReset.closeFault f
  else (d.elementReset f.level f.unit).closeFault f

/-- A fault in recovery with a SEQ. -/
def Dev.recovering (d : Dev) (q : Nat) : Option OpenFault :=
  d.flt.faults.find? (fun f => f.seq == q && !f.consequent && !f.latched)

section Recovery

variable {d : Dev} {q : Nat} {f : OpenFault}

theorem recoverEnd_none (h : d.recovering q = none) : d.recoverEnd q = d := by
  unfold Dev.recovering at h
  unfold Dev.recoverEnd
  rw [h]

theorem recoverTimeout_none (h : d.recovering q = none) : d.recoverTimeout q = d := by
  unfold Dev.recovering at h
  unfold Dev.recoverTimeout
  rw [h]

theorem recoverEnd_some (h : d.recovering q = some f) : d.recoverEnd q =
    if f.byPackage = true ∨ 5 ≤ f.level then d
    else if f.ownRecovery = true then d.ownRecoveryEnd f else d.levelRecoveryEnd f := by
  unfold Dev.recovering at h
  unfold Dev.recoverEnd
  rw [h]
  refine ite_of_iff (by simp) rfl (ite_of_iff Iff.rfl ?_ ?_)
  · unfold Dev.ownRecoveryEnd
    simp only [Bool.not_eq_true']
  · refine ite_of_iff Iff.rfl rfl ?_
    exact apply_ite (fun n : Dev => n.closeFault f) _ _ _

theorem recoverTimeout_some (h : d.recovering q = some f) : d.recoverTimeout q =
    if d.recoveryOver f = true then d.openFault 17 (f.level + 1) f.pid (q % 65536) false false (some f.unit) else d := by
  unfold Dev.recovering at h
  unfold Dev.recoverTimeout
  rw [h]

end Recovery

/-! ### Bounds of recoveries (R475) -/

section Bound

variable {d : Dev} {f : OpenFault}

theorem ownRecovery_of_byPackage (h : f.byPackage = true) : f.ownRecovery = false := by
  unfold OpenFault.byPackage at h
  simp only [Bool.and_eq_true, Bool.not_eq_true'] at h
  exact h.1

/-- The bounds of recoveries that the cause names. -/
theorem recoveryBound_own {c n : Nat} (h : f.ownRecovery = true) (hc : f.cause = c)
    (hn : (c, n) ∈ [(1, 50000), (6, 20000), (10, 150000000)]) : d.recoveryBound f = some n := by
  unfold Dev.recoveryBound
  rw [h, hc]
  simp only [List.mem_cons, Prod.mk.injEq, List.not_mem_nil, or_false] at hn
  obtain ⟨rfl, rfl⟩ | ⟨rfl, rfl⟩ | ⟨rfl, rfl⟩ := hn <;> rfl

/-- The bounds of recoveries by the level. -/
theorem recoveryBound_level {lv n : Nat} (ho : f.ownRecovery = false) (hp : f.byPackage = false) (hl : f.level = lv)
    (hn : (lv, n) ∈ [(1, 100000), (2, 1000000), (3, 10000000), (4, 20000000)]) : d.recoveryBound f = some n := by
  unfold Dev.recoveryBound
  rw [ho, hp, hl]
  simp only [List.mem_cons, Prod.mk.injEq, List.not_mem_nil, or_false] at hn
  obtain ⟨rfl, rfl⟩ | ⟨rfl, rfl⟩ | ⟨rfl, rfl⟩ | ⟨rfl, rfl⟩ := hn <;> rfl

theorem recoveryBound_package (h : f.byPackage = true) : d.recoveryBound f = some 500000000 := by
  unfold Dev.recoveryBound
  rw [ownRecovery_of_byPackage h, h]
  rfl

theorem recoveryOver_package (h : f.byPackage = true) (hot : d.boot.hot = false) (hotDrive : d.boot.hotDrive = false)
    (down : d.boot.down = false) : d.recoveryOver f = true ↔ d.boot.goodAt + 500000000 ≤ d.now := by
  unfold Dev.recoveryOver
  simp [recoveryBound_package h, h, hot, hotDrive, down]

theorem recoveryOver_hot (hot : d.boot.hot = true) : d.recoveryOver f = false := by
  unfold Dev.recoveryOver
  simp [hot]

end Bound

/-! ### Temperatures (R474, R477, R478) -/

/-- The Drive die has come back below its limit: it leaves its hold, and its fault's bound runs from now. -/
def Dev.driveCool (d : Dev) (drive : Int) : Dev :=
  let b : BootSt := { d.boot with hotDrive := false }
  let fs := d.flt.faults.map (fun f => if f.level = 4 ∧ unitOf f.unit / 1024 = 2 then { f with since := d.now } else f)
  let x : FaultSt := { d.flt with faults := fs }
  if d.boot.hotDrive = true ∧ drive < 105 then { d with boot := b, flt := x } else d

theorem driveCool_hot (d : Dev) (drive : Int) : (d.driveCool drive).boot.hot = d.boot.hot := by
  unfold Dev.driveCool
  dsimp only
  split <;> rfl

theorem thermalRelease_eq (d : Dev) (core port drive : Int) :
    let n := d.driveCool drive
    let b : BootSt := { n.boot with hot := false, due := 2 }
    d.thermalRelease core port drive =
      if d.boot.hot = true ∧ core < 100 ∧ port < 100 ∧ drive < 100 then { n with boot := b } else n :=
  ite_of_iff (by rw [← driveCool_hot d drive]; rfl) rfl rfl

/-! ### The writes of the fault log page (R493) -/

theorem effect_faultLog {d b : Dev} {i p off v : Nat} (ho : 0x040 ≤ off) :
    d.effect? b .faultLog i p off v = d.coreEffect b .faultLog i p off v := if_neg (Nat.not_lt.mpr ho)

theorem put_faultLog {d : Dev} {ag : Agent} {off v : Nat} (h : d.accepts ag 0x030 off v = true) (h4 : off % 4 = 0)
    (ho : 0x040 ≤ off) :
    d.put ag 0x030 off v = (d.after ag 0x030 off v).coreEffect d .faultLog 0 0x030 off v :=
  (put_flat h (by decide) h4 (show kindOf 0x030 = some (.faultLog, 0) by decide) rfl).trans (effect_faultLog ho)

/-- GO of `FT_INJECT` and the page that it names, in the word of the command. -/
theorem injectWord (key : BitVec 16) (page : BitVec 12) :
    bit (keyed key (4096 + page.toNat)) 12 = true ∧ bits (keyed key (4096 + page.toNat)) 0 12 = page.toNat := by
  have hp := page.isLt
  unfold bit bits keyed
  rw [Nat.testBit_eq_decide_div_mod_eq, decide_eq_true_eq]
  omega

theorem put_inject {d : Dev} {ag : Agent} {page : BitVec 12} {key : BitVec 16}
    (h : d.accepts ag 0x030 0x05C (keyed key (4096 + page.toNat)) = true) :
    d.put ag 0x030 0x05C (keyed key (4096 + page.toNat)) =
      (d.after ag 0x030 0x05C (keyed key (4096 + page.toNat))).openFault 18 1 page.toNat 0 := by
  obtain ⟨go, named⟩ := injectWord key page
  refine (put_faultLog h rfl (by decide)).trans ((if_pos ⟨rfl, go⟩).trans ?_)
  rw [named]

/-- Settles O59: the end of a recovery and its overrun by the fault that has the SEQ, its bound by what recovers it, the
thermal commands by the sensors, the log's writes by their words. -/
theorem faultRecoveryCompletes : Obligations.FaultRecoveryCompletes := by
  refine ⟨?_, ?_, ?_, ?_, ?_, ?_, ?_, ?_⟩
  · exact fun s q hf => ⟨Completes.congr rfl (recoverEnd_none hf), Completes.congr rfl (recoverTimeout_none hf)⟩
  · exact fun s q f hf => ⟨Completes.congr rfl (recoverEnd_some hf), Completes.congr rfl (recoverTimeout_some hf)⟩
  · exact fun d f => ⟨fun ho hc => recoveryBound_own ho hc (by decide), fun ho hc => recoveryBound_own ho hc (by decide),
      fun ho hc => recoveryBound_own ho hc (by decide), fun ho hp n lv hn hl => recoveryBound_level ho hp hl hn,
      recoveryOver_package, recoveryOver_hot⟩
  · intro s die t page unit open_
    refine ⟨fun h => Completes.congr rfl (if_pos h), fun ht hd ho => Completes.congr rfl (if_neg ?_)⟩
    rintro (h | h | h)
    · omega
    · rw [hd] at h
      cases h
    · rw [show s.dev.flt.faults.any _ = false from ho] at h
      cases h
  · exact fun s c p e => Completes.congr rfl (thermalRelease_eq s.dev c p e)
  · exact fun s ag ha => Completes.congr rfl (put_faultLog ha rfl (by decide))
  · exact fun s ag page key ha => Completes.congr rfl (put_inject ha)
  · exact fun s => rfl

end Sys2Proof.Machine
end

section
/-! SUPPORT. A gain whose timeout comes early, in a device whose table of streams is not canonical (R398). -/

namespace Sys2Proof.Machine

open Sys2Proof

/-- What a settled calm device holds beside registers is what the command's own effect left. -/
theorem aud_settle_calm {d : Dev} (h : d.calm = true) : d.settle.aud = d.aud := by
  rw [settle_calm h]
  rfl

/-- A write of a stream does not list what a stream holds by default. -/
theorem setStream_default {d : Dev} {k : Nat} (h : d.stream k = {}) :
    (d.setStream k (d.stream k)).aud.streams = tabDel d.aud.streams k := if_pos h

/-- A gain that waits for nothing keeps its value at the timeout; its stream is written back. -/
theorem gainTimeout_unwaiting {d : Dev} {g : Nat} (hg : g < 96) (hw : (d.stream g).gain.wait = none) :
    d.gainTimeout g = d.setStream g (d.stream g) := by
  unfold Dev.gainTimeout GainSt.timeout
  simp only [hg, if_true, hw]

/-- A device that lists stream 0 with the values that an unlisted stream has. -/
def listedDefault : Dev := { aud := { streams := [(0, {})] } }

/-- Refutes O49 by its clause on `GAIN_STEP_TIMEOUT`: it says of every device that a gain which has not waited 480 ticks leaves
the device as it is, and in `listedDefault`, which no write of a stream leaves (`setStream_default`), the stream that is
written back is no longer listed. -/
theorem not_audioTicksAndGainsComplete : ¬ Obligations.AudioTicksAndGainsComplete := by
  rintro ⟨_, _, _, _, _, _, _, _, _, timeout⟩
  let s : State := { dev := listedDefault, pending := [] }
  have early : Completes (.gainStepTimeout 0) s listedDefault := (timeout s 0).1 (by decide)
  have writes : Completes (.gainStepTimeout 0) s (listedDefault.setStream 0 (listedDefault.stream 0)) :=
    Completes.congr rfl (gainTimeout_unwaiting (by decide) rfl)
  have same : (listedDefault.setStream 0 (listedDefault.stream 0)).settle = listedDefault.settle := by
    have := writes.symm.trans early
    simpa using this
  have streams := congrArg (fun d : Dev => d.aud.streams) same
  simp only [aud_settle_calm (show listedDefault.calm = true by decide +kernel),
    aud_settle_calm (show (listedDefault.setStream 0 (listedDefault.stream 0)).calm = true by decide +kernel),
    setStream_default (show listedDefault.stream 0 = {} by rfl)] at streams
  exact absurd streams (by decide)

end Sys2Proof.Machine
end

section
/-! SUPPORT. Pointer words and the EN of a stream, case by case (R394 to R397). -/

namespace Sys2Proof.Machine

open Sys2Proof

/-! ### What an accepted write starts -/

/-- On the audio pages the audio blocks alone take a write up. -/
theorem effect_audio {d b : Dev} {k : PageKind} {i p off v : Nat}
    (hk : k = .streams ∨ k = .viHapticAudio ∨ k = .audioEngine ∨ k = .sink ∨ k = .tones ∨ k = .speaker) (ho : 0x040 ≤ off) :
    d.effect? b k i p off v = d.feelEffect b k i p off v := by
  obtain rfl | rfl | rfl | rfl | rfl | rfl := hk <;> exact if_neg (Nat.not_lt.mpr ho)

/-- An accepted write of `DB_AUD` brings its word to the stream of the doorbell. -/
theorem put_audBell {d : Dev} {v : Fin 64} {k : Fin 96} {x : Nat} (ha : d.accepts (.vi v) 2 (0x800 + 4 * k) x = true) :
    d.put (.vi v) 2 (0x800 + 4 * k) x = (d.after (.vi v) 2 (0x800 + 4 * k) x).pointer k x := by
  have stream : (0x800 + 4 * k.val - 0x800) / 4 = k := by omega
  refine (put_vi ha (by decide) (by omega) rfl rfl).trans ((effect_tenancy (.inr (.inr (.inr (.inl rfl)))) (by omega)).trans ?_)
  refine (if_neg (by omega)).trans ((if_neg (by omega)).trans ((if_neg (by omega)).trans ((if_pos (by omega)).trans ?_)))
  rw [stream]

/-- The page has the blocks of streams. -/
def streamKind (pid : Nat) : Prop := (kindOf pid).any (fun k => k.1 == .streams || k.1 == .viHapticAudio) = true

/-- An accepted write at a page with the blocks of streams, in a register of its own. -/
theorem put_stream {d : Dev} {ag : Agent} {page off v : Nat} (hk : streamKind (agentPageNo ag page))
    (hp : d.place (agentPageNo ag page) off = (agentPageNo ag page, off)) (h4 : off % 4 = 0) (h40 : 0x040 ≤ off)
    (ha : d.accepts ag page off v = true) :
    d.put ag page off v = (d.after ag page off v).streamEffect d (agentPageNo ag page) off v := by
  obtain ⟨⟨k, i⟩, hk, streams⟩ := (Option.any_eq_true _ _).mp hk
  simp only [Bool.or_eq_true, beq_iff_eq] at streams
  rw [put_accepts ha h4, hp]
  refine (startedBy_kind hk).trans ?_
  obtain rfl | rfl := streams
  · exact effect_audio (.inl rfl) h40
  · exact effect_audio (.inr (.inl rfl)) h40

theorem streamEffect_pointer (d b : Dev) (p : Nat) (k : Fin 96) (x : Nat) :
    d.streamEffect b p (0x200 + 4 * k) x = d.pointer k x := by
  have stream : (0x200 + 4 * k.val - 0x200) / 4 = k := by omega
  refine (if_pos (by omega)).trans ?_
  rw [stream]

theorem streamEffect_ctrl (d b : Dev) (p : Nat) (k : Fin 96) (x : Nat) : d.streamEffect b p (0x800 + 16 * k) x =
    if b.rises p x F.ST_CTRL_EN k = true then d.streamEnable k else d := by
  have stream : (0x800 + 16 * k.val - 0x800) / 16 = k := by omega
  have disables : (if b.falls p x F.ST_CTRL_EN k = true then d.streamDisable k else d) = d := ite_self d
  refine (if_neg (by omega)).trans ((if_pos (by omega)).trans ((if_pos (by omega)).trans ?_))
  rw [stream, disables]

/-- An accepted write of `ST_WPTR` brings its word to the stream. -/
theorem put_stWptr {d : Dev} {ag : Agent} {page : Nat} {k : Fin 96} {x : Nat}
    (hk : (kindOf (agentPageNo ag page)).any (fun k => k.1 == .streams) = true)
    (ha : d.accepts ag page (0x200 + 4 * k) x = true) :
    d.put ag page (0x200 + 4 * k) x = (d.after ag page (0x200 + 4 * k) x).pointer k x := by
  obtain ⟨⟨k', i⟩, hk, streams⟩ := (Option.any_eq_true _ _).mp hk
  obtain rfl : k' = .streams := beq_iff_eq.mp streams
  have kind : streamKind (agentPageNo ag page) := (Option.any_eq_true _ _).mpr ⟨_, hk, rfl⟩
  exact (put_stream kind (place_own hk rfl) (by omega) (by omega) ha).trans (streamEffect_pointer _ _ _ k x)

/-! ### Pointer words (R395, R397) -/

section Pointer

variable {d : Dev} {k x : Nat}

theorem pointer_wrong (h : bits x 16 15 ≠ 0 ∨ d.ringFrames k ≤ x % 65536) : d.pointer k x = d.err (d.stPage k) 14 := if_pos h

/-- The stream with the write index and EOS of a pointer word. -/
def Dev.pointed (d : Dev) (k x : Nat) : Dev := d.setStream k { d.stream k with widx := x % 65536, eos := bit x 31 }

/-- The work region of a stream whose play period is `j` is filled. -/
def Dev.workTold (d : Dev) (k j : Nat) : Bool := (d.stream k).workFilled || decide (16 * d.rblk k ≤ d.regionDist k (j + 1))

/-- The stream with what a pointer word tells of its regions. -/
def Dev.regionsTold (d : Dev) (k j : Nat) (work : Bool) : Dev :=
  d.setStream k { d.stream k with
    workFilled := work, playFilled := (d.stream k).playFilled || decide (16 * d.rblk k ≤ d.regionDist k j) }

theorem pointer_free (hr : bits x 16 15 = 0) (hi : x % 65536 < d.ringFrames k)
    (hp : ((d.pointed k x).stream k).pace = none) : d.pointer k x = d.pointed k x := by
  refine (if_neg (by omega)).trans ?_
  show (match ((d.pointed k x).stream k).pace with | none => _ | some _ => _) = _
  rw [hp]
  rfl

theorem pointer_paced {j : Nat} (hr : bits x 16 15 = 0) (hi : x % 65536 < d.ringFrames k)
    (hp : ((d.pointed k x).stream k).pace = some j) :
    d.pointer k x = if (d.pointed k x).workTold k j
      then ((d.pointed k x).regionsTold k j ((d.pointed k x).workTold k j)).perFinishNamed 3 k
      else (d.pointed k x).regionsTold k j ((d.pointed k x).workTold k j) := by
  refine (if_neg (by omega)).trans ?_
  show (match ((d.pointed k x).stream k).pace with | none => _ | some _ => _) = _
  rw [hp]
  rfl

end Pointer

/-- Settles O50: a pointer word by the page that brings it, by what it holds and by the pace of its stream, EN by the change
that the write makes. -/
theorem streamsComplete : Obligations.StreamsComplete := by
  refine ⟨?_, ?_, fun d k x => pointer_wrong, ?_, ?_⟩
  · exact fun s v k x ha => Completes.congr rfl (put_audBell ha)
  · intro s ag page k x pid n hk ha
    exact Completes.congr rfl (put_stWptr hk ha)
  · intro d k x hr hi n y
    refine ⟨pointer_free hr hi, fun j hp => ?_⟩
    have paced := pointer_paced hr hi hp
    refine ⟨fun hw => ?_, fun hw hd => ?_⟩
    · have work : (d.pointed k x).workTold k j = true := 
        (Bool.or_eq_true _ _).mpr (hw.imp_right decide_eq_true)
      rw [work] at paced
      exact paced
    · have work : (d.pointed k x).workTold k j = false := 
        Bool.or_eq_false_iff.mpr ⟨hw, decide_eq_false (Nat.not_le.mpr hd)⟩
      rw [work] at paced
      exact paced
  · intro s ag page k v pid off hk hp
    have enables {w : Nat} (ha : s.dev.accepts ag page.toNat off w = true) : s.dev.put ag page.toNat off w =
        if s.dev.rises pid w F.ST_CTRL_EN k = true then (s.dev.after ag page.toNat off w).streamEnable k
        else s.dev.after ag page.toNat off w :=
      (put_stream hk hp (by omega) (by omega) ha).trans (streamEffect_ctrl _ _ _ k w)
    refine ⟨fun ha => ?_, fun ha => ?_⟩
    · intro n
      refine ⟨fun hr hs => Completes.congr rfl ((enables ha).trans ((if_pos hr).trans (if_pos hs))), fun h => ?_⟩
      refine Completes.congr rfl ((enables ha).trans ?_)
      by_cases hr : s.dev.rises pid (withBit v 0) F.ST_CTRL_EN k = true
      · exact (if_pos hr).trans (if_neg (h.resolve_left (by rw [hr]; nofun)))
      · exact if_neg hr
    · exact Completes.congr rfl ((enables ha).trans (if_neg (by rw [rises_of_withoutBit (b := 0) rfl rfl]; nofun)))

end Sys2Proof.Machine
end

section
/-! SUPPORT. The Tumbler program, sinks and tones, case by case (R401 to R408). -/

namespace Sys2Proof.Machine

open Sys2Proof

/-! ### What an accepted write starts -/

theorem put_engine {d : Dev} {ag : Agent} {off v : Nat} (h4 : off % 4 = 0) (h40 : 0x040 ≤ off)
    (ha : d.accepts ag 0x600 off v = true) :
    d.put ag 0x600 off v = (d.after ag 0x600 off v).feelEffect d .audioEngine 0 0x600 off v :=
  (put_flat ha (by decide) h4 (by decide) rfl).trans (effect_audio (.inr (.inr (.inl rfl))) h40)

theorem put_tones {d : Dev} {ag : Agent} {off v : Nat} (h4 : off % 4 = 0) (h40 : 0x040 ≤ off)
    (ha : d.accepts ag 0x630 off v = true) :
    d.put ag 0x630 off v = (d.after ag 0x630 off v).feelEffect d .tones 0 0x630 off v :=
  (put_flat ha (by decide) h4 (by decide) rfl).trans (effect_audio (.inr (.inr (.inr (.inr (.inl rfl))))) h40)

theorem kindOf_sink : ∀ k : Fin 12, kindOf (0x620 + k) = some (.sink, k.val) := by decide

/-- An accepted write of `SK_SRC` asks for its source where that changes, and moves the gain where that does. -/
theorem put_sinkSource {d : Dev} {ag : Agent} {k : Fin 12} {c : Fin 8} {v : Nat}
    (ha : d.accepts ag (0x620 + k) (0x100 + 16 * c) v = true) :
    let n := d.after ag (0x620 + k) (0x100 + 16 * c) v
    let m := if d.r (skPid k) F.SK_SRC_SRC c = bits v 0 8 then n else n.sourceWrite (8 * k + c) (bits v 0 8)
    d.put ag (0x620 + k) (0x100 + 16 * c) v =
      if d.r (skPid k) F.SK_SRC_GAIN c = bits v 16 16 then m else m.sinkGain (8 * k + c) := by
  have channel : (0x100 + 16 * c.val - 0x100) / 16 = c := by omega
  refine (put_flat ha (by omega) (by omega) (kindOf_sink k) rfl).trans ?_
  refine (effect_audio (.inr (.inr (.inr (.inl rfl)))) (by omega)).trans ((if_pos (by omega)).trans ?_)
  rw [channel]
  rfl

/-! ### Program loads (R401, R402) -/

theorem tumGo_eq (d : Dev) (n : Nat) :
    let l := (d.idleBank, d.r aePid F.TP_LD_LO_ADDR * 64 + d.r aePid F.TP_LD_HI_ADDR * 2 ^ 32, n)
    d.tumGo n = (({ d with aud := { d.aud with load := some l } } : Dev).setValid d.idleBank false).w aePid
      F.TP_LD_STAT_BUSY 1 := by
  unfold Dev.tumGo
  simp only [Nat.mul_comm (2 ^ 32)]

/-- The device with the end of a program load shown. -/
def Dev.programShown (d : Dev) (r : Nat) : Dev := (d.w aePid F.TP_LD_STAT_BUSY 0).w aePid F.TP_LD_STAT_RESULT r

/-- The device without a program load under way. -/
def Dev.programTaken (d : Dev) : Dev := { d with aud := { d.aud with load := none } }

section ProgramEnd

variable {d : Dev} {b a n : Nat} {bad : Bool}

theorem tumEnd_none (h : d.aud.load = none) : d.tumEnd bad = d := by
  unfold Dev.tumEnd
  rw [h]

theorem tumEnd_long (h : d.aud.load = some (b, a, n)) (hn : 25920 < n) :
    d.tumEnd bad = (d.programTaken.programShown 1).err aePid 10 := by
  unfold Dev.tumEnd
  rw [h]
  exact if_pos hn

theorem tumEnd_unread (h : d.aud.load = some (b, a, n)) (hn : n ≤ 25920)
    (hr : (d.programTaken.ownerRegion codeOpen).2 < a + n ∨ bad = true) :
    d.tumEnd bad = (d.programTaken.programShown 4).err aePid 10 := by
  unfold Dev.tumEnd
  rw [h]
  exact (if_neg (by omega)).trans (if_pos hr)

variable {m : Dev} {bs : List Nat}

theorem tumEnd_failed (h : d.aud.load = some (b, a, n)) (hn : n ≤ 25920)
    (hr : ¬ ((d.programTaken.ownerRegion codeOpen).2 < a + n ∨ bad = true))
    (hm : d.programTaken.mcRead 0 ((d.programTaken.ownerRegion codeOpen).1 + a) n = (m, bs, false)) :
    d.tumEnd bad = (m.programShown 4).err aePid 10 := by
  unfold Dev.tumEnd
  rw [h]
  refine (if_neg (by omega)).trans ((if_neg hr).trans ?_)
  show (match d.programTaken.mcRead 0 ((d.programTaken.ownerRegion codeOpen).1 + a) n with
    | (m, _, false) => _
    | (m, bs, true) => _) = _
  rw [hm]
  rfl

theorem tumEnd_read (h : d.aud.load = some (b, a, n)) (hn : n ≤ 25920)
    (hr : ¬ ((d.programTaken.ownerRegion codeOpen).2 < a + n ∨ bad = true))
    (hm : d.programTaken.mcRead 0 ((d.programTaken.ownerRegion codeOpen).1 + a) n = (m, bs, true)) :
    d.tumEnd bad = if imgResult bs n = 0 then (m.bankLoad b bs).programShown 0
      else (m.programShown (imgResult bs n)).err aePid 10 := by
  unfold Dev.tumEnd
  rw [h]
  refine (if_neg (by omega)).trans ((if_neg hr).trans ?_)
  show (match d.programTaken.mcRead 0 ((d.programTaken.ownerRegion codeOpen).1 + a) n with
    | (m, _, false) => _
    | (m, bs, true) => _) = _
  rw [hm]
  exact ite_congr rfl (fun _ => rfl) (fun bad => if_neg bad)

end ProgramEnd

/-! ### Tone loads and triggers (R405 to R408) -/

theorem toneGo_eq (d : Dev) (t level n : Nat) :
    let l := (t, level, 16 * n, d.r tnPid F.TN_LD_GEOM_OFFSET,
      d.r tnPid F.TN_LD_LO_ADDR * 64 + d.r tnPid F.TN_LD_HI_ADDR * 2 ^ 32)
    d.toneGo t level n =
      ((({ d with aud := { d.aud with toneLoad := some l } } : Dev).setTone t none).w tnPid F.TN_LD_STAT_BUSY 1) := by
  unfold Dev.toneGo
  simp only [Nat.mul_comm (2 ^ 32)]

/-- The device with the end of a tone load shown. -/
def Dev.toneShown (d : Dev) (r : Nat) : Dev := (d.w tnPid F.TN_LD_STAT_BUSY 0).w tnPid F.TN_LD_STAT_RESULT r

/-- The device without a tone load under way. -/
def Dev.toneTaken (d : Dev) : Dev := { d with aud := { d.aud with toneLoad := none } }

theorem mem_upFrom {u : Nat} : ∀ {a n : Nat}, u ∈ upFrom a n ↔ a ≤ u ∧ u < a + n
  | _, 0 => by simp only [upFrom, List.not_mem_nil, false_iff]; omega
  | a, n + 1 => by
    rw [upFrom, List.mem_cons, mem_upFrom]
    omega

/-- A resident tone other than `t` lies over the samples of a load. -/
def Dev.toneHit (d : Dev) (t off len u : Nat) : Bool :=
  !(u == t) && (match d.tone u with
    | some x => overlap off len x.offset x.length
    | none => false)

theorem toneHit_iff {d : Dev} {t off len u : Nat} :
    d.toneHit t off len u = true ↔ u ≠ t ∧ ∃ x, d.tone u = some x ∧ overlap off len x.offset x.length = true := by
  unfold Dev.toneHit
  cases d.tone u <;> simp

theorem toneHits_iff {d : Dev} {t off len : Nat} : (upFrom 0 64).any (d.toneHit t off len) = true ↔
    ∃ u x, u < 64 ∧ u ≠ t ∧ d.tone u = some x ∧ overlap off len x.offset x.length = true := by
  rw [List.any_eq_true]
  constructor
  · rintro ⟨u, hu, hit⟩
    obtain ⟨ne, x, hx, ho⟩ := toneHit_iff.mp hit
    exact ⟨u, x, by have := mem_upFrom.mp hu; omega, ne, hx, ho⟩
  · rintro ⟨u, x, hu, ne, hx, ho⟩
    exact ⟨u, mem_upFrom.mpr (by omega), toneHit_iff.mpr ⟨ne, x, hx, ho⟩⟩

/-- What the answer to the read of a tone load leaves: its result 4, or the tone in the store. -/
def toneRead (t level len off : Nat) (bad : Bool) (read : Dev × List Nat × Bool) : Dev :=
  if !read.2.2 || bad then (read.1.toneShown 4).err tnPid 11
  else ((read.1.poolSamples off read.2.1).setTone t
    (some { offset := off, length := len, level := level })).toneShown 0

section ToneEnd

variable {d : Dev} {t level len off a : Nat} {bad : Bool}

theorem toneEnd_none (h : d.aud.toneLoad = none) : d.toneEnd bad = d := by
  unfold Dev.toneEnd
  rw [h]

theorem toneEnd_wrong (h : d.aud.toneLoad = some (t, level, len, off, a)) (hr : len = 0 ∨ 2400 < len ∨ tonePool < off + len) :
    d.toneEnd bad = (d.toneTaken.toneShown 1).err tnPid 11 := by
  unfold Dev.toneEnd
  rw [h]
  exact if_pos hr

theorem toneEnd_overlap (h : d.aud.toneLoad = some (t, level, len, off, a))
    (hr : ¬ (len = 0 ∨ 2400 < len ∨ tonePool < off + len)) (hh : (upFrom 0 64).any (d.toneTaken.toneHit t off len) = true) :
    d.toneEnd bad = (d.toneTaken.toneShown 2).err tnPid 11 := by
  unfold Dev.toneEnd
  rw [h]
  exact (if_neg hr).trans (if_pos hh)

theorem toneEnd_load {m : Dev} {bs : List Nat} {ok : Bool} (h : d.aud.toneLoad = some (t, level, len, off, a))
    (hr : ¬ (len = 0 ∨ 2400 < len ∨ tonePool < off + len)) (hh : ¬ (upFrom 0 64).any (d.toneTaken.toneHit t off len) = true)
    (hl : d.toneTaken.loadBytes codeWard 0 0 a (2 * len) = (m, bs, ok)) :
    d.toneEnd bad = toneRead t level len off bad (m, bs, ok) := by
  unfold Dev.toneEnd
  rw [h]
  exact (if_neg hr).trans ((if_neg hh).trans (congrArg (toneRead t level len off bad) hl))

end ToneEnd

/-- A trigger of a touch die asks for a tone. -/
def asksTone (e : TouchTrig) : Bool := match e with
  | .tone .. => true
  | _ => false

theorem touchTone_none {d : Dev} {t : Nat} (hf : (d.touch t).trigs.find? (fun x => asksTone x.1) = none) :
    d.touchTone t = d := by
  show (match d.takeTrig t asksTone with | (some (.tone n k, _), d) => d.toneTrig k n (some t) | (_, d) => d) = d
  rw [takeTrig_none hf]

theorem touchTone_some {d : Dev} {t n k since : Nat}
    (hf : (d.touch t).trigs.find? (fun x => asksTone x.1) = some (.tone n k, since)) :
    d.touchTone t = (d.trigTaken t (.tone n k, since)).toneTrig k n (some t) := by
  show (match d.takeTrig t asksTone with | (some (.tone n k, _), d) => d.toneTrig k n (some t) | (_, d) => d) = _
  rw [takeTrig_some hf]

section ToneTrig

variable {d : Dev} {k t : Nat} {touch : Option Nat}

theorem toneTrig_lost (hw : d.wardRestarting = false)
    (h : d.tone t = none ∨ d.r (spPid k) F.SP_STAT_STATE ≠ 2 ∨ d.sinkEn k = false) :
    d.toneTrig k t touch = (d.addSat tnPid F.TN_LOST_FAULTED).err tnPid 10 := by
  refine (if_neg (by rw [hw]; nofun)).trans ?_
  cases ht : d.tone t with
  | none => rfl
  | some x =>
    obtain absent | still | dumb := h
    · rw [ht] at absent
      cases absent
    · exact if_neg (fun both => still both.1)
    · exact if_neg (fun both => by rw [dumb] at both; nomatch both.2)

theorem toneTrig_plays {x : Tone} (hw : d.wardRestarting = false) (ht : d.tone t = some x)
    (hs : d.r (spPid k) F.SP_STAT_STATE = 2) (he : d.sinkEn k = true) :
    d.toneTrig k t touch = ((d.setSpk k { d.speaker k with
      tone := some (x, 0), toneId := t, duck := d.duckReg k, since := some (d.now, touch) }).add tnPid
        F.TN_COUNT_STARTS).w (spPid k) F.SP_STAT_TONE 1 := by
  refine (if_neg (by rw [hw]; nofun)).trans ?_
  rw [ht]
  exact if_pos ⟨hs, he⟩

end ToneTrig

/-! ### Sources and fades (R402 to R404) -/

theorem fadeEnd_due {d : Dev} (hf : d.fading = true) (hn : 128 ≤ d.aud.fade) : d.fadeEnd =
    (({ d with aud := { d.aud with fade := 0 } } : Dev).w aePid F.TP_BANK_ACTIVE d.idleBank).w aePid F.TP_BANK_XFADE 0 :=
  if_pos (by rw [hf, decide_eq_true hn]; rfl)

theorem fadeEnd_early {d : Dev} (h : d.fading = false ∨ d.aud.fade < 128) : d.fadeEnd = d :=
  if_neg (by
    rw [Bool.and_eq_true, decide_eq_true_eq]
    rintro ⟨hf, hn⟩
    obtain off | young := h
    · rw [off] at hf; nomatch hf
    · omega)

theorem sourceWrite_of_ramp {d : Dev} {c src q : Nat} (h : (d.sinkCh c).ramp = q) :
    d.sourceWrite c src = match (generalizing := false) q with
      | 0 => d.setSink c { d.sinkCh c with due := some src }
      | 1 => d.setSink c { d.sinkCh c with target := src }
      | _ => d.setSink c { d.sinkCh c with held := some src } := by
  subst h
  rfl

theorem routeSwitch_still {d : Dev} {c : Nat} (h : (d.sinkCh c).ramp ≠ 1 ∨ (d.sinkCh c).n < 64) : d.routeSwitch c = d :=
  if_neg (by omega)

theorem routeEnd_still {d : Dev} {c : Nat} (h : (d.sinkCh c).ramp ≠ 2 ∨ (d.sinkCh c).n < 64) : d.routeEnd c = d :=
  if_neg (by omega)

theorem routeEnd_idle {d : Dev} {c : Nat} (hr : (d.sinkCh c).ramp = 2) (hn : 64 ≤ (d.sinkCh c).n)
    (hh : (d.sinkCh c).held = none) : d.routeEnd c = d.setSink c { d.sinkCh c with ramp := 0, n := 0 } := by
  refine (if_pos ⟨hr, hn⟩).trans ?_
  dsimp only
  rw [hh]

theorem routeEnd_next {d : Dev} {c t : Nat} (hr : (d.sinkCh c).ramp = 2) (hn : 64 ≤ (d.sinkCh c).n)
    (hh : (d.sinkCh c).held = some t) :
    d.routeEnd c = d.setSink c { d.sinkCh c with ramp := 1, n := 0, target := t, held := none } := by
  refine (if_pos ⟨hr, hn⟩).trans ?_
  rw [hh]

/-- Settles O51: each register write by what it starts, each end by the load, fade or ramp it ends. -/
theorem programsSinksAndTonesComplete : Obligations.ProgramsSinksAndTonesComplete := by
  refine ⟨?_, fun s bad h => Completes.congr rfl (tumEnd_none h), ?_, ?_,
    fun s hf hn => Completes.congr rfl (fadeEnd_due hf hn), fun s h => Completes.congr rfl (fadeEnd_early h), ?_,
    ?_, ?_, ?_, ?_, ?_, ?_, fun s bad h => Completes.congr rfl (toneEnd_none h), ?_⟩
  · exact fun s ag v ha => Completes.congr rfl ((put_engine rfl (by decide) ha).trans
      ((if_pos ⟨rfl, bit_withBit v 0⟩).trans (tumGo_eq _ _)))
  · intro s b a n bad h d c done
    refine ⟨fun hn => Completes.congr rfl (tumEnd_long h hn), fun hn hr => Completes.congr rfl (tumEnd_unread h hn hr),
      fun m bs hn hr hb hm => ?_, fun m bs hn hr hb hm => ?_⟩
    · have read := tumEnd_read (bad := bad) h hn (not_or.mpr ⟨Nat.not_lt.mpr hr, by rw [hb]; nofun⟩) hm
      exact ⟨fun good => Completes.congr rfl (read.trans (if_pos good)),
        fun wrong => Completes.congr rfl (read.trans (if_neg wrong))⟩
    · exact Completes.congr rfl (tumEnd_failed h hn (not_or.mpr ⟨Nat.not_lt.mpr hr, by rw [hb]; nofun⟩) hm)
  · exact fun s ag v ha => Completes.congr rfl ((put_engine rfl (by decide) ha).trans (if_pos ⟨rfl, bit_withBit v 0⟩))
  · intro s ag k c v ha n m src gain
    have put := put_sinkSource ha
    refine ⟨fun hs hg => ?_, fun hs hg => ?_, fun hs hg => ?_, fun hs hg => ?_⟩
    · exact Completes.congr rfl (put.trans ((if_pos hg).trans (if_pos hs)))
    · exact Completes.congr rfl (put.trans ((if_pos hg).trans (if_neg hs)))
    · exact Completes.congr rfl (put.trans ((if_neg hg).trans (congrArg (Dev.sinkGain · _) (if_pos hs))))
    · exact Completes.congr rfl (put.trans ((if_neg hg).trans (congrArg (Dev.sinkGain · _) (if_neg hs))))
  · intro d c src x
    exact ⟨sourceWrite_of_ramp, sourceWrite_of_ramp, sourceWrite_of_ramp⟩
  · intro s k c i x
    refine ⟨fun hr hn => Completes.congr rfl (if_pos ⟨hr, hn⟩), fun h => Completes.congr rfl (routeSwitch_still h),
      fun hr hn hh => Completes.congr rfl (routeEnd_idle hr hn hh),
      fun t hr hn hh => Completes.congr rfl (routeEnd_next hr hn hh),
      fun h => Completes.congr rfl (routeEnd_still h)⟩
  · exact fun s w ha => Completes.congr rfl (put_tones rfl (by decide) ha)
  · intro s t x first
    exact ⟨fun h => Completes.congr rfl (touchTone_none h),
      fun n k since h => Completes.congr rfl (touchTone_some h)⟩
  · intro d k t touch lost
    exact ⟨fun hw => if_pos hw, toneTrig_lost, fun x hw ht hs he => toneTrig_plays hw ht hs he⟩
  · exact fun s ag v ha => Completes.congr rfl ((put_tones rfl (by decide) ha).trans
      ((if_pos ⟨rfl, bit_withBit v 0⟩).trans (toneGo_eq _ _ _ _)))
  · intro s t level len off a bad h d done room hits
    have outside : ¬ room ↔ len = 0 ∨ 2400 < len ∨ tonePool < off + len := by
      have : tonePool = 153056 := rfl
      omega
    refine ⟨fun hr => Completes.congr rfl (toneEnd_wrong h (outside.mp hr)), fun hr hh => ?_, fun m bs ok hr hh hl => ?_⟩
    · exact Completes.congr rfl (toneEnd_overlap h (fun wrong => outside.mpr wrong hr) (toneHits_iff.mpr hh))
    · have load := toneEnd_load (bad := bad) h (fun wrong => outside.mpr wrong hr) (fun hit => hh (toneHits_iff.mp hit)) hl
      exact ⟨fun failed => Completes.congr rfl (load.trans (if_pos (by simpa using failed))),
        fun hok hb => Completes.congr rfl (load.trans (if_neg (by rw [hok, hb]; nofun)))⟩

end Sys2Proof.Machine
end

section
/-! SUPPORT. Speaker stages, case by case (R410, R411). -/

namespace Sys2Proof.Machine

open Sys2Proof

theorem kindOf_speaker : ∀ k : Fin 8, kindOf (0x880 + k) = some (.speaker, k.val) := by decide

section Stage

variable {d b : Dev} {k v : Nat}

/-- What the EN of a word does to a stage: on where it rises, off where it falls. -/
def Dev.stageSwitched (d b : Dev) (k v : Nat) : Dev :=
  if b.rises (spPid k) v F.SP_CTRL_EN then d.stageEnable k
  else if b.falls (spPid k) v F.SP_CTRL_EN then d.stageDisable k else d

theorem stageSwitched_eq (d b : Dev) (k v : Nat) :
    let up := b.rises (spPid k) v F.SP_CTRL_EN = true
    let down := b.rises (spPid k) v F.SP_CTRL_EN = false ∧ b.falls (spPid k) v F.SP_CTRL_EN = true
    d.stageSwitched b k v =
      if up ∧ d.stageState k = 0 ∧ d.audioRuns = true ∧ d.sinkEn k = true then d.stageStart k
      else if down ∧ d.stageState k ≠ 0 then
        (d.stageSilent k (if d.stageState k = 3 then 0 else 48)).w (spPid k) F.SP_STAT_STATE 0
      else d := by
  intro up down
  by_cases rise : up
  · have notDown : ¬ (down ∧ d.stageState k ≠ 0) := fun both => Bool.noConfusion (rise.symm.trans both.1.1)
    exact (if_pos rise).trans (ite_of_iff (and_iff_right rise).symm rfl (if_neg notDown).symm)
  · refine (if_neg rise).trans (Eq.trans ?_ (if_neg (fun both => rise both.1)).symm)
    by_cases fall : b.falls (spPid k) v F.SP_CTRL_EN = true
    · have isDown : down := ⟨eq_false_of_ne_true rise, fall⟩
      refine (if_pos fall).trans ?_
      by_cases off : d.stageState k = 0
      · exact (if_pos off).trans (if_neg (fun both => both.2 off)).symm
      · exact (if_neg off).trans (if_pos ⟨isDown, off⟩).symm
    · exact (if_neg fall).trans (if_neg (fun both => fall both.1.2)).symm

theorem stageClear_eq (d : Dev) (k : Nat) :
    d.stageClear k = if d.stageState k = 3 ∧ (d.speaker k).latched = true then d.stageRecover k else d :=
  ite_of_iff (by rw [Bool.and_eq_true, decide_eq_true_eq]) rfl rfl

/-- A stage that neither ramps nor runs has no fault. -/
theorem stageFault_off {code : Nat} (h1 : d.stageState k ≠ 1) (h2 : d.stageState k ≠ 2) : d.stageFault k code = d :=
  if_pos (by simp [h1, h2])

/-- A fault that latches turns the bridge off, is counted and opens a unit fault. -/
theorem stageFault_latches {code : Nat} (hs : d.stageState k = 1 ∨ d.stageState k = 2) (hc : code = 1 ∨ code = 2) :
    let m := (d.stageSilent k 0).w (spPid k) F.SP_STAT_STATE 3
    let n := (m.setSpk k { m.speaker k with latched := true }).emit (.drive (16 + k) 0)
    let n := (n.w (spPid k) F.SP_STAT_FAULT code).err (spPid k) 10
    d.stageFault k code = (n.addSat (spPid k) (if code = 1 then F.SP_FAULTS_SHORT else F.SP_FAULTS_DC)).openFault 4 1
      (spPid k) (k + 256 * code) true := by
  have running : ¬ (!(d.stageState k == 1 || d.stageState k == 2)) = true := by
    obtain h | h := hs <;> simp [h]
  obtain rfl | rfl := hc
  · exact if_neg running
  · exact if_neg running

end Stage

/-- An accepted write of `SP_CTRL` switches the stage by its EN, and then its CLEAR frees a latched one. -/
theorem put_speaker {d : Dev} {ag : Agent} {k : Fin 8} {v : Nat} (ha : d.accepts ag (0x880 + k) 0x040 v = true) :
    let m := (d.after ag (0x880 + k) 0x040 v).stageSwitched d k v
    d.put ag (0x880 + k) 0x040 v =
      if bit v 1 = true ∧ m.stageState k = 3 ∧ (m.speaker k).latched = true then m.stageRecover k else m := by
  intro m
  refine (put_flat ha (by omega) rfl (kindOf_speaker k) rfl).trans ?_
  refine (effect_audio (.inr (.inr (.inr (.inr (.inr rfl))))) (by decide)).trans ?_
  exact (ite_congr rfl (fun _ => stageClear_eq m k) (fun _ => rfl)).trans (ite_then_ite _ _)

/-- Settles O52: a write of the control register by what it switches, a ramp's end and a fault by the stage's state. -/
theorem speakersComplete : Obligations.SpeakersComplete := by
  refine ⟨?_, fun s k => Completes.congr rfl rfl, ?_, ?_, ?_⟩
  · intro s ag k v c w hc ha p n off up down m
    have switched : m = n.stageSwitched s.dev k w := (stageSwitched_eq n s.dev k w).symm
    have put := put_speaker ha
    rw [← switched] at put
    obtain ⟨rfl, rfl⟩ | ⟨rfl, rfl⟩ | ⟨rfl, rfl⟩ := hc
    all_goals exact Completes.congr rfl put
  · exact fun s k h1 h2 => ⟨Completes.congr rfl (stageFault_off h1 h2), Completes.congr rfl (stageFault_off h1 h2)⟩
  · exact fun s k hs => ⟨Completes.congr rfl (stageFault_latches hs (.inl rfl)),
      Completes.congr rfl (stageFault_latches hs (.inr rfl))⟩
  · exact fun d k => ⟨rfl, rfl⟩

end Sys2Proof.Machine
end

section
/-! SUPPORT. Levels, decisions, claims, completions and orphans, case by case (R419 to R430). -/

namespace Sys2Proof.Machine

open Sys2Proof

/-! ### Target pages -/

/-- A page with a target has the blocks of a target, or of a VI's interrupts. -/
theorem kindOf_target {p t : Nat} (h : pageTarget p = some t) :
    ∃ i, kindOf p = some (.irqTarget, i) ∨ kindOf p = some (.viIrq, i) := by
  unfold pageTarget at h
  split at h
  · next i hk => exact ⟨i, .inl hk⟩
  · next i hk => exact ⟨i, .inr hk⟩
  · cases h

/-- A register of a target page outside the message fields of a VI stands where it is. -/
theorem place_target {d : Dev} {p t off : Nat} (h : pageTarget p = some t) (ho : ¬ (0x800 ≤ off ∧ off < 0x80C)) :
    d.place p off = (p, off) := by
  obtain ⟨i, hk | hk⟩ := kindOf_target h
  · exact place_own hk rfl
  · unfold Dev.place
    rw [hk]
    exact if_neg ho

/-- What a write of a target page starts: a completion, or an unmask. -/
theorem startedBy_target {d b : Dev} {p t off v : Nat} (h : pageTarget p = some t) (ho : 0x040 ≤ off) :
    d.startedBy b p off v = if off = 0x064 then d.complete t (bits v 0 16)
      else if off = 0x80C ∧ b.falls p v F.MX_CTRL_MASK then d.unmask t else d := by
  obtain ⟨i, hk⟩ := kindOf_target h
  have effect : d.startedBy b p off v = (match pageTarget p with
      | none => d
      | some t =>
        if off = 0x064 then d.complete t (bits v 0 16)
        else if off = 0x80C ∧ b.falls p v F.MX_CTRL_MASK then d.unmask t else d) := by
    obtain hk | hk := hk
    · exact (startedBy_kind hk).trans (if_neg (Nat.not_lt.mpr ho))
    · exact (startedBy_kind hk).trans (if_neg (Nat.not_lt.mpr ho))
  rw [effect, h]

/-! ### The decision (R425, R426) -/

section Assign

variable {d : Dev} {q t : Nat}

/-- The source with the time since when it has had no enabled target. -/
def Dev.srcTimed (d : Dev) (q : Nat) : Src :=
  { d.src q with
    alone := if d.srcPending q = true ∧ d.srcEnabled q = [] then ((d.src q).alone <|> some d.now) else none }

/-- The device with a source as `x` moved to its next target. -/
def Dev.srcMoved (d : Dev) (q : Nat) (x : Src) : Dev :=
  d.setSrc q (match nextTarget x.last (d.srcEnabled q) with
    | some u => { x with asg := some u, last := u, orphan := false }
    | none => { x with asg := none })

/-- `Dev.assign` with the source as `x`. -/
def Dev.assignAs (d : Dev) (q : Nat) (x : Src) : Dev :=
  if d.srcPending q then
    match x.asg with
    | some t => if (d.srcEnabled q).contains t then d.setSrc q x else
        match nextTarget x.last (d.srcEnabled q) with
        | some u => d.setSrc q { x with asg := some u, last := u, orphan := false }
        | none => d.setSrc q { x with asg := none }
    | none =>
      match nextTarget x.last (d.srcEnabled q) with
      | some u => d.setSrc q { x with asg := some u, last := u, orphan := false }
      | none => d.setSrc q x
  else if x.svc.isSome then d.setSrc q x else d.setSrc q { x with asg := none, orphan := false }

theorem assign_timed (d : Dev) (q : Nat) : d.assign q = d.assignAs q (d.srcTimed q) :=
  congrArg (fun a => d.assignAs q { d.src q with alone := a })
    (ite_of_iff (by rw [Bool.and_eq_true, List.isEmpty_iff]) rfl rfl)

theorem assignAs_assigned {x : Src} (hp : d.srcPending q = true) (ha : x.asg = some t) :
    d.assignAs q x = if (d.srcEnabled q).contains t then d.setSrc q x else d.srcMoved q x := by
  unfold Dev.assignAs Dev.srcMoved
  rw [if_pos hp, ha]
  refine ite_congr rfl (fun _ => rfl) (fun _ => ?_)
  cases nextTarget x.last (d.srcEnabled q) with
  | some u => rfl
  | none => rfl

theorem assignAs_unassigned {x : Src} (hp : d.srcPending q = true) (ha : x.asg = none) : d.assignAs q x = d.srcMoved q x := by
  have same : x = { x with asg := none } := by rw [← ha]
  unfold Dev.assignAs Dev.srcMoved
  rw [if_pos hp, ha]
  cases nextTarget x.last (d.srcEnabled q) with
  | some u => rfl
  | none => exact congrArg (d.setSrc q) same

theorem assign_calm (hp : d.srcPending q = false) : d.assign q =
    d.setSrc q (if (d.srcTimed q).svc.isSome then d.srcTimed q else { d.srcTimed q with asg := none, orphan := false }) :=
  (assign_timed d q).trans ((if_neg (by rw [hp]; nofun)).trans (apply_ite (d.setSrc q) _ _ _).symm)

end Assign

/-- The next target in rising order is the least above the last one, and where none is above it, the least. -/
theorem nextTarget_next {last u : Nat} {en : List Nat} (hl : last < 127) (hs : en.Pairwise (· < ·))
    (h : nextTarget last en = some u) :
    u ∈ en ∧ (last < u → ∀ x ∈ en, last < x → u ≤ x) ∧ (u ≤ last → (∀ x ∈ en, x ≤ last) ∧ ∀ x ∈ en, u ≤ x) := by
  have above {x : Nat} : (decide (last < x) && !(last == 127)) = true ↔ last < x := by
    have : last ≠ 127 := by omega
    simp [this]
  unfold nextTarget at h
  split at h
  · next t found =>
    obtain rfl : t = u := Option.some.inj h
    obtain ⟨sel, before, after, rfl, skipped⟩ := List.find?_eq_some_iff_append.mp found
    have hu := above.mp sel
    have later : ∀ x ∈ after, t < x := (List.pairwise_cons.mp (List.pairwise_append.mp hs).2.1).1
    refine ⟨by simp, fun _ x hx hlx => ?_, fun hle => absurd hu (Nat.not_lt.mpr hle)⟩
    rcases List.mem_append.mp hx with hx | hx
    · have := skipped x hx
      rw [above.mpr hlx] at this
      nomatch this
    · rcases List.mem_cons.mp hx with rfl | hx
      · exact Nat.le_refl _
      · exact Nat.le_of_lt (later x hx)
  · next none =>
    have low : ∀ x ∈ en, x ≤ last := fun x hx =>
      Nat.not_lt.mp (fun hlx => List.find?_eq_none.mp none x hx (above.mpr hlx))
    cases en with
    | nil => cases h
    | cons x rest =>
      obtain rfl : x = u := Option.some.inj h
      have later : ∀ y ∈ rest, x < y := (List.pairwise_cons.mp hs).1
      refine ⟨List.mem_cons_self, fun hlx => absurd (low x List.mem_cons_self) (Nat.not_le.mpr hlx), fun _ => ⟨low, ?_⟩⟩
      intro y hy
      rcases List.mem_cons.mp hy with rfl | hy
      · exact Nat.le_refl _
      · exact Nat.le_of_lt (later y hy)

section Signal

variable {d : Dev} {t : Nat}

theorem signal_steady (h : d.irq.lines.contains t = d.signalled t) : d.signal t = d := by
  refine (if_neg ?_).trans (if_neg ?_)
  · rw [h]; simp
  · rw [h]; simp

theorem signal_rises (hw : d.irq.lines.contains t = false) (hi : d.signalled t = true) :
    let rise : Dev := { d with irq := { d.irq with lines := d.irq.lines ++ [t] } }
    d.signal t = if t ≤ 3 then (rise.emit (.line t)).add (tgtPage t) F.IR_TSTAT_SIGNALS
      else if d.on (tgtPage t) F.MX_CTRL_MASK then rise.w (tgtPage t) F.MX_PBA_PEND 1 else rise.sendMsix t :=
  if_pos (by rw [hw, hi]; rfl)

theorem signal_falls (hw : d.irq.lines.contains t = true) (hi : d.signalled t = false) :
    let fall : Dev := { d with irq := { d.irq with lines := d.irq.lines.filter (fun u => !(u == t)) } }
    d.signal t = if t ≤ 3 then fall else fall.w (tgtPage t) F.MX_PBA_PEND 0 :=
  (if_neg (by rw [hi]; nofun)).trans (if_pos (by rw [hw, hi]; rfl))

end Signal

/-! ### Claims (R427) -/

/-- A source goes before another at a claim: it has the higher priority, or the same and the lower number. -/
def Dev.goesBefore (d : Dev) (q x : Nat) : Prop := d.srcPrio x < d.srcPrio q ∨ (d.srcPrio x = d.srcPrio q ∧ q ≤ x)

/-- The one of two sources that goes first. -/
def Dev.first (d : Dev) (b : Option Nat) (s : Nat) : Option Nat := match b with
  | none => some s
  | some q => if d.srcPrio q < d.srcPrio s ∨ (d.srcPrio q = d.srcPrio s ∧ s < q) then some s else some q

theorem goesBefore_trans {d : Dev} {a b c : Nat} (h : d.goesBefore a b) (h' : d.goesBefore b c) : d.goesBefore a c := by
  unfold Dev.goesBefore at h h' ⊢
  omega

/-- The first of two sources is one of them, and goes before both. -/
theorem first_spec (d : Dev) (b : Option Nat) (s : Nat) :
    ∃ y, d.first b s = some y ∧ (y = s ∨ b = some y) ∧ d.goesBefore y s ∧ ∀ x, b = some x → d.goesBefore y x := by
  unfold Dev.goesBefore
  cases b with
  | none => exact ⟨s, rfl, .inl rfl, .inr ⟨rfl, Nat.le_refl s⟩, nofun⟩
  | some q =>
    by_cases hs : d.srcPrio q < d.srcPrio s ∨ (d.srcPrio q = d.srcPrio s ∧ s < q)
    · exact ⟨s, if_pos hs, .inl rfl, .inr ⟨rfl, Nat.le_refl s⟩, fun x hx => by cases hx; omega⟩
    · exact ⟨q, if_neg hs, .inr rfl, by omega, fun x hx => by cases hx; exact .inr ⟨rfl, Nat.le_refl q⟩⟩

/-- What a list of sources leaves first is one of them, or what was first before, and goes before all of them. -/
theorem foldl_first (d : Dev) : ∀ (l : List Nat) (b : Option Nat) (q : Nat), l.foldl d.first b = some q →
    (q ∈ l ∨ b = some q) ∧ ∀ x, x ∈ l ∨ b = some x → d.goesBefore q x
  | [], b, q, h => ⟨.inr h, fun x hx => by
      obtain hx | hx := hx
      · cases hx
      · cases h.symm.trans hx
        exact .inr ⟨rfl, Nat.le_refl q⟩⟩
  | s :: l, b, q, h => by
    obtain ⟨y, hy, from_, ys, yb⟩ := first_spec d b s
    obtain ⟨hq, before⟩ := foldl_first d l (d.first b s) q h
    have qy : d.goesBefore q y := before y (.inr hy)
    refine ⟨?_, fun x hx => ?_⟩
    · obtain hq | hq := hq
      · exact .inl (List.mem_cons_of_mem s hq)
      · cases hy.symm.trans hq
        exact from_.imp (fun e => List.mem_cons.mpr (.inl e)) id
    · obtain hx | hx := hx
      · obtain rfl | hx := List.mem_cons.mp hx
        · exact goesBefore_trans qy ys
        · exact before x (.inl hx)
      · exact goesBefore_trans qy (yb x hx)

theorem claimable_spec {d : Dev} {t q : Nat} (h : d.claimable t = some q) :
    q ∈ d.sources ∧ (d.src q).asg = some t ∧ d.srcPending q = true ∧ d.runPrio t < d.srcPrio q ∧
    ∀ x ∈ d.sources, (d.src x).asg = some t → d.srcPending x = true → d.runPrio t < d.srcPrio x → d.goesBefore q x := by
  have signals {x : Nat} : ((d.src x).asg == some t && d.srcPending x && decide (d.runPrio t < d.srcPrio x)) = true ↔
      (d.src x).asg = some t ∧ d.srcPending x = true ∧ d.runPrio t < d.srcPrio x := by
    rw [Bool.and_eq_true, Bool.and_eq_true, beq_iff_eq, decide_eq_true_eq, and_assoc]
  obtain ⟨hq, before⟩ := foldl_first d _ none q h
  obtain ⟨hq, sel⟩ := List.mem_filter.mp (hq.resolve_right nofun)
  obtain ⟨asg, pending, prio⟩ := signals.mp sel
  exact ⟨hq, asg, pending, prio, fun x hx ha hp hr => before x (.inl (List.mem_filter.mpr ⟨hx, signals.mpr ⟨ha, hp, hr⟩⟩))⟩

theorem claim_none {d : Dev} {t : Nat} (h : d.claimable t = none) :
    d.claim t = ((d.w (tgtPage t) F.IR_CLAIM_VALID 0).w (tgtPage t) F.IR_CLAIM_SOURCE 0).w (tgtPage t) F.IR_CLAIM_PRIO 0 := by
  unfold Dev.claim
  rw [h]

theorem claim_some {d : Dev} {t q : Nat} (h : d.claimable t = some q) :
    let n := ((d.w (tgtPage t) F.IR_CLAIM_VALID 1).w (tgtPage t) F.IR_CLAIM_SOURCE q).w (tgtPage t) F.IR_CLAIM_PRIO (d.srcPrio q)
    let m := n.w (tgtPage t) F.IR_INSVC_PRIO (n.r (tgtPage t) F.IR_INSVC_PRIO ||| 2 ^ d.srcPrio q)
    d.claim t = m.setSrc q { m.src q with svc := some (t, d.srcPrio q), orphan := false } := by
  unfold Dev.claim
  rw [h]

theorem claim_latch (d : Dev) (t : Nat) : (d.claim t).latch = d.latch := by
  cases h : d.claimable t with
  | none => rw [claim_none h]; rfl
  | some q => rw [claim_some h]; rfl

/-- The state as a read of `IR_CLAIM` finds it: its own agent has claimed first. -/
def Dev.claimedBy (d : Dev) (ag : Agent) (p t : Nat) : Dev :=
  if owns (d.owner p) (d.agentCode ag) = true then d.claim t else d

theorem readFirst_claim {d : Dev} {ag : Agent} {p t : Nat} (h : pageTarget p = some t) :
    d.readFirst ag p 0x060 = d.claimedBy ag p t := by
  obtain ⟨i, hk⟩ := kindOf_target h
  unfold Dev.readFirst
  obtain hk | hk := hk
  · rw [hk, h]
    exact ite_of_iff (and_iff_right rfl) rfl rfl
  · rw [hk, h]
    exact ite_of_iff (and_iff_right rfl) rfl rfl

/-- `IR_CLAIM` is no half of a 64-bit register. -/
theorem readLatched_claim {d : Dev} {p t : Nat} (h : pageTarget p = some t) (hl : tabFind d.latch (latchKey p 0x060) = none) :
    d.readLatched p 0x060 = (d.word p 0x060, d) := by
  obtain ⟨i, hk⟩ := kindOf_target h
  unfold Dev.readLatched
  rw [place_target h (by decide)]
  dsimp only
  obtain hk | hk := hk
  · rw [hk]
    exact (if_neg (by decide)).trans (by rw [hl]; rfl)
  · rw [hk]
    exact (if_neg (by decide)).trans (by rw [hl]; rfl)

theorem hidden_target {d : Dev} {ag : Agent} {p t off : Nat} (h : pageTarget p = some t) : d.hidden ag p off = false := by
  obtain ⟨i, hk⟩ := kindOf_target h
  unfold Dev.hidden
  obtain hk | hk := hk
  · rw [hk]
    cases ag <;> rfl
  · rw [hk]
    cases ag <;> rfl

theorem read_claim {d : Dev} {ag : Agent} {p t : Nat} (hi : d.implemented p = true) (hv : d.visible ag p = true)
    (hs : d.isolated p = false) (hl : tabFind d.latch (latchKey p 0x060) = none) (ht : pageTarget p = some t) :
    d.read ag p 0x060 = ((d.claimedBy ag p t).word p 0x060, false, d.claimedBy ag p t) := by
  have latched : (d.claimedBy ag p t).latch = d.latch := by
    unfold Dev.claimedBy
    split
    · exact claim_latch d t
    · rfl
  refine (if_neg (by rw [hi, hv, hidden_target ht]; nofun)).trans ((if_neg ?_).trans ?_)
  · rw [place_target ht (by decide), hs]
    nofun
  · show (match (d.readFirst ag p 0x060).readLatched p 0x060 with | (v, d) => (v, false, d)) = _
    rw [readFirst_claim ht, readLatched_claim ht (latched ▸ hl)]

/-! ### Completions, unmasks, orphans (R426, R428, R430) -/

theorem completeAt_none {d : Dev} {t k : Nat} (h : d.sources.find? (fun q => (d.src q).svc == some (t, k)) = none) :
    d.completeAt t k = d := by
  unfold Dev.completeAt
  rw [h]

theorem completeAt_some {d : Dev} {t k q : Nat} (h : d.sources.find? (fun q => (d.src q).svc == some (t, k)) = some q) :
    let n := d.w (tgtPage t) F.IR_INSVC_PRIO (d.r (tgtPage t) F.IR_INSVC_PRIO &&& (65535 - 2 ^ k))
    d.completeAt t k = n.setSrc q { n.src q with svc := none, asg := none, level := n.srcLevel q } := by
  unfold Dev.completeAt
  rw [h]

theorem unmask_pending {d : Dev} {t : Nat} (hp : d.on (tgtPage t) F.MX_PBA_PEND = true) :
    let m := d.w (tgtPage t) F.MX_PBA_PEND 0
    d.unmask t = if m.signalled t then m.sendMsix t else m := if_pos hp

theorem orphan_eq (d : Dev) (q : Nat) :
    let due := d.srcPending q = true ∧ d.srcEnabled q = [] ∧ (d.src q).orphan = false ∧
      (d.src q).alone.any (fun t => decide (t + 1000000 ≤ d.now)) = true
    let n := d.setSrc q { d.src q with orphan := true, asg := none }
    d.orphan q = if due then ((n.w 0x335 F.IR_ORPHAN_SOURCE q).w 0x335 F.IR_ORPHAN_PENDING 1).addSat 0x335 F.IR_ORPHAN_COUNT
      else d := by
  have waited : (match (d.src q).alone with | some t => decide (t + 1000000 ≤ d.now) | none => false) =
      (d.src q).alone.any (fun t => decide (t + 1000000 ≤ d.now)) := by
    cases (d.src q).alone <;> rfl
  have conjuncts {a b c e : Bool} : (a && b && !c && e) = true ↔ a = true ∧ b = true ∧ c = false ∧ e = true := by
    simp only [Bool.and_eq_true, Bool.not_eq_true', and_assoc]
  refine ite_of_iff (conjuncts.trans (and_congr .rfl (and_congr List.isEmpty_iff (and_congr .rfl ?_)))) rfl rfl
  exact iff_of_eq (congrArg (· = true) waited)

/-- Settles O53: each event by what the controller holds for its source or target; a claim through the read that makes it, a
completion and an unmask through the write that starts them. -/
theorem interruptsComplete : Obligations.InterruptsComplete := by
  refine ⟨fun s q => Completes.congr rfl rfl, fun s => Completes.congr rfl rfl, ?_, fun last en u => nextTarget_next, ?_, ?_,
    fun d t => ⟨claim_none, fun q => claim_some⟩, fun d t q => claimable_spec, ?_,
    fun d t k => ⟨completeAt_none, fun q => completeAt_some⟩, ?_, fun s q => Completes.congr rfl (orphan_eq _ _)⟩
  · intro d q en x moves
    exact ⟨fun hp => ⟨fun t ha => (assign_timed d q).trans (assignAs_assigned hp ha),
      fun ha => (assign_timed d q).trans (assignAs_unassigned hp ha)⟩, assign_calm⟩
  · intro d t ht rise fall
    refine ⟨signal_steady, fun hw hi => ?_, fun hw hi => ?_⟩
    · have rises := signal_rises hw hi
      refine ⟨fun line => rises.trans (if_pos line), fun msi masked => ?_, fun msi masked => ?_⟩
      · exact rises.trans ((if_neg (Nat.not_le.mpr msi)).trans (if_pos masked))
      · exact rises.trans ((if_neg (Nat.not_le.mpr msi)).trans (if_neg (by rw [masked]; nofun)))
    · have falls := signal_falls hw hi
      exact ⟨fun line => falls.trans (if_pos line), fun msi => falls.trans (if_neg (Nat.not_le.mpr msi))⟩
  · intro s ag page t pid hi hv hs hw hl ht n
    exact Completes.congr rfl ((sendRead_serves hw).trans (ownRead_eq (read_claim hi hv hs hl ht)))
  · intro s ag page b t pid ht ha
    have low : bits b.toNat 0 16 = b.toNat := by
      have := b.isLt
      unfold bits
      omega
    refine Completes.congr rfl ((put_accepts ha rfl).trans ?_)
    rw [place_target ht (by decide), startedBy_target ht (by decide : 0x040 ≤ 0x064), low]
    rfl
  · intro s ag a v t pid ho ht ha n
    have starts : s.dev.writeAt ag a.toNat (withoutBit v 0) =
        if s.dev.falls pid (withoutBit v 0) F.MX_CTRL_MASK then n.unmask t else n := by
      unfold Dev.writeAt
      rw [ho, write_takes ha rfl, place_target ht (by decide), startedBy_target ht (by decide : 0x040 ≤ 0x80C)]
      exact (if_neg (by decide)).trans <| ite_of_iff (and_iff_right rfl) rfl rfl
    refine ⟨fun hf => Completes.congr rfl (starts.trans (if_neg (by rw [hf]; nofun))),
      fun hf hp => Completes.congr rfl (starts.trans ((if_pos hf).trans (if_neg (by rw [hp]; nofun)))), fun hf hp => ?_⟩
    have sends := starts.trans ((if_pos hf).trans (unmask_pending hp))
    exact ⟨fun hs => Completes.congr rfl (sends.trans (if_pos hs)),
      fun hs => Completes.congr rfl (sends.trans (if_neg (by rw [hs]; nofun)))⟩

end Sys2Proof.Machine
end

section
/-! SUPPORT. Check values, case by case (R433 to R436). -/

namespace Sys2Proof.Machine

open Sys2Proof

/-! ### CRC registers (R433) -/

/-- A shift keeps a register in its width. -/
theorem crcShift_lt {w poly : Nat} (hp : poly < 2 ^ w) (c : Nat) : crcShift w poly c < 2 ^ w := by
  have kept : c * 2 % 2 ^ w < 2 ^ w := Nat.mod_lt _ (Nat.two_pow_pos w)
  unfold crcShift
  dsimp only
  split
  · exact Nat.xor_lt_two_pow kept hp
  · exact kept

theorem crcMsb_lt {w poly : Nat} (hp : poly < 2 ^ w) (bs : List Nat) : ∀ {init : Nat}, init < 2 ^ w →
    crcMsb w poly init bs < 2 ^ w := by
  induction bs with
  | nil => exact fun h => h
  | cons b bs ih => exact fun _ => ih (crcShift_lt hp _)

theorem crcMsb_append (w poly init : Nat) (a b : List Nat) :
    crcMsb w poly init (a ++ b) = crcMsb w poly (crcMsb w poly init a) b := List.foldl_append

theorem crcLsb_append (poly init : Nat) (a b : List Nat) :
    crcLsb poly init (a ++ b) = crcLsb poly (crcLsb poly init a) b := List.foldl_append

/-- A run over bytes is the run over the first of them, and then from there over the others. -/
theorem cvRun_append (poly init : Nat) (a b : List Nat) : cvRun poly init (a ++ b) = cvRun poly (cvRun poly init a) b := by
  unfold cvRun
  by_cases h0 : poly = 0
  · simp only [if_pos h0, crcLsb_append]
  by_cases h1 : poly = 1
  · simp only [if_neg h0, if_pos h1, crcLsb_append]
  by_cases h2 : poly = 2
  · have kept : crcMsb 16 0x1021 (init % 65536) a < 65536 := crcMsb_lt (w := 16) (by decide) a (Nat.mod_lt _ (by decide))
    simp only [if_neg h0, if_neg h1, if_pos h2, crcMsb_append, Nat.mod_eq_of_lt kept]
  · have kept : crcMsb 8 0x1D (init % 256) a < 256 := crcMsb_lt (w := 8) (by decide) a (Nat.mod_lt _ (by decide))
    simp only [if_neg h0, if_neg h1, if_neg h2, crcMsb_append, Nat.mod_eq_of_lt kept]

/-! ### GO (R434) -/

theorem kindOf_engine : ∀ e : Fin 8, kindOf (0x020 + e) = some (.checkEngine, e.val) := by decide

theorem put_cvGo {d : Dev} {ag : Agent} {e : Fin 8} (ha : d.accepts ag (0x020 + e) 0x05C 1 = true) :
    d.put ag (0x020 + e) 0x05C 1 = (d.after ag (0x020 + e) 0x05C 1).cvGo e :=
  (put_flat ha (by omega) rfl (kindOf_engine e) rfl).trans (if_neg (by decide))

theorem cvCommand_mode {d : Dev} {ag : Agent} {e : Fin 8} {mode : Nat} (hm : d.r (cvPid e) F.CV_CFG_MODE = mode)
    (ha : d.accepts ag (0x020 + e) 0x05C 1 = true) :
    d.cvCommand ag e mode = (d.after ag (0x020 + e) 0x05C 1).cvGo e := (if_pos hm).trans (put_cvGo ha)

/-! ### The end of a run (R434, R435) -/

/-- The end of a run shown. -/
def Dev.cvShown (d : Dev) (e result : Nat) : Dev :=
  ((d.w (cvPid e) F.CV_STAT_BUSY 0).w (cvPid e) F.CV_STAT_RESULT result).err (cvPid e) 13

/-- What the bytes of a stream leave. -/
def streamRead (e : Nat) (bad : Option Nat) (read : Dev × List Nat × Bool) : Dev :=
  if !read.2.2 || bad.isSome then read.1.cvShown e 2
  else
    let n := read.1
    let poly := n.r (cvPid e) F.CV_CFG_POLY
    let run := cvRun poly (if n.on (cvPid e) F.CV_CFG_CONT then n.r (cvPid e) F.CV_RUN_VALUE else n.r (cvPid e) F.CV_INIT_VALUE)
      read.2.1
    ((n.w (cvPid e) F.CV_RUN_VALUE run).w (cvPid e) F.CV_RESULT_VALUE (cvFinal poly run)).cvShown e 0

section RunEnd

variable {d : Dev} {e : Nat} {bad : Option Nat}

theorem cvEnd_idle (hb : d.on (cvPid e) F.CV_STAT_BUSY = false) : d.cvEnd e bad = d := if_pos (by rw [hb]; rfl)

theorem cvEnd_range (hb : d.on (cvPid e) F.CV_STAT_BUSY = true) (hr : d.cvRangeOk e = false) :
    d.cvEnd e bad = d.cvShown e 1 := (if_neg (by rw [hb]; nofun)).trans (if_pos (by rw [hr]; rfl))

theorem cvEnd_stream {read : Dev × List Nat × Bool} (hb : d.on (cvPid e) F.CV_STAT_BUSY = true) (hr : d.cvRangeOk e = true)
    (hm : d.r (cvPid e) F.CV_CFG_MODE = 0)
    (hd : d.cvRead (d.r (cvPid e) F.CV_CFG_SPACE) (d.r64 (cvPid e) F.CV_SRC_LO_ADDR F.CV_SRC_HI_ADDR)
      (d.r (cvPid e) F.CV_LEN_BYTES) = read) :
    d.cvEnd e bad = streamRead e bad read :=
  (if_neg (by rw [hb]; nofun)).trans ((if_neg (by rw [hr]; nofun)).trans ((if_pos hm).trans (congrArg (streamRead e bad) hd)))

theorem cvEnd_messages {n : Dev} {ok : Bool} (hb : d.on (cvPid e) F.CV_STAT_BUSY = true) (hr : d.cvRangeOk e = true)
    (hm : d.r (cvPid e) F.CV_CFG_MODE ≠ 0) (hn : d.cvMessages e bad 0 (d.r (cvPid e) F.CV_MSG_COUNT) = (n, ok)) :
    d.cvEnd e bad = n.cvShown e (if ok then 0 else 2) :=
  (if_neg (by rw [hb]; nofun)).trans ((if_neg (by rw [hr]; nofun)).trans ((if_neg hm).trans
    (congrArg (fun end_ : Dev × Bool => end_.1.cvShown e (if end_.2 then 0 else 2)) hn)))

end RunEnd

/-- Settles O54: GO by the mode, the end of a run by its settings, its mode and what it read, a message by its CRC and its
alive counter. -/
theorem checkValuesComplete : Obligations.CheckValuesComplete := by
  refine ⟨?_, ?_, fun s e bad hb => Completes.congr rfl (cvEnd_idle hb), ?_, ?_, ?_, cvRun_append⟩
  · intro s ag e ha n go
    exact ⟨fun hm => Completes.congr rfl (cvCommand_mode hm ha), fun hm => Completes.congr rfl (cvCommand_mode hm ha)⟩
  · exact fun s ag e => ⟨fun hm => Completes.congr rfl (if_neg hm), fun hm => Completes.congr rfl (if_neg hm)⟩
  · intro s e bad hb p ends src
    refine ⟨fun hr => Completes.congr rfl (cvEnd_range hb hr), fun n bs ok hr hm hd => ?_, fun n ok hr hm hn => ?_⟩
    · have read := cvEnd_stream (bad := bad) hb hr hm hd
      refine ⟨fun failed => Completes.congr rfl (read.trans (if_pos ?_)), fun hok hbad => Completes.congr rfl (read.trans (if_neg ?_))⟩
      · simpa [Option.isSome_iff_ne_none] using failed
      · rw [hok, hbad]
        nofun
    · exact Completes.congr rfl (cvEnd_messages hb hr hm hn)
  · intro d e k m p poly off run n aw same
    exact ⟨fun wrong => if_neg wrong, fun right none => (if_pos right).trans (if_pos none),
      fun right some => (if_pos right).trans (if_neg some)⟩
  · intro d e c aw p last
    exact ⟨fun first => if_pos first, fun again ok => (if_neg again).trans (if_pos ok),
      fun again ok same => (if_neg again).trans ((if_neg ok).trans (if_pos same)),
      fun again ok same => (if_neg again).trans ((if_neg ok).trans (if_neg same))⟩

end Sys2Proof.Machine
end

section
/-! SUPPORT. What an error event and a fault that opens leave as it is: the power manager, and the registers of every other
block's own. -/

namespace Sys2Proof.Machine

open Sys2Proof

/-- The power manager and the own registers of a page are as they were. -/
def Dev.keepsPage (d : Dev) (q : Nat) (n : Dev) : Prop := n.pm = d.pm ∧ ∀ g j, FD.own g j → n.r q g j = d.r q g j

section Keeps

variable {q : Nat}

theorem keepsPage_refl (d : Dev) : d.keepsPage q d := ⟨rfl, fun _ _ _ => rfl⟩

theorem keepsPage_of_eq {d n : Dev} (hp : n.pm = d.pm) (hr : n.regs = d.regs) : d.keepsPage q n :=
  ⟨hp, fun _ _ _ => by unfold Dev.r; rw [hr]⟩

theorem keepsPage_trans {d m n : Dev} (h : d.keepsPage q m) (h' : m.keepsPage q n) : d.keepsPage q n :=
  ⟨h'.1.trans h.1, fun g j own => (h'.2 g j own).trans (h.2 g j own)⟩

theorem w_keepsPage {p : Nat} (hp : q ≠ p) {f : FD} {i : Nat} (hf : f.at i * 8 + f.lo < 32768) (d : Dev) (v : Nat) :
    d.keepsPage q (d.w p f v i) := ⟨rfl, fun g j own => r_w_page d p q f g v i j hf own.2 hp⟩

theorem err_keepsPage (d : Dev) (p b : Nat) : d.keepsPage q (d.err p b) := by
  refine ⟨?_, fun g j own => r_err_own own⟩
  unfold Dev.err
  split <;> rfl

theorem foldl_keepsPage {α : Type} {f : Dev → α → Dev} (h : ∀ (n : Dev) (x : α), n.keepsPage q (f n x)) (l : List α) (d : Dev) :
    d.keepsPage q (l.foldl f d) :=
  List.foldlRecOn l f (motive := d.keepsPage q) (keepsPage_refl d) (fun n hn x _ => keepsPage_trans hn (h n x))

theorem ite_keepsPage {c : Prop} [Decidable c] {d m n : Dev} (hm : d.keepsPage q m) (hn : d.keepsPage q n) :
    d.keepsPage q (if c then m else n) := by
  split
  · exact hm
  · exact hn

variable (hq : q ≠ ftPid)

include hq

theorem faultRecord_keepsPage (d : Dev) (time level kind conseq latched superseded cause pid detail first recovery : Nat) :
    d.keepsPage q (d.faultRecord time level kind conseq latched superseded cause pid detail first recovery).2 := by
  refine keepsPage_trans (m := d.add ftPid F.FT_SEQ_NEXT) (w_keepsPage hq (by decide) d _) ?_
  unfold Dev.faultRecord
  dsimp only
  split
  · exact keepsPage_trans (m := Dev.w _ ftPid F.FT_STAT_UNREAD _) (w_keepsPage hq (by decide) _ _) (err_keepsPage _ _ _)
  · exact keepsPage_trans (m := Dev.addSat _ ftPid F.FT_STAT_LOST) (w_keepsPage hq (by decide) _ _) (err_keepsPage _ _ _)

theorem faultCount_keepsPage (d : Dev) (level : Nat) : d.keepsPage q (d.faultCount level) := by
  unfold Dev.faultCount
  repeat' split
  · exact w_keepsPage hq (by decide) d _
  · exact w_keepsPage hq (by decide) d _
  · exact w_keepsPage hq (by decide) d _
  · exact w_keepsPage hq (by decide) d _
  · exact w_keepsPage hq (by decide) d _
  · exact keepsPage_refl d

theorem closeOne_keepsPage (d : Dev) (superseded : Bool) (f : OpenFault) : d.keepsPage q (d.closeOne superseded f) :=
  faultRecord_keepsPage hq _ _ _ _ _ _ _ _ _ _ _ _

theorem closeWithin_keepsPage (d : Dev) (level unit seq : Nat) (sel : OpenFault → Bool) (superseded : Bool) :
    d.keepsPage q (d.closeWithin level unit seq sel superseded) :=
  foldl_keepsPage (fun n f => closeOne_keepsPage hq n superseded f) _ d

theorem escalate_keepsPage (d : Dev) (g : OpenFault) (ws : List Window) : d.keepsPage q (d.escalate g ws) := by
  have counted (n : Dev) (level : Nat) : n.keepsPage q (((n.addSat ftPid F.FT_CNT2_ESCALATED).err ftPid 12).faultCount level) :=
    keepsPage_trans (w_keepsPage hq (by decide) n _) (keepsPage_trans (err_keepsPage _ _ _) (faultCount_keepsPage hq _ _))
  have closed (n : Dev) (level unit seq : Nat) : n.keepsPage q (n.closeWithin level unit seq (fun _ => true) true) :=
    closeWithin_keepsPage hq _ _ _ _ _ _
  have opened (n : Dev) (fl : FaultSt) (f : OpenFault) (l : List Nat) :
      n.keepsPage q ((({ n with flt := fl } : Dev).addFault f l).addWindow f) := keepsPage_of_eq rfl rfl
  unfold Dev.escalate
  dsimp only
  refine keepsPage_trans ?_ (opened _ _ _ _)
  refine keepsPage_trans ?_ (closed _ _ _ _)
  refine keepsPage_trans ?_ (counted _ _)
  exact faultRecord_keepsPage hq _ _ _ _ _ _ _ _ _ _ _ _

/-- What the windows make of a fault that has opened (R481, R482). -/
theorem watched_keepsPage {d n : Dev} {quiet closes : Prop} [Decidable quiet] [Decidable closes] (g : OpenFault)
    (ws : List Window) (h : d.keepsPage q n) :
    d.keepsPage q (if quiet then n
      else if ws.isEmpty = true then if closes then (n.addWindow g).closeOne false g else n.addWindow g
      else (n.addWindow g).escalate g ws) := by
  have windowed : d.keepsPage q (n.addWindow g) := keepsPage_trans h (keepsPage_of_eq rfl rfl)
  refine ite_keepsPage h (ite_keepsPage (ite_keepsPage ?_ windowed) ?_)
  · exact keepsPage_trans windowed (closeOne_keepsPage hq _ _ _)
  · exact keepsPage_trans windowed (escalate_keepsPage hq _ _ _)

/-- A fault that opens. -/
theorem openFault_keepsPage (d : Dev) (cause level pid detail : Nat) (latched breachOutside : Bool) (at_ : Option Nat) :
    d.keepsPage q (d.openFault cause level pid detail latched breachOutside at_) := by
  have recorded (t c l : Nat) :
      d.keepsPage q (((d.stamp ftPid).2.faultRecord t level 0 c l 0 cause pid detail 0 0).2.faultCount level) :=
    keepsPage_trans (m := Prod.snd _) (faultRecord_keepsPage hq (d.stamp ftPid).2 _ _ _ _ _ _ _ _ _ _ _)
      (faultCount_keepsPage hq _ _)
  have consequent (n : Dev) : n.keepsPage q (n.addSat ftPid F.FT_CNT2_CONSEQUENT) := w_keepsPage hq (by decide) n _
  have closed (n : Dev) (unit seq : Nat) : n.keepsPage q (n.closeWithin level unit seq (fun _ => true) true) :=
    closeWithin_keepsPage hq _ _ _ _ _ _
  have fallen (n : Dev) (f : OpenFault) (l : List Nat) : n.keepsPage q (n.addFault f l) := keepsPage_of_eq rfl rfl
  unfold Dev.openFault
  dsimp only
  refine ite_keepsPage ?_ (ite_keepsPage ?_ ?_)
  · refine keepsPage_trans ?_ (fallen _ _ _)
    refine keepsPage_trans ?_ (closed _ _ _)
    exact keepsPage_trans (recorded _ _ _) (consequent _)
  · have counted (t c l : Nat) : d.keepsPage q
        ((((d.stamp ftPid).2.faultRecord t level 0 c l 0 cause pid detail 0 0).2.faultCount level).addSat ftPid
          F.FT_CNT2_CONSEQUENT) := keepsPage_trans (recorded t c l) (consequent _)
    have noted (n : Dev) (fl : FaultSt) : n.keepsPage q ({ n with flt := fl } : Dev) := keepsPage_of_eq rfl rfl
    refine ite_keepsPage (keepsPage_trans ?_ (closeOne_keepsPage hq _ _ _)) ?_
    · exact keepsPage_trans (counted _ _ _) (noted _ _)
    · exact keepsPage_trans (counted _ _ _) (noted _ _)
  · refine watched_keepsPage hq _ _ (keepsPage_trans ?_ (fallen _ _ _))
    exact keepsPage_trans (recorded _ _ _) (closed _ _ _)

end Keeps

end Sys2Proof.Machine
end

section
/-! SUPPORT. Power changes and rails, case by case (R446 to R450, R453, R454). -/

namespace Sys2Proof.Machine

open Sys2Proof

/-! ### Changes (R446, R449, R453) -/

section Changes

variable {d : Dev}

theorem changeNext_held (h : d.pm.run.isSome = true ∨ d.boot.down = true ∨ 2 ≤ d.pmState) : d.changeNext = d := if_pos h

/-- No change runs, and the device is awake. -/
theorem changeNext_free (hr : d.pm.run = none) (hd : d.boot.down = false) (hs : d.pmState < 2) :
    d.changeNext = match d.pm.wardPend with
      | some t => ({ d with pm := { d.pm with wardPend := none, thermPend := false } }).changeStart d.setLevels t true
      | none =>
        if (d.ctl pmPid).pend.isSome then
          (({ d with pm := { d.pm with thermPend := false } }).applyPend pmPid (fun _ => true)).changeOfSet
        else if d.pm.thermPend then
          ({ d with pm := { d.pm with thermPend := false } }).changeStart d.setLevels d.pmState false
        else d :=
  (if_neg (by rw [hr, hd]; simpa using hs)).trans rfl

variable {ls : List Nat} {t : Nat} {ward : Bool}

theorem changeStart_refused (ht : t = 1) (hw : ward = false) (hb : d.boltArmed = true) :
    d.changeStart ls t ward = d.pmEnd 3 0 := if_pos ⟨ht, by rw [hw]; rfl, hb⟩

theorem changeStart_active (ht : 2 ≤ t) (hw : ward = true) (hp : d.portsActive = true) :
    d.changeStart ls t ward = d.pmEnd 4 0 := (if_neg (by omega)).trans (if_pos ⟨ht, hw, hp⟩)

theorem changeStart_runs (hb : t ≠ 1 ∨ ward = true ∨ d.boltArmed = false) (hp : t < 2 ∨ ward = false ∨ d.portsActive = false) :
    let c : Change := { levels := d.capped ls, old := d.levelsNow, target := t, ward := ward, rails := d.railsUp (d.capped ls) }
    d.changeStart ls t ward = (d.setRun c).setPhase 1 := by
  refine (if_neg ?_).trans (if_neg ?_)
  · rintro ⟨ht, hw, armed⟩
    obtain h | h | h := hb
    · exact h ht
    · rw [h] at hw; nomatch hw
    · rw [h] at armed; nomatch armed
  · rintro ⟨ht, hw, active⟩
    obtain h | h | h := hp
    · omega
    · rw [h] at hw; nomatch hw
    · rw [h] at active; nomatch active

end Changes

/-! ### Transactions (R447) -/

section Bus

variable {d : Dev} {o : BusOp} {rest : List BusOp}

theorem busDone_idle {x : Nat} (h : d.pm.bus = []) : d.busDone x = d := by
  unfold Dev.busDone
  rw [h]

theorem busNak_idle (h : d.pm.bus = []) : d.busNak = d := by
  unfold Dev.busNak
  rw [h]

theorem busFail_idle (h : d.pm.bus = []) : d.busFail = d := by
  unfold Dev.busFail
  rw [h]

theorem busTimeout_idle (h : d.pm.bus = []) : d.busTimeout = d := by
  unfold Dev.busTimeout
  rw [busFail_idle h, ite_self]

/-- What VOUT_MODE reports of a rail, in the linear format. -/
def Dev.modeRead (d : Dev) (r x : Nat) : Dev := { d with pm := { d.pm with mode := tabPut d.pm.mode none r (some (sx 5 x)) } }

theorem busDone_ends {x : Nat} (h : d.pm.bus = o :: rest) :
    let n := d.busNext
    let m := n.modeRead o.rail x
    d.busDone x =
      if o.code = 0x20 ∧ x / 32 % 8 = 0 then (if o.forChange then m.railWrite o.rail (m.wantLevel o.rail) else m)
      else if o.code = 0x20 then (if o.forChange then n.railFail o.rail else n)
      else if o.code = 0x21 then n.ackAwait o.rail (n.wantLevel o.rail) (railMv o.rail (n.wantLevel o.rail))
      else if o.code = 0x01 then n.ackAwait o.rail (n.r pmPid (railField o.rail))
        (if o.value = 0 then 0 else railMv o.rail (n.r pmPid (railField o.rail)))
      else if o.code = 0x79 then n.w rlPid F.RG_SW_STATUS x o.rail
      else n := by
  have other {a b c : Dev} (h : o.code ≠ 0x20) :
      (if o.code = 0x20 ∧ x / 32 % 8 = 0 then a else if o.code = 0x20 then b else c) = c :=
    (if_neg (fun both => h both.1)).trans (if_neg h)
  unfold Dev.busDone
  rw [h]
  dsimp only
  split
  · next code =>
    exact (ite_of_iff (and_iff_right code) rfl (if_pos code)).symm
  · next code => exact ((other (by omega)).trans (if_pos code)).symm
  · next code => exact ((other (by omega)).trans ((if_neg (by omega)).trans (if_pos code))).symm
  · next code => exact ((other (by omega)).trans ((if_neg (by omega)).trans ((if_neg (by omega)).trans (if_pos code)))).symm
  · next no20 no21 no01 no79 =>
    exact ((other no20).trans ((if_neg no21).trans ((if_neg no01).trans (if_neg no79)))).symm

theorem busFail_ends (h : d.pm.bus = o :: rest) :
    let n := (d.addSat rlPid F.RG_ERR_BUS 1 o.rail).busNext (fun x => !(o.forChange && x.forChange))
    let m := if o.code = 3 then n else n.busOp o.rail 3 0 false
    d.busFail = if o.forChange then m.railFail o.rail else m := by
  unfold Dev.busFail
  rw [h]

theorem busNak_repeats (h : d.pm.bus = o :: rest) (ht : o.tries < 2) :
    d.busNak = ({ d with pm := { d.pm with bus := { o with tries := o.tries + 1 } :: rest } } : Dev).emit
      (.pmbus o.rail (d.r rlPid F.RG_CFG_ADDR o.rail) o.code o.value) := by
  unfold Dev.busNak
  rw [h]
  exact if_pos (by omega)

theorem busNak_fails (h : d.pm.bus = o :: rest) (ht : ¬ o.tries < 2) : d.busNak = d.busFail := by
  unfold Dev.busNak
  rw [h]
  exact if_neg (by omega)

end Bus

/-! ### Acknowledgements (R448) -/

section Ack

variable {d : Dev} {q r lv mv : Nat}

theorem ackUp_idle (h : d.pm.ack = none) : d.ackUp r = d := by
  unfold Dev.ackUp
  rw [h]

theorem ackUp_awaited (h : d.pm.ack = some (q, lv, mv)) :
    let n := (({ d with pm := { d.pm with ack := none } } : Dev).w rlPid F.RG_STAT_ACK 1 r)
    d.ackUp r = if q = r ∧ d.pm.ackAt.1 + 50000 ≤ d.now then
      (((n.w rlPid F.RG_STAT_MV mv r).w rlPid F.RG_STAT_UNSURE 0 r).w rlPid F.RG_STAT_FAILS 0 r).w pmPid (railField r) lv
      else d := by
  unfold Dev.ackUp
  rw [h]

theorem ackTimeout_idle (h : d.pm.ack = none) : d.ackTimeout = d := by
  unfold Dev.ackTimeout
  rw [h]

theorem ackTimeout_awaited (h : d.pm.ack = some (r, lv, mv)) :
    d.ackTimeout = if d.pm.ackAt.1 + d.pm.ackAt.2 ≤ d.now then
      ((d.addSat rlPid F.RG_ERR_ACK 1 r).busOp r 0x79 0 false).railFail r else d := by
  unfold Dev.ackTimeout
  rw [h]

end Ack

/-! ### A failed rail (R448) -/

/-- The end of a change with RESULT 1: none runs, and PM_STAT shows it. -/
theorem pmEnd_failed (d : Dev) (detail : Nat) :
    (d.pmEnd 1 detail).pm.run = none ∧ (d.pmEnd 1 detail).r pmPid F.PM_STAT_RESULT = 1 ∧
      (d.pmEnd 1 detail).r pmPid F.PM_STAT_PHASE = 0 ∧ ∀ g j, FD.own g j → (d.pmEnd 1 detail).r rlPid g j = d.r rlPid g j := by
  let m : Dev := { d with pm := { d.pm with run := none } }
  let n := ((m.w pmPid F.PM_STAT_PHASE 0).w pmPid F.PM_STAT_RESULT 1).w pmPid F.PM_EVT_DONE 1
  have logs (e : Dev) (g : FD) (hg : g.off ≤ 0x06C) (hs : g.stride = 0) (hlo : g.lo < 32) :
      (e.pmLog 2 1).r pmPid g = e.r pmPid g := by
    have at_ : g.at 0 * 8 + g.lo < 0x380 := by unfold FD.at; omega
    refine (r_w_at ?_).trans ((r_w_at ?_).trans ((r_w_at ?_).trans (r_w_at (d := (e.stamp pmPid).2) ?_)))
    all_goals
      refine Nat.ne_of_lt (Nat.lt_of_lt_of_le at_ ?_)
      decide
  have elsewhere {e : Dev} {f : FD} {v i : Nat} (hf : f.at i * 8 + f.lo < 32768) : e.keepsPage rlPid (e.w pmPid f v i) :=
    w_keepsPage (by decide) hf e v
  have logsAway (e : Dev) : e.keepsPage rlPid (e.pmLog 2 1) :=
    keepsPage_trans (m := (e.stamp pmPid).2) (keepsPage_of_eq rfl rfl) <| keepsPage_trans (elsewhere (by decide)) <|
      keepsPage_trans (elsewhere (by decide)) <| keepsPage_trans (elsewhere (by decide)) (elsewhere (by decide))
  have away : d.pmEnd 1 detail = (n.err pmPid 10).pmLog 2 1 := rfl
  have kept : m.keepsPage rlPid (d.pmEnd 1 detail) :=
    keepsPage_trans (elsewhere (by decide)) <| keepsPage_trans (elsewhere (by decide)) <|
      keepsPage_trans (elsewhere (by decide)) <| keepsPage_trans (err_keepsPage n pmPid 10) (logsAway _)
  refine ⟨congrArg Pm.run kept.1, ?_, ?_, kept.2⟩
  · refine (logs _ _ (by decide) rfl (by decide)).trans ((r_err_own ⟨by decide, by decide⟩).trans ((r_w_at (by decide)).trans ?_))
    exact r_w_same _ _ _ _ _
  · refine (logs _ _ (by decide) rfl (by decide)).trans ((r_err_own ⟨by decide, by decide⟩).trans ((r_w_at (by decide)).trans ?_))
    exact (r_w_at (by decide)).trans (r_w_same _ _ _ _ _)

/-- The registers of a rail that fails. -/
def Dev.railMarked (d : Dev) (r : Nat) : Dev :=
  ((d.w rlPid F.RG_STAT_UNSURE 1 r).w rlPid F.RG_STAT_FAILS
    (sat 15 ((d.w rlPid F.RG_STAT_UNSURE 1 r).r rlPid F.RG_STAT_FAILS r + 1)) r).err rlPid errTimeout

/-- Every region of the change that runs stays at the lower performance of its old and new level. -/
def Dev.levelsHeld (d : Dev) : Dev := match d.pm.run with
  | some c => d.upTo 14 (fun i d =>
      d.w pmPid (actLevels.getD i F.PM_ACT0_LVL0) (max (c.old.getD i 0) (d.r pmPid (actLevels.getD i F.PM_ACT0_LVL0))))
  | none => d

/-- The device that no acknowledgement is awaited on. -/
def Dev.ackGone (d : Dev) : Dev := { d with pm := { d.pm with ack := none } }

theorem r_ackGone (d : Dev) (p : Nat) (f : FD) (i : Nat) : d.ackGone.r p f i = d.r p f i := rfl

/-- The rail's registers and the levels of the change that fails on it, before the change ends. -/
def Dev.railUnsure (d : Dev) (r : Nat) : Dev := (d.railMarked r).ackGone.levelsHeld

theorem railFail_eq (d : Dev) (r : Nat) : d.railFail r =
    if (d.w rlPid F.RG_STAT_UNSURE 1 r).r rlPid F.RG_STAT_FAILS r + 1 = 3
    then ((d.railUnsure r).pmEnd 1 0).openFault 13 4 rlPid r else (d.railUnsure r).pmEnd 1 0 := rfl

theorem own_unsure : ∀ {r : Nat}, r < 3 → FD.own F.RG_STAT_UNSURE r
  | 0, _ | 1, _ | 2, _ => ⟨by decide, by decide⟩

theorem levelsHeld_keepsRails (d : Dev) : d.keepsPage rlPid { d.levelsHeld with pm := d.pm } := by
  have lies (i : Nat) : (actLevels.getD i F.PM_ACT0_LVL0).at 0 * 8 + (actLevels.getD i F.PM_ACT0_LVL0).lo < 32768 := by
    have all : ∀ f ∈ actLevels, f.at 0 * 8 + f.lo < 32768 := by decide
    rw [List.getD_eq_getElem?_getD]
    cases hf : actLevels[i]? with
    | none => decide
    | some f => exact all f (List.mem_of_getElem? hf)
  refine ⟨rfl, fun g j own => ?_⟩
  show d.levelsHeld.r rlPid g j = d.r rlPid g j
  unfold Dev.levelsHeld
  split
  · exact forAll_keeps (P := fun e => e.r rlPid g j = d.r rlPid g j)
      (fun i e he => (r_w_page _ _ _ _ _ _ _ _ (lies i) own.2 (by decide)).trans he) _ rfl
  · rfl

theorem railMarked_unsure {r : Nat} (d : Dev) (hr : r < 3) : (d.railMarked r).r rlPid F.RG_STAT_UNSURE r = 1 := by
  unfold Dev.railMarked
  rw [r_err_own (own_unsure hr), r_w_beside (f := F.RG_STAT_FAILS) (g := F.RG_STAT_UNSURE) rfl (by decide), r_w_same]
  rfl

theorem railUnsure_shows {r : Nat} (d : Dev) (hr : r < 3) : (d.railUnsure r).r rlPid F.RG_STAT_UNSURE r = 1 := by
  have kept : (d.railUnsure r).r rlPid F.RG_STAT_UNSURE r = (d.railMarked r).ackGone.r rlPid F.RG_STAT_UNSURE r :=
    (levelsHeld_keepsRails (d.railMarked r).ackGone).2 _ _ (own_unsure hr)
  rw [kept, r_ackGone, railMarked_unsure d hr]

/-- No change runs after a rail has failed: PM_STAT shows it, and the rail is UNSURE. -/
theorem railFail_shows (d : Dev) (r : Nat) : (d.railFail r).pm.run = none ∧ (d.railFail r).r pmPid F.PM_STAT_RESULT = 1 ∧
    (d.railFail r).r pmPid F.PM_STAT_PHASE = 0 ∧ (r < 3 → (d.railFail r).on rlPid F.RG_STAT_UNSURE r = true) := by
  obtain ⟨run, result, phase, rails⟩ := pmEnd_failed (d.railUnsure r) 0
  have unsure (hr : r < 3) : ((d.railUnsure r).pmEnd 1 0).r rlPid F.RG_STAT_UNSURE r = 1 :=
    (rails _ _ (own_unsure hr)).trans (railUnsure_shows d hr)
  rw [railFail_eq]
  split
  · have keeps {q : Nat} (hq : q ≠ ftPid) := openFault_keepsPage hq ((d.railUnsure r).pmEnd 1 0) 13 4 rlPid r false false none
    obtain ⟨pm, power⟩ := keeps (q := pmPid) (by decide)
    obtain ⟨_, rail⟩ := keeps (q := rlPid) (by decide)
    have manager {g : FD} (own : g.own 0) := power g 0 own
    exact ⟨(congrArg Pm.run pm).trans run, (manager ⟨by decide, by decide⟩).trans result,
      (manager ⟨by decide, by decide⟩).trans phase,
      fun hr => beq_iff_eq.mpr ((rail _ _ (own_unsure hr)).trans (unsure hr))⟩
  · exact ⟨run, result, phase, fun hr => beq_iff_eq.mpr (unsure hr)⟩

/-! ### The ward world's request and the ledger's time (R453, R454) -/

theorem put_wardRequest {d : Dev} {ag : Agent} {t : Fin 8} (ha : d.accepts ag 0x390 0x04C (keyed theKey t) = true) :
    d.put ag 0x390 0x04C (keyed theKey t) = (d.after ag 0x390 0x04C (keyed theKey t)).wardRequest t := by
  refine (put_flat ha (by decide) rfl (by decide : kindOf 0x390 = some (.power, 0)) rfl).trans ?_
  exact (if_neg (by decide)).trans (congrArg (Dev.wardRequest _) (bits_keyed_low t.isLt))

theorem wardRequest_refused {d : Dev} {t : Nat} (ht : 2 ≤ t) (hp : d.portsActive = true) : d.wardRequest t =
    (((d.w pmPid F.PM_STAT_RESULT 4).w pmPid F.PM_EVT_DONE 1).err pmPid 10).pmLog 1 4 := if_pos ⟨ht, hp⟩

theorem wardRequest_waits {d : Dev} {t : Nat} (h : t < 2 ∨ d.portsActive = false) :
    let p : Pm := { d.pm with wardPend := some t, wakeEn := if t = 0 then d.pm.wakeEn else d.wakeMask }
    d.wardRequest t = (({ d with pm := p } : Dev).supersede pmPid).changeNext := by
  refine (if_neg ?_).trans ?_
  · rintro ⟨ht, active⟩
    obtain h | h := h
    · omega
    · rw [h] at active; nomatch active
  · by_cases wakes : t = 0
    · simp only [if_pos wakes]
    · simp only [if_neg wakes]
      rfl

theorem sleepTimeout_idle {d : Dev} (h : d.pm.run = none) : d.sleepTimeout = d := by
  unfold Dev.sleepTimeout
  rw [h]

theorem sleepTimeout_running {d : Dev} {c : Change} (h : d.pm.run = some c) :
    d.sleepTimeout = if d.r pmPid F.PM_STAT_PHASE = 5 ∧ c.step = 3 ∧ c.since + 100000000 ≤ d.now
      then (d.undoEntry c).pmEnd 5 0 else d := by
  unfold Dev.sleepTimeout
  rw [h]

/-- Settles O55: the next change by what waits, a transaction's end by its code and its tries, an acknowledgement by the rail
that awaits it, a failed rail through what the fault that it opens leaves. -/
theorem powerChangesComplete : Obligations.PowerChangesComplete := by
  refine ⟨fun s h => Completes.congr rfl (changeNext_held h), ?_,
    fun d ls t ward => ⟨changeStart_refused, changeStart_active, changeStart_runs⟩,
    fun s b h => ?_, ?_, ?_, ?_, fun s h => Completes.congr rfl (ackTimeout_idle h),
    fun s r lv mv h => Completes.congr rfl (ackTimeout_awaited h), railFail_shows, ?_,
    fun s h => Completes.congr rfl (sleepTimeout_idle h), fun s c h => Completes.congr rfl (sleepTimeout_running h)⟩
  · intro s hr hd hs
    have next := changeNext_free hr hd hs
    refine ⟨fun t ht => Completes.congr rfl (next.trans (by rw [ht]; rfl)), fun hw hp => ?_, fun hw hp ht => ?_, fun hw hp ht => ?_⟩
    all_goals rw [hw] at next
    · exact Completes.congr rfl (next.trans (if_pos hp))
    · exact Completes.congr rfl (next.trans ((if_neg (by rw [hp]; nofun)).trans (if_pos ht)))
    · exact Completes.congr rfl (next.trans ((if_neg (by rw [hp]; nofun)).trans (if_neg (by rw [ht]; nofun))))
  · refine ⟨?_, Completes.congr rfl (busTimeout_idle h)⟩
    cases b with
    | ok x => exact Completes.congr rfl (busDone_idle h)
    | nak => exact Completes.congr rfl (busNak_idle h)
  · intro s o rest x h n awaits p m linear lv
    exact Completes.congr rfl (busDone_ends h)
  · intro s o rest h p n m fails
    have fail : s.dev.busFail = fails := busFail_ends h
    refine ⟨Completes.congr rfl ?_, Completes.congr rfl (ite_of_iff .rfl fail rfl)⟩
    by_cases again : o.tries < 2
    · exact (busNak_repeats h again).trans (if_pos again).symm
    · exact (busNak_fails h again).trans (fail.trans (if_neg again).symm)
  · intro s r p n
    exact ⟨fun h => Completes.congr rfl (ackUp_idle h), fun q lv mv h => Completes.congr rfl (ackUp_awaited h)⟩
  · intro s ag t ha n
    exact ⟨fun ht hp => Completes.congr rfl ((put_wardRequest ha).trans (wardRequest_refused ht hp)),
      fun h => Completes.congr rfl ((put_wardRequest ha).trans (wardRequest_waits h))⟩

end Sys2Proof.Machine
end

section
/-! SUPPORT. Gates, the thermal cap, wake sources and the supply, case by case (R450, R451, R455 to R459, R504, R505). -/

namespace Sys2Proof.Machine

open Sys2Proof

/-! ### Gates (R450) -/

/-- What the OFF of a word does to a region. -/
def Dev.gateSwitched (d b : Dev) (g v : Nat) : Dev :=
  if b.rises pmPid v F.PM_GATE_OFF g = true then d.regionOff g
  else if b.falls pmPid v F.PM_GATE_OFF g = true then d.regionOn g else d

/-- What a bit of RSTHOLD does to its cluster. -/
def Dev.clusterSwitched (d b : Dev) (g v k : Nat) : Dev :=
  if bit v (8 + k) = true ∧ bit (b.r pmPid F.PM_GATE_RSTHOLD g) k = false then d.clusterHold g k
  else if bit v (8 + k) = false ∧ bit (b.r pmPid F.PM_GATE_RSTHOLD g) k = true then d.clusterFree g k else d

/-- An accepted write of `PM_GATE` switches its region, and then the region's clusters. -/
theorem put_gate {d : Dev} {ag : Agent} {g : Fin 16} {v : Nat} (ha : d.accepts ag 0x390 (0x100 + 4 * g) v = true) :
    d.put ag 0x390 (0x100 + 4 * g) v = (upFrom 0 8).foldl (fun n k => n.clusterSwitched d g v k)
      ((d.after ag 0x390 (0x100 + 4 * g) v).gateSwitched d g v) := by
  have region : (0x100 + 4 * g.val - 0x100) / 4 = g := by omega
  have cluster (n : Dev) (k : Nat) :
      (if bit v (8 + k) && !bit (d.r pmPid F.PM_GATE_RSTHOLD g) k then n.clusterHold g k
        else if !bit v (8 + k) && bit (d.r pmPid F.PM_GATE_RSTHOLD g) k then n.clusterFree g k else n) =
      n.clusterSwitched d g v k :=
    ite_of_iff (by rw [Bool.and_eq_true, Bool.not_eq_true']) rfl (ite_of_iff (by rw [Bool.and_eq_true, Bool.not_eq_true']) rfl rfl)
  refine (put_flat ha (by decide) (by omega) (by decide : kindOf 0x390 = some (.power, 0)) rfl).trans ?_
  refine (if_neg (by omega)).trans ((if_neg (by omega)).trans ((if_pos (by omega)).trans ?_))
  rw [region]
  exact congrArg (fun f => (upFrom 0 8).foldl f _) (funext fun n => funext (cluster n))

/-! ### The cap (R451) -/

section Cap

variable {d : Dev} {t : Int}

theorem thermalLimit_quiet (h : (d.thermalSample t).on pmPid F.PM_THERM_ACTIVE = true ∨
    t < ((d.thermalSample t).r pmPid F.PM_THERM_LIMIT : Nat)) : d.thermalLimit t = d.thermalSample t := if_pos h

theorem thermalLimit_raises (ha : (d.thermalSample t).on pmPid F.PM_THERM_ACTIVE = false)
    (hl : ((d.thermalSample t).r pmPid F.PM_THERM_LIMIT : Nat) ≤ t) :
    let m := ((((d.thermalSample t).w pmPid F.PM_THERM_ACTIVE 1).w pmPid F.PM_EVT_THERM 1).err pmPid 12).pmLog 6 0
    d.thermalLimit t = ({ m with pm := { m.pm with thermPend := (m.ctl pmPid).pend.isNone } } : Dev).changeNext :=
  if_neg (not_or.mpr ⟨by rw [ha]; nofun, Int.not_lt.mpr hl⟩)

end Cap

/-! ### Wake sources and the supply (R455 to R459, R504, R505) -/

section Wakes

variable {d : Dev}

theorem i2cMatch_other {a : Nat} (h : d.on wkPid F.WK_I2C_EN = false ∨ d.r wkPid F.WK_I2C_ADDR ≠ a) : d.i2cMatch a = d :=
  if_neg (by
    rw [Bool.and_eq_true, beq_iff_eq]
    rintro ⟨enabled, same⟩
    obtain h | h := h
    · rw [h] at enabled; nomatch enabled
    · exact h same)

theorem i2cMatch_own {a : Nat} (he : d.on wkPid F.WK_I2C_EN = true) (ha : d.r wkPid F.WK_I2C_ADDR = a) :
    d.i2cMatch a = ({ d with wakes := d.wakes ++ [1] } : Dev).addSat wkPid F.WK_STAT_MATCHES :=
  if_pos (by rw [he, ha, beq_self_eq_true]; rfl)

theorem rtcAlarm_off (h : d.on wkPid F.RTC_CTRL_ALM_EN = false ∨ d.on wkPid F.RTC_CTRL_OSC_OK = false) : d.rtcAlarm = d :=
  if_neg (by
    rw [Bool.and_eq_true]
    rintro ⟨enabled, runs⟩
    obtain h | h := h
    · rw [h] at enabled; nomatch enabled
    · rw [h] at runs; nomatch runs)

theorem rtcAlarm_on (he : d.on wkPid F.RTC_CTRL_ALM_EN = true) (hr : d.on wkPid F.RTC_CTRL_OSC_OK = true) :
    let r : Rtc := { count := d.r64 wkPid F.RTC_ALM_LO_COUNT F.RTC_ALM_HI_COUNT, since := d.now }
    d.rtcAlarm = (({ d with rtc := r, wakes := d.wakes ++ [2] } : Dev).w wkPid F.RTC_CTRL_ALM_FIRED 1).err wkPid 10 :=
  if_pos (by rw [he, hr]; rfl)

theorem hingePower_on (h : d.fab.hingeOn = true) : d.hingePower = d := if_pos h

theorem hingePower_rises (h : d.fab.hingeOn = false) :
    d.hingePower = ({ d.hingeGone with fab := { d.hingeGone.fab with hingeOn := true } } : Dev).setMainEn true :=
  if_neg (by rw [h]; nofun)

/-- The device as power-good has fallen. -/
def Dev.powerBad (d : Dev) : Dev := { d with boot := { d.boot with powerGood := false } }

theorem powerGoodFall_again (h : d.boot.powerGood = false) : d.powerGoodFall = d := if_pos (by rw [h]; rfl)

theorem powerGoodFall_good (h : d.boot.powerGood = true) : d.powerGoodFall =
    if !d.boot.mainEn then d.powerBad else if d.boot.faultN then d.powerBad.setFaultN false
      else (d.powerBad.holdDrop 1).diesFresh true := if_neg (by rw [h]; nofun)

end Wakes

/-- Settles O56: a gate by the bits that the write changes, a temperature by the limit, a wake source and a supply event by
what stands in its way. -/
theorem gatesWakesAndSupplyComplete : Obligations.GatesWakesAndSupplyComplete := by
  refine ⟨?_, ?_, ?_, ?_, ?_, fun s => ⟨Completes.congr rfl rfl, Completes.congr rfl rfl⟩, ?_,
    fun s => Completes.congr rfl rfl, ?_⟩
  · intro s ag g v c w hc ha n m held
    obtain ⟨rfl, rfl⟩ | ⟨rfl, rfl⟩ | ⟨rfl, rfl⟩ := hc
    all_goals exact Completes.congr rfl (put_gate ha)
  · intro s t n
    exact ⟨fun h => Completes.congr rfl (thermalLimit_quiet h), fun ha hl => Completes.congr rfl (thermalLimit_raises ha hl),
      fun h => Completes.congr rfl (if_pos h), fun h => Completes.congr rfl (if_neg (Int.not_le.mpr h))⟩
  · exact fun s k => ⟨fun none => Completes.congr rfl (if_pos none), fun some => Completes.congr rfl (if_neg some)⟩
  · exact fun s a => ⟨fun h => Completes.congr rfl (i2cMatch_other h), fun he ha => Completes.congr rfl (i2cMatch_own he ha)⟩
  · exact fun s => ⟨fun h => Completes.congr rfl (rtcAlarm_off h), fun he hr => Completes.congr rfl (rtcAlarm_on he hr)⟩
  · exact fun s => ⟨fun h => Completes.congr rfl (hingePower_on h), fun h => Completes.congr rfl (hingePower_rises h)⟩
  · intro s
    refine ⟨fun h => Completes.congr rfl (powerGoodFall_again h), fun h => ?_⟩
    have fall := powerGoodFall_good h
    refine ⟨fun hm => Completes.congr rfl (fall.trans (if_pos (by rw [show s.dev.boot.mainEn = false from hm]; rfl))),
      fun hm hf => ?_, fun hm hf => ?_⟩
    · exact Completes.congr rfl (fall.trans ((if_neg (by rw [show s.dev.boot.mainEn = true from hm]; nofun)).trans (if_pos hf)))
    · refine Completes.congr rfl (fall.trans ((if_neg (by rw [show s.dev.boot.mainEn = true from hm]; nofun)).trans ?_))
      exact if_neg (by rw [show s.dev.boot.faultN = false from hf]; nofun)

end Sys2Proof.Machine
end

section
/-! SUPPORT. The ring's ports, the by-pass hold and what the node sends, case by case (R460 to R467). -/

namespace Sys2Proof.Machine

open Sys2Proof

/-! ### What an accepted write starts -/

theorem put_ring {d : Dev} {ag : Agent} {off v : Nat} (h4 : off % 4 = 0) (h40 : 0x040 ≤ off)
    (ha : d.accepts ag 0x410 off v = true) :
    d.put ag 0x410 off v = (d.after ag 0x410 off v).hingeEffect d .ring 0 0x410 off v :=
  (put_flat ha (by decide) h4 (by decide : kindOf 0x410 = some (.ring, 0)) rfl).trans (if_neg (Nat.not_lt.mpr h40))

/-- The device as an accepted write of `RB_CTRL` leaves it before HOLD is looked at: NODE has been set where it changes. -/
def Dev.nodeWritten (d b : Dev) (v : Nat) : Dev :=
  if b.r rgPid F.RB_CTRL_NODE = bits v 8 5 then d else { d with ring := { d.ring with nodeSet := true } }

theorem put_ringCtrl {d : Dev} {ag : Agent} {v : Nat} (ha : d.accepts ag 0x410 0x040 v = true) :
    let n := (d.after ag 0x410 0x040 v).nodeWritten d v
    d.put ag 0x410 0x040 v = if d.rises rgPid v F.RB_CTRL_HOLD = true then n.holdWrite true
      else if d.falls rgPid v F.RB_CTRL_HOLD = true then n.holdWrite false else n := put_ring rfl (by decide) ha

/-! ### Ports and lines (R460, R463) -/

/-- The hold falls where a release was waiting and waits no more. -/
theorem fell {before after : Bool} (hb : before = true) (ha : after = false) : (before && !after) = true := by
  rw [hb, ha]
  rfl

theorem fell_of_not {before after : Bool} (h : before = false ∨ after = true) : ¬ (before && !after) = true := by
  obtain rfl | rfl := h
  · nofun
  · rw [Bool.not_true, Bool.and_false]
    nofun

section Ports

variable {d : Dev} {p : Nat}

theorem portSeek_eq (d : Dev) (p : Nat) : d.portSeek p =
    if d.held? = true ∧ d.portState p = 0 ∧ d.ring.holdAt + 3000000 ≤ d.now then
      (d.w rgPid F.RP_STAT_STATE 1 p).emit (.event 460 [p]) else d :=
  ite_of_iff (by rw [Bool.and_eq_true, Bool.and_eq_true, beq_iff_eq, decide_eq_true_eq, and_assoc]) rfl rfl

/-- A port back in SEEK, its frames lost. -/
def Dev.portLost (d : Dev) (p : Nat) : Dev :=
  ((d.setPort p { delays := (d.port p).delays }).w rgPid F.RP_STAT_STATE 1 p).err rgPid 12

theorem portDown_up {e : Nat} (hs : (d.addSat rgPid F.RP_ERR_CODE e p).portState p = 2) :
    let n := d.addSat rgPid F.RP_ERR_CODE e p
    d.portDown p e = if n.releasing && !(n.portLost p).releasing then (n.portLost p).holdFall else (n.portLost p).ringShow :=
  if_pos hs

theorem frameSent_idle (h : (d.port p).line = none) : d.frameSent p = d := by
  unfold Dev.frameSent
  rw [h]

theorem frameSent_line {o : OutFrame} (h : (d.port p).line = some o) :
    let n := (d.setPort p { d.port p with line := none }).lineStart p d.now
    d.frameSent p = if o.release && !n.releasing then n.holdFall else n.ringShow := by
  unfold Dev.frameSent
  rw [h]

end Ports

/-! ### The hold (R460, R466) -/

/-- The hold output is low, both ports are DOWN, and nothing waits. -/
theorem holdFall_shows (d : Dev) : d.holdFall.on rgPid F.RB_STAT_HOLD = false ∧ d.holdFall.portState 0 = 0 ∧
    d.holdFall.portState 1 = 0 ∧ d.holdFall.on rgPid F.RB_TX_BUSY = false := by
  have low {n : Dev} {f : FD} (h : n.r rgPid f = 0) : n.on rgPid f = false := by
    unfold Dev.on
    rw [h]
    rfl
  refine ⟨low ?_, ?_, ?_, low ?_⟩
  · exact (r_w_at (by decide)).trans ((r_w_at (by decide)).trans ((r_w_at (by decide)).trans (r_w_same _ _ _ _ _)))
  · exact (r_w_at (by decide)).trans ((r_w_at (by decide)).trans (r_w_same _ _ _ _ _))
  · exact (r_w_at (by decide)).trans (r_w_same _ _ _ _ _)
  · exact r_w_same _ _ _ _ _

section Hold

variable {d : Dev}

/-- A port whose frames release the hold no more. -/
def RingPort.kept (x : RingPort) : RingPort :=
  { x with queue := x.queue.map (fun o => { o with release := false }), line := x.line.map (fun o => { o with release := false }) }

theorem kept_releases_not (x : RingPort) : x.kept.has (·.release) = false := by
  unfold RingPort.has RingPort.kept
  cases x.line <;> simp

/-- The device with the hold output high. -/
def Dev.holdHigh (d : Dev) : Dev :=
  { d with ring := { d.ring with port0 := d.ring.port0.kept, port1 := d.ring.port1.kept,
                                 holdAt := if d.held? then d.ring.holdAt else d.now } }.w rgPid F.RB_STAT_HOLD 1

theorem holdWrite_set (hn : d.ring.nodeSet = true) : d.holdWrite true = d.holdHigh := (if_pos rfl).trans (if_pos hn)

theorem holdWrite_unset (hn : d.ring.nodeSet = false) : d.holdWrite true = d :=
  (if_pos rfl).trans (if_neg (by rw [hn]; nofun))

theorem holdWrite_releases (hr : d.releasing = false) : d.holdWrite false = d.holdRelease 3 :=
  (if_neg nofun).trans (if_neg (by rw [hr]; nofun))

theorem holdWrite_released (hr : d.releasing = true) : d.holdWrite false = d := (if_neg nofun).trans (if_pos hr)

theorem holdHigh_shows (d : Dev) : d.holdHigh.on rgPid F.RB_STAT_HOLD = true ∧ d.holdHigh.releasing = false := by
  refine ⟨beq_iff_eq.mpr (r_w_same _ _ _ _ _), ?_⟩
  show (d.ring.port0.kept.has (·.release) || d.ring.port1.kept.has (·.release)) = false
  rw [kept_releases_not, kept_releases_not]
  rfl

theorem holdRelease_low (hh : d.held? = false) (code : Nat) : d.holdRelease code = d := if_neg (by rw [hh]; nofun)

theorem holdRelease_high (hh : d.held? = true) (code : Nat) :
    d.holdRelease code = if (d.alert code true).releasing then d.alert code true else (d.alert code true).holdFall :=
  if_pos hh

end Hold

/-- Settles O57: a port by its state, a frame sent by the release it carries, the hold by the change of HOLD and what holds it,
a send by its register or its condition. -/
theorem ringPortsAndSendsComplete : Obligations.RingPortsAndSendsComplete := by
  refine ⟨?_, ?_, fun s p h => Completes.congr rfl (frameSent_idle h), ?_, holdFall_shows, ?_,
    fun d => holdRelease_low, ?_, ?_, ?_, fun s => Completes.congr rfl rfl, ?_, ?_, fun s => Completes.congr rfl rfl⟩
  · exact fun s p => ⟨Completes.congr rfl (portSeek_eq _ _), fun h => Completes.congr rfl (if_pos h),
      fun h => Completes.congr rfl (if_neg h)⟩
  · intro s p e n
    refine ⟨fun h => Completes.congr rfl (if_neg h), fun h => ?_⟩
    intro x m
    have down := portDown_up h
    exact ⟨fun hr hm => Completes.congr rfl (down.trans (if_pos (fell hr hm))),
      fun h => Completes.congr rfl (down.trans (if_neg (fell_of_not h)))⟩
  · intro s p o h x n
    have sent := frameSent_line h
    exact ⟨fun hr hm => Completes.congr rfl (sent.trans (if_pos (fell hr hm))),
      fun h => Completes.congr rfl (sent.trans (if_neg (fell_of_not h)))⟩
  · intro s ag v c w hc ha n r n' up down
    have written : Completes c s (s.dev.put ag 0x410 0x040 w) := by
      obtain ⟨rfl, rfl⟩ | ⟨rfl, rfl⟩ := hc
      all_goals rfl
    have put : s.dev.put ag 0x410 0x040 w = if up then n'.holdWrite true
      else if s.dev.falls rgPid w F.RB_CTRL_HOLD = true then n'.holdWrite false else n' := put_ringCtrl ha
    refine ⟨fun rise node => ?_, fun fall quiet => ?_, fun unset released => ?_⟩
    · have high := holdHigh_shows n'
      exact ⟨n'.holdHigh, written.congr (put.trans ((if_pos rise).trans (holdWrite_set node))), high.1, high.2, rfl, rfl, rfl,
        rfl, rfl⟩
    · exact written.congr (put.trans ((if_neg fall.1).trans ((if_pos fall.2).trans (holdWrite_releases quiet))))
    · refine written.congr (put.trans ?_)
      by_cases rise : up
      · exact (if_pos rise).trans (holdWrite_unset (unset rise))
      · refine (if_neg rise).trans ?_
        by_cases fall : s.dev.falls rgPid w F.RB_CTRL_HOLD = true
        · exact (if_pos fall).trans (holdWrite_released (released ⟨rise, fall⟩))
        · exact if_neg fall
  · intro d code h n
    exact ⟨fun hr => (holdRelease_high h code).trans (if_pos hr),
      fun hr => (holdRelease_high h code).trans (if_neg (by rw [show n.releasing = false from hr]; nofun))⟩
  · exact fun s ag v ha => Completes.congr rfl ((put_ring rfl (by decide) ha).trans (if_pos ⟨rfl, bit_withBit v 0⟩))
  · exact fun s ag v ha => Completes.congr rfl ((put_ring rfl (by decide) ha).trans (if_pos ⟨rfl, bit_withBit v 8⟩))
  · intro s m
    exact ⟨fun h => Completes.congr rfl (if_pos h), fun h => Completes.congr rfl (if_neg (by rw [h]; nofun))⟩
  · intro s p m
    exact ⟨fun h => Completes.congr rfl (if_pos h), fun h => Completes.congr rfl (if_neg h)⟩

end Sys2Proof.Machine
end

section
/-! SUPPORT. The address-covering code (R220, R221): the check byte is linear, and its columns have odd weight for the data
bits and even weight for the address bits, so that two errors never look like one. -/

namespace Sys2Proof.Machine

open Sys2Proof

-- One proof after another: this text is compiled whole, and proofs checked side by side hold their memory at once.
set_option Elab.async false

/-! ### The check byte is linear -/

theorem columnSum_xor (v w : Nat) (i : Nat) (l : List Nat) :
    columnSum (v ^^^ w) i l = columnSum v i l ^^^ columnSum w i l := by
  induction l generalizing i with
  | nil => exact (Nat.xor_self 0).symm
  | cons c r ih =>
    have first : (if bit (v ^^^ w) i then c else 0) = (if bit v i then c else 0) ^^^ (if bit w i then c else 0) := by
      unfold bit
      rw [Nat.testBit_xor]
      cases v.testBit i <;> cases w.testBit i <;> simp
    simp only [columnSum, first, ih]
    ac_rfl

/-- One bit of the word picks its column, if it has one. -/
theorem columnSum_two_pow {k i : Nat} (h : i ≤ k) (l : List Nat) : columnSum (2 ^ k) i l = l.getD (k - i) 0 := by
  have below (l : List Nat) : ∀ i, k < i → columnSum (2 ^ k) i l = 0 := by
    induction l with
    | nil => exact fun _ _ => rfl
    | cons c r ih =>
      intro i hi
      simp [columnSum, bit, Nat.testBit_two_pow_of_ne (Nat.ne_of_lt hi), ih (i + 1) (by omega)]
  induction l generalizing i with
  | nil => rfl
  | cons c r ih =>
    rcases Nat.eq_or_lt_of_le h with rfl | hlt
    · simp [columnSum, bit, Nat.testBit_two_pow_self, below r (i + 1) (by omega)]
    · rw [show k - i = (k - (i + 1)) + 1 by omega]
      simp [columnSum, bit, Nat.testBit_two_pow_of_ne (Nat.ne_of_gt hlt), ih hlt]

/-- The column of a data bit, and of an address bit. -/
def dataColumn (i : Nat) : Nat := dataColumns.getD i 0
def addrColumn (k : Nat) : Nat := addrColumns.getD (k - 3) 0

theorem checkByte_flip_data (w a i : Nat) : checkByte (w ^^^ 2 ^ i) a = checkByte w a ^^^ dataColumn i := by
  have column : columnSum (2 ^ i) 0 dataColumns = dataColumn i := columnSum_two_pow (Nat.zero_le i) _
  simp only [checkByte, columnSum_xor, column]
  ac_rfl

theorem checkByte_flip_addr {k : Nat} (w a : Nat) (h : 3 ≤ k) : checkByte w (a ^^^ 2 ^ k) = checkByte w a ^^^ addrColumn k := by
  have column : columnSum (2 ^ k) 3 addrColumns = addrColumn k := columnSum_two_pow h _
  simp only [checkByte, columnSum_xor, column]
  ac_rfl

/-! ### The weights of the columns -/

theorem filter_xor_length_mod (p q : Nat → Bool) (l : List Nat) :
    (l.filter (fun i => p i ^^ q i)).length % 2 = ((l.filter p).length + (l.filter q).length) % 2 := by
  induction l with
  | nil => rfl
  | cons i r ih =>
    cases hp : p i <;> cases hq : q i <;> simp [hp, hq] <;> omega

/-- The weight of a sum of two columns has the parity of the sum of the weights. -/
theorem weight8_xor (x y : Nat) : weight8 (x ^^^ y) % 2 = (weight8 x + weight8 y) % 2 := by
  have bits_ : bit (x ^^^ y) = fun i => bit x i ^^ bit y i := funext fun i => Nat.testBit_xor x y i
  unfold weight8
  rw [bits_, filter_xor_length_mod]

theorem dataColumns_odd : ∀ c ∈ dataColumns, weight8 c % 2 = 1 := by decide +kernel
theorem addrColumns_even : ∀ c ∈ addrColumns, weight8 c % 2 = 0 := by decide +kernel
theorem dataColumns_heavy : ∀ c ∈ dataColumns, weight8 c ≠ 1 := by decide +kernel
theorem dataColumns_nodup : dataColumns.Nodup := by decide +kernel
theorem addrColumns_nodup : addrColumns.Nodup := by decide +kernel
theorem addrColumns_nonzero : 0 ∉ addrColumns := by decide +kernel
theorem dataColumns_nonzero : 0 ∉ dataColumns := by decide +kernel
theorem dataColumns_length : dataColumns.length = 64 := by decide +kernel
theorem addrColumns_length : addrColumns.length = 32 := by decide +kernel

theorem weight8_two_pow : ∀ k : Fin 8, weight8 (2 ^ k.val) = 1 := by decide +kernel

theorem dataColumn_mem {i : Nat} (h : i < 64) : dataColumn i ∈ dataColumns := by
  have hl : i < dataColumns.length := dataColumns_length ▸ h
  unfold dataColumn
  rw [List.getD_eq_getElem _ _ hl]
  exact List.getElem_mem hl

theorem addrColumn_mem {k : Nat} (h3 : 3 ≤ k) (h : k < 35) : addrColumn k ∈ addrColumns := by
  have hl : k - 3 < addrColumns.length := by rw [addrColumns_length]; omega
  unfold addrColumn
  rw [List.getD_eq_getElem _ _ hl]
  exact List.getElem_mem hl

/-- Entries of a list without duplicates at different places differ. -/
theorem getD_ne {l : List Nat} (hn : l.Nodup) {i j : Nat} (hi : i < l.length) (hj : j < l.length) (h : i ≠ j) :
    l.getD i 0 ≠ l.getD j 0 := by
  rw [List.getD_eq_getElem _ _ hi, List.getD_eq_getElem _ _ hj]
  exact fun c => h ((hn.getElem_inj_iff).mp c)

theorem dataColumn_ne {i j : Nat} (hi : i < 64) (hj : j < 64) (h : i ≠ j) : dataColumn i ≠ dataColumn j :=
  getD_ne dataColumns_nodup (dataColumns_length ▸ hi) (dataColumns_length ▸ hj) h

theorem addrColumn_ne {k l : Nat} (hk3 : 3 ≤ k) (hk : k < 35) (hl3 : 3 ≤ l) (hl : l < 35) (h : k ≠ l) :
    addrColumn k ≠ addrColumn l := by
  have len := addrColumns_length
  exact getD_ne addrColumns_nodup (by omega) (by omega) (by omega)

/-! ### What a syndrome says (R221) -/

theorem decodeSyndrome_dataColumn {i : Nat} (h : i < 64) : decodeSyndrome (dataColumn i) = .dataBit i := by
  have mem := dataColumn_mem h
  have nonzero : dataColumn i ≠ 0 := fun c => dataColumns_nonzero (c ▸ mem)
  have hl : i < dataColumns.length := dataColumns_length ▸ h
  have place_ : dataColumns.idxOf (dataColumn i) = i := by
    unfold dataColumn
    rw [List.getD_eq_getElem _ _ hl]
    exact dataColumns_nodup.idxOf_getElem i hl
  unfold decodeSyndrome
  rw [if_neg nonzero, if_pos (List.contains_iff_mem.mpr mem), place_]

theorem decodeSyndrome_light {s : Nat} (h : weight8 s = 1) : decodeSyndrome s = .checkBit := by
  have nonzero : s ≠ 0 := by rintro rfl; exact absurd h (by decide)
  have other : ¬dataColumns.contains s = true := fun c => dataColumns_heavy s (List.contains_iff_mem.mp c) h
  unfold decodeSyndrome
  rw [if_neg nonzero, if_neg other, if_pos h]

theorem decodeSyndrome_other {s : Nat} (h0 : s ≠ 0) (h1 : weight8 s ≠ 1) (hd : dataColumns.contains s = false) :
    decodeSyndrome s = .bad := by
  unfold decodeSyndrome
  rw [if_neg h0, if_neg (Bool.eq_false_iff.mp hd), if_neg h1]

/-- No column of a data or check bit has even weight. -/
theorem decodeSyndrome_even {s : Nat} (h0 : s ≠ 0) (h : weight8 s % 2 = 0) : decodeSyndrome s = .bad := by
  refine decodeSyndrome_other h0 (by omega) (Bool.eq_false_iff.mpr fun c => ?_)
  have := dataColumns_odd s (List.contains_iff_mem.mp c)
  omega

/-- The sum of two columns of one parity is no single error, unless they are one column. -/
theorem decodeSyndrome_xor {x y : Nat} (hne : x ≠ y) (h : (weight8 x + weight8 y) % 2 = 0) :
    decodeSyndrome (x ^^^ y) = .bad :=
  decodeSyndrome_even (fun c => hne (Nat.xor_eq_zero_iff.mp c)) ((weight8_xor x y).trans h)

theorem xor_cancel_self (x c : Nat) : (x ^^^ c) ^^^ x = c := by rw [Nat.xor_comm, Nat.xor_xor_cancel_left]

/-- Two wrong data bits of a word are found. -/
theorem syndrome_two_data (w a : Nat) {i j : Nat} (hi : i < 64) (hj : j < 64) (h : i ≠ j) :
    decodeSyndrome (checkByte w a ^^^ checkByte (w ^^^ 2 ^ i ^^^ 2 ^ j) a) = .bad := by
  rw [checkByte_flip_data, checkByte_flip_data, Nat.xor_assoc, Nat.xor_xor_cancel_left]
  have odd_i := dataColumns_odd _ (dataColumn_mem hi)
  have odd_j := dataColumns_odd _ (dataColumn_mem hj)
  exact decodeSyndrome_xor (dataColumn_ne hi hj h) (by omega)

/-- One wrong data bit of a word is found and named. -/
theorem syndrome_one_data (w a : Nat) {i : Nat} (hi : i < 64) :
    decodeSyndrome (checkByte w a ^^^ checkByte (w ^^^ 2 ^ i) a) = .dataBit i := by
  rw [checkByte_flip_data, Nat.xor_xor_cancel_left, decodeSyndrome_dataColumn hi]

/-- Settles O10: the check byte is linear (`checkByte_flip_data`, `checkByte_flip_addr`), so each error shows as the sum of its
columns; the sum of two columns of one parity has even weight, which no column of a data or check bit has
(`decodeSyndrome_xor`). -/
theorem syndromeDecoding : Obligations.SyndromeDecoding := by
  have check {k : Nat} (hk : k < 8) : weight8 (2 ^ k) = 1 := weight8_two_pow ⟨k, hk⟩
  refine ⟨rfl, fun i hi => decodeSyndrome_dataColumn hi, fun s _ => decodeSyndrome_light,
    fun s h0 h1 hd => decodeSyndrome_other h0 h1 hd, fun w a _ => ⟨fun i hi => syndrome_one_data w a hi, ?_,
      fun i j hi hj h => syndrome_two_data w a hi hj h, ?_, ?_, ?_, ?_⟩⟩
  · intro k hk
    rw [xor_cancel_self]
    exact decodeSyndrome_light (check hk)
  · intro i k hi hk
    have mem := dataColumn_mem hi
    have odd := dataColumns_odd _ mem
    have sum : (checkByte w a ^^^ 2 ^ k) ^^^ checkByte (w ^^^ 2 ^ i) a = 2 ^ k ^^^ dataColumn i := by
      rw [checkByte_flip_data, Nat.xor_comm (checkByte w a) (2 ^ k), Nat.xor_assoc, Nat.xor_xor_cancel_left]
    rw [sum]
    have hk1 := check hk
    exact decodeSyndrome_xor (fun c => dataColumns_heavy _ mem (c ▸ hk1)) (by omega)
  · intro k l hk hl h
    have hk1 := check hk
    have hl1 := check hl
    rw [Nat.xor_assoc (checkByte w a), xor_cancel_self]
    exact decodeSyndrome_xor (fun c => h (Nat.pow_right_injective (Nat.le_refl 2) c)) (by omega)
  · intro k h3 hk
    have mem := addrColumn_mem h3 hk
    rw [checkByte_flip_addr w a h3, xor_cancel_self]
    exact decodeSyndrome_even (fun c => addrColumns_nonzero (c ▸ mem)) (addrColumns_even _ mem)
  · intro k l hk3 hk hl3 hl h
    have even_k := addrColumns_even _ (addrColumn_mem hk3 hk)
    have even_l := addrColumns_even _ (addrColumn_mem hl3 hl)
    rw [checkByte_flip_addr _ _ hl3, checkByte_flip_addr w a hk3, Nat.xor_assoc (checkByte w a), xor_cancel_self]
    exact decodeSyndrome_xor (addrColumn_ne hk3 hk hl3 hl h) (by omega)

/-! ### A read of a word of an ON zone (R221 to R224) -/

/-- A saturating counter after it has been raised. -/
theorem r_addSat_same (d : Dev) (p : Nat) (f : FD) (n i : Nat) :
    (d.addSat p f n i).r p f i = sat (2 ^ f.w - 1) (d.r p f i + n) := by
  have positive : 0 < 2 ^ f.w := Nat.two_pow_pos _
  have bound : sat (2 ^ f.w - 1) (d.r p f i + n) < 2 ^ f.w := by unfold sat; split <;> omega
  exact (r_w_same _ _ _ _ _).trans (Nat.mod_eq_of_lt bound)

/-- An error event touches no register beyond `PAGE_ERREN` on its page. -/
theorem r_err_above {d : Dev} {p b : Nat} {g : FD} {j : Nat} (h : 0x200 ≤ g.at j * 8 + g.lo) :
    (d.err p b).r p g j = d.r p g j := by
  have key (f : FD) (hf : f.at 0 * 8 + f.lo < 0x200) : fieldKey p g j ≠ fieldKey p f 0 := by unfold fieldKey; omega
  unfold Dev.err
  split
  · exact r_w_other _ _ _ _ _ _ _ _ (key F.PAGE_ERR_COMMON (by decide))
  · exact r_w_other _ _ _ _ _ _ _ _ (key F.PAGE_ERR_BLOCK (by decide))

/-- A CE is counted in its zone. -/
theorem logCe_counts (d : Dev) (z a : Nat) :
    (d.logCe z a).r ezPid F.EZ_STAT_CE z = sat (2 ^ F.EZ_STAT_CE.w - 1) (d.r ezPid F.EZ_STAT_CE z + 1) := by
  have at_ : F.EZ_STAT_CE.at z = 0x108 + 16 * z := rfl
  have lo : F.EZ_STAT_CE.lo = 16 := rfl
  have other (f : FD) (h : f.at 0 * 8 + f.lo < 0x800) (n : Dev) (v : Nat) :
      (n.w ezPid f v).r ezPid F.EZ_STAT_CE z = n.r ezPid F.EZ_STAT_CE z := r_w_at (by omega)
  unfold Dev.logCe
  rw [r_err_above (by omega), other F.EZ_LASTCE_HI_ZONE (by decide), other F.EZ_LASTCE_HI_ADDR (by decide),
    other F.EZ_LASTCE_LO_ADDR (by decide)]
  exact r_addSat_same _ _ _ _ _

/-- A UE is counted in the index of the log. -/
theorem logUe_counts (d : Dev) (z a source : Nat) :
    (d.logUe z a source).r ezPid F.EZ_UEIDX_TOTAL = (d.r ezPid F.EZ_UEIDX_TOTAL + 1) % 2 ^ F.EZ_UEIDX_TOTAL.w := by
  have at_ : F.EZ_UEIDX_TOTAL.at 0 * 8 + F.EZ_UEIDX_TOTAL.lo = 752 := rfl
  have log (f : FD) (h : 0x100 ≤ f.off) (n : Dev) (v i : Nat) :
      (n.w ezPid f v i).r ezPid F.EZ_UEIDX_TOTAL = n.r ezPid F.EZ_UEIDX_TOTAL := r_w_at (by unfold FD.at at *; omega)
  have next (n : Dev) : (n.add ezPid F.EZ_UEIDX_NEXT).r ezPid F.EZ_UEIDX_TOTAL = n.r ezPid F.EZ_UEIDX_TOTAL :=
    r_w_at (by decide)
  unfold Dev.logUe
  dsimp only
  rw [r_err_above (by omega), r_add_same, next, log F.EZ_UELOG_HI_VALID (by decide), log F.EZ_UELOG_HI_SOURCE (by decide),
    log F.EZ_UELOG_HI_ZONE (by decide), log F.EZ_UELOG_HI_ADDR (by decide), log F.EZ_UELOG_LO_ADDR (by decide)]
  exact congrArg (fun x => (x + 1) % 2 ^ F.EZ_UEIDX_TOTAL.w) (log F.EZ_UE_COUNT (by decide) _ _ _)

/-- What a read of a word does, by what its syndrome says. -/
theorem eccRead_dataBit {d : Dev} {z a source i : Nat} {wb : Bool} (h : decodeSyndrome (d.syndrome z a) = .dataBit i) :
    (d.eccRead z a source wb).2 = (d.storedWord a ^^^ 2 ^ i, true) ∧
    ∀ p f j, (d.eccRead z a source wb).1.r p f j = (d.logCe z a).r p f j := by
  unfold Dev.eccRead
  rw [h]
  exact ⟨rfl, fun p f j => by cases wb <;> rfl⟩

theorem eccRead_bad {d : Dev} {z a source : Nat} {wb : Bool} (h : decodeSyndrome (d.syndrome z a) = .bad) :
    d.eccRead z a source wb = (d.logUe z a source, 0, false) := by
  unfold Dev.eccRead
  rw [h]

/-- Settles O11: one wrong data bit shows as its column (`syndrome_one_data`), two as none (`syndrome_two_data`). -/
theorem eccReadCorrects : Obligations.EccReadCorrects := by
  intro d z a source w wb _ hc
  refine ⟨fun i hi hs => ?_, fun i j hi hj h hs => ?_⟩
  · have shown : decodeSyndrome (d.syndrome z a) = .dataBit i := by
      unfold Dev.syndrome
      rw [hc, hs, syndrome_one_data w a hi]
    obtain ⟨read, fields⟩ := eccRead_dataBit (source := source) (wb := wb) shown
    have restored : w ^^^ 2 ^ i ^^^ 2 ^ i = w := Nat.xor_xor_cancel_right _ _
    exact ⟨by rw [read, hs, restored], (fields _ _ _).trans (logCe_counts d z a)⟩
  · have shown : decodeSyndrome (d.syndrome z a) = .bad := by
      unfold Dev.syndrome
      rw [hc, hs, syndrome_two_data w a hi hj h]
    rw [eccRead_bad shown]
    exact ⟨rfl, logUe_counts d z a source⟩

end Sys2Proof.Machine
end

section
/-! SUPPORT. The step and the state after reset, register fields, and the bytes of DRAM and host memory (R39, R208, R209,
R228). -/

namespace Sys2Proof.Machine

open Sys2Proof

-- One proof after another: this text is compiled whole, and proofs checked side by side hold their memory at once.
set_option Elab.async false

/-- Settles O1. -/
theorem stepRunsTheFrontCommand : Obligations.StepRunsTheFrontCommand := ⟨fun _ _ _ => rfl, fun _ => rfl⟩

/-- Settles O2: every command is answered by a device, with the state's queue (`exec_answers`). -/
theorem commandsKeepTheQueue : Obligations.CommandsKeepTheQueue := by
  intro c s
  obtain ⟨d, hd⟩ := exec_answers c s
  exact ⟨d.settle, hd⟩

/-- Settles O3: the reset device lists no field, no page and no byte, so each reads its default. -/
theorem resetState : Obligations.ResetState :=
  ⟨fun _ _ _ => ⟨rfl, rfl⟩, fun _ => ⟨rfl, rfl⟩, rfl, rfl, fun _ => rfl, by decide, fun _ => rfl, by decide, rfl,
    by unfold Dev.showsHighest; decide, .inr ⟨rfl, rfl⟩⟩

/-- Settles O6, by the laws of the register store. -/
theorem fieldReadAfterWrite : Obligations.FieldReadAfterWrite := fun d p q f g v i j =>
  ⟨r_w_same d p f v i, r_w_other d p q f g v i j, rfl, rfl, rfl, tabGet_put_same _ _ _ _, rfl⟩

/-! ### DRAM cells -/

theorem cellRd_cellWr_same (d : Dev) (a v : Nat) : (d.cellWr a v).cellRd a = v % 256 := by
  unfold Dev.cellRd Dev.cellWr
  dsimp only
  split
  · simp only [memWr, Dev.dramUnlisted, if_pos ‹d.mems.lost = 0›, tabGet_put_same, BitVec.toNat_ofNat]
  · simp only [tabGet, tabFind_ins_same, Option.getD_some, BitVec.toNat_ofNat]

theorem cellRd_cellWr_other (d : Dev) {a b : Nat} (v : Nat) (h : b ≠ a) : (d.cellWr a v).cellRd b = d.cellRd b := by
  show (tabGet (d.cellWr a v).mems.dram (d.dramUnlisted b) b).toNat = (tabGet d.mems.dram (d.dramUnlisted b) b).toNat
  unfold Dev.cellWr
  dsimp only
  split
  · rw [memWr, tabGet_put_other _ _ _ _ h]
  · rw [tabGet, tabFind_ins_other _ _ h, tabGet]

@[simp] theorem cellAt_cellWr (d : Dev) (a v b : Nat) : (d.cellWr a v).cellAt b = d.cellAt b := rfl
@[simp] theorem mirrorAt_cellWr (d : Dev) (a v b : Nat) : (d.cellWr a v).mirrorAt b = d.mirrorAt b := rfl

/-- A store of a byte is one of its cell, and of the cell that mirrors it. -/
theorem dramWr_eq (d : Dev) (a v : Nat) :
    d.dramWr a v = match d.mirrorAt a with
      | some b => (d.cellWr (d.cellAt a) v).cellWr b v
      | none => d.cellWr (d.cellAt a) v := rfl

@[simp] theorem cellAt_dramWr (d : Dev) (a v b : Nat) : (d.dramWr a v).cellAt b = d.cellAt b := by
  rw [dramWr_eq]
  split <;> rfl

@[simp] theorem mirrorAt_dramWr (d : Dev) (a v b : Nat) : (d.dramWr a v).mirrorAt b = d.mirrorAt b := by
  rw [dramWr_eq]
  split <;> rfl

/-- A byte that is stored reads back. -/
theorem dramRd_dramWr_same (d : Dev) (a v : Nat) : (d.dramWr a v).dramRd a = v % 256 := by
  unfold Dev.dramRd
  rw [cellAt_dramWr, dramWr_eq]
  split
  · rename_i b _
    by_cases h : d.cellAt a = b
    · rw [h, cellRd_cellWr_same]
    · rw [cellRd_cellWr_other _ v h, cellRd_cellWr_same]
  · exact cellRd_cellWr_same d _ v

theorem reaches_eq_false {d : Dev} {a b : Nat} :
    d.reaches a b = false ↔ d.cellAt b ≠ d.cellAt a ∧ d.mirrorAt a ≠ some (d.cellAt b) := by
  simp only [Dev.reaches, Bool.or_eq_false_iff, beq_eq_false_iff_ne]

/-- A byte that a store does not reach is unchanged. -/
theorem dramRd_dramWr_other {d : Dev} {a b : Nat} (v : Nat) (h : d.reaches a b = false) : (d.dramWr a v).dramRd b = d.dramRd b := by
  obtain ⟨cell, mirror⟩ := reaches_eq_false.mp h
  unfold Dev.dramRd
  rw [cellAt_dramWr, dramWr_eq]
  split
  · rename_i c hc
    have other : d.cellAt b ≠ c := fun e => mirror (e ▸ hc)
    rw [cellRd_cellWr_other _ v other, cellRd_cellWr_other _ v cell]
  · exact cellRd_cellWr_other d v cell

/-! ### Host memory -/

/-- Bytes of one port at different addresses, and bytes of different ports, have different keys. -/
theorem hostKey_ne {p q a b : Nat} (ha : a < 2 ^ 64) (hb : b < 2 ^ 64) (h : q ≠ p ∨ b ≠ a) : hostKey q b ≠ hostKey p a := by
  unfold hostKey
  rw [Nat.mod_eq_of_lt ha, Nat.mod_eq_of_lt hb]
  omega

/-- What lies outside a run of bytes of host memory is unchanged. -/
theorem memRd_hostWrN_other {p q b : Nat} (hb : b < 2 ^ 64) (bs : List Nat) : ∀ (d : Dev) (a : Nat), a + bs.length ≤ 2 ^ 64 →
    (q ≠ p ∨ b < a ∨ a + bs.length ≤ b) → memRd (d.hostWrN p a bs).mems.host (hostKey q b) = memRd d.mems.host (hostKey q b) := by
  induction bs with
  | nil => exact fun _ _ _ _ => rfl
  | cons x r ih =>
    intro d a hl h
    rw [List.length_cons] at hl h
    refine (ih _ (a + 1) (by omega) (by omega)).trans (memRd_memWr_other _ x (hostKey_ne (by omega) hb (by omega)))

/-- Settles O7: a byte store is one or two stores of cells, a run in host memory one store for each byte. -/
theorem bytesAfterStore : Obligations.BytesAfterStore :=
  ⟨fun d a _ v => ⟨dramRd_dramWr_same d a v, fun h => dramRd_dramWr_other v h, dramOk_dramWr d a v⟩,
    fun d p a bs hl => ⟨fun _ _ hb h => memRd_hostWrN_other hb bs d a hl h, memOk_hostWrN d p a bs⟩⟩

/-! ### The channel and the channel address of a DRAM address (R209) -/

/-- The DRAM address that a row part, a channel number and an offset in the grain spell: its quotients and its rest. -/
theorem interleaved_div {hi low l g : Nat} (hl : l < 2 ^ g) :
    (hi * 2 ^ (g + 3) + low * 2 ^ g + l) / 2 ^ g = 8 * hi + low ∧ (hi * 2 ^ (g + 3) + low * 2 ^ g + l) % 2 ^ g = l := by
  have sum : hi * 2 ^ (g + 3) + low * 2 ^ g + l = l + 2 ^ g * (8 * hi + low) := by ring
  rw [sum, Nat.add_mul_div_left _ _ (Nat.two_pow_pos g), Nat.div_eq_of_lt hl, Nat.add_mul_mod_self_left, Nat.mod_eq_of_lt hl]
  exact ⟨Nat.zero_add _, rfl⟩

theorem div_pow_add_three (a g : Nat) : a / 2 ^ (g + 3) = a / 2 ^ g / 8 := by
  rw [Nat.pow_add, Nat.div_div_eq_div_mul]

/-- A number below 8, xored with another, stays below 8. -/
theorem xor_lt_eight {x y : Nat} (hx : x < 8) (hy : y < 8) : x ^^^ y < 8 := Nat.xor_lt_two_pow (n := 3) hx hy

/-- The channel number before HASH, from the channel and the row part, and back. -/
def Dev.unhash (d : Dev) (x hi : Nat) : Nat := if d.on 0x100 F.MC_CFG_HASH then x ^^^ hi % 8 else x

theorem unhash_unhash (d : Dev) (x hi : Nat) : d.unhash (d.unhash x hi) hi = x := by
  unfold Dev.unhash
  split
  · exact Nat.xor_xor_cancel_right _ _
  · rfl

theorem unhash_lt {d : Dev} {x hi : Nat} (h : x < 8) : d.unhash x hi < 8 := by
  unfold Dev.unhash
  split
  · exact xor_lt_eight h (Nat.mod_lt _ (by decide))
  · exact h

theorem chanOf_eq (d : Dev) (a : Nat) : d.chanOf a = d.unhash (a / 2 ^ d.grain % 8) (a / 2 ^ (d.grain + 3)) := rfl

theorem localOf_div (d : Dev) (a : Nat) : d.localOf a / 2 ^ d.grain = a / 2 ^ (d.grain + 3) ∧
    d.localOf a % 2 ^ d.grain = a % 2 ^ d.grain := by
  have rest := Nat.mod_lt a (Nat.two_pow_pos d.grain)
  have sum : d.localOf a = a % 2 ^ d.grain + 2 ^ d.grain * (a / 2 ^ (d.grain + 3)) := by
    rw [Nat.mul_comm, Nat.add_comm]
    rfl
  rw [sum, Nat.add_mul_div_left _ _ (Nat.two_pow_pos _), Nat.div_eq_of_lt rest, Nat.add_mul_mod_self_left, Nat.mod_mod]
  exact ⟨Nat.zero_add _, rfl⟩

/-- A DRAM address is found again from its channel and its channel address. -/
theorem addrAt_decoded (d : Dev) (a : Nat) : d.addrAt (d.chanOf a) (d.localOf a) = a := by
  obtain ⟨hi, rest⟩ := localOf_div d a
  have low : d.unhash (d.chanOf a) (a / 2 ^ (d.grain + 3)) = a / 2 ^ d.grain % 8 := by rw [chanOf_eq, unhash_unhash]
  have parts : d.addrAt (d.chanOf a) (d.localOf a) =
      a / 2 ^ (d.grain + 3) * 2 ^ (d.grain + 3) + a / 2 ^ d.grain % 8 * 2 ^ d.grain + a % 2 ^ d.grain := by
    rw [← low, ← hi, ← rest]
    rfl
  calc d.addrAt (d.chanOf a) (d.localOf a)
      = 2 ^ d.grain * (8 * (a / 2 ^ d.grain / 8) + a / 2 ^ d.grain % 8) + a % 2 ^ d.grain := by
        rw [parts, div_pow_add_three]; ring
    _ = a := by rw [Nat.div_add_mod, Nat.div_add_mod]

/-- Every channel with every channel address is met. -/
theorem decode_addrAt (d : Dev) {chan : Nat} (loc : Nat) (h : chan < 8) :
    d.chanOf (d.addrAt chan loc) = chan ∧ d.localOf (d.addrAt chan loc) = loc := by
  obtain ⟨quotient, rest⟩ := interleaved_div (hi := loc / 2 ^ d.grain) (low := d.unhash chan (loc / 2 ^ d.grain))
    (Nat.mod_lt loc (Nat.two_pow_pos d.grain))
  have low := unhash_lt (d := d) (hi := loc / 2 ^ d.grain) h
  have quotient : d.addrAt chan loc / 2 ^ d.grain = 8 * (loc / 2 ^ d.grain) + d.unhash chan (loc / 2 ^ d.grain) := quotient
  have rest : d.addrAt chan loc % 2 ^ d.grain = loc % 2 ^ d.grain := rest
  have hi : d.addrAt chan loc / 2 ^ (d.grain + 3) = loc / 2 ^ d.grain := by rw [div_pow_add_three]; omega
  have number : d.addrAt chan loc / 2 ^ d.grain % 8 = d.unhash chan (loc / 2 ^ d.grain) := by omega
  refine ⟨by rw [chanOf_eq, hi, number, unhash_unhash], ?_⟩
  calc d.localOf (d.addrAt chan loc) = loc / 2 ^ d.grain * 2 ^ d.grain + loc % 2 ^ d.grain := by rw [← hi, ← rest]; rfl
    _ = loc := Nat.div_add_mod' _ _

/-- Settles O9: the grain cuts an address into row part, channel number and offset (`interleaved_div`), and HASH is undone
by the row part, which the channel address keeps (`unhash_unhash`). -/
theorem dramDecodeIsABijection : Obligations.DramDecodeIsABijection := by
  intro d
  refine ⟨?_, addrAt_decoded d, fun chan loc h => decode_addrAt d loc h⟩
  intro a g h8 h14
  have grain : d.grain = g := if_pos ⟨h8, h14⟩
  have low (x : Nat) : x &&& 7 = x % 8 := Nat.and_two_pow_sub_one_eq_mod x 3
  refine ⟨?_, ?_⟩
  · rw [chanOf_eq, grain]
    simp only [Nat.shiftRight_eq_div_pow, low]
    rfl
  · have rest := Nat.mod_lt a (Nat.two_pow_pos g)
    rw [Nat.and_two_pow_sub_one_eq_mod, ← Nat.shiftLeft_add_eq_or_of_lt rest, Nat.shiftLeft_eq, Nat.shiftRight_eq_div_pow,
      ← grain]
    rfl

end Sys2Proof.Machine
end

section
/-! SUPPORT. The register part of an accepted write (R39, R45, R46, R61, R62): what each field of the register becomes, what
stands beside it, and the record. -/

namespace Sys2Proof.Machine

open Sys2Proof

-- One proof after another: this text is compiled whole, and proofs checked side by side hold their memory at once.
set_option Elab.async false

/-! ### Updates of registers, and of registers and the ledger -/

/-- Nothing but register fields and what a read has latched of them differs. -/
def Dev.fieldsOnly (d n : Dev) : Prop := n = { d with regs := n.regs, latch := n.latch }

/-- Nothing but registers, error enables, the ledger and its time-stamps differs. -/
def Dev.recordOnly (d n : Dev) : Prop :=
  n = { d with regs := n.regs, errEn := n.errEn, latch := n.latch, led := n.led, fab := n.fab, fresh := n.fresh }

theorem Dev.fieldsOnly.trans {a b c : Dev} (h : a.fieldsOnly b) (k : b.fieldsOnly c) : a.fieldsOnly c := by
  unfold Dev.fieldsOnly at h k ⊢
  rw [k, h]

theorem Dev.recordOnly.trans {a b c : Dev} (h : a.recordOnly b) (k : b.recordOnly c) : a.recordOnly c := by
  unfold Dev.recordOnly at h k ⊢
  rw [k, h]

theorem Dev.fieldsOnly.record {d n : Dev} (h : d.fieldsOnly n) : d.recordOnly n := by
  unfold Dev.fieldsOnly at h
  unfold Dev.recordOnly
  rw [h]

theorem Dev.fieldsOnly.led {d n : Dev} (h : d.fieldsOnly n) : n.led = d.led := by
  unfold Dev.fieldsOnly at h
  rw [h]

section RecordOnly

variable {d n : Dev} (h : d.recordOnly n)
include h

theorem Dev.recordOnly.act : n.act = d.act := by
  unfold Dev.recordOnly at h
  rw [h]

theorem Dev.recordOnly.mems : n.mems = d.mems := by
  unfold Dev.recordOnly at h
  rw [h]

theorem Dev.recordOnly.pages : n.pages = d.pages := by
  unfold Dev.recordOnly at h
  rw [h]

theorem Dev.recordOnly.flt : n.flt = d.flt := by
  unfold Dev.recordOnly at h
  rw [h]

theorem Dev.recordOnly.held : n.held = d.held := by
  unfold Dev.recordOnly at h
  rw [h]

theorem Dev.recordOnly.emitted : n.emitted = d.emitted := by
  unfold Dev.recordOnly at h
  rw [h]

end RecordOnly

theorem recordOnly_w (d : Dev) (p : Nat) (f : FD) (v i : Nat) : d.recordOnly (d.w p f v i) := rfl

theorem recordOnly_err (d : Dev) (p b : Nat) : d.recordOnly (d.err p b) := by
  unfold Dev.err
  dsimp only
  split <;> rfl

theorem recordOnly_ledShow (d : Dev) : d.recordOnly d.ledShow := by
  unfold Dev.ledShow
  dsimp only
  split
  · exact (recordOnly_w d _ _ _ _).trans (recordOnly_err _ _ _)
  · rfl

theorem recordOnly_ledAppend (d : Dev) (e : LEntry) : d.recordOnly (d.ledAppend e) :=
  Dev.recordOnly.trans (b := ({ d with led := { d.led with store := d.led.store ++ [{ e with seq := d.r ledPid F.LED_SEQ_NEXT }] } } :
    Dev).add ledPid F.LED_SEQ_NEXT) rfl (recordOnly_ledShow _)

theorem recordOnly_ledRecord (d : Dev) (kind pid off origin old new : Nat) (complete : Bool) :
    d.recordOnly (d.ledRecord kind pid off origin old new complete) :=
  Dev.recordOnly.trans (b := (d.stamp ledPid).2) rfl (recordOnly_ledAppend _ _)

/-! ### The fields of one register -/

/-- What a field of one register holds after a write of `x` to it: the access codes of R39. -/
def FD.written (f : FD) (x old : Nat) : Nat :=
  match f.acc with
  | .rw | .rwk => x
  | .w1s => if x = 1 then 1 else old
  | .w1c => if f = F.IR_INSVC_PRIO then old else (old - (old &&& x)) % 2 ^ f.w
  | .ro | .wo => old

/-- One field of an accepted write. -/
def Dev.writeField (d : Dev) (p v : Nat) (x : FD × Nat) : Dev := d.writeFields p v [x]

theorem writeFields_cons (d : Dev) (p v : Nat) (x : FD × Nat) (fs : List (FD × Nat)) :
    d.writeFields p v (x :: fs) = (d.writeField p v x).writeFields p v fs := rfl

theorem fieldsOnly_writeFields (d : Dev) (p v : Nat) (fs : List (FD × Nat)) : d.fieldsOnly (d.writeFields p v fs) := by
  refine List.foldlRecOn fs _ (motive := fun n : Dev => d.fieldsOnly n) rfl (fun n h f _ => h.trans ?_)
  dsimp only
  split
  case h_3 => split <;> rfl
  case h_4 => split <;> rfl
  all_goals rfl

theorem bits_lt (v lo w : Nat) : bits v lo w < 2 ^ w := Nat.mod_lt _ (Nat.two_pow_pos w)

theorem r_writeField_same (d : Dev) (p v : Nat) {x : FD × Nat} (hw : 0 < x.1.w) :
    (d.writeField p v x).r p x.1 x.2 = x.1.written (bits v x.1.lo x.1.w) (d.r p x.1 x.2) := by
  have one : 1 % 2 ^ x.1.w = 1 := Nat.mod_eq_of_lt (Nat.one_lt_two_pow (by omega))
  have value : bits v x.1.lo x.1.w % 2 ^ x.1.w = bits v x.1.lo x.1.w := Nat.mod_eq_of_lt (bits_lt _ _ _)
  unfold Dev.writeField Dev.writeFields FD.written
  rw [List.foldl_cons, List.foldl_nil]
  dsimp only
  cases x.1.acc
  case rw => exact (r_w_same _ _ _ _ _).trans value
  case rwk => exact (r_w_same _ _ _ _ _).trans value
  case w1s =>
    dsimp only
    split
    · exact (r_w_same _ _ _ _ _).trans one
    · rfl
  case w1c =>
    dsimp only
    split
    · rfl
    · exact r_w_same _ _ _ _ _
  all_goals rfl

/-- Every field of a register, after all of them have been written: each has a key of its own. -/
theorem r_writeFields_mem {p v : Nat} {x : FD × Nat} {fs : List (FD × Nat)}
    (hk : fs.Pairwise (fun a b => fieldKey p a.1 a.2 ≠ fieldKey p b.1 b.2)) (hw : 0 < x.1.w) (hx : x ∈ fs) (d : Dev) :
    (d.writeFields p v fs).r p x.1 x.2 = x.1.written (bits v x.1.lo x.1.w) (d.r p x.1 x.2) := by
  induction fs generalizing d with
  | nil => cases hx
  | cons f fs ih =>
    obtain ⟨apart, hk⟩ := List.pairwise_cons.mp hk
    rw [writeFields_cons]
    rcases List.mem_cons.mp hx with rfl | hx
    · rw [r_writeFields (fun g hg => apart g hg), r_writeField_same d p v hw]
    · have beside : (d.writeField p v f).r p x.1 x.2 = d.r p x.1 x.2 :=
        r_writeFields (fun g hg => by rw [List.mem_singleton.mp hg]; exact (apart x hx).symm) d
      rw [ih hk hx, beside]

/-! ### The register map -/

theorem openFields_subset {p o : Nat} {x : FD × Nat} (h : x ∈ openFields p o) : x ∈ regFields p o := by
  unfold openFields at h
  split at h
  · cases h
  · exact h

/-- A field of a register: its width, its place in the word, and where the register lies. -/
theorem regFields_shape {p o : Nat} {x : FD × Nat} (h : x ∈ regFields p o) :
    0 < x.1.w ∧ x.1.lo < 32 ∧ x.1.at x.2 = o / 4 * 4 := by
  obtain ⟨tidy, at_⟩ := regFields_tidy h
  simp only [FD.tidy, Bool.and_eq_true, decide_eq_true_eq] at tidy
  obtain ⟨⟨⟨_, inWord⟩, wide⟩, _⟩ := tidy
  exact ⟨wide, by omega, at_⟩

theorem regFields_keys (p o : Nat) :
    (regFields p o).Pairwise (fun a b => fieldKey p a.1 a.2 ≠ fieldKey p b.1 b.2) := by
  refine (regFields_pairwise p o).imp_of_mem fun ha hb lo => ?_
  obtain ⟨_, _, at_a⟩ := regFields_shape ha
  obtain ⟨_, _, at_b⟩ := regFields_shape hb
  unfold fieldKey
  omega

theorem openFields_keys (p o : Nat) :
    (openFields p o).Pairwise (fun a b => fieldKey p a.1 a.2 ≠ fieldKey p b.1 b.2) := by
  unfold openFields
  split
  · exact List.Pairwise.nil
  · exact regFields_keys p o

/-- A field of one register: its block has it, at the register's offset. -/
theorem mem_regFields {p o i : Nat} {k : PageKind} {x : FD × Nat} (hk : kindOf p = some (k, i)) :
    x ∈ regFields p o ↔ exists? k i o = true ∧ x.1 ∈ k.fields ∧ x.1.index? (o / 4 * 4) = some x.2 := by
  obtain ⟨f, j⟩ := x
  unfold regFields fieldsAt
  rw [hk]
  dsimp only
  split
  · simp only [List.mem_filterMap, Option.map_eq_some_iff, Prod.mk.injEq, true_and, *]
    exact ⟨fun ⟨g, hg, n, hn, hgf, hnj⟩ => hgf ▸ hnj ▸ ⟨hg, hn⟩, fun ⟨hf, hj⟩ => ⟨f, hf, j, hj, rfl, rfl⟩⟩
  · simp [*]

/-- A register field of a page at the key of a field that the page's block lists is that field. -/
theorem eq_of_fieldKey_eq {p o q i j : Nat} {k : PageKind} {x : FD × Nat} {g : FD} (hx : x ∈ regFields p o) (ho : o < 4096)
    (hq : kindOf q = some (k, i)) (hg : g ∈ k.fields) (hj : g.index? (g.at j) = some j) (ht : g.at j % 4 = 0 ∧ g.at j < 4096 ∧ g.lo < 32)
    (h : fieldKey q g j = fieldKey p x.1 x.2) : p = q ∧ x = (g, j) := by
  obtain ⟨tidy4, inPage, inWord⟩ := ht
  obtain ⟨_, lo, at_⟩ := regFields_shape hx
  have page : p = q := by unfold fieldKey at h; omega
  subst page
  have same : g.at j = o / 4 * 4 ∧ g.lo = x.1.lo := by unfold fieldKey at h; omega
  refine ⟨rfl, ?_⟩
  have there := ((mem_regFields hq).mp hx).1
  have hy : (g, j) ∈ regFields p o := (mem_regFields hq).mpr ⟨there, hg, same.1 ▸ hj⟩
  have symm_ : Std.Symm (fun a b : FD × Nat => a.1.lo ≠ b.1.lo) := ⟨fun _ _ => Ne.symm⟩
  by_contra hne
  exact (regFields_pairwise p o).forall hx hy hne same.2.symm

/-- A common register of R39 is in every block's map. -/
theorem mem_fields_of_hdr {f : FD} (h : f ∈ Map.hdr) (k : PageKind) : f ∈ k.fields := List.mem_append_left _ h

/-! ### The register part of a write -/

/-- The device with the fields of an accepted write, before what is counted and recorded. -/
def Dev.fieldsTaken (d : Dev) (pid off v : Nat) : Dev :=
  (d.unlatch (d.place pid off).1 (d.place pid off).2).writeFields (d.place pid off).1 v
    (openFields (d.place pid off).1 (d.place pid off).2)

/-- The same with `PAGE_CHG` and `PAGE_LASTW` (R39). -/
def Dev.changeCounted (d : Dev) (ag : Agent) (pid off v : Nat) : Dev :=
  ((d.fieldsTaken pid off v).add pid F.PAGE_CHG_COUNT).w pid F.PAGE_LASTW_ORIGIN (d.origin ag)

section Written

variable {d : Dev} {ag : Agent} {pid off v : Nat} {ch acts sh : Bool}

theorem writtenBy_unchanged : d.writtenBy ag pid off v false acts sh = d.fieldsTaken pid off v := rfl

theorem writtenBy_unrecorded (hr : recorded pid off = false) :
    d.writtenBy ag pid off v true acts sh = d.changeCounted ag pid off v := by
  unfold Dev.writtenBy
  rw [if_neg (by decide), if_pos (by rw [hr]; rfl)]
  rfl

theorem writtenBy_lock (hr : recorded pid off = true) (ho : off = 0x01C) :
    d.writtenBy ag pid off v true acts sh = (d.changeCounted ag pid off v).ledRecord 7 pid off (d.origin ag) 0 1 := by
  unfold Dev.writtenBy
  rw [if_neg (by decide), if_neg (by rw [hr]; decide), if_pos ho]
  rfl

theorem writtenBy_recorded (hr : recorded pid off = true) (ho : off ≠ 0x01C) :
    d.writtenBy ag pid off v true acts sh = (d.changeCounted ag pid off v).ledRecord (b2n sh) pid off (d.origin ag)
      (d.word pid off) (if acts = true then v else (d.fieldsTaken pid off v).word pid off) := by
  unfold Dev.writtenBy
  rw [if_neg (by decide), if_neg (by rw [hr]; decide), if_neg ho]
  rfl

/-- The register part of a write is its fields, and where they change the counts, and on a recorded page a record. -/
theorem writtenBy_cases : d.writtenBy ag pid off v ch acts sh = d.fieldsTaken pid off v ∨
    ch = true ∧ (d.writtenBy ag pid off v ch acts sh = d.changeCounted ag pid off v ∨ ∃ kind old new,
      d.writtenBy ag pid off v ch acts sh = (d.changeCounted ag pid off v).ledRecord kind pid off (d.origin ag) old new) := by
  cases ch with
  | false => exact .inl rfl
  | true =>
    refine .inr ⟨rfl, ?_⟩
    cases hr : recorded pid off with
    | false => exact .inl (writtenBy_unrecorded hr)
    | true =>
      by_cases ho : off = 0x01C
      · exact .inr ⟨_, _, _, writtenBy_lock hr ho⟩
      · exact .inr ⟨_, _, _, writtenBy_recorded hr ho⟩

theorem fieldsOnly_fieldsTaken (d : Dev) (pid off v : Nat) : d.fieldsOnly (d.fieldsTaken pid off v) :=
  Dev.fieldsOnly.trans (b := d.unlatch (d.place pid off).1 (d.place pid off).2) rfl (fieldsOnly_writeFields _ _ _ _)

theorem recordOnly_changeCounted (d : Dev) (ag : Agent) (pid off v : Nat) : d.recordOnly (d.changeCounted ag pid off v) :=
  (fieldsOnly_fieldsTaken d pid off v).record.trans ((recordOnly_w _ _ _ _ _).trans (recordOnly_w _ _ _ _ _))

theorem recordOnly_writtenBy : d.recordOnly (d.writtenBy ag pid off v ch acts sh) := by
  have counted := recordOnly_changeCounted d ag pid off v
  obtain h | ⟨_, h | ⟨_, _, _, h⟩⟩ := writtenBy_cases (d := d) (ag := ag) (pid := pid) (off := off) (v := v) (ch := ch)
    (acts := acts) (sh := sh) <;> rw [h]
  · exact (fieldsOnly_fieldsTaken d pid off v).record
  · exact counted
  · exact counted.trans (recordOnly_ledRecord _ _ _ _ _ _ _ _)

/-! ### Fields after the register part of a write -/

/-- A record shows itself in three fields of the ledger page and nowhere else. -/
theorem r_ledRecord_beside {n : Dev} {kind origin old new q j : Nat} {complete : Bool} {g : FD}
    (hs : fieldKey q g j ≠ fieldKey ledPid F.LED_SEQ_NEXT 0) (hf : fieldKey q g j ≠ fieldKey ledPid F.LED_STAT_FILL 0)
    (he : fieldKey q g j ≠ fieldKey ledPid F.PAGE_ERR_BLOCK 0) :
    (n.ledRecord kind pid off origin old new complete).r q g j = n.r q g j := by
  have shown (n : Dev) : n.ledShow.r q g j = n.r q g j := by
    unfold Dev.ledShow
    dsimp only
    split
    · exact (r_w_other _ _ _ _ _ _ _ _ he).trans (r_w_other _ _ _ _ _ _ _ _ hf)
    · exact r_w_other _ _ _ _ _ _ _ _ hf
  exact (shown _).trans (r_w_other _ _ _ _ _ _ _ _ hs)

theorem r_changeCounted_beside {q j : Nat} {g : FD} (hc : fieldKey q g j ≠ fieldKey pid F.PAGE_CHG_COUNT 0)
    (hl : fieldKey q g j ≠ fieldKey pid F.PAGE_LASTW_ORIGIN 0) :
    (d.changeCounted ag pid off v).r q g j = (d.fieldsTaken pid off v).r q g j :=
  (r_w_other _ _ _ _ _ _ _ _ hl).trans (r_w_other _ _ _ _ _ _ _ _ hc)

/-- Beside the counts of the page and the ledger page's fields a write leaves what its fields leave. -/
theorem r_writtenBy_beside {q j : Nat} {g : FD} (hc : ch = true → fieldKey q g j ≠ fieldKey pid F.PAGE_CHG_COUNT 0)
    (hl : ch = true → fieldKey q g j ≠ fieldKey pid F.PAGE_LASTW_ORIGIN 0)
    (hs : ch = true → fieldKey q g j ≠ fieldKey ledPid F.LED_SEQ_NEXT 0)
    (hf : ch = true → fieldKey q g j ≠ fieldKey ledPid F.LED_STAT_FILL 0)
    (he : ch = true → fieldKey q g j ≠ fieldKey ledPid F.PAGE_ERR_BLOCK 0) :
    (d.writtenBy ag pid off v ch acts sh).r q g j = (d.fieldsTaken pid off v).r q g j := by
  obtain h | ⟨changed, h | ⟨_, _, _, h⟩⟩ := writtenBy_cases (d := d) (ag := ag) (pid := pid) (off := off) (v := v) (ch := ch)
    (acts := acts) (sh := sh) <;> rw [h]
  · exact r_changeCounted_beside (hc changed) (hl changed)
  · exact (r_ledRecord_beside (hs changed) (hf changed) (he changed)).trans (r_changeCounted_beside (hc changed) (hl changed))

theorem r_fieldsTaken_open {x : FD × Nat} (h : x ∈ openFields (d.place pid off).1 (d.place pid off).2) :
    (d.fieldsTaken pid off v).r (d.place pid off).1 x.1 x.2 =
      x.1.written (bits v x.1.lo x.1.w) (d.r (d.place pid off).1 x.1 x.2) :=
  r_writeFields_mem (openFields_keys _ _) (regFields_shape (openFields_subset h)).1 h _

theorem r_fieldsTaken_beside {q j : Nat} {g : FD}
    (h : ∀ x ∈ openFields (d.place pid off).1 (d.place pid off).2, fieldKey q g j ≠ fieldKey (d.place pid off).1 x.1 x.2) :
    (d.fieldsTaken pid off v).r q g j = d.r q g j := r_writeFields h _

/-- The first alternative that answers, none of which answers a VI's interrupt block, does not either. -/
theorem orElse_not_viIrq {x y : Option (PageKind × Nat)} (hx : ∀ i, x ≠ some (.viIrq, i)) (hy : ∀ i, y ≠ some (.viIrq, i)) :
    ∀ i, (x <|> y) ≠ some (.viIrq, i) := by
  cases x with
  | none => exact hy
  | some a => exact hx

theorem if_not_viIrq {c : Prop} [Decidable c] {k : PageKind} {n : Nat} (hk : k ≠ .viIrq) :
    ∀ i, (if c then some (k, n) else none) ≠ some (.viIrq, i) := by
  intro i
  split
  · exact fun h => hk (Prod.mk.inj (Option.some.inj h)).1
  · nofun

/-- The pages outside the VI windows have no VI's interrupt block. -/
theorem coreKind_not_viIrq (p : Nat) : ∀ i, coreKind p ≠ some (.viIrq, i) := by
  unfold coreKind inRun
  repeat' apply orElse_not_viIrq
  all_goals exact if_not_viIrq nofun

theorem edgeKind_not_viIrq (p : Nat) : ∀ i, edgeKind p ≠ some (.viIrq, i) := by
  unfold edgeKind inRun
  repeat' apply orElse_not_viIrq
  all_goals exact if_not_viIrq nofun

theorem viIrq_lt {p i : Nat} (h : kindOf p = some (.viIrq, i)) : i < 64 := by
  unfold kindOf at h
  split at h
  · rename_i v hv
    obtain ⟨_, _, h⟩ := Option.map_eq_some_iff.mp h
    obtain ⟨_, rfl⟩ := Prod.mk.inj h
    unfold viOfPage viBase at hv
    split at hv
    · cases hv
      omega
    · cases hv
  · split at h
    · exact absurd h (coreKind_not_viIrq p i)
    · split at h
      · exact absurd h (edgeKind_not_viIrq p i)
      · cases h

theorem place_lt (ho : off < 4096) : (d.place pid off).2 < 4096 := by
  unfold Dev.place
  split
  · split
    · show 0x100 + off % 64 < 4096
      omega
    · exact ho
  · split
    · show 0x800 + 32 * (_ % 64) + off % 32 < 4096
      omega
    · exact ho
  · rename_i i hk
    have vi := viIrq_lt hk
    split
    · show 0x100 + 16 * i + off % 16 < 4096
      omega
    · exact ho
  · exact ho

/-- A read-only field of a block keeps its value through the fields of a write. -/
theorem r_fieldsTaken_readOnly {q i j : Nat} {k : PageKind} {g : FD} (ho : off < 4096) (hq : kindOf q = some (k, i))
    (hg : g ∈ k.fields) (hj : g.index? (g.at j) = some j) (ht : g.at j % 4 = 0 ∧ g.at j < 4096 ∧ g.lo < 32)
    (ha : g.acc = .ro) : (d.fieldsTaken pid off v).r q g j = d.r q g j := by
  by_cases h : ∃ x ∈ openFields (d.place pid off).1 (d.place pid off).2, fieldKey q g j = fieldKey (d.place pid off).1 x.1 x.2
  · obtain ⟨x, hx, key⟩ := h
    obtain ⟨rfl, rfl⟩ := eq_of_fieldKey_eq (openFields_subset hx) (place_lt ho) hq hg hj ht key
    rw [r_fieldsTaken_open hx]
    unfold FD.written
    rw [ha]
  · exact r_fieldsTaken_beside fun x hx key => h ⟨x, hx, key⟩

end Written

end Sys2Proof.Machine
end

section
/-! SUPPORT. Register writes, case by case: what decides them, what the register part of an accepted one sets and records, and
what a dropped one leaves (R38, R39, R44 to R47, R61, R62, R82, R114). -/

namespace Sys2Proof.Machine

open Sys2Proof

-- One proof after another: this text is compiled whole, and proofs checked side by side hold their memory at once.
set_option Elab.async false

/-! ### Which way a write goes (R44, R47, R82, R114) -/

section Send

variable {d : Dev} {ag : Agent} {pid off v : Nat}

theorem write_eq (ho : off % 4 = 0) :
    d.write ag pid off v = if d.isolated (d.agentUnit ag) = true then d
      else if d.held.any (fun h => h.rd.isNone && sameOrigin h.ag ag) = true then d.hold ag pid off v .behind
      else d.sendWrite ag pid off v := by
  have aligned : off / 4 * 4 = off := by omega
  unfold Dev.write
  rw [aligned]

theorem sendWrite_eq : d.sendWrite ag pid off v =
    if (d.implemented pid && d.isolated (d.place pid off).1) = true then d.emit (.errorResponse (d.agentFab ag))
    else if d.linkHolds (d.place pid off).1 = true then d.hold ag pid off v .link
    else d.decideWrite ag pid off v := rfl

/-- A write that reaches its page as it is sent is decided there. -/
theorem write_sends (h : d.sends ag pid off = true) (ho : off % 4 = 0) : d.write ag pid off v = d.decideWrite ag pid off v := by
  unfold Dev.sends at h
  simp only [Bool.and_eq_true, Bool.not_eq_true'] at h
  obtain ⟨⟨⟨stopped, behind⟩, dead⟩, shut⟩ := h
  rw [write_eq ho, stopped, behind, if_neg (by decide), if_neg (by decide), sendWrite_eq, dead, shut, if_neg (by decide),
    if_neg (by decide)]

end Send

/-- Settles O12: the branches of `Dev.write` and `Dev.sendWrite`; a command that names a register is that write. -/
theorem registerWriteCompletes : Obligations.RegisterWriteCompletes := by
  refine ⟨fun s ag addr v => rfl, fun d ag pid off v ho h => write_takes h ho, ?_, fun d ag page off v => rfl, ?_⟩
  · intro d ag pid off v ho stopped behind dead shut waits
    have held (why : HoldWhy) (h : why ≠ .ledger) : d.hold ag pid off v why = waits why := if_neg h
    have write := write_eq (d := d) (ag := ag) (pid := pid) (v := v) ho
    have send := sendWrite_eq (d := d) (ag := ag) (pid := pid) (off := off) (v := v)
    refine ⟨fun h => ?_, fun h hb => ?_, fun h hb hd => ?_, fun h hb hd hs => ?_, fun h hb hd hs => ?_⟩
    · exact write.trans (if_pos h)
    all_goals refine (write.trans (if_neg (Bool.eq_false_iff.mp h))).trans ?_
    · exact (if_pos hb).trans (held _ nofun)
    all_goals refine (if_neg (Bool.eq_false_iff.mp hb)).trans (send.trans ?_)
    · exact if_pos hd
    all_goals refine (if_neg (Bool.eq_false_iff.mp hd)).trans ?_
    · exact (if_pos hs).trans (held _ nofun)
    · exact if_neg (Bool.eq_false_iff.mp hs)
  · and_intros <;> intros <;> rfl

/-! ### What the outcome of a write says of its fields (R45, R46) -/

section Fate

variable {d : Dev} {ag : Agent} {pid off v : Nat} {ch acts sh : Bool}

/-- A write that is accepted has passed every step of R44. -/
theorem fieldFate_of_fate (h : d.fate ag pid off v = .accepted ch acts sh) :
    d.fieldFate ag pid off v = .accepted ch acts sh := by
  by_contra hn
  have refused : d.fate ag pid off v ≠ .accepted ch acts sh :=
    ite_ne nofun (ite_ne nofun (ite_ne nofun (ite_ne (ite_ne nofun nofun) (ite_ne nofun (ite_ne nofun (ite_ne nofun hn))))))
  exact refused h

/-- It changes its register where it changes one of the fields that are open. -/
theorem changes_of_fate (h : d.fate ag pid off v = .accepted ch acts sh) :
    ch = (openFields (d.place pid off).1 (d.place pid off).2).any (d.fieldChanges (d.place pid off).1 v acts) := by
  have fields := fieldFate_of_fate h
  unfold Dev.fieldFate at fields
  dsimp only at fields
  split at fields
  · cases fields
  · split at fields
    · cases fields
    · split at fields
      · cases fields
      · split at fields
        · cases fields
        · injection fields with changed acted
          rw [← changed, ← acted, Bool.eq_iff_iff, Bool.not_eq_true', List.isEmpty_eq_false_iff_exists_mem, List.any_eq_true]
          simp only [List.mem_filter]

theorem written_of_takes (h : d.takes ag pid off v = true) : ∃ ch acts sh, d.fate ag pid off v = .accepted ch acts sh ∧
    (ch && recorded pid off && !d.led.room 1) = false ∧ d.written ag pid off v = d.writtenBy ag pid off v ch acts sh := by
  unfold Dev.takes at h
  unfold Dev.written
  split at h
  · rename_i ch acts sh fate
    rw [Bool.and_eq_true, Bool.not_eq_true'] at h
    exact ⟨ch, acts, sh, fate, h.2, rfl⟩
  · rw [Bool.and_false] at h
    cases h

theorem kindOf_of_takes (h : d.takes ag pid off v = true) : ∃ k i, kindOf pid = some (k, i) := by
  have there := implemented_of_takes h
  unfold Dev.implemented at there
  cases hk : kindOf pid with
  | none => rw [hk] at there; cases there
  | some x => exact ⟨x.1, x.2, rfl⟩

/-- The error register of a page has W1C fields alone, which no write is said to change (log entry 11). -/
theorem fields_pageErr : ∀ x ∈ regFields ledPid 0x010, x.1.acc = .w1c := by decide

/-- A field that a write sets is none of those that its counts and its record show in. -/
theorem r_written_open {x : FD × Nat} (h : d.takes ag pid off v = true) (ho : off < 4096)
    (hx : x ∈ openFields (d.place pid off).1 (d.place pid off).2) (ha : x.1.acc ≠ .ro) :
    (d.written ag pid off v).r (d.place pid off).1 x.1 x.2 =
      x.1.written (bits v x.1.lo x.1.w) (d.r (d.place pid off).1 x.1 x.2) := by
  obtain ⟨ch, acts, sh, fate, -, written⟩ := written_of_takes h
  obtain ⟨k, i, hk⟩ := kindOf_of_takes h
  have mem := openFields_subset hx
  have ledger : kindOf ledPid = some (.ledger, 0) := by decide
  have readOnly {q n : Nat} {kq : PageKind} {g : FD} (hq : kindOf q = some (kq, n)) (hg : g ∈ kq.fields)
      (hj : g.index? (g.at 0) = some 0) (ht : g.at 0 % 4 = 0 ∧ g.at 0 < 4096 ∧ g.lo < 32) (hr : g.acc = .ro) :
      fieldKey (d.place pid off).1 x.1 x.2 ≠ fieldKey q g 0 := by
    intro key
    obtain ⟨_, rfl⟩ := eq_of_fieldKey_eq mem (place_lt ho) hq hg hj ht key.symm
    exact ha hr
  have errors (changed : ch = true) : fieldKey (d.place pid off).1 x.1 x.2 ≠ fieldKey ledPid F.PAGE_ERR_BLOCK 0 := by
    intro key
    obtain ⟨page, rfl⟩ := eq_of_fieldKey_eq mem (place_lt ho) ledger (mem_fields_of_hdr (by decide) _) (by decide) (by decide)
      key.symm
    have there := (regFields_shape mem).2.2
    rw [changes_of_fate fate, page] at changed
    obtain ⟨y, hy, changes⟩ := List.any_eq_true.mp changed
    have hy := (mem_regFields ledger).mp (openFields_subset hy)
    rw [show (d.place pid off).2 / 4 * 4 = 0x010 from there.symm] at hy
    have w1c := fields_pageErr y ((mem_regFields ledger).mpr ⟨rfl, hy.2⟩)
    unfold Dev.fieldChanges at changes
    rw [w1c] at changes
    cases changes
  rw [written, r_writtenBy_beside (fun _ => readOnly hk (mem_fields_of_hdr (by decide) _) (by decide) (by decide) rfl)
    (fun _ => readOnly hk (mem_fields_of_hdr (by decide) _) (by decide) (by decide) rfl)
    (fun _ => readOnly ledger (by decide) (by decide) (by decide) rfl)
    (fun _ => readOnly ledger (by decide) (by decide) (by decide) rfl) errors]
  exact r_fieldsTaken_open hx

end Fate

/-- Settles O13: each open field by its access code (`r_written_open`), the fields beside it by their keys
(`r_writtenBy_beside`), the blocks by `recordOnly_writtenBy`. -/
theorem acceptedWriteSetsItsRegister : Obligations.AcceptedWriteSetsItsRegister := by
  intro d ag pid off v _ ho h
  obtain ⟨ch, acts, sh, fate, -, written⟩ := written_of_takes h
  have only : d.recordOnly (d.written ag pid off v) := written ▸ recordOnly_writtenBy
  refine ⟨fun f i hx => ⟨fun ha => ?_, fun ha => ?_, fun ha hn => ?_⟩, ?_, only.act, only.mems, only.pages, only.flt, only.held,
    only.emitted⟩
  · have set_ : f.written (bits v f.lo f.w) (d.r (d.place pid off).1 f i) = bits v f.lo f.w := by
      unfold FD.written
      obtain ha | ha := ha <;> rw [ha]
    exact (r_written_open h ho hx (by obtain ha | ha := ha <;> simp [ha])).trans set_
  · have set_ := r_written_open h ho hx (show f.acc ≠ .ro by rw [ha]; decide)
    unfold FD.written at set_
    rwa [ha] at set_
  · have set_ := r_written_open h ho hx (show f.acc ≠ .ro by rw [ha]; decide)
    unfold FD.written at set_
    rw [ha] at set_
    exact set_.trans (if_neg hn)
  · intro q g j hx hc hl hs hf he
    rw [written, r_writtenBy_beside (fun _ => hc) (fun _ => hl) (fun _ => hs) (fun _ => hf) (fun _ => he)]
    exact r_fieldsTaken_beside fun x mem => hx x (openFields_subset mem)

/-! ### The record (R61, R62) -/

/-- A record is one entry at the end of the store, with the next SEQ. -/
theorem ledRecord_store (d : Dev) (kind pid off origin old new : Nat) (complete : Bool) :
    (d.ledRecord kind pid off origin old new complete).led.store = d.led.store ++
      [{ time := (d.stamp ledPid).1, page := ledgerPage pid, off := off, kind := kind, origin := origin, old := old, new := new,
         seq := d.r ledPid F.LED_SEQ_NEXT, complete := complete }] := by
  have shown (n : Dev) : n.ledShow.led = n.led := by
    unfold Dev.ledShow
    dsimp only
    split
    · exact Dev.err_led _ _ _
    · rfl
  exact congrArg Ledger.store (shown _)

/-- SEQ advances with a record. -/
theorem ledRecord_seq (d : Dev) (kind pid off origin old new : Nat) (complete : Bool) :
    (d.ledRecord kind pid off origin old new complete).r ledPid F.LED_SEQ_NEXT = (d.r ledPid F.LED_SEQ_NEXT + 1) % 2 ^ 32 := by
  have shown (n : Dev) : n.ledShow.r ledPid F.LED_SEQ_NEXT = n.r ledPid F.LED_SEQ_NEXT := by
    unfold Dev.ledShow
    dsimp only
    split
    · exact (r_err_own (by unfold FD.own; decide)).trans (r_w_at (by decide))
    · exact r_w_at (by decide)
  exact (shown _).trans (r_add_same _ _ _ _ _)

section Recorded

variable {d : Dev} {ag : Agent} {pid off v : Nat}

/-- The counts of a write touch nothing of the ledger. -/
theorem led_changeCounted (d : Dev) (ag : Agent) (pid off v : Nat) : (d.changeCounted ag pid off v).led = d.led :=
  (fieldsOnly_fieldsTaken d pid off v).led

theorem seq_changeCounted (ho : off < 4096) :
    (d.changeCounted ag pid off v).r ledPid F.LED_SEQ_NEXT = d.r ledPid F.LED_SEQ_NEXT := by
  have counts : (d.changeCounted ag pid off v).r ledPid F.LED_SEQ_NEXT = (d.fieldsTaken pid off v).r ledPid F.LED_SEQ_NEXT :=
    r_changeCounted_beside (by unfold fieldKey; norm_num [FD.at, F.LED_SEQ_NEXT, F.PAGE_CHG_COUNT]; omega)
      (by unfold fieldKey; norm_num [FD.at, F.LED_SEQ_NEXT, F.PAGE_LASTW_ORIGIN]; omega)
  exact counts.trans (r_fieldsTaken_readOnly ho (k := .ledger) (i := 0) (by decide) (by decide) (by decide) (by decide) rfl)

theorem chg_changeCounted (ho : off < 4096) {k : PageKind} {i : Nat} (hk : kindOf pid = some (k, i)) :
    (d.changeCounted ag pid off v).r pid F.PAGE_CHG_COUNT =
      (d.r pid F.PAGE_CHG_COUNT + 1) % 2 ^ F.PAGE_CHG_COUNT.w := by
  have before : (d.fieldsTaken pid off v).r pid F.PAGE_CHG_COUNT = d.r pid F.PAGE_CHG_COUNT :=
    r_fieldsTaken_readOnly ho hk (mem_fields_of_hdr (by decide) _) (by decide) (by decide) rfl
  exact (r_w_at (by decide)).trans ((r_add_same _ _ _ _ _).trans (by rw [before]))

end Recorded

/-- Settles O14, by what a record is (`ledRecord_store`, `ledRecord_seq`) and what stands before it. -/
theorem acceptedWriteIsRecorded : Obligations.AcceptedWriteIsRecorded := by
  intro d ag pid off v acts sh _ ho hl h fate hr
  have written : d.written ag pid off v = (d.changeCounted ag pid off v).ledRecord (b2n sh) pid off (d.origin ag)
      (d.word pid off) (if acts = true then v else (d.fieldsTaken pid off v).word pid off) := by
    unfold Dev.written
    rw [fate]
    exact writtenBy_recorded hr hl
  obtain ⟨k, i, hk⟩ := kindOf_of_takes h
  have header {g : FD} (n : Dev) (old new : Nat) (hg : g.at 0 * 8 + g.lo < 0x200) (he : g.at 0 * 8 + g.lo ≠ 138) :
      (n.ledRecord (b2n sh) pid off (d.origin ag) old new).r pid g = n.r pid g :=
    r_ledRecord_beside (by unfold fieldKey; norm_num [FD.at, F.LED_SEQ_NEXT] at *; omega)
      (by unfold fieldKey; norm_num [FD.at, F.LED_STAT_FILL] at *; omega)
      (by unfold fieldKey; norm_num [FD.at, F.PAGE_ERR_BLOCK] at *; omega)
  rw [written]
  refine ⟨⟨_, by rw [ledRecord_store, led_changeCounted], rfl, rfl, rfl, rfl, rfl, fun ha => if_pos ha, seq_changeCounted ho,
    rfl, rfl⟩, ?_, ?_, ?_⟩
  · rw [ledRecord_seq, seq_changeCounted ho]
  · rw [header _ _ _ (by decide) (by decide)]
    exact chg_changeCounted ho hk
  · rw [header _ _ _ (by decide) (by decide)]
    exact r_w_same _ _ _ _ _

end Sys2Proof.Machine
end

section
/-! SUPPORT. What a dropped write leaves (R44 step 1, R66, R69): it touches the home page's error register and the ledger. -/

namespace Sys2Proof.Machine

open Sys2Proof

-- One proof after another: this text is compiled whole, and proofs checked side by side hold their memory at once.
set_option Elab.async false

/-! ### An unchanging write (R46) -/

/-- A device whose 1-bit LOCK of the first memory page holds 2, which no write of the field stores (`r_w_same`). -/
def overlocked : Dev := { regs := [(fieldKey 0x100 F.PAGE_LOCK_LOCK 0, 2)] }

/-- Refutes O15 by its clause that every field which a write can set holds what it held: it is said of every device, and in
`overlocked`, which no command leads to, a write of 1 to LOCK changes no value (R46), because LOCK is not 0, and stores 1
over the 2. -/
theorem not_unchangingWriteLeavesNoTrace : ¬ Obligations.UnchangingWriteLeavesNoTrace := by
  intro h
  have unchanging : overlocked.fate .ward 0x100 0x01C 1 = .accepted false false false := by decide +kernel
  obtain ⟨-, -, -, -, kept⟩ := h overlocked .ward 0x100 0x01C 1 false false (by decide) (by decide) unchanging
  have lock := kept (F.PAGE_LOCK_LOCK, 0) (by decide +kernel) (by decide)
  exact absurd lock (by decide +kernel)

/-! ### A dropped write (R44 step 1) -/

/-- Beside error enables and time-stamps, only the ledger and the registers of its page differ. -/
def Dev.atLedger (d n : Dev) : Prop :=
  d.recordOnly n ∧ ∀ (q : Nat) (g : FD) (j : Nat), g.at j * 8 + g.lo < 32768 → q ≠ ledPid → n.r q g j = d.r q g j

theorem Dev.atLedger.trans {a b c : Dev} (h : a.atLedger b) (k : b.atLedger c) : a.atLedger c :=
  ⟨h.1.trans k.1, fun q g j hg hq => (k.2 q g j hg hq).trans (h.2 q g j hg hq)⟩

theorem atLedger_w (d : Dev) {f : FD} {i : Nat} (v : Nat) (hf : f.at i * 8 + f.lo < 32768) :
    d.atLedger (d.w ledPid f v i) :=
  ⟨recordOnly_w _ _ _ _ _, fun _ _ _ hg hq => r_w_page _ _ _ _ _ _ _ _ hf hg hq⟩

/-- An error bit of a page: no other page shows it. -/
theorem r_err_page {d : Dev} {p b q : Nat} {g : FD} {j : Nat} (hg : g.at j * 8 + g.lo < 32768) (hq : q ≠ p) :
    (d.err p b).r q g j = d.r q g j := by
  unfold Dev.err
  dsimp only
  split
  · exact r_w_page _ _ _ _ _ _ _ _ (by decide) hg hq
  · exact r_w_page _ _ _ _ _ _ _ _ (by decide) hg hq

theorem atLedger_err (d : Dev) (b : Nat) : d.atLedger (d.err ledPid b) :=
  ⟨recordOnly_err _ _ _, fun _ _ _ hg hq => r_err_page hg hq⟩

theorem atLedger_ledShow (d : Dev) : d.atLedger d.ledShow := by
  unfold Dev.ledShow
  dsimp only
  split
  · exact (atLedger_w d _ (by decide)).trans (atLedger_err _ _)
  · exact atLedger_w d _ (by decide)

theorem atLedger_ledAppend (d : Dev) (e : LEntry) : d.atLedger (d.ledAppend e) :=
  Dev.atLedger.trans (b := { d with led := { d.led with store := d.led.store ++ [{ e with seq := d.r ledPid F.LED_SEQ_NEXT }] } })
    ⟨rfl, fun _ _ _ _ _ => rfl⟩ ((atLedger_w _ _ (by decide)).trans (atLedger_ledShow _))

theorem atLedger_ledLost (d : Dev) : d.atLedger d.ledLost :=
  ((atLedger_w d (f := F.LED_LOST_COUNT) (i := 0) _ (by decide)).trans (atLedger_err _ 12)).trans
    ⟨rfl, fun _ _ _ _ _ => rfl⟩

/-- A refusal's record is coalesced, made or lost. -/
theorem atLedger_ledRefused (d : Dev) (ag : Agent) (page off old new e : Nat) :
    d.atLedger (d.ledRefused ag page off old new e) := by
  have stamped : d.atLedger (d.stamp ledPid).2 := ⟨rfl, fun _ _ _ _ _ => rfl⟩
  unfold Dev.ledRefused
  dsimp only
  split
  · exact stamped.trans ⟨rfl, fun _ _ _ _ _ => rfl⟩
  · split
    · exact stamped.trans (atLedger_ledAppend _ _)
    · exact stamped.trans (atLedger_ledLost _)

/-- A dropped write raises the address error of the writer's home page and is recorded. -/
theorem decideWrite_dropped {d : Dev} {ag : Agent} {pid off v : Nat} (h : d.implemented pid = false ∨ d.visible ag pid = false) :
    (d.err (homePage ag) errAddress).atLedger (d.decideWrite ag pid off v) := by
  have dropped : d.fate ag pid off v = .dropped := by
    obtain h | h := h
    · exact if_pos (by rw [h]; rfl)
    · exact if_pos (by rw [h, Bool.or_eq_true]; exact .inr rfl)
  unfold Dev.decideWrite
  rw [dropped]
  dsimp only
  split
  · exact atLedger_ledRefused _ _ _ _ _ _ _
  · exact ⟨rfl, fun _ _ _ _ _ => rfl⟩

theorem homePage_ne (ag : Agent) : homePage ag ≠ ledPid := by
  cases ag with
  | ward => decide
  | openWorld k => show 0x380 ≠ ledPid; decide
  | pf p => show 0x080 + p.val ≠ 0x010; omega
  | vi v => show viBase + 16 * v + 0 ≠ 0x010; norm_num [viBase]; omega

/-- Settles O16, by `decideWrite_dropped`. -/
theorem unseenWriteIsDropped : Obligations.UnseenWriteIsDropped := by
  intro d ag pid off v h
  obtain ⟨ledger, pages⟩ := decideWrite_dropped (off := off) (v := v) h
  have only := (recordOnly_err d (homePage ag) errAddress).trans ledger
  refine ⟨only.act, only.mems, only.pages, only.flt, only.held, ?_, fun q g j hg home led => ?_⟩
  · rw [pages _ _ _ (by decide) (homePage_ne ag)]
    exact r_w_same _ _ _ _ _
  · rw [pages q g j hg led]
    exact r_err_page hg home

end Sys2Proof.Machine
end

section
/-! SUPPORT. The ledger's events (R68 to R73): drain ring, checkpoints, waits that are given up. -/

namespace Sys2Proof.Machine

open Sys2Proof

-- One proof after another: this text is compiled whole, and proofs checked side by side hold their memory at once.
set_option Elab.async false

section Ledger

variable (d b : Dev)

/-- An entry that is free lets the LOST record come first where records were lost. -/
theorem ledAfterFree_eq : d.ledAfterFree =
    if (d.led.lostSince && (d.led.room 1 || decide ((d.led.store.filter (·.reserve)).length < 16))) = true then
      let n := d.ledDevice 9 ledPid 0x064 d.led.lostAt (d.r ledPid F.LED_LOST_COUNT)
      { n with led := { n.led with lostSince := false, lostAt := d.r ledPid F.LED_LOST_COUNT } }
    else d.ledShow :=
  ite_of_iff (by simp) rfl rfl

theorem waitTimeout_some {d : Dev} {h : Held}
    (hf : d.held.find? (fun h => h.why == .ledger && decide (h.since + 10000 ≤ d.now)) = some h) :
    d.waitTimeout? = (if h.off = 0x020 then
      (({ d with held := d.held.erase h }.err h.pid errTimeout).ledLost).rejectShow h.pid 9
      else ({ d with held := d.held.erase h }.err h.pid errTimeout).ledLost).resend h.ag := by
  unfold Dev.waitTimeout?
  rw [hf]

theorem waitTimeout_none {d : Dev}
    (hf : d.held.find? (fun h => h.why == .ledger && decide (h.since + 10000 ≤ d.now)) = none) : d.waitTimeout? = d := by
  unfold Dev.waitTimeout?
  rw [hf]

theorem effect_ledger {i p off v : Nat} (ho : 0x040 ≤ off) :
    d.effect? b .ledger i p off v = d.coreEffect b .ledger i p off v := if_neg (Nat.not_lt.mpr ho)

/-- A write of `LED_CTRL` starts the first draining. -/
theorem ledger_ctrl (i p v : Nat) : d.coreEffect b .ledger i p 0x040 v =
    if b.rises p v F.LED_CTRL_DRAIN_EN = true ∧ d.led.started = none then
      { d with led := { d.led with started := some d.now, chain := d.chainStart d.now } } else d := by
  simp only [Dev.coreEffect, true_and, Option.isNone_iff_eq_none, show ¬(0x040 = 0x06C) by decide, false_and, if_false]

/-- A write of `LED_CKPT_CTRL` with SIGNED signs the oldest checkpoint that waits. -/
theorem ledger_signed {d : Dev} (i p : Nat) {v : Nat} (hv : bit v 0 = true) {c : Ckpt} {rest : List Ckpt}
    (hw : d.led.waiting = c :: rest) : d.coreEffect b .ledger i p 0x06C v =
      ({ d with led := { d.led with waiting := rest, signed := d.led.signed ++
        [(c, (upFrom 0 24).flatMap (fun j => bytesLE 4 (d.r ledPid F.LED_CKPT_SIG_SIG j)))] } } : Dev).ckptShow := by
  simp only [Dev.coreEffect, show ¬(0x06C = 0x040) by decide, false_and, if_false, hv, and_self, if_true, hw]

theorem ledger_signed_none {d : Dev} (i p : Nat) {v : Nat} (hv : bit v 0 = true) (hw : d.led.waiting = []) :
    d.coreEffect b .ledger i p 0x06C v = d := by
  simp only [Dev.coreEffect, show ¬(0x06C = 0x040) by decide, false_and, if_false, hv, and_self, if_true, hw]

theorem put_ledger {off v : Nat} (h : d.accepts .ward ledPid off v = true) (h4 : off % 4 = 0) (ho : 0x040 ≤ off) :
    d.put .ward 0x010 off v = (d.after .ward ledPid off v).coreEffect d .ledger 0 ledPid off v :=
  (put_flat (page := 0x010) (k := .ledger) (i := 0) h (by decide) h4 (by decide) rfl).trans (effect_ledger _ _ ho)

theorem drainEntry_cannot (h : d.canDrain = false) : d.drainEntry = d := by
  unfold Dev.drainEntry
  rw [h]
  split
  · rfl
  · exact if_pos rfl

/-- The oldest entry leaves the store where the ring takes it. -/
theorem drainEntry_can {d : Dev} {e : LEntry} {rest : List LEntry} (hs : d.led.store = e :: rest)
    (h : d.canDrain = true) :
    d.drainEntry =
      let w := d.ringWrite ownLedger d.ringBase d.ringSize d.ringHead e.bytes
      if w.2 = true then
        ((({ w.1 with led := { w.1.led with store := rest, batch := w.1.led.batch ++ [e.bytes] } } :
          Dev).ringAdvance 32).ckptForm e.seq).ledAfterFree
      else w.1 := by
  unfold Dev.drainEntry
  split
  case h_1 none => cases hs.symm.trans none
  case h_2 some =>
    cases hs.symm.trans some
    rw [h]
    generalize d.ringWrite ownLedger d.ringBase d.ringSize d.ringHead e.bytes = w
    obtain ⟨n, ok⟩ := w
    cases ok <;> rfl

theorem drainCkpt_cannot (h : d.canBlock = false) : d.drainCkpt = d := by
  unfold Dev.drainCkpt
  rw [h]
  split
  · rfl
  · exact if_neg nofun

theorem drainCkpt_can {d : Dev} {c : Ckpt} {sig : List Nat} {rest : List (Ckpt × List Nat)}
    (hs : d.led.signed = (c, sig) :: rest) (h : d.canBlock = true) :
    d.drainCkpt =
      let w := d.ringWrite ownLedger d.ringBase d.ringSize d.ringHead (c.block sig)
      if w.2 = true then ({ w.1 with led := { w.1.led with signed := rest } } : Dev).ringAdvance 256 else w.1 := by
  unfold Dev.drainCkpt
  split
  case h_1 none => cases hs.symm.trans none
  case h_2 some =>
    cases hs.symm.trans some
    rw [h]
    generalize d.ringWrite ownLedger d.ringBase d.ringSize d.ringHead (c.block sig) = w
    obtain ⟨n, ok⟩ := w
    cases ok <;> rfl

end Ledger

/-- Settles O17: one lemma per event of the ledger. -/
theorem ledgerCommandsComplete : Obligations.LedgerCommandsComplete := by
  refine ⟨fun s => ⟨fun h => ?_, fun h => ?_⟩, fun s h hf => ⟨fun ho => ?_, fun ho => ?_⟩, fun s hf => ?_,
    fun s v ha => ⟨fun hr hs => ?_, fun hr => ?_⟩, fun s e rest hs hd => ⟨fun hw => ?_, fun hw => ?_⟩, fun s hd => ?_,
    fun s v ha => ⟨fun c rest hw => ?_, fun hw => ?_⟩, fun s c sig rest hs hd => ⟨fun hw => ?_, fun hw => ?_⟩, fun s hd => ?_⟩
  · exact Completes.congr rfl ((ledAfterFree_eq s.dev).trans (if_neg (Bool.eq_false_iff.mp h)))
  · exact Completes.congr rfl ((ledAfterFree_eq s.dev).trans (if_pos h))
  · exact Completes.congr rfl ((waitTimeout_some hf).trans (congrArg (Dev.resend · h.ag) (if_neg ho)))
  · exact Completes.congr rfl ((waitTimeout_some hf).trans (congrArg (Dev.resend · h.ag) (if_pos ho)))
  · exact Completes.congr rfl (waitTimeout_none hf)
  · exact Completes.congr rfl ((put_ledger s.dev ha (by decide) (by decide)).trans ((ledger_ctrl _ _ _ _ _).trans
      (if_pos ⟨hr, hs⟩)))
  · refine Completes.congr rfl ((put_ledger s.dev ha (by decide) (by decide)).trans ((ledger_ctrl _ _ _ _ _).trans
      (if_neg fun ⟨rises, never⟩ => ?_)))
    obtain hr | hr := hr
    · exact Bool.eq_false_iff.mp hr rises
    · exact hr never
  · exact Completes.congr rfl ((drainEntry_can hs hd).trans (if_pos hw))
  · exact Completes.congr rfl ((drainEntry_can hs hd).trans (if_neg (Bool.eq_false_iff.mp hw)))
  · exact Completes.congr rfl (drainEntry_cannot s.dev hd)
  · exact Completes.congr rfl ((put_ledger s.dev ha (by decide) (by decide)).trans (ledger_signed _ _ _ (bit_withBit v 0) hw))
  · exact Completes.congr rfl ((put_ledger s.dev ha (by decide) (by decide)).trans
      (ledger_signed_none _ _ _ (bit_withBit v 0) hw))
  · exact Completes.congr rfl ((drainCkpt_can hs hd).trans (if_pos hw))
  · exact Completes.congr rfl ((drainCkpt_can hs hd).trans (if_neg (Bool.eq_false_iff.mp hw)))
  · exact Completes.congr rfl (drainCkpt_cannot s.dev hd)

end Sys2Proof.Machine
end

section
/-! SUPPORT. Commit requests, from their acceptance to the end of their check (R52 to R54, R56). -/

namespace Sys2Proof.Machine

open Sys2Proof

-- One proof after another: this text is compiled whole, and proofs checked side by side hold their memory at once.
set_option Elab.async false

/-! ### A request that is accepted as it is sent (R53) -/

section Asks

variable {d : Dev} {ag : Agent} {pid v : Nat}

/-- What becomes of a request that reaches its page: it waits for the page's check or for the ledger, or is accepted. -/
theorem decideWrite_commit (h : d.fate ag pid 0x020 v = .commit) : d.decideWrite ag pid 0x020 v =
    if (d.ctl pid).busy.isSome = true then d.hold ag pid 0x020 v .busy
    else if (ledgered pid && !d.led.room 2) = true then d.hold ag pid 0x020 v .ledger
    else d.requestAccept ag pid v := by
  unfold Dev.decideWrite
  rw [h]

theorem put_asks {page : Nat} (h : d.asks ag page v = true) :
    d.put ag page 0x020 v = d.requestAccept ag (agentPageNo ag page) v := by
  unfold Dev.asks at h
  simp only [Bool.and_eq_true, beq_iff_eq, Option.isNone_iff_eq_none] at h
  obtain ⟨⟨⟨sends, commit⟩, idle⟩, room⟩ := h
  have entries : (ledgered (agentPageNo ag page) && !d.led.room 2) = false := by
    rw [← Bool.not_not (ledgered _), ← Bool.not_or, room]
    rfl
  refine (write_sends sends (by decide)).trans ((decideWrite_commit commit).trans ?_)
  rw [idle, entries]
  rfl

end Asks

/-! ### Rejection (R54) -/

theorem recordOnly_rejectShow (d : Dev) (pid reason : Nat) : d.recordOnly (d.rejectShow pid reason) :=
  (((recordOnly_w d _ _ _ _).trans (recordOnly_w _ _ _ _ _)).trans (recordOnly_w _ _ _ _ _)).trans (recordOnly_err _ _ _)

/-- A register of the page's header other than its error register does not show an error bit. -/
theorem r_err_cstat {d : Dev} {p b : Nat} {g : FD} (hg : 0x100 ≤ g.at 0 * 8 + g.lo) : (d.err p b).r p g = d.r p g := by
  have key (f : FD) (hf : f.at 0 * 8 + f.lo < 0x100) : fieldKey p g 0 ≠ fieldKey p f 0 := by unfold fieldKey; omega
  unfold Dev.err
  dsimp only
  split
  · exact r_w_other _ _ _ _ _ _ _ _ (key _ (by decide))
  · exact r_w_other _ _ _ _ _ _ _ _ (key _ (by decide))

section Reject

variable (d : Dev) (pid : Nat)

theorem rejectShow_reject (reason : Nat) : (d.rejectShow pid reason).r pid F.PAGE_CSTAT_REJECT = 1 :=
  (r_err_cstat (by decide)).trans ((r_w_at (by decide)).trans ((r_w_at (by decide)).trans (r_w_same _ _ _ _ _)))

theorem rejectShow_reason {reason : Nat} (h : reason < 16) :
    (d.rejectShow pid reason).r pid F.PAGE_CSTAT_REASON = reason :=
  (r_err_cstat (by decide)).trans ((r_w_at (by decide)).trans ((r_w_same _ _ _ _ _).trans (Nat.mod_eq_of_lt h)))

theorem rejectShow_done (reason : Nat) : (d.rejectShow pid reason).r pid F.PAGE_CSTAT_DONE = 0 :=
  (r_err_cstat (by decide)).trans (r_w_same _ _ _ _ _)

end Reject

/-! ### Acceptance (R52, R53, R56) -/

section Accept

variable {d : Dev} {ag : Agent} {pid v : Nat}

/-- A fault of form is the key's, or that of the request's bits. -/
theorem requestBad_lt {r : Nat} (h : d.requestBad pid v = some r) : r < 16 := by
  by_contra hr
  have apart (n : Nat) (hn : n < 16) : some n ≠ some r := fun e => hr (Option.some.inj e ▸ hn)
  exact ite_ne (x := some r) (apart 5 (by decide)) (ite_ne (apart 4 (by decide)) (Option.some_ne_none r).symm) h

/-- The ledger's record of a request, at a page that it records. -/
def Dev.requestRecord (d : Dev) (ag : Agent) (kind reason pid v : Nat) (complete : Bool) : Dev :=
  if ledgered pid = true then
    d.ledRecord kind pid 0x020 (d.origin ag + 2 ^ 24 * reason) (d.r pid F.PAGE_CSTAT_COUNT) v complete
  else d

theorem recordOnly_requestRecord (d : Dev) (ag : Agent) (kind reason pid v : Nat) (complete : Bool) :
    d.recordOnly (d.requestRecord ag kind reason pid v complete) := by
  unfold Dev.requestRecord
  split
  · exact recordOnly_ledRecord _ _ _ _ _ _ _ _
  · rfl

theorem requestAccept_bad {r : Nat} (h : d.requestBad pid v = some r) :
    d.requestAccept ag pid v = (d.requestRecord ag 4 r pid v true).rejectShow pid r := by
  unfold Dev.requestAccept
  rw [h]
  rfl

theorem requestAccept_revert (h : d.requestBad pid v = none) (hr : bit v 2 = true) :
    d.requestAccept ag pid v =
      (((d.requestRecord ag 2 0 pid v true).revert pid).w pid F.PAGE_CSTAT_REJECT 0).supersede pid := by
  unfold Dev.requestAccept
  rw [h]
  exact if_pos hr

/-- The ledger with the entry of the request, incomplete, and one kept for the APPLY. -/
def Dev.entriesTaken (d : Dev) (ag : Agent) (pid v : Nat) : Dev :=
  let n := d.requestRecord ag 2 0 pid v false
  if ledgered pid = true then { n with led := { n.led with applyHeld := n.led.applyHeld + 1 } }.ledShow else n

/-- The check that a request starts, with the shadow set as its snapshot. -/
def Dev.checkOf (d : Dev) (ag : Agent) (pid v : Nat) : Check :=
  { now := bit v 0, v := v, snap := d.shadow pid,
    seq := if ledgered pid = true then some (d.r ledPid F.LED_SEQ_NEXT) else none,
    since := (d.entriesTaken ag pid v).now,
    hold := match kindOf pid with
      | some (.layerCtl, _) | some (.viLayers, _) => (upFrom 0 8).filter (fun h => d.on (hcPid h) F.HC_GROUP_HOLD)
      | _ => []
    linked := match kindOf pid with
      | some (.crc, _) => bit v 1 && d.on pid F.CR_CTRL_LINK
      | _ => false }

/-- The device in which the check of a request runs; a request of the power page takes the wake sources (R449). -/
def Dev.checkBegun (d : Dev) (ag : Agent) (pid v : Nat) : Dev :=
  let n := (d.entriesTaken ag pid v).setCtl pid { (d.entriesTaken ag pid v).ctl pid with busy := some (d.checkOf ag pid v) }
  if pid = pmPid ∧ 0 < snapGet (d.shadow pid) pmPid F.PM_SLEEP_TARGET then n.takeWakes else n

theorem checksAtOnce_ite {α : Type} (pid : Nat) (a b : α) :
    (match kindOf pid with
      | some (.crc, _) | some (.strike, _) | some (.touchRegions, _) => a
      | _ => b) = if checksAtOnce pid = true then a else b := by
  unfold checksAtOnce
  cases kindOf pid with
  | none => rfl
  | some x => obtain ⟨k, i⟩ := x; cases k <;> rfl

theorem requestAccept_check (h : d.requestBad pid v = none) (hr : bit v 2 = false) :
    d.requestAccept ag pid v =
      if checksAtOnce pid = true then (d.checkBegun ag pid v).checkEnd? pid else d.checkBegun ag pid v := by
  unfold Dev.requestAccept
  rw [h]
  refine (if_neg (by rw [hr]; decide)).trans ?_
  exact checksAtOnce_ite pid ((d.checkBegun ag pid v).checkEnd? pid) (d.checkBegun ag pid v)

end Accept

/-! ### What a check's start leaves -/

theorem ledShow_led (d : Dev) : d.ledShow.led = d.led := by
  unfold Dev.ledShow
  dsimp only
  split
  · exact Dev.err_led _ _ _
  · rfl

theorem ledRecord_held (d : Dev) (kind pid off origin old new : Nat) (complete : Bool) :
    (d.ledRecord kind pid off origin old new complete).led.applyHeld = d.led.applyHeld :=
  (congrArg Ledger.applyHeld (ledShow_led _) :)

theorem ctl_setCtl (d : Dev) (pid : Nat) (c : PageCtl) : (d.setCtl pid c).ctl pid = c := tabGet_put_same _ _ _ _

section Begun

variable (d : Dev) (ag : Agent) (pid v : Nat)

theorem recordOnly_entriesTaken : d.recordOnly (d.entriesTaken ag pid v) := by
  unfold Dev.entriesTaken
  dsimp only
  split
  · refine ((recordOnly_requestRecord d ag 2 0 pid v false).trans ?_).trans (recordOnly_ledShow _)
    rfl
  · exact recordOnly_requestRecord d ag 2 0 pid v false

/-- The wake sources are no part of the commit logic. -/
theorem checkBegun_of_set {α : Type} (f : Dev → α) (hw : ∀ n : Dev, f n.takeWakes = f n) :
    f (d.checkBegun ag pid v) = f ((d.entriesTaken ag pid v).setCtl pid
      { (d.entriesTaken ag pid v).ctl pid with busy := some (d.checkOf ag pid v) }) := by
  unfold Dev.checkBegun
  dsimp only
  split
  · exact hw _
  · rfl

theorem checkBegun_ctl : (d.checkBegun ag pid v).ctl pid = { d.ctl pid with busy := some (d.checkOf ag pid v) } := by
  have ctl : (d.entriesTaken ag pid v).ctl pid = d.ctl pid :=
    congrArg (fun t => tabGet t ({} : PageCtl) pid) (recordOnly_entriesTaken d ag pid v).pages
  rw [checkBegun_of_set d ag pid v (fun n => n.ctl pid) (fun _ => rfl), ctl]
  exact ctl_setCtl _ _ _

theorem checkBegun_act : (d.checkBegun ag pid v).act = d.act :=
  (checkBegun_of_set d ag pid v Dev.act (fun _ => rfl)).trans (recordOnly_entriesTaken d ag pid v).act

theorem checkBegun_led (hl : ledgered pid = true) : (d.checkBegun ag pid v).led.applyHeld = d.led.applyHeld + 1 ∧
    ∃ e : LEntry, (d.checkBegun ag pid v).led.store = d.led.store ++ [e] ∧ e.complete = false ∧
      e.seq = d.r ledPid F.LED_SEQ_NEXT := by
  have led : (d.checkBegun ag pid v).led = (d.entriesTaken ag pid v).led :=
    checkBegun_of_set d ag pid v Dev.led (fun _ => rfl)
  let n := d.ledRecord 2 pid 0x020 (d.origin ag) (d.r pid F.PAGE_CSTAT_COUNT) v false
  have taken : (d.entriesTaken ag pid v).led = { n.led with applyHeld := n.led.applyHeld + 1 } := by
    unfold Dev.entriesTaken Dev.requestRecord
    rw [if_pos hl, if_pos hl]
    exact ledShow_led _
  rw [led, taken]
  exact ⟨congrArg (· + 1) (ledRecord_held _ _ _ _ _ _ _ _), _, ledRecord_store _ _ _ _ _ _ _ _, rfl, rfl⟩

end Begun

/-! ### The end of a check (R53, R54, R56) -/

section End

variable {d : Dev} {pid : Nat}

theorem commitCheck_idle (h : (d.ctl pid).busy = none) : d.checkEnd? pid = d := by
  unfold Dev.checkEnd?
  rw [h]

/-- The record of a request is completed where its page has one. -/
def Dev.entryDone (d : Dev) (b : Check) (kind reason : Nat) : Dev :=
  match b.seq with
  | some q => d.ledComplete q kind reason
  | none => d

/-- What a check ends with, once it has a verdict. -/
def Dev.checkEnds (n : Dev) (pid : Nat) (b : Check) (v : Verdict) : Dev :=
  match v.reason with
  | some r =>
    let m := ((if r = 2 then n.showAdm v.heads v.bad else n).entryDone b 4 r).rejectShow pid r
    if b.seq.isSome = true then m.ledFreeApply else m
  | none => ((((n.showAdm v.heads none).entryDone b 2 0).w pid F.PAGE_CSTAT_REJECT 0).supersede pid).setPasses pid b

theorem commitCheck_busy {b : Check} (h : (d.ctl pid).busy = some b) :
    d.checkEnd? pid =
      let n := d.setCtl pid { d.ctl pid with busy := none }
      n.checkEnds pid b (if n.blockFault pid = true then verdict (some 8) else n.checkSet pid b.snap) := by
  unfold Dev.checkEnd?
  rw [h]
  rfl

/-- A set is rejected: the record of its request is completed, and the entry kept for its APPLY freed. -/
def Dev.setRejected (n : Dev) (pid : Nat) (b : Check) (r : Nat) : Dev :=
  match b.seq with
  | some q => ((n.ledComplete q 4 r).rejectShow pid r).ledFreeApply
  | none => n.rejectShow pid r

theorem checkEnds_rejects {n : Dev} {b : Check} {v : Verdict} {r : Nat} (h : v.reason = some r) :
    n.checkEnds pid b v = (if r = 2 then n.showAdm v.heads v.bad else n).setRejected pid b r := by
  unfold Dev.checkEnds Dev.entryDone Dev.setRejected
  rw [h]
  cases b.seq <;> rfl

theorem checkEnds_passes {n : Dev} {b : Check} {v : Verdict} (h : v.reason = none) :
    n.checkEnds pid b v =
      ((((n.showAdm v.heads none).entryDone b 2 0).w pid F.PAGE_CSTAT_REJECT 0).supersede pid).setPasses pid b := by
  unfold Dev.checkEnds
  rw [h]

theorem deferredAccept_eq (d : Dev) (pid : Nat) : d.deferredAccept pid =
    if (d.ctl pid).busy.isSome = true then d
    else match d.waitingFor pid with
      | none => d
      | some h => d.resend h.ag := rfl

end End

/-- Settles O18: what a request's acceptance and its check's end do, case by case. -/
theorem commitRequestsAndChecksComplete : Obligations.CommitRequestsAndChecksComplete := by
  refine ⟨fun s ag page key => ⟨fun h => Completes.congr rfl (put_asks h), fun h => Completes.congr rfl (put_asks h),
    fun h => Completes.congr rfl (put_asks h)⟩, fun d ag pid v r h => ?_, fun d ag pid v h hr hc => ?_,
    fun d ag pid v h hr hl => ?_, fun d ag pid v h hr hl => ?_, fun d ag pid v h hr hc => ?_, fun d ag pid v h => ?_,
    fun s page h => Completes.congr rfl (commitCheck_idle h), fun s page b h => ?_, fun s page x idle waits => ?_,
    fun s page h => ?_⟩
  · have only := (recordOnly_requestRecord d ag 4 r pid v true).trans (recordOnly_rejectShow _ pid r)
    rw [requestAccept_bad h]
    exact ⟨rejectShow_reject _ _ _, rejectShow_reason _ _ (requestBad_lt h), rejectShow_done _ _ _,
      congrArg (fun t => tabGet t ({} : PageCtl) pid) only.pages, only.act⟩
  · have begun := (requestAccept_check (ag := ag) h hr).trans (if_neg (Bool.eq_false_iff.mp hc))
    rw [begun]
    exact ⟨d.checkOf ag pid v, checkBegun_ctl d ag pid v, rfl, rfl, checkBegun_act d ag pid v, fun hl =>
      ⟨(checkBegun_led d ag pid v hl).1, if_pos hl, (checkBegun_led d ag pid v hl).2⟩⟩
  · rw [requestAccept_revert h hr]
    unfold Dev.requestRecord
    rw [if_pos hl]
    rfl
  · rw [requestAccept_revert h hr]
    unfold Dev.requestRecord
    rw [if_neg (Bool.eq_false_iff.mp hl)]
  · exact ⟨_, d.checkOf ag pid v, checkBegun_ctl d ag pid v, rfl, rfl, (requestAccept_check h hr).trans (if_pos hc)⟩
  · have decided := decideWrite_commit h
    refine ⟨fun busy => ?_, fun idle full => ?_, fun idle room => ?_⟩
    · exact decided.trans (if_pos (Option.isSome_iff_ne_none.mpr busy))
    · rw [idle] at decided
      exact decided.trans (if_pos full)
    · rw [idle] at decided
      exact decided.trans (if_neg (Bool.eq_false_iff.mp room))
  · have ends := commitCheck_busy h
    have checked {n m : Dev} {pid : Nat} {v w : Verdict} (e : v = w) (hm : n.checkEnds pid b w = m) : n.checkEnds pid b v = m :=
      e ▸ hm
    refine ⟨fun fault => ?_, fun r sound hv hr => ?_, fun sound hv => ?_, fun sound hv => ?_⟩
    · exact Completes.congr rfl (ends.trans (checked (if_pos fault) (checkEnds_rejects rfl)))
    · exact Completes.congr rfl (ends.trans (checked (if_neg (Bool.eq_false_iff.mp sound))
        ((checkEnds_rejects hv).trans (congrArg (Dev.setRejected · _ b r) (if_neg hr)))))
    · exact Completes.congr rfl (ends.trans (checked (if_neg (Bool.eq_false_iff.mp sound)) (checkEnds_rejects hv)))
    · exact Completes.congr rfl (ends.trans (checked (if_neg (Bool.eq_false_iff.mp sound)) (checkEnds_passes hv)))
  · refine Completes.congr rfl ((deferredAccept_eq _ _).trans ?_)
    rw [idle, waits]
    rfl
  · refine Completes.congr rfl ((deferredAccept_eq _ _).trans ?_)
    obtain busy | none := h
    · exact if_pos (Option.isSome_iff_ne_none.mpr busy)
    · rw [none]
      exact ite_self _

end Sys2Proof.Machine
end

section
/-! SUPPORT. Commit boundaries and page locks (R57, R59). -/

namespace Sys2Proof.Machine

open Sys2Proof

-- One proof after another: this text is compiled whole, and proofs checked side by side hold their memory at once.
set_option Elab.async false

/-! ### A commit boundary (R57) -/

section Boundary

variable {d : Dev} {pid part i : Nat} {inTime : Bool} {x : Pend} {k : PageKind}

theorem boundary_unset (h : (d.ctl pid).pend = none) : d.boundary pid part inTime = d := by
  unfold Dev.boundary
  rw [h]

theorem boundary_passes (h : (d.ctl pid).pend = some x)
    (hw : x.parts.contains part = false ∨ (cutsOff pid = true ∧ inTime = false)) : d.boundary pid part inTime = d := by
  unfold Dev.boundary
  rw [h]
  refine if_pos ?_
  obtain hw | ⟨cuts, late⟩ := hw
  · rw [hw]
    rfl
  · rw [cuts, late, Bool.or_eq_true]
    exact .inr rfl

/-- What the boundary of a part applies where no fault is open. -/
def Dev.boundaryApplies (d : Dev) (pid part : Nat) (x : Pend) (page : Option (PageKind × Nat)) : Dev :=
  match page with
  | some (.layerCtl, _) | some (.viLayers, _) => if x.held.contains part = true then d else d.layerApply pid (· == part)
  | some (.touchReports, _) | some (.viTouch, _) | some (.viHapticAudio, _) => d.applyPend pid (· == part)
  | some (.compose, h) => d.composeApply h true
  | some (.crc, h) => d.crcApply h true
  | some (.head, h) => d.endOfActive h true
  | some (.power, _) => d.changeNext
  | _ => d.applySet pid

theorem boundary_serves (h : (d.ctl pid).pend = some x) (hp : x.parts.contains part = true)
    (hc : cutsOff pid = false ∨ inTime = true) :
    d.boundary pid part inTime =
      if d.blockFault pid = true then d.discardPend pid else d.boundaryApplies pid part x (kindOf pid) := by
  have due : (!x.parts.contains part || (cutsOff pid && !inTime)) = false := by
    rw [hp]
    obtain hc | hc := hc <;> rw [hc]
    · rfl
    · exact Bool.and_false _
  unfold Dev.boundary
  rw [h]
  exact if_neg (Bool.eq_false_iff.mp due)

/-- The last part of a set that is applied ends it. -/
theorem applyPend_last {sel : Nat → Bool} (h : (d.ctl pid).pend = some x) (hs : ∀ p ∈ x.parts, sel p = true) :
    d.applyPend pid sel = ((d.applyParts pid x.snap sel).setCtl pid { d.ctl pid with pend := none }).setApplied pid := by
  have left : x.parts.filter (fun p => !sel p) = [] :=
    List.filter_eq_nil_iff.mpr fun p hp => by rw [hs p hp]; decide
  unfold Dev.applyPend
  rw [h]
  exact if_pos (by rw [left]; rfl)

end Boundary

/-! ### `PAGE_LOCK` (R59) -/

/-- No page shows another page's registers in its header. -/
theorem place_header (d : Dev) (pid : Nat) {off : Nat} (ho : off < 0x100) : d.place pid off = (pid, off) := by
  unfold Dev.place
  split
  · exact if_neg (by omega)
  · exact if_neg (by omega)
  · exact if_neg (by omega)
  · rfl

/-- A field of the register `PAGE_LOCK` is LOCK, or one that shows. -/
def lockField (f : FD) : Bool := (f.index? 0x01C).isNone || f.acc == .ro || f == F.PAGE_LOCK_LOCK

theorem fields_lock (k : PageKind) : k.fields.all lockField = true := by cases k <;> decide +kernel

section Lock

variable {d : Dev} {ag : Agent} {pid i : Nat} {k : PageKind} {acts : Bool} (hk : kindOf pid = some (k, i))
include hk

theorem mem_openFields_lock : (F.PAGE_LOCK_LOCK, 0) ∈ openFields pid 0x01C := by
  have there : exists? k i 0x01C = true := by
    cases k with
    | irqTarget => exact decide_eq_true (.inr (by decide))
    | _ => rfl
  have free : fusedReg pid 0x01C = false := by unfold fusedReg; simp
  unfold openFields
  rw [free, if_neg (by decide), mem_regFields hk]
  exact ⟨there, mem_fields_of_hdr (by decide) k, by decide⟩

/-- A write of 1 to `PAGE_LOCK` changes it where LOCK was clear. -/
theorem lock_changes : (openFields pid 0x01C).any (d.fieldChanges pid 1 acts) = (d.r pid F.PAGE_LOCK_LOCK == 0) := by
  have lock : d.fieldChanges pid 1 acts (F.PAGE_LOCK_LOCK, 0) = (d.r pid F.PAGE_LOCK_LOCK == 0) := rfl
  rw [Bool.eq_iff_iff, List.any_eq_true]
  refine ⟨fun ⟨y, hy, changes⟩ => ?_, fun clear => ⟨_, mem_openFields_lock hk, lock.trans clear⟩⟩
  obtain ⟨f, j⟩ := y
  obtain ⟨-, field, index⟩ := (mem_regFields hk).mp (openFields_subset hy)
  have which := List.all_eq_true.mp (fields_lock k) f field
  simp only [lockField, Bool.or_eq_true, beq_iff_eq] at which
  have index : f.index? 0x01C = some j := index
  obtain (none | shows) | rfl := which
  · rw [index] at none
    cases none
  · unfold Dev.fieldChanges at changes
    rw [shows] at changes
    cases changes
  · cases index
    exact lock ▸ changes

end Lock

/-- An accepted write of 1 to `PAGE_LOCK` starts nothing, sets LOCK, and makes a LOCK record where LOCK was clear. -/
theorem pageLock_accepted {d : Dev} {ag : Agent} {pid : Nat} (h : d.takes ag pid 0x01C 1 = true) :
    let n := d.written ag pid 0x01C 1
    n.startedBy d (d.place pid 0x01C).1 (d.place pid 0x01C).2 1 = n ∧ n.r pid F.PAGE_LOCK_LOCK = 1 ∧
    (d.r pid F.PAGE_LOCK_LOCK = 0 → recorded pid 0x01C = true → ∃ e : LEntry, n.led.store = d.led.store ++ [e] ∧
      e.kind = 7 ∧ e.page = ledgerPage pid ∧ e.old = 0 ∧ e.new = 1) ∧
    (d.r pid F.PAGE_LOCK_LOCK = 1 → n.led = d.led) := by
  obtain ⟨k, i, hk⟩ := kindOf_of_takes h
  obtain ⟨ch, acts, sh, fate, -, written⟩ := written_of_takes h
  have here := place_header d pid (off := 0x01C) (by decide)
  have changes := changes_of_fate fate
  rw [here] at changes
  have changes : ch = (d.r pid F.PAGE_LOCK_LOCK == 0) := changes.trans (lock_changes hk)
  refine ⟨?_, ?_, fun clear hr => ?_, fun set => ?_⟩
  · rw [here, startedBy_kind hk]
    exact if_pos (show 0x01C < 0x040 by decide)
  · have taken := r_written_open (x := (F.PAGE_LOCK_LOCK, 0)) h (by decide) (by rw [here]; exact mem_openFields_lock hk)
      (by decide)
    rwa [here] at taken
  · rw [clear] at changes
    subst changes
    rw [written, show (0 == 0) = true from rfl, writtenBy_lock hr rfl, ledRecord_store, led_changeCounted]
    exact ⟨_, rfl, rfl, rfl, rfl, rfl⟩
  · rw [set] at changes
    subst changes
    rw [written]
    exact (fieldsOnly_fieldsTaken d pid 0x01C 1).led

/-- Settles O19: the boundary by what its page applies (`boundary_serves`), a page lock by `pageLock_accepted`. -/
theorem boundariesAndPageLocksComplete : Obligations.BoundariesAndPageLocksComplete := by
  refine ⟨fun s page part inTime h => Completes.congr rfl (boundary_unset h),
    fun s page part inTime x h hw => Completes.congr rfl (boundary_passes h hw), fun s page part inTime x h hp hc => ?_,
    fun d pid x sel h hs => applyPend_last h hs, fun s ag page h => ?_⟩
  · have serves := boundary_serves h hp hc
    have sound (fault : s.dev.blockFault (PageRef.pid page) = false) {n : Dev}
        (e : s.dev.boundaryApplies (PageRef.pid page) part x (kindOf (PageRef.pid page)) = n) :
        Completes (.commitBoundary page ⟨part, inTime⟩) s n :=
      Completes.congr rfl ((serves.trans (if_neg (Bool.eq_false_iff.mp fault))).trans e)
    refine ⟨fun fault => Completes.congr rfl (serves.trans (if_pos fault)), fun k i fault hk =>
      ⟨fun hm => ?_, fun hm hh => ?_, fun hm hh => ?_, ?_, ?_, ?_, ?_, fun hm => ?_⟩, fun fault hk => sound fault (by rw [hk]; rfl)⟩
    · refine sound fault ?_
      rw [hk]
      simp only [List.contains_iff_mem, List.mem_cons, List.not_mem_nil, or_false] at hm
      obtain rfl | rfl | rfl := hm <;> rfl
    · refine sound fault ?_
      rw [hk]
      simp only [List.contains_iff_mem, List.mem_cons, List.not_mem_nil, or_false] at hm
      obtain rfl | rfl := hm <;> exact if_neg (Bool.eq_false_iff.mp hh)
    · refine sound fault ?_
      rw [hk]
      simp only [List.contains_iff_mem, List.mem_cons, List.not_mem_nil, or_false] at hm
      obtain rfl | rfl := hm <;> exact if_pos hh
    · rintro rfl
      exact sound fault (by rw [hk]; rfl)
    · rintro rfl
      exact sound fault (by rw [hk]; rfl)
    · rintro rfl
      exact sound fault (by rw [hk]; rfl)
    · rintro rfl
      exact sound fault (by rw [hk]; rfl)
    · refine sound fault ?_
      unfold Dev.boundaryApplies
      rw [hk]
      split
      case h_10 => rfl
      all_goals
        next e =>
        cases e
        cases hm
  · obtain ⟨ends, rest⟩ := pageLock_accepted h
    exact ⟨Completes.congr rfl ((put_accepts h (by decide)).trans ends), rest⟩

end Sys2Proof.Machine
end

section
/-! SUPPORT. The memory controller (R205 to R225): what leaves the address map and the memories as they are, and which bytes a
store reaches. -/

namespace Sys2Proof.Machine

open Sys2Proof

-- One proof after another: this text is compiled whole, and proofs checked side by side hold their memory at once.
set_option Elab.async false

/-! ### The address map -/

/-- The fields that the map of DRAM addresses to cells, and that of words to ON zones, read. -/
def mapFields : List (Nat × FD × Nat) :=
  [(mcPid, F.MC_CFG_GRAIN, 0), (mcPid, F.MC_CFG_HASH, 0)] ++
  (upFrom 0 32).map (fun e => (0x120, F.RMP_DST_STATE, e)) ++ (upFrom 0 16).map (fun z => (ezPid, F.EZ_STAT_STATE, z))

/-- Two devices map DRAM addresses alike. -/
structure Dev.SameMap (d n : Dev) : Prop where
  act : n.act = d.act
  remap : n.mc.remap = d.mc.remap
  copied : n.mc.copied = d.mc.copied
  field : ∀ x ∈ mapFields, n.r x.1 x.2.1 x.2.2 = d.r x.1 x.2.1 x.2.2

theorem Dev.SameMap.refl (d : Dev) : d.SameMap d := ⟨rfl, rfl, rfl, fun _ _ => rfl⟩

theorem Dev.SameMap.trans {a b c : Dev} (h : a.SameMap b) (k : b.SameMap c) : a.SameMap c :=
  ⟨k.act.trans h.act, k.remap.trans h.remap, k.copied.trans h.copied, fun x hx => (k.field x hx).trans (h.field x hx)⟩

theorem chanOf_lt (d : Dev) (a : Nat) : d.chanOf a < 8 := by
  rw [chanOf_eq]
  exact unhash_lt (Nat.mod_lt _ (by decide))

theorem map_find_congr {α β : Type} {l : List α} {p q : α → Bool} {f g : α → β} (hp : ∀ x ∈ l, p x = q x)
    (hf : ∀ x ∈ l, f x = g x) : (l.find? p).map f = (l.find? q).map g := by
  rw [List.find?_congr hp]
  exact Option.map_congr fun x hx => hf x (List.mem_of_find?_eq_some hx)

section Map

variable {d n : Dev} (h : d.SameMap n)
include h

theorem Dev.SameMap.grain : n.grain = d.grain := by
  have field : n.r 0x100 F.MC_CFG_GRAIN = d.r 0x100 F.MC_CFG_GRAIN := h.field (mcPid, F.MC_CFG_GRAIN, 0) (by decide)
  unfold Dev.grain
  rw [field]

theorem Dev.SameMap.hash : n.on 0x100 F.MC_CFG_HASH = d.on 0x100 F.MC_CFG_HASH := by
  have field : n.r 0x100 F.MC_CFG_HASH = d.r 0x100 F.MC_CFG_HASH := h.field (mcPid, F.MC_CFG_HASH, 0) (by decide)
  unfold Dev.on
  rw [field]

theorem Dev.SameMap.chanOf (a : Nat) : n.chanOf a = d.chanOf a := by
  unfold Dev.chanOf
  rw [h.grain, h.hash]

theorem Dev.SameMap.localOf (a : Nat) : n.localOf a = d.localOf a := by
  unfold Dev.localOf
  rw [h.grain]

theorem Dev.SameMap.addrAt (chan loc : Nat) : n.addrAt chan loc = d.addrAt chan loc := by
  unfold Dev.addrAt
  rw [h.grain, h.hash]

/-- The remap entries of a channel. -/
theorem Dev.SameMap.remapState {chan e : Nat} (hc : chan < 8) (he : e ∈ upFrom (4 * chan) 4) :
    n.r 0x120 F.RMP_DST_STATE e = d.r 0x120 F.RMP_DST_STATE e := by
  have he := mem_upFrom.mp he
  refine h.field (0x120, F.RMP_DST_STATE, e) (List.mem_append_left _ (List.mem_append_right _ ?_))
  exact List.mem_map_of_mem (mem_upFrom.mpr ⟨by omega, by omega⟩)

theorem Dev.SameMap.mappedRow {chan : Nat} (hc : chan < 8) (bank row : Nat) :
    n.mappedRow chan bank row = d.mappedRow chan bank row := by
  unfold Dev.mappedRow
  rw [h.remap, List.find?_congr fun e he => by rw [h.remapState hc he]]

theorem Dev.SameMap.cellAt (a : Nat) : n.cellAt a = d.cellAt a := by
  unfold Dev.cellAt
  rw [h.chanOf, h.localOf]
  dsimp only
  rw [h.mappedRow (chanOf_lt d a), h.addrAt]

theorem Dev.SameMap.mirrorAt (a : Nat) : n.mirrorAt a = d.mirrorAt a := by
  unfold Dev.mirrorAt
  rw [h.chanOf, h.localOf, h.remap, h.copied]
  exact map_find_congr (fun e he => by rw [h.remapState (chanOf_lt d a) he])
    (fun e he => by dsimp only; rw [h.remapState (chanOf_lt d a) he, h.addrAt])

theorem Dev.SameMap.reaches (a b : Nat) : n.reaches a b = d.reaches a b := by
  unfold Dev.reaches
  rw [h.cellAt, h.cellAt, h.mirrorAt]

theorem Dev.SameMap.zoneState {z : Nat} (hz : z ∈ upFrom 0 16) : n.zoneState z = d.zoneState z :=
  h.field (ezPid, F.EZ_STAT_STATE, z) (List.mem_append_right _ (List.mem_map_of_mem hz))

theorem Dev.SameMap.active (f : FD) (z : Nat) : n.a ezPid f z = d.a ezPid f z := by
  unfold Dev.a
  rw [h.act]

theorem Dev.SameMap.zoneBase (z : Nat) : n.zoneBase z = d.zoneBase z := congrArg (2 ^ 24 * ·) (h.active _ z)

theorem Dev.SameMap.zoneSize (z : Nat) : n.zoneSize z = d.zoneSize z := congrArg (2 ^ 24 * ·) (h.active _ z)

theorem Dev.SameMap.zoneChk (z : Nat) : n.zoneChk z = d.zoneChk z := congrArg (2 ^ 21 * ·) (h.active _ z)

theorem Dev.SameMap.zoneAt (a : Nat) : n.zoneAt 2 a = d.zoneAt 2 a :=
  List.find?_congr fun z hz => by rw [h.zoneState hz, h.zoneBase, h.zoneSize]

theorem Dev.SameMap.checkAddr (z a : Nat) : n.checkAddr z a = d.checkAddr z a := by
  unfold Dev.checkAddr
  rw [h.zoneChk, h.zoneBase]

end Map

/-! ### What leaves the map and the memories as they are -/

/-- Neither the address map nor a memory differs. -/
structure Dev.Unstored (d n : Dev) : Prop where
  map : d.SameMap n
  mems : n.mems = d.mems

theorem Dev.Unstored.refl (d : Dev) : d.Unstored d := ⟨.refl d, rfl⟩

theorem Dev.Unstored.trans {a b c : Dev} (h : a.Unstored b) (k : b.Unstored c) : a.Unstored c :=
  ⟨h.map.trans k.map, k.mems.trans h.mems⟩

theorem Dev.Unstored.ite {d a b : Dev} {c : Prop} [Decidable c] (ha : d.Unstored a) (hb : d.Unstored b) :
    d.Unstored (if c then a else b) := by
  split
  · exact ha
  · exact hb

theorem Dev.Unstored.dramRd {d n : Dev} (h : d.Unstored n) (b : Nat) : n.dramRd b = d.dramRd b := by
  unfold Dev.dramRd Dev.cellRd Dev.dramUnlisted
  rw [h.map.cellAt, h.mems]

/-- A write of a field that the map does not read. -/
theorem unstored_w {d : Dev} {p : Nat} {f : FD} {v i : Nat}
    (h : ∀ x ∈ mapFields, fieldKey x.1 x.2.1 x.2.2 ≠ fieldKey p f i) : d.Unstored (d.w p f v i) :=
  ⟨⟨rfl, rfl, rfl, fun x hx => r_w_other _ _ _ _ _ _ _ _ (h x hx)⟩, rfl⟩

theorem unstored_add {d : Dev} {p : Nat} {f : FD} {v i : Nat}
    (h : ∀ x ∈ mapFields, fieldKey x.1 x.2.1 x.2.2 ≠ fieldKey p f i) : d.Unstored (d.add p f v i) := unstored_w h

/-- The controller's own state, but for the remap entries. -/
theorem unstored_mc (d : Dev) (m : Mc) (hr : m.remap = d.mc.remap) (hc : m.copied = d.mc.copied) :
    d.Unstored { d with mc := m } := ⟨⟨rfl, hr, hc, fun _ _ => rfl⟩, rfl⟩

theorem unstored_err (d : Dev) (p b : Nat) : d.Unstored (d.err p b) := by
  have own : ∀ x ∈ mapFields, 0x200 ≤ x.2.1.at x.2.2 * 8 + x.2.1.lo ∧ x.2.1.at x.2.2 * 8 + x.2.1.lo < 32768 := by decide
  exact ⟨⟨Dev.err_act _ _ _, congrArg (·.remap) (Dev.err_mc _ _ _), congrArg (·.copied) (Dev.err_mc _ _ _),
    fun x hx => r_err_own (own x hx)⟩, Dev.err_mems _ _ _⟩

theorem unstored_reclaim (d : Dev) (s own : Nat) : d.Unstored (d.reclaim s own) := by
  unfold Dev.reclaim
  exact .ite (.refl d) (.ite (unstored_add (by decide)) (unstored_add (by decide)))

theorem unstored_activate (d : Dev) (chan bank row : Nat) : d.Unstored (d.activate chan bank row) := by
  have ticked : d.Unstored d.tick := ⟨⟨rfl, rfl, rfl, fun _ _ => rfl⟩, rfl⟩
  let raised := tabPut d.tick.mc.raa 0 (16 * chan + bank) (tabGet d.tick.mc.raa 0 (16 * chan + bank) + 1)
  have counted := ticked.trans (unstored_mc d.tick { d.tick.mc with raa := raised } rfl rfl)
  unfold Dev.activate
  refine .ite (counted.trans (unstored_mc _ _ rfl rfl)) (.ite ?_ counted)
  exact counted.trans ((unstored_add (by decide)).trans (unstored_err _ _ _))

theorem unstored_rowClose (d : Dev) (chan bank : Nat) : d.Unstored (d.rowClose chan bank) :=
  (unstored_mc _ _ rfl rfl)

/-- The bank with the row open that an access needs, before it is activated. -/
def Dev.rowOpened (d : Dev) (b row : Nat) : Dev :=
  let now := tabGet d.mc.rows 0 b
  let n := tabGet d.mc.count 0 b
  let n' := if now = row + 1 then sat 3 (n + 1) else if now = 0 then n else n - 1
  { d with mc := { d.mc with rows := tabPut d.mc.rows 0 b (row + 1),
                             hold := tabPut d.mc.hold 0 b (d.now + 8 * d.r mcPid F.MC_PAGE_HOLD),
                             count := if decide (d.pageMode = 2) then tabPut d.mc.count 0 b n' else d.mc.count } }

theorem rowAccess_eq (d : Dev) (chan bank row : Nat) : d.rowAccess chan bank row =
    let n := d.rowOpened (16 * chan + bank) row
    let n := if decide (tabGet d.mc.rows 0 (16 * chan + bank) = row + 1) = true then n else n.activate chan bank row
    if n.pageMode = 1 then n.rowClose chan bank
    else if (decide (d.pageMode = 2) && !n.bankBusy chan bank &&
      decide (tabGet n.mc.count 0 (16 * chan + bank) < 2)) = true then n.rowClose chan bank
    else n := rfl

theorem unstored_rowAccess (d : Dev) (chan bank row : Nat) : d.Unstored (d.rowAccess chan bank row) := by
  have opened : d.Unstored (d.rowOpened (16 * chan + bank) row) := unstored_mc _ _ rfl rfl
  rw [rowAccess_eq]
  have active := Dev.Unstored.ite (c := decide (tabGet d.mc.rows 0 (16 * chan + bank) = row + 1) = true) opened
    (opened.trans (unstored_activate _ chan bank row))
  exact .ite (active.trans (unstored_rowClose _ _ _)) (.ite (active.trans (unstored_rowClose _ _ _)) active)

theorem unstored_burst (d : Dev) (own a : Nat) : d.Unstored (d.burst own a) := by
  unfold Dev.burst
  refine .trans (.trans (unstored_reclaim _ _ _) (.ite ?_ (.refl _))) (unstored_rowAccess _ _ _ _)
  exact (unstored_mc _ _ rfl rfl)

theorem unstored_chkBurst (d : Dev) (own a : Nat) (write : Bool) : d.Unstored (d.chkBurst own a write) := by
  unfold Dev.chkBurst
  split
  · exact .refl d
  · exact .trans (.ite (.refl d) (unstored_burst _ _ _)) (unstored_mc _ _ rfl rfl)

theorem unstored_bursts (d : Dev) (own a n : Nat) (write : Bool) : d.Unstored (d.bursts own a n write) :=
  List.foldlRecOn (linesOf a n) _ (motive := d.Unstored) (.refl d) fun _ h _ _ =>
    h.trans ((unstored_burst _ _ _).trans (unstored_chkBurst _ _ _ _))

theorem unstored_unback (d : Dev) (a n : Nat) : d.Unstored (d.unback a n) := (unstored_mc _ _ rfl rfl)

theorem unstored_mcAdmit (d : Dev) (a n : Nat) : d.Unstored (d.mcAdmit a n).1 := by
  have counted : d.Unstored (d.add mcPid F.MC_ADDRERR_COUNT) := unstored_add (by decide)
  unfold Dev.mcAdmit
  split
  · exact counted.trans (unstored_err _ mcPid errAddress)
  · split
    · exact .refl d
    · split
      · exact counted
      · exact .refl d

/-! ### Words of an ON zone (R223, R224) -/

/-- The indexed fields of a register lie a stride apart. -/
theorem fieldKey_mod (p : Nat) (f : FD) (i : Nat) : fieldKey p f i % (8 * f.stride) = fieldKey p f 0 % (8 * f.stride) := by
  have key : fieldKey p f i = fieldKey p f 0 + 8 * f.stride * i := by
    unfold fieldKey FD.at
    ring
  rw [key, Nat.add_mul_mod_self_left]

theorem Dev.Unstored.w {d n : Dev} {p : Nat} {f : FD} {v i : Nat} (hn : d.Unstored n)
    (h : ∀ x ∈ mapFields, fieldKey x.1 x.2.1 x.2.2 ≠ fieldKey p f i) : d.Unstored (n.w p f v i) := hn.trans (unstored_w h)

theorem Dev.Unstored.indexed {d n : Dev} {p : Nat} {f : FD} {v i : Nat} (hn : d.Unstored n)
    (h : ∀ x ∈ mapFields, fieldKey x.1 x.2.1 x.2.2 % (8 * f.stride) ≠ fieldKey p f 0 % (8 * f.stride)) :
    d.Unstored (n.w p f v i) := hn.w fun x hx e => h x hx (by rw [e, fieldKey_mod])

theorem unstored_logCe (d : Dev) (z a : Nat) : d.Unstored (d.logCe z a) := by
  have counted : d.Unstored (d.addSat ezPid F.EZ_STAT_CE 1 z) := (Dev.Unstored.refl d).indexed (by decide)
  unfold Dev.logCe
  dsimp only
  refine .trans (.w (.w (.w counted ?_) ?_) ?_) (unstored_err _ _ _) <;> decide

theorem unstored_logUe (d : Dev) (z a source : Nat) : d.Unstored (d.logUe z a source) := by
  have counted : d.Unstored (d.addSat ezPid F.EZ_UE_COUNT 1 z) := (Dev.Unstored.refl d).indexed (by decide)
  unfold Dev.logUe
  dsimp only
  refine .trans (.trans (.trans ?_ (unstored_add (by decide))) (unstored_add (by decide))) (unstored_err _ _ _)
  refine .indexed (.indexed (.indexed (.indexed (.indexed counted ?_) ?_) ?_) ?_) ?_ <;> decide

theorem unstored_eccRead (d : Dev) (z a source : Nat) (wb : Bool) : d.Unstored (d.eccRead z a source wb).1 := by
  unfold Dev.eccRead
  split
  · exact .refl d
  · exact unstored_logUe _ _ _ _
  · exact .ite ((unstored_logCe d z a).trans (unstored_mc _ _ rfl rfl)) (unstored_logCe _ _ _)

theorem unstored_readWords (ws : List Nat) (d : Dev) : d.Unstored (d.readWords ws).1 := by
  induction ws generalizing d with
  | nil => exact .refl d
  | cons a r ih =>
    unfold Dev.readWords
    dsimp only
    refine .trans ?_ (ih _)
    split
    · exact unstored_eccRead _ _ _ _ _
    · exact .refl d

/-! ### A read through the controller -/

theorem mcRead_eq (d : Dev) (own a n : Nat) : d.mcRead own a n =
    if (d.mcAdmit a n).2 = true then
      let w := ((d.mcAdmit a n).1.bursts own a n false).readWords (wordsOf a n)
      if w.2.2 = true then (w.1, ((w.2.1.flatMap (bytesLE 8)).drop (a % 8)).take n, true)
      else (w.1, List.replicate n 0, false)
    else ((d.mcAdmit a n).1, List.replicate n 0, false) := rfl

theorem unstored_mcRead (d : Dev) (own a n : Nat) : d.Unstored (d.mcRead own a n).1 := by
  have admitted := unstored_mcAdmit d a n
  rw [mcRead_eq]
  split
  · have read := admitted.trans ((unstored_bursts _ own a n false).trans (unstored_readWords (wordsOf a n) _))
    dsimp only
    split
    · exact read
    · exact read
  · exact admitted

/-! ### Stores -/

/-- Stores at addresses that `at_` tells: the map stays, a byte that none of them reaches is unchanged, and so is every
other memory. -/
structure Dev.StoresAt (at_ : Nat → Prop) (d n : Dev) : Prop where
  map : d.SameMap n
  kept : ∀ b, (∀ a, at_ a → d.reaches a b = false) → n.dramRd b = d.dramRd b
  ok : d.mems.dramOk = true → n.mems.dramOk = true
  host : n.mems.host = d.mems.host
  ward : n.mems.ward = d.mems.ward

section Stores

variable {at_ : Nat → Prop} {d n m : Dev}

theorem Dev.Unstored.stores (h : d.Unstored n) : d.StoresAt at_ n :=
  ⟨h.map, fun b _ => h.dramRd b, fun ok => by rw [h.mems]; exact ok, by rw [h.mems], by rw [h.mems]⟩

theorem Dev.StoresAt.trans (h : d.StoresAt at_ n) (k : n.StoresAt at_ m) : d.StoresAt at_ m :=
  ⟨h.map.trans k.map,
    fun b hb => (k.kept b fun a ha => (h.map.reaches a b).trans (hb a ha)).trans (h.kept b hb),
    fun ok => k.ok (h.ok ok), k.host.trans h.host, k.ward.trans h.ward⟩

theorem sameMap_dramWr (d : Dev) (a v : Nat) : d.SameMap (d.dramWr a v) := by
  rw [dramWr_eq]
  split <;> exact ⟨rfl, rfl, rfl, fun _ _ => rfl⟩

theorem stores_dramWr (d : Dev) {a : Nat} (v : Nat) (ha : at_ a) : d.StoresAt at_ (d.dramWr a v) := by
  have others : (d.dramWr a v).mems.host = d.mems.host ∧ (d.dramWr a v).mems.ward = d.mems.ward := by
    rw [dramWr_eq]
    split <;> exact ⟨rfl, rfl⟩
  exact ⟨sameMap_dramWr d a v, fun b hb => dramRd_dramWr_other v (hb a ha), dramOk_dramWr d a v, others.1, others.2⟩

theorem stores_dramWrN (bs : List Nat) (d : Dev) {a : Nat} (ha : ∀ i, i < bs.length → at_ (a + i)) :
    d.StoresAt at_ (d.dramWrN a bs) := by
  induction bs generalizing d a with
  | nil => exact (Dev.Unstored.refl d).stores
  | cons b r ih =>
    refine (stores_dramWr d b (ha 0 (Nat.succ_pos _))).trans (ih _ fun i hi => ?_)
    rw [Nat.add_assoc, Nat.add_comm 1]
    exact ha (i + 1) (Nat.succ_lt_succ hi)

theorem stores_storeWord (d : Dev) {z a : Nat} (w c : Nat) (hw : ∀ i, i < 8 → at_ (a + i)) (hc : at_ (d.checkAddr z a)) :
    d.StoresAt at_ (d.storeWord z a w c) := by
  have word := stores_dramWrN (bytesLE 8 w) d (a := a) (at_ := at_) fun i hi => hw i (by simpa [bytesLE] using hi)
  exact word.trans (stores_dramWr _ c hc)

/-- The places of a word that a store of a range in it reaches: its bytes that are stored, or, in an ON zone, all of it and its
check byte. -/
def Dev.wordPlaces (d : Dev) (a len wa x : Nat) : Prop :=
  (d.zoneAt 2 wa = none ∧ ∃ i < len, x = a + i) ∨
    ∃ z, d.zoneAt 2 wa = some z ∧ ((∃ i < 8, x = wa + i) ∨ x = d.checkAddr z wa)

theorem stores_bytes {a wa : Nat} {bs : List Nat} (hw : ∀ i, i < bs.length → at_ (a + i)) (d : Dev) :
    d.StoresAt at_ ((upFrom 0 8).foldl (fun d i =>
      if a ≤ wa + i ∧ wa + i < a + bs.length then d.dramWr (wa + i) (bs.getD (wa + i - a) 0) else d) d) := by
  refine List.foldlRecOn (upFrom 0 8) _ (motive := d.StoresAt at_) (Dev.Unstored.refl d).stores fun n h i _ => ?_
  split
  case isTrue inside =>
    refine h.trans (stores_dramWr _ _ ?_)
    have := hw (wa + i - a) (by omega)
    rwa [Nat.add_sub_cancel' inside.1] at this
  case isFalse => exact h

/-- A store into one word. -/
theorem stores_writeWord (d : Dev) {a wa : Nat} {bs : List Nat} (hw : ∀ x, d.wordPlaces a bs.length wa x → at_ x) :
    d.StoresAt at_ (d.writeWord a bs wa) := by
  unfold Dev.writeWord
  split
  case h_1 none => exact stores_bytes (fun i hi => hw _ (.inl ⟨none, i, hi, rfl⟩)) d
  case h_2 z zone =>
    have word {n : Dev} (h : d.Unstored n) (w c : Nat) : d.StoresAt at_ (n.storeWord z wa w c) :=
      h.stores.trans (stores_storeWord n w c (fun i hi => hw _ (.inr ⟨z, zone, .inl ⟨i, hi, rfl⟩⟩))
        (hw _ (.inr ⟨z, zone, .inr (h.map.checkAddr z wa)⟩)))
    have read := unstored_eccRead d z wa 2 false
    split
    · exact word (.refl d) _ _
    · dsimp only
      split
      · exact word read _ _
      · exact word read _ _

end Stores

/-- A store through the controller, once it is admitted. -/
theorem mcWrite_eq (d : Dev) (own a : Nat) (bs : List Nat) : d.mcWrite own a bs =
    if (d.mcAdmit a bs.length).2 = true then
      ((wordsOf a bs.length).foldl (fun d wa => d.writeWord a bs wa)
        (((d.mcAdmit a bs.length).1.bursts own a bs.length true).unback a bs.length), true)
    else ((d.mcAdmit a bs.length).1, false) := rfl

theorem stores_writeWords (d : Dev) {a : Nat} {bs : List Nat} {at_ : Nat → Prop} (ws : List Nat)
    (hw : ∀ wa ∈ ws, ∀ x, d.wordPlaces a bs.length wa x → at_ x) {n : Dev} (hn : d.StoresAt at_ n) :
    d.StoresAt at_ (ws.foldl (fun d wa => d.writeWord a bs wa) n) := by
  refine List.foldlRecOn ws _ (motive := d.StoresAt at_) hn fun m h wa hwa => h.trans (stores_writeWord m fun x hx => ?_)
  refine hw wa hwa x ?_
  unfold Dev.wordPlaces at hx ⊢
  rw [h.map.zoneAt] at hx
  simpa only [h.map.checkAddr] using hx

/-- The places that a store through the controller reaches. -/
def Dev.rangePlaces (d : Dev) (a len x : Nat) : Prop := ∃ wa ∈ wordsOf a len, d.wordPlaces a len wa x

theorem stores_mcWrite (d : Dev) (own a : Nat) (bs : List Nat) :
    d.StoresAt (d.rangePlaces a bs.length) (d.mcWrite own a bs).1 := by
  have admitted := unstored_mcAdmit d a bs.length
  rw [mcWrite_eq]
  split
  · exact stores_writeWords d _ (fun wa hwa x hx => ⟨wa, hwa, hx⟩)
      (admitted.trans ((unstored_bursts _ own a bs.length true).trans (unstored_unback _ _ _))).stores
  · exact admitted.stores

/-- Every byte of a range lies in one of its words. -/
theorem mem_wordsOf_of_lt {a n i : Nat} (hi : i < n) : ∃ x ∈ wordsOf a n, ∃ j < 8, a + i = x + j := by
  have there : n ≠ 0 := by omega
  refine ⟨8 * ((a + i) / 8), ?_, (a + i) % 8, Nat.mod_lt _ (by decide), (Nat.div_add_mod _ 8).symm⟩
  unfold wordsOf
  rw [if_neg there]
  exact List.mem_map_of_mem (mem_upFrom.mpr ⟨by omega, by omega⟩)

/-- Settles O8: the places that a store reaches (`stores_mcWrite`), word by word. -/
theorem dramStoresKeepOtherBytes : Obligations.DramStoresKeepOtherBytes := by
  intro d own a bs
  have stores := stores_mcWrite d own a bs
  refine ⟨fun refused => ?_, fun b plain apart => stores.kept b ?_, fun b apart => stores.kept b ?_, stores.ok, stores.host,
    stores.ward, fun n => (unstored_mcRead d own a n).mems⟩
  · rw [mcWrite_eq] at refused ⊢
    split at refused
    · cases refused
    · rename_i stopped
      rw [if_neg stopped]
      exact (unstored_mcAdmit d a bs.length).mems
  · rintro x ⟨wa, hwa, ⟨-, i, hi, rfl⟩ | ⟨z, zone, -⟩⟩
    · exact apart i hi
    · rw [plain wa hwa] at zone
      cases zone
  · rintro x ⟨wa, hwa, ⟨none, i, hi, rfl⟩ | ⟨z, zone, ⟨i, hi, rfl⟩ | rfl⟩⟩
    · obtain ⟨x, hx, j, hj, e⟩ := mem_wordsOf_of_lt hi
      rw [e]
      exact (apart x hx).1 j hj
    · exact (apart wa hwa).1 i hi
    · exact (apart wa hwa).2 z zone

end Sys2Proof.Machine
end

section
/-! SUPPORT. ECC zones, write-backs, the scrubber, remapping and the diagnostic (R213, R219, R223, R226 to R230). -/

namespace Sys2Proof.Machine

open Sys2Proof

-- One proof after another: this text is compiled whole, and proofs checked side by side hold their memory at once.
set_option Elab.async false

section Repair

variable {d : Dev}

/-! ### Zones and write-backs -/

/-- A write-back stores the word with its check byte, at the places that it had when the row was opened. -/
theorem writeBack_cons {a w c : Nat} {rest : List (Nat × Nat × Nat)} (h : d.mc.wback = (a, w, c) :: rest) :
    let n : Dev := { d with mc := { d.mc with wback := rest } }
    d.writeBack = match d.zoneAt 2 a with
      | none => n
      | some z => ((n.burst 0 a).dramWrN a (bytesLE 8 w)).dramWr (n.zoneChk z + (a - n.zoneBase z) / 8) c := by
  intro n
  have same : n.zoneAt 2 a = d.zoneAt 2 a := rfl
  have place (z : Nat) : (n.burst 0 a).checkAddr z a = n.zoneChk z + (a - n.zoneBase z) / 8 :=
    (unstored_burst n 0 a).map.checkAddr z a
  unfold Dev.writeBack
  rw [h]
  show (match n.zoneAt 2 a with
    | some z => (n.burst 0 a).storeWord z a w c
    | none => n) = _
  rw [same]
  cases d.zoneAt 2 a with
  | none => rfl
  | some z => exact congrArg (fun x => ((n.burst 0 a).dramWrN a (bytesLE 8 w)).dramWr x c) (place z)

/-! ### The scrubber -/

/-- A scrub step is not due, or waits for the one before. -/
def Dev.scrubIdle (d : Dev) : Prop :=
  d.on ezPid F.EZ_SCRUB_EN = false ∨ d.memService = false ∨ (∃ q ∈ d.mc.reqs, q.job = .scrub) ∨ d.scrubDue = false

theorem scrubStep_eq : d.scrubStep =
    if (!d.on ezPid F.EZ_SCRUB_EN || !d.memService) = true then d
    else if (d.mc.reqs.any (fun q => q.job == .scrub) || !d.scrubDue) = true then d
    else match d.scrubLine d.scrubPos with
      | some l => ({ d with mc := { d.mc with scrub := some d.scrubPass, reqs := d.mc.reqs ++
          [{ port := 0, owner := 0, addr := l, len := 64, data := none, since := d.now, job := .scrub }] } } :
            Dev).opportunity (d.chanOf l)
      | none => match d.scrubLine 0 with
        | some l => d.w64 ezPid F.EZ_SCRPOS_LO_ADDR F.EZ_SCRPOS_HI_ADDR (l / 64)
        | none => d := rfl

theorem scrubIdle_iff : d.scrubIdle ↔ (!d.on ezPid F.EZ_SCRUB_EN || !d.memService) = true ∨
    (d.mc.reqs.any (fun q => q.job == .scrub) || !d.scrubDue) = true := by
  simp only [Dev.scrubIdle, Bool.or_eq_true, Bool.not_eq_true', List.any_eq_true, beq_iff_eq, or_assoc]

theorem scrubStep_idle (h : d.scrubIdle) : d.scrubStep = d := by
  rw [scrubStep_eq]
  obtain off | waits := scrubIdle_iff.mp h
  · exact if_pos off
  · rw [if_pos waits, ite_self]

theorem scrubStep_due (h : ¬d.scrubIdle) : d.scrubStep = match d.scrubLine d.scrubPos with
      | some l => ({ d with mc := { d.mc with scrub := some d.scrubPass, reqs := d.mc.reqs ++
          [{ port := 0, owner := 0, addr := l, len := 64, data := none, since := d.now, job := .scrub }] } } :
            Dev).opportunity (d.chanOf l)
      | none => match d.scrubLine 0 with
        | some l => d.w64 ezPid F.EZ_SCRPOS_LO_ADDR F.EZ_SCRPOS_HI_ADDR (l / 64)
        | none => d := by
  rw [scrubIdle_iff, not_or] at h
  exact (if_neg h.1).trans (if_neg h.2)

theorem scrubStep_line {l : Nat} (h : ¬d.scrubIdle) (hl : d.scrubLine d.scrubPos = some l) : d.scrubStep =
    ({ d with mc := { d.mc with scrub := some d.scrubPass, reqs := d.mc.reqs ++
      [{ port := 0, owner := 0, addr := l, len := 64, data := none, since := d.now, job := .scrub }] } } :
        Dev).opportunity (d.chanOf l) := (scrubStep_due h).trans (by rw [hl])

theorem scrubStep_wraps (h : ¬d.scrubIdle) (hl : d.scrubLine d.scrubPos = none) : d.scrubStep =
    match d.scrubLine 0 with
    | some l => d.w64 ezPid F.EZ_SCRPOS_LO_ADDR F.EZ_SCRPOS_HI_ADDR (l / 64)
    | none => d := (scrubStep_due h).trans (by rw [hl])

/-- A line that is read is scrubbed, and the scrubber goes on from it. -/
theorem scrubRead_on {n : Dev} {l : Nat} {o : Option Nat} (hn : (d.bursts 0 l 64 false).scrubWords l = n)
    (ho : n.scrubLine (l + 64) = o) : d.scrubRead l = n.scrubOn o := by
  rw [← ho, ← hn]
  rfl

theorem scrubOn_wraps (n : Dev) : n.scrubOn none =
    let again : Dev := { n with mc := { n.mc with scrub := some (n.scrubPass.1 + n.scrubPass.2, n.scrubNs) } }
    (again.w64 ezPid F.EZ_SCRPOS_LO_ADDR F.EZ_SCRPOS_HI_ADDR ((again.scrubLine 0).getD 0 / 64)).add ezPid F.EZ_SCRPASS_COUNT :=
  rfl

/-! ### Remapping -/

/-- A remap entry's copy is done: what it leaves, with the mapping that then serves. -/
def Dev.copyDone (d : Dev) (e : Nat) (remap : Dev → Tab (Nat × Nat × Nat)) : Dev :=
  let c := d.copyRest e 32
  { c with mc := { c.mc with copied := tabDel c.mc.copied e, reqs := c.mc.reqs.filter (fun q => !(q.job == .copy e)),
                             remap := remap c } }

theorem remapDone_eq (e : Nat) : d.remapDone e =
    let st := d.r rmpPid F.RMP_DST_STATE e
    if st = 1 ∨ st = 3 then
      ((d.copyDone e (fun c => if st = 3 then tabDel c.mc.remap e else c.mc.remap)).w rmpPid F.RMP_DST_STATE
        (if st = 1 then 2 else 0) e).err rmpPid 10
    else d := rfl

theorem remapDone_active {e : Nat} (h : d.r rmpPid F.RMP_DST_STATE e = 1) :
    d.remapDone e = ((d.copyDone e (·.mc.remap)).w rmpPid F.RMP_DST_STATE 2 e).err rmpPid 10 := by
  rw [remapDone_eq, h]
  rfl

theorem remapDone_idle {e : Nat} (h : d.r rmpPid F.RMP_DST_STATE e = 3) :
    d.remapDone e = ((d.copyDone e (fun c => tabDel c.mc.remap e)).w rmpPid F.RMP_DST_STATE 0 e).err rmpPid 10 := by
  rw [remapDone_eq, h]
  rfl

theorem remapDone_other {e : Nat} (h1 : d.r rmpPid F.RMP_DST_STATE e ≠ 1) (h3 : d.r rmpPid F.RMP_DST_STATE e ≠ 3) :
    d.remapDone e = d := if_neg (by rintro (h | h); exacts [h1 h, h3 h])

/-! ### The diagnostic -/

theorem effect_diag {b : Dev} {i p v : Nat} : d.effect? b .diag i p 0x054 v =
    if actsOn F.DG_CTRL_OP (bits v 0 3) = true then d.diag (bits v 0 3) else d := by
  unfold Dev.effect?
  rw [if_neg (by decide)]
  simp only [Dev.coreEffect, Dev.displayEffect, Dev.hingeEffect, Dev.feelEffect, true_and]

theorem put_diag {ag : Agent} {op : Nat} (h1 : 1 ≤ op) (h4 : op ≤ 4) (h : d.accepts ag dgPid 0x054 (keyed theKey op) = true) :
    d.put ag dgPid 0x054 (keyed theKey op) = (d.after ag dgPid 0x054 (keyed theKey op)).diag op := by
  have low : bits (keyed theKey op) 0 3 = op := bits_keyed_low (by omega)
  have acts : actsOn F.DG_CTRL_OP op = true := by
    obtain rfl | rfl | rfl | rfl : op = 1 ∨ op = 2 ∨ op = 3 ∨ op = 4 := by omega
    all_goals decide
  rw [put_flat h (by decide) (by decide) (show kindOf dgPid = some (.diag, 0) by decide) rfl, effect_diag, low, if_pos acts]

/-- The end of a diagnostic operation. -/
def Dev.dgEnd (d : Dev) (r : Nat) : Dev := (d.w dgPid F.DG_STAT_DONE 1).w dgPid F.DG_STAT_RESULT r

/-- What a diagnostic operation does on a word that it may reach. -/
def Dev.dgServes (d : Dev) (op z a : Nat) : Dev :=
  let data := bytesLE 8 (d.r64 dgPid F.DG_DATA_LO_DATA F.DG_DATA_HI_DATA)
  let b := d.unback a 8
  match op with
  | 1 => ((d.w dgPid F.DG_STAT_SYNDROME (d.syndrome z a)).w dgPid F.DG_STAT_RAWCHECK (d.storedCheck z a)).w64 dgPid
      F.DG_RDATA_LO_DATA F.DG_RDATA_HI_DATA (d.storedWord a)
  | 2 => b.dramWrN a data
  | 3 => b.dramWr (d.checkAddr z a) (d.r dgPid F.DG_CHECK_CHECK)
  | _ => (b.dramWrN a data).dramWr (d.checkAddr z a) (d.r dgPid F.DG_CHECK_CHECK)

theorem diag_unzoned {op : Nat} (h : 1 ≤ op ∧ op ≤ 4) (hz : d.zoneAt 2 d.dgAddr = none) : d.diag op = d.dgEnd 1 := by
  unfold Dev.diag
  refine (if_neg (by omega)).trans ?_
  rw [hz]
  rfl

theorem diag_outside {op z : Nat} (h : 1 ≤ op ∧ op ≤ 4) (hz : d.zoneAt 2 d.dgAddr = some z)
    (hw : within d.dgAddr 8 d.wardBase d.wardSize = false) : d.diag op = d.dgEnd 1 := by
  unfold Dev.diag
  refine (if_neg (by omega)).trans ?_
  rw [hz]
  exact if_pos (by rw [hw]; rfl)

theorem Dev.Unstored.storedWord {d n : Dev} (h : d.Unstored n) (a : Nat) : n.storedWord a = d.storedWord a :=
  congrArg ofBytesLE (List.map_congr_left fun b _ => h.dramRd b)

theorem diag_inside {op z : Nat} (h : 1 ≤ op ∧ op ≤ 4) (hz : d.zoneAt 2 d.dgAddr = some z)
    (hw : within d.dgAddr 8 d.wardBase d.wardSize = true) : d.diag op = (d.dgServes op z d.dgAddr).dgEnd 0 := by
  let n := (d.w dgPid F.DG_STAT_SYNDROME (d.syndrome z d.dgAddr)).w dgPid F.DG_STAT_RAWCHECK (d.storedCheck z d.dgAddr)
  have shown : d.Unstored n := ((Dev.Unstored.refl d).w (by decide)).w (by decide)
  unfold Dev.diag
  refine (if_neg (by omega)).trans ?_
  rw [hz]
  refine (if_neg (by rw [hw]; decide)).trans ?_
  obtain rfl | rfl | rfl | rfl : op = 1 ∨ op = 2 ∨ op = 3 ∨ op = 4 := by omega
  · refine (if_pos rfl).trans ?_
    exact congrArg (fun x => (n.w64 dgPid F.DG_RDATA_LO_DATA F.DG_RDATA_HI_DATA x).dgEnd 0) (shown.storedWord d.dgAddr)
  · exact (if_neg (by decide)).trans (if_pos rfl)
  · exact (if_neg (by decide)).trans ((if_neg (by decide)).trans (if_pos rfl))
  · exact (if_neg (by decide)).trans ((if_neg (by decide)).trans (if_neg (by decide)))

end Repair

/-- Settles O40: each event by the case of its state; the diagnostic by what its operation may reach. -/
theorem memoryRepairCompletes : Obligations.MemoryRepairCompletes := by
  refine ⟨fun s z => ⟨fun h => Completes.congr rfl (if_pos h), fun h => Completes.congr rfl (if_neg h)⟩,
    fun s => ⟨fun h => ?_, fun a w c rest h => Completes.congr rfl (writeBack_cons h)⟩,
    fun s => ⟨fun idle => Completes.congr rfl (scrubStep_idle idle), fun l due hl => ?_, fun due hl => ?_⟩,
    fun d l => ⟨fun m hm => ?_, fun hm => ?_⟩, fun s e => ⟨fun h => Completes.congr rfl (remapDone_active h),
      fun h => Completes.congr rfl (remapDone_idle h), fun h1 h3 =>
      Completes.congr rfl (remapDone_other h1 h3)⟩, fun s m e => rfl,
    fun s ag => ⟨fun h => ?_, fun h => ?_, fun h => ?_, fun h => ?_⟩⟩
  · refine Completes.congr rfl ?_
    unfold Dev.writeBack
    rw [h]
  · exact Completes.congr rfl (scrubStep_line due hl)
  · exact Completes.congr rfl (scrubStep_wraps due hl)
  · exact scrubRead_on rfl hm
  · exact (scrubRead_on rfl hm).trans (scrubOn_wraps _)
  all_goals
    have put := put_diag (by decide) (by decide) h
    refine ⟨fun hz => ?_, fun z hz hw => ?_, fun z hz hw => ?_⟩
    · exact Completes.congr rfl (put.trans (diag_unzoned (by decide) hz))
    · exact Completes.congr rfl (put.trans (diag_outside (by decide) hz hw))
    · have served := put.trans (diag_inside (by decide) hz hw)
      unfold Dev.dgServes Dev.dgEnd at served
      exact Completes.congr rfl served

end Sys2Proof.Machine
end

section
/-! SUPPORT. Bands, composition, and the boundaries of a head (R283 to R287, R297, R300 to R303, R340). -/

namespace Sys2Proof.Machine

open Sys2Proof

-- One proof after another: this text is compiled whole, and proofs checked side by side hold their memory at once.
set_option Elab.async false

section Bands

variable {d n : Dev} {h k q : Nat}

/-! ### The fetch of a band (R283, R285) -/

/-- A pipe may start to fetch a band. -/
def Dev.mayFetch (d : Dev) (q k : Nat) : Prop :=
  let h := d.pipeHead q
  d.pipeUsable q = true ∧ (d.layer d.actRd q).enable = true ∧ d.scanning h = true ∧ 1 ≤ k ∧ k < d.bandsOf h ∧
    ((∃ x ∈ (d.pipe q).bands, x.band + 1 = k) ∨ k ≤ (d.head h).composed ∨ (d.pipe q).cur = none) ∧
    k ≤ (d.head h).composed + 1 ∧ (∀ x ∈ (d.pipe q).bands, x.band ≠ k) ∧ (d.head h).started ≤ k

theorem mayFetch_iff : d.mayFetch q k ↔
    (d.pipeUsable q && (d.layer d.actRd q).enable && d.scanning (d.pipeHead q) && decide (1 ≤ k) &&
      decide (k < d.bandsOf (d.pipeHead q)) &&
      ((d.pipe q).bands.any (fun s => s.band + 1 == k) || decide (k ≤ (d.head (d.pipeHead q)).composed) ||
        (d.pipe q).cur.isNone) && decide (k ≤ (d.head (d.pipeHead q)).composed + 1) &&
      !((d.pipe q).bands.any (fun s => s.band == k)) && decide ((d.head (d.pipeHead q)).started ≤ k)) = true := by
  simp only [Dev.mayFetch, Bool.and_eq_true, Bool.or_eq_true, decide_eq_true_eq, Bool.not_eq_true', List.any_eq_true,
    List.any_eq_false, beq_iff_eq, Option.isNone_iff_eq_none, and_assoc, or_assoc]

theorem bandStart_may (hm : d.mayFetch q k) : d.bandStart q k = d.fetchBand q k := if_pos (mayFetch_iff.mp hm)

theorem bandStart_not (hm : ¬d.mayFetch q k) : d.bandStart q k = d := if_neg (mayFetch_iff.not.mp hm)

/-- Composition of a band starts at its deadline. -/
def Dev.bandStarts (d : Dev) (h k : Nat) : Prop := d.scanning h = true ∧ k = (d.head h).started ∧ k < d.bandsOf h

theorem bandStarts_iff : ¬d.bandStarts h k ↔
    (!d.scanning h || !(k == (d.head h).started) || !decide (k < d.bandsOf h)) = true := by
  simp only [Dev.bandStarts, Bool.or_eq_true, Bool.not_eq_true', beq_eq_false_iff_ne, decide_eq_false_iff_not, not_and_or,
    Bool.not_eq_true, or_assoc, ne_eq]

theorem bandDeadline_not {late : List Nat} (hs : ¬d.bandStarts h k) : d.bandDeadline h k late = d :=
  if_pos (bandStarts_iff.mp hs)

theorem bandDeadline_starts {late : List Nat} (hs : d.bandStarts h k) :
    let shown := (d.enabledPipes d.actRd h).filter (fun p => !((d.layer d.actRd p).linesIn k (readTiming d.actRd h).vact).isEmpty)
    let fills := shown.filter (fun p => !((d.pipe p).bands.any (fun x => x.band == k && x.ok) &&
      (!late.contains p || (!(d.layer d.actRd p).best && d.latchHolds))))
    let n := (fills.filter (fun p => (d.pipe p).cur.isSome)).foldl (fun n p =>
      if (d.layer d.actRd p).best then
        (((n.addSat (d.lpPage p) F.LP_STAT_DROPS 1 p).err (d.lpPage p) 10).addSat (hcPid h) F.HC_BANDS_DROPS).err (hcPid h) 10
      else (((n.addSat (d.lpPage p) F.LP_STAT_LATE 1 p).err (d.lpPage p) errLate).addSat (hcPid h) F.HC_BANDS_LATE).err (hcPid h)
        errLate) d
    d.bandDeadline h k late = n.setHead h { d.head h with started := k + 1, fill := fills } :=
  if_neg (fun e => bandStarts_iff.mpr e hs)

/-! ### The end of a band's composition (R300) -/

/-- A composed band leaves, and its pipes hold the later ones. -/
def Dev.bandLeaves (n : Dev) (hs : HeadSt) (h k : Nat) (rows : List (List Pix)) : Dev :=
  let d := n.setHead h { hs with composed := k + 1, inject := false, rows := tabPut hs.rows [] k rows }
  (d.headPipes h).foldl (fun d p =>
    d.setPipe p { d.pipe p with bands := (d.pipe p).bands.filter (fun x => decide (k < x.band)) }) d

/-- A band leaves as composed, or in the alarm colour with a fault of the compositor pair. -/
def Dev.bandEnds (n : Dev) (hs : HeadSt) (h k : Nat) (wrong : Bool) : Dev :=
  let good := n.composeBand h k
  let left := n.bandLeaves hs h k
    (if wrong then good.map (fun l => l.map (fun _ => bgPix (n.a (stkPid h) F.STK_ALARM_RGB))) else good)
  if wrong then
    ((((left.addSat (stkPid h) F.STK_STAT_MISMATCH).addSat scPid F.SC_MISM_COUNT).w scPid F.SC_MISM_HEAD h).err scPid
      10).openFault 2 1 (stkPid h) h
  else left

theorem composeEnd_not {bad : Bool} (hk : k ≠ (d.head h).composed ∨ (d.head h).started ≤ k) : d.composeEnd h k bad = d := by
  refine if_pos ?_
  simpa only [Bool.or_eq_true, Bool.not_eq_true', beq_eq_false_iff_ne, decide_eq_false_iff_not, Nat.not_lt] using hk

theorem composeEnd_ends {bad sound : Bool} (hk : k = (d.head h).composed) (hs : k < (d.head h).started)
    (hw : d.strikeWords (d.strikeUse h k) = (n, sound)) :
    d.composeEnd h k bad = n.bandEnds (d.head h) h k (bad || (d.head h).inject || !sound) := by
  have due : ¬(!(k == (d.head h).composed) || !decide (k < (d.head h).started)) = true := by
    simp only [Bool.or_eq_true, Bool.not_eq_true', beq_eq_false_iff_ne, decide_eq_false_iff_not]
    omega
  unfold Dev.composeEnd
  refine (if_neg due).trans ?_
  rw [hw]
  rfl

/-! ### The boundaries of a head (R287) -/

theorem layerBoundary_idle {sets flips : List Nat} (hs : d.scanning h = false) : d.layerBoundary h sets flips = d :=
  if_pos (by rw [hs]; rfl)

theorem strikeBoundary_idle {a b : Bool} (hs : d.scanning h = false) : d.strikeBoundary h a b = d :=
  if_pos (by rw [hs]; rfl)

/-- What a strike boundary does with forcing, once the sets and the emergency window have taken effect. -/
def Dev.forcingServed (n : Dev) (h : Nat) : Dev :=
  (if (n.head h).release = true then
      (n.setHead h { n.head h with forced := false, release := false }).w (crPid h) F.CR_STAT_FORCED 0
    else if n.on (crPid h) F.CR_STAT_FORCED = true then n.setHead h { n.head h with forced := true } else n).showSafe h

theorem strikeBoundary_scanning {inTime crcIn : Bool} (hs : d.scanning h = true) :
    let n := if inTime = true ∧ (d.ctl (stkPid h)).pend.isSome = true then
        if d.blockFault (stkPid h) then d.discardPend (stkPid h) else d.strikeApply h
      else d
    d.strikeBoundary h inTime crcIn = ((n.crcApply h crcIn).emgApply h).forcingServed h :=
  (if_neg (by rw [hs]; decide)).trans (congrArg (fun n : Dev => ((n.crcApply h crcIn).emgApply h).forcingServed h)
    (ite_of_iff (by rw [Bool.and_eq_true]) rfl rfl))

theorem forcingServed_release (hr : (n.head h).release = true) : n.forcingServed h =
    ((n.setHead h { n.head h with forced := false, release := false }).w (crPid h) F.CR_STAT_FORCED 0).showSafe h :=
  congrArg (Dev.showSafe · h) (if_pos hr)

theorem forcingServed_forced (hr : (n.head h).release = false) (hf : n.on (crPid h) F.CR_STAT_FORCED = true) :
    n.forcingServed h = (n.setHead h { n.head h with forced := true }).showSafe h :=
  congrArg (Dev.showSafe · h) ((if_neg (Bool.eq_false_iff.mp hr)).trans (if_pos hf))

theorem forcingServed_unforced (hr : (n.head h).release = false) (hf : n.on (crPid h) F.CR_STAT_FORCED = false) :
    n.forcingServed h = n.showSafe h :=
  congrArg (Dev.showSafe · h) ((if_neg (Bool.eq_false_iff.mp hr)).trans (if_neg (Bool.eq_false_iff.mp hf)))

end Bands

/-! ### The strike control page (R300, R301) -/

theorem effect_strikeCtl (d b : Dev) {i p off v : Nat} (ho : 0x040 ≤ off) :
    d.effect? b .strikeCtl i p off v = d.displayEffect b .strikeCtl i p off v := if_neg (Nat.not_lt.mpr ho)

/-- The word of a GO on `SC_INJECT` that names a head. -/
theorem inject_named : ∀ h : Fin 8, bit (256 + h.val) 8 = true ∧ bits (256 + h.val) 0 3 = h := by decide

section Emergency

variable {d : Dev} {ag : Agent}

theorem put_strikeCtl {off v : Nat} (h : d.accepts ag scPid off v = true) (h4 : off % 4 = 0) (ho : 0x040 ≤ off) :
    d.put ag scPid off v =
      if off = 0x050 ∧ bit v 8 = true then (d.after ag scPid off v).inject (bits v 0 3) else d.after ag scPid off v := by
  rw [put_flat h (by decide) h4 (show kindOf scPid = some (.strikeCtl, 0) by decide) rfl, effect_strikeCtl _ _ ho]
  rfl

/-- A write of `SC_EMG` starts nothing of its own: the next strike boundary reads it. -/
theorem put_emergency {v : Nat} (h : d.accepts ag scPid 0x040 v = true) :
    d.put ag scPid 0x040 v = d.after ag scPid 0x040 v :=
  (put_strikeCtl h (by decide) (by decide)).trans (if_neg fun e => absurd e.1 (by decide))

/-- What an accepted write of `SC_EMG` sets. -/
theorem emergency_fields {v : Nat} (h : d.accepts ag scPid 0x040 v = true) :
    (d.after ag scPid 0x040 v).r scPid F.SC_EMG_ON = bits v 0 1 ∧
    (d.after ag scPid 0x040 v).r scPid F.SC_EMG_MSG = bits v 4 4 := by
  have page := agentPageNo_flat h (by decide)
  have takes : d.takes ag scPid 0x040 v = true := page ▸ h
  have here : d.place scPid 0x040 = (scPid, 0x040) := place_own (show kindOf scPid = some (.strikeCtl, 0) by decide) rfl
  have field {x : FD × Nat} (hx : x ∈ openFields scPid 0x040) (ha : x.1.acc = .rw) :
      (d.after ag scPid 0x040 v).r scPid x.1 x.2 = bits v x.1.lo x.1.w := by
    have set_ := r_written_open takes (by decide) (by rw [here]; exact hx) (by rw [ha]; decide)
    rw [here] at set_
    unfold Dev.after
    rw [page]
    refine set_.trans ?_
    unfold FD.written
    rw [ha]
  exact ⟨field (x := (F.SC_EMG_ON, 0)) (by decide) rfl, field (x := (F.SC_EMG_MSG, 0)) (by decide) rfl⟩

end Emergency

/-- Settles O42: each event by the conditions of its branches. -/
theorem bandsAndBoundariesComplete : Obligations.BandsAndBoundariesComplete := by
  refine ⟨fun s q k => ⟨fun may => Completes.congr rfl (bandStart_may may),
      fun no => Completes.congr rfl (bandStart_not no)⟩,
    fun s h k late => ⟨fun starts => Completes.congr rfl (bandDeadline_starts starts),
      fun no => Completes.congr rfl (bandDeadline_not no)⟩,
    fun s h k bad => ⟨fun hk => Completes.congr rfl (composeEnd_not hk),
      fun n sound hk hs hw => ⟨fun good => ?_, fun good => ?_⟩⟩,
    fun s h sets flips a b hs => ⟨Completes.congr rfl (layerBoundary_idle hs), Completes.congr rfl (strikeBoundary_idle hs)⟩,
    fun s h sets flips hs => ?_, fun s h inTime crcIn hs => ?_, fun s ag m => ⟨fun ha => ?_, fun ha => ?_⟩,
    fun s ag h ha => ?_⟩
  · obtain ⟨rfl, clean, ok⟩ := good
    have ends := composeEnd_ends (bad := false) hk hs hw
    rw [clean, ok] at ends
    exact Completes.congr rfl ends
  · have wrong : (bad || (s.dev.head h).inject || !sound) = true := by
      by_contra hn
      simp only [Bool.or_eq_true, Bool.not_eq_true', not_or, Bool.not_eq_true, Bool.not_eq_false] at hn
      exact good ⟨hn.1.1, hn.1.2, hn.2⟩
    have ends := composeEnd_ends (bad := bad) hk hs hw
    rw [wrong] at ends
    exact Completes.congr rfl ends
  · exact Completes.congr rfl (if_neg (by rw [hs]; decide))
  · have served := strikeBoundary_scanning (inTime := inTime) (crcIn := crcIn) hs
    exact ⟨fun hr => Completes.congr rfl (served.trans (forcingServed_release hr)),
      fun hr hf => Completes.congr rfl (served.trans (forcingServed_forced hr hf)),
      fun hr hf => Completes.congr rfl (served.trans (forcingServed_unforced hr hf))⟩
  · obtain ⟨on, msg⟩ := emergency_fields ha
    refine ⟨Completes.congr rfl (put_emergency ha), on.trans ?_, msg.trans ?_⟩
    · unfold bits; omega
    · have := m.isLt
      unfold bits; omega
  · obtain ⟨on, -⟩ := emergency_fields ha
    refine ⟨Completes.congr rfl (put_emergency ha), on.trans ?_⟩
    unfold bits; omega
  · obtain ⟨go, head⟩ := inject_named h
    exact Completes.congr rfl ((put_strikeCtl ha (by decide) (by decide)).trans ((if_pos ⟨rfl, go⟩).trans
      (congrArg (Dev.inject _) head)))

end Sys2Proof.Machine
end
